-- ==== Sys2Proof/Word.lean ====
section
/-!
DEFINITION. The words of the part: bytes, 32-bit register words (R12), byte strings, and the sparse keyed stores
in which the model keeps every array of the part.
-/

namespace Sys2Proof

/-- One byte of a memory, frame or record. -/
abbrev Byte := BitVec 8

/-- One register (R12). -/
abbrev Word := BitVec 32

/-- A byte string: the contents of a frame, a record or a buffer. -/
abbrev Bytes := List Byte

/-- A sparse store by key: keys strictly rising, no entry equal to what an unlisted key reads as. -/
abbrev FMap (α : Type) := List (Nat × α)

end Sys2Proof
end

