-- ==== Sys2Proof/Forms.lean ====
section
/-!
DEFINITION. The forms of the commands' operands: who accesses a register, where a command comes from, the command
entries of R424 and R427.
-/

namespace Sys2Proof

/-- Who makes a register or memory access (R471). -/
inductive Master
  | host
  | session (slot : Nat)
  | control (core : Nat)
  | aster (core : Nat)
  | debug
  | dma (ch : Nat)
deriving DecidableEq, Repr

/-- The source of a command (R425): the host ring, a session, or the firmware itself (autoload, R444). -/
inductive Source
  | host
  | session (slot : Nat)
  | firmware
deriving DecidableEq, Repr

/-- The header of a command entry (R424). `hdrRsvd` and `parRsvd` say that a reserved header byte or an unused
parameter byte is not zero. -/
structure CmdHdr where
  src : Source
  flags : Nat
  cring : Nat
  tag : Nat
  applyQn : Nat
  hdrRsvd : Bool
  parRsvd : Bool
deriving DecidableEq, Repr

/-- A write that the host makes in the doorbell window: its value and how many bytes it carries (R415). -/
structure BarWrite where
  value : Nat
  bytes : Nat
deriving DecidableEq, Repr

/-- A data reference (R424): `addr` is the 64-bit dref, `len` is dlen, and `host` holds the bytes that the device
reads in host memory when the reference names host memory. -/
structure DRef where
  addr : Nat
  len : Nat
  host : Bytes
deriving DecidableEq, Repr

/-- The commands of R427 with their parameters. -/
inductive Cmd
  | nop
  | regRead (addr : Nat)
  | regWrite (addr value : Nat)
  | setMode (mode scope : Nat)
  | setOppoint (point : Nat)
  | reanchorTime (step : Int)
  | setAir (temp : Int) (humidity : Nat)
  | setOutputAvail (output available : Nat)
  | planLoad (plan src record : Nat) (data : DRef)
  | planDrop (plan : Nat)
  | planSwap (plan xfade : Nat)
  | setRouteGain (entry gain : Nat)
  | setRouteSource (slot source : Nat)
  | corrLoad (output : Nat) (data : DRef)
  | corrSwap (output s xfade : Nat)
  | surveyProgram (steps : Nat) (data : DRef)
  | decConfig (ch cfg rate phase : Nat)
  | decCompSwap (ch : Nat)
  | drvDiag (mask : Nat)
  | drvClear (mask : Nat)
  | streamSet (data : DRef)
  | streamClear (context dir : Nat)
  | pairResync (device : Nat)
  | sceneWrite (record kind flags : Nat) (data : DRef)
  | sceneRead (record offset : Nat) (data : DRef)
  | sceneErase (record : Nat)
  | ageMeasure
  | sessionKeySet (slot role : Nat) (data : DRef)
  | eventMask (mask : Nat)
deriving DecidableEq, Repr

/-- The data set that the best master clock algorithm compares (R68). -/
structure PtpData where
  priority1 : Nat
  clockClass : Nat
  accuracy : Nat
  variance : Nat
  priority2 : Nat
  identity : Nat
  steps : Nat
deriving DecidableEq, Repr

/-- A PTP message as the service takes it (R68, R70, R72, R76). Times are PT in ns. -/
inductive PtpMsg
  /-- Sync: domainNumber, sequenceId, whether a Follow_Up carries the time, and the origin timestamp with the correction
  field added. -/
  | sync (domain seq : Nat) (twoStep : Bool) (origin : Nat)
  /-- Follow_Up: the precise origin timestamp with the corrections of both messages added. -/
  | followUp (domain seq origin : Nat)
  /-- Delay_Resp to the own Delay_Req: the receive timestamp less the correction field. -/
  | delayResp (domain seq receive : Nat)
  /-- Pdelay_Resp to the own Pdelay_Req: one-step, the turnaround time; two-step, the request receipt timestamp. -/
  | pdelayResp (domain seq : Nat) (twoStep : Bool) (t : Nat)
  /-- Pdelay_Resp_Follow_Up: the response origin timestamp. -/
  | pdelayFollowUp (domain seq origin : Nat)
  /-- Announce: domainNumber and the data set of its grandmaster. -/
  | announce (domain : Nat) (x : PtpData)
  /-- The service takes a mean path delay of its own measurement. -/
  | pathDelay (ns : Nat)
  /-- The best master clock algorithm puts the port in a portState. -/
  | portState (state : Nat)
  /-- The best master clock algorithm selects another grandmaster. -/
  | newMaster
deriving DecidableEq, Repr

/-! ### Aster bundles (R218 to R222) -/

/-- Operations of a load/store sub-operation (R219). -/
inductive LsKind
  | none | ldV | stV | ldW | stW | ldB
deriving DecidableEq, Repr

/-- A load/store sub-operation (R219). -/
structure Ls where
  kind : LsKind := .none
  mode : Nat := 0
  k : Nat := 0
  r : Nat := 0
deriving DecidableEq, Repr

/-- Operations of the MAC slot (R220). -/
inductive MacKind
  | none | vmul | vmac | vmsu | vmacb | vdot | vdota | vclr | vlda | vext | vextT | vext1 | vext1T
  | vrda | vwra | vmaxIdx | vminIdx | vmaxaIdx
deriving DecidableEq, Repr

/-- A MAC slot (R220). -/
structure Mac where
  kind : MacKind := .none
  a : Nat := 0
  va : Nat := 0
  vb : Nat := 0
deriving DecidableEq, Repr

/-- Operations of the short and the long ALU slot, and LI (R218, R221, R222). -/
inductive AluKind
  | nop | mov | add | sub | adds | and | or | xor | sll | srl | sra | min | max | mul | movp | movm | rdp | rdm
  | vlane | vins | vsplat | vadds | vsubs | vabs | vmaxv | vminv | vredmax | vredmin | mfs | mts
  | addi | andi | ori | xori | slli | srli | srai | beq | bne | blt | bge | bltu | bgeu | jmp | jmpr | call
  | rep | repr | loopDo | dor | leave | setxi | xfer | xwait | done | idle | rti | brk | li
deriving DecidableEq, Repr

/-- An ALU slot: `imm` is field x, imm18, the 28-bit offset, the DO end or imm32; `cnt` is the DO count. -/
structure Alu where
  kind : AluKind := .nop
  rd : Nat := 0
  ra : Nat := 0
  imm : Nat := 0
  cnt : Nat := 0
deriving DecidableEq, Repr

/-- What the code of a task that ends was: the standard program of the Milur library, or other output code, with the
block that it wrote into the Lupin input buffer, if any, and whether it made the post of its task (R254). -/
inductive OutCode
  | standard
  | other (block : Option (List Int)) (posts : Bool)
deriving DecidableEq, Repr

/-- The bundle that a core issues (R218). A command that names one operation puts it into its slot; the other slots
are those of `Bundle`. The flags say that the fetch, or the load of the X or the Y half, meets an uncorrectable tile
error; `ce` is how many single-bit errors the fetch and the loads correct (R241). `code` says of a DONE what the code of
the task was. -/
structure Bundle where
  core : Nat
  x : Ls := {}
  y : Ls := {}
  mac : Mac := {}
  alu : Alu := {}
  eccFetch : Bool := false
  eccLoad : Bool := false
  eccLoadY : Bool := false
  ce : Nat := 0
  code : OutCode := .standard
deriving DecidableEq, Repr

/-- A bundle with a sub-operation in its X or, with `y`, its Y half (R219). -/
def Bundle.withLs (b : Bundle) (y : Bool) (l : Ls) : Bundle := if y then { b with y := l } else { b with x := l }

/-- A bundle with a MAC slot (R220). -/
def Bundle.withMac (b : Bundle) (m : Mac) : Bundle := { b with mac := m }

/-- A bundle with an ALU slot (R221, R222). -/
def Bundle.withAlu (b : Bundle) (u : Alu) : Bundle := { b with alu := u }

/-- How the target of a matrix burst answers (R452, R454, R469, R475). -/
inductive BurstResp
  | ok
  /-- Served whole from the write queue of a DRAM channel. -/
  | forwarded
  /-- A single-bit error, corrected. -/
  | corrected
  /-- An error response of the target. -/
  | error
  /-- An uncorrectable memory error. -/
  | uncorrectable
  | timeout
deriving DecidableEq, Repr

/-- An error that the scrubber finds (R457, R459): region code, offset of its word, whether it is uncorrectable. -/
structure ScrubHit where
  region : Nat
  offset : Nat
  uncorrectable : Bool
deriving DecidableEq, Repr

/-- An identified response: output, microphone, scale, samples, and the magnitude-squared coherence of bins 0 to 16,384
in 1/65,536 (R279, R281). -/
structure IrResult where
  output : Nat
  mic : Nat
  scale : Nat
  samples : List Int
  coherence : List Nat
deriving DecidableEq, Repr

/-- The DC level of the microphone line in mV, and whether it has stayed in or out of its window for 20 ms (R346). -/
structure LineSeen where
  mv : Nat
  stayed : Bool
deriving DecidableEq, Repr

/-- What the firmware writes into a design descriptor beside the output and its allotment: n of the 1/n-octave smoothing,
the microphone mask, boost and cut limits in Q8.8 dB, the band in Hz, the target curve's and the image's DRAM address
(R284). -/
structure DesignForm where
  smoothing : Nat
  micMask : Nat
  maxBoost : Nat
  maxCut : Nat
  fLo : Nat
  fHi : Nat
  target : Nat
  result : Nat
deriving DecidableEq, Repr

/-- The errors that the reads of a voice group meet: lines with an uncorrectable error, met for the first time, by object and
line, and how many single-bit errors are corrected (R132, R133). -/
structure LaneErrors where
  bad : List (Nat × Nat)
  ce : Nat
deriving DecidableEq, Repr

/-- The rail current of a channel crosses its limit: the reading in mV at its sense input (R317). -/
structure LimitCrossing where
  ch : Nat
  mv : Nat
deriving DecidableEq, Repr

/-- What a slave port sees of a frame: SDIN by bit clock, and FS at the bit clock before the frame start and at it (R328,
R333). -/
structure SerialSeen where
  line : List Bool
  fsBefore : Bool
  fsNow : Bool
deriving DecidableEq, Repr

/-- What the MAC says of a received frame: whether its FCS is right, and whether it was preempted and its fragments did not reassemble
(R352, R354). -/
structure MacCheck where
  fcsOk : Bool
  mmErr : Bool
deriving DecidableEq, Repr

/-- A received stream packet with its addresses. -/
structure RxPacket where
  port : Nat
  v6 : Bool
  dst : Bytes
  src : Bytes
  udp : Nat
  rtp : Bytes
deriving DecidableEq, Repr

/-- What the outside shows at a boot step: REFCLK and supply good, DRAM trained with the channel that is not, and what
the flash part and the fuses of the SRAM report. -/
structure BootSeen where
  supplyOk : Bool
  dramOk : Bool
  channel : Nat
  flashId : Nat
  flashMib : Nat
  repair : List Nat
deriving DecidableEq, Repr

end Sys2Proof
end

