-- ==== Sys2Proof/Machine/StLupin.lean ====
section
/-!
DEFINITION. State of the output chain, Lupin and the survey (08_correction_survey.md).
-/

namespace Sys2Proof.Machine

/-- Memory of one biquad section: x[n−1], x[n−2], y[n−1], y[n−2] (R257). -/
structure Section where
  x1 : Int := 0
  x2 : Int := 0
  y1 : Int := 0
  y2 : Int := 0
deriving DecidableEq, Repr

/-- State of an output's chain between quanta (R257 to R260). -/
structure Chain where
  /-- Sections 0 to 39: biquads, then crossover. -/
  sections : FMap Section := []
  /-- RMS detector e, gain g and its target (R258). -/
  rmsE : Int := 0
  rmsG : Int := 0x7FFFFFFF
  rmsT : Int := 0x7FFFFFFF
  /-- Look-ahead FIFO, oldest block first (R259). -/
  fifo : List (List Int) := []
  /-- Peak limiter gain (R259). -/
  peakG : Int := 0x7FFFFFFF
deriving DecidableEq, Repr

/-- A coefficient bank (R267, R269). `none` taps: never loaded, the identity (R273). -/
structure Bank where
  taps : Option (List Int) := none
  /-- Tap units of its filter. -/
  units : Nat := 0
  crc : Nat := 0
  source : Nat := 3
deriving DecidableEq, Repr

/-- A bank swap that waits for its apply QN (R271). -/
structure BankSwap where
  applyQn : Nat
  s : Nat
  xfade : Nat
  cid : Option Nat
deriving DecidableEq, Repr

/-- A bank crossfade (R272). -/
structure BankFade where
  n0 : Nat
  xfade : Nat
  cid : Option Nat
deriving DecidableEq, Repr

/-- Correction of one output. -/
structure OutCorr where
  /-- Allotment in force (R264, R287). -/
  tapUnits : Nat := 0
  /-- Active bank: false A, true B. -/
  activeB : Bool := false
  bankA : Bank := {}
  bankB : Bank := {}
  /-- 0 empty, 1 loading, 2 loaded, 3 named in a pending swap (R287). -/
  inactive : Nat := 0
  loadCid : Option Nat := none
  /-- The firmware swaps the bank when it is loaded (R286). -/
  autoSwap : Bool := false
  loading : Bank := {}
  pending : Option BankSwap := none
  /-- A CORR_SWAP received during a crossfade (R273). -/
  held : Option BankSwap := none
  fade : Option BankFade := none
  /-- Start QN of the last swap (R287). -/
  swapQn : Nat := 0
  /-- The bank crossfade is that of a plan swap (R273). -/
  planBank : Bool := false
  /-- The allotment of a scheduled plan swap that changes it: the inactive bank is loaded for that swap (R273). -/
  planUnits : Option Nat := none
  /-- B_eff of the previous quantum plus one; 0 before the first (R263). -/
  prevB : Nat := 0
  /-- The last quantum corrected plus one (R272). -/
  doneQn : Nat := 0
deriving DecidableEq, Repr

/-- Lupin and the output chains. -/
structure LupinSt where
  corr : FMap OutCorr := []
  /-- Chain states: key 512 × side + output; side 1 while two chains run (R175). -/
  chains : FMap Chain := []
  /-- Lupin input blocks: key 8,192 × output + QN mod 8,192 (R253 step 7). -/
  input : FMap (List Int) := []
  /-- What other output code has left for an output whose task is done on one side only, a block or none: key
  512 × side + output (R175, R254). -/
  half : FMap (Option (List Int)) := []
  /-- Accumulators fetched by XFER and not yet used: key 512 × (QN mod 2) + output (R244). -/
  fetched : FMap (List Int) := []
  /-- Bulk lines: key 264,192 × output + position (R262). -/
  bulk : FMap Int := []
  /-- Probe or excitation samples recorded: key 8,192 × output + QN mod 8,192 (R274). -/
  probe : FMap (List Int) := []
  /-- Level block jobs due and not complete: key 4 × output + level, blocks in order (R265). -/
  jobs : FMap (List Nat) := []
  /-- The wait of a correction task has been counted: key 512 × QN + output (R265). -/
  lateSeen : FMap Bool := []
  /-- CORR_SWAP commands that complete at the start of a quantum: quantum and command (R272). -/
  finish : List (Nat × Nat) := []
  /-- Time of the last LUPIN_SAT event plus one; 0 never (R287). -/
  satAt : Nat := 0
deriving DecidableEq, Repr

/-- A programme step (R275). -/
structure SurveyStep where
  output : Nat
  kind : Nat
  flags : Nat
  level : Int
  reps : Nat
  length : Nat
  fLo : Nat
  fHi : Nat
  gap : Nat
deriving DecidableEq, Repr

/-- A design job (R284). -/
structure DesignJob where
  /-- DRAM address of its descriptor. -/
  desc : Nat
  output : Nat
  submitted : Nat
  abandoned : Bool
deriving DecidableEq, Repr

/-- A microphone in the present averaging period (R282). -/
structure MicPeriod where
  /-- Samples at or above 0x7F00_0000 in magnitude. -/
  clipped : Nat := 0
  /-- Samples on end with the unsettled flag. -/
  flagged : Nat := 0
  /-- Excluded for the rest of the period. -/
  out : Bool := false
deriving DecidableEq, Repr

/-- The survey engine. -/
structure SurveySt where
  /-- The programme held (R275). -/
  program : List SurveyStep := []
  /-- A programme is running. -/
  running : Bool := false
  /-- Index of the present step or first step of the present group. -/
  step : Nat := 0
  /-- First quantum of the present step plus one; 0 none. -/
  stepQn : Nat := 0
  /-- Quantum after which SURVEY_DONE follows, plus one, when the last step has ended; 0 none (R276). -/
  tailQn : Nat := 0
  /-- Group of pairs of the averaging period (R280). -/
  pairGroup : Nat := 0
  /-- Microphones that passed their last period (R282). -/
  micOk : FMap Bool := []
  /-- The microphones in the present averaging period (R282). -/
  heard : FMap MicPeriod := []
  /-- Records refreshed since the last design of their output: key 128 × output + microphone (R286), and from
  65,536 on the same for the partner's records (R384). -/
  fresh : FMap Bool := []
  jobs : List DesignJob := []
  /-- Last temperature estimate, Q8.8, and the pairs used (R283, R288). -/
  temp : Int := 0
  tempPairs : Nat := 0
  /-- Filter images that wait for the partner's confirmation: output and time (R286). -/
  imageWait : FMap Nat := []
deriving DecidableEq, Repr

end Sys2Proof.Machine
end

