-- ==== Sys2Proof/Machine/StRender.lean ====
section
/-!
DEFINITION. State of the render path: plans (05_render_plans.md), objects and geometry (03_objects_geometry.md),
voices and the delay store (04_peony_voices.md), the routing engine and the task dispatcher (06_dispatcher.md).
-/

namespace Sys2Proof.Machine

/-! ### The render plan as the device consumes it -/

/-- An object record (R162). -/
structure ObjRec where
  flags : Nat := 0
  priority : Nat := 0
  law : Nat := 0
  srcKind : Nat := 0
  gain : Int := 0
  base : Nat := 0
  srcIndex : Nat := 0
  srcChan : Nat := 0
  x : Int := 0
  y : Int := 0
  z : Int := 0
  rmin : Nat := 0
deriving DecidableEq, Repr

/-- An output descriptor (R108) with the unit axis that the device computes at load (R109). -/
structure OutRec where
  x : Int := 0
  y : Int := 0
  z : Int := 0
  owner : Nat := 0
  sink : Nat := 3
  azimuth : Nat := 0
  elevation : Int := 0
  profile : Nat := 0
  flags : Nat := 0
  trim : Int := 0
  align : Nat := 0
  neighbours : List Nat := []
  ux : Int := 0
  uy : Int := 0
  uz : Int := 0
deriving DecidableEq, Repr

/-- An output-task record (R163). -/
structure OutTask where
  cls : Nat := 0
  flags : Nat := 0
  sink : Nat := 3
  destChan : Nat := 0
  destIndex : Nat := 0xFFFF
  bulk : Nat := 0
  params : Nat := 0
  entry : Nat := 0
  cycles : Nat := 0
deriving DecidableEq, Repr

/-- The parameters of an output's program (R255). -/
structure OutParam where
  ctrl : Nat := 0
  level : Int := 0
  rmsThr : Int := 0
  rmsAvg : Int := 0
  rmsAtt : Int := 0
  rmsRel : Int := 0
  peakThr : Int := 0
  peakRel : Int := 0
  trackMm : Nat := 0
  extLatency : Nat := 0
  biquads : List (List Int) := []
  crossover : List (List Int) := []
deriving DecidableEq, Repr

/-- A triangle record (R164). -/
structure Triangle where
  a : Nat := 0
  b : Nat := 0
  c : Nat := 0
  m : List Int := []
deriving DecidableEq, Repr

/-- A reflector record (R164). -/
structure Reflector where
  nx : Int := 0
  ny : Int := 0
  nz : Int := 0
  offset : Int := 0
  gain : Int := 0
deriving DecidableEq, Repr

/-- A voice entry (R150) with the output it names. -/
structure VoiceEnt where
  source : Nat
  output : Nat
  reflector : Nat
  kind : Nat
deriving DecidableEq, Repr

/-- A voice-group record (R149). -/
structure Group where
  index : Nat := 0
  cls : Nat := 0
  flags : Nat := 0
  stateBase : Nat := 0
  outs : List Nat := []
  voices : List VoiceEnt := []
deriving DecidableEq, Repr

/-- A task record (R166). -/
structure TaskRec where
  task : Nat
  kind : Nat
  cls : Nat
  operands : Nat
  ref : Nat
  affinity : Nat
deriving DecidableEq, Repr

/-- The ROUTING section (R179). -/
structure Routing where
  talkback : List (Nat × Nat) := []
  indirect : List Nat := []
  gains : List Int := []
  program : List Nat := []
deriving DecidableEq, Repr

/-- A plan (R160 to R166). -/
structure Plan where
  index : Nat := 0
  rate : Nat := 0
  totalVoices : Nat := 0
  fixedVoices : Nat := 0
  geomLoad : Nat := 0
  matchPeak : Nat := 0
  moveSlots : Nat := 0
  reflDiv : Nat := 1
  asterLoad : Nat := 0
  objects : List ObjRec := []
  outputs : List OutRec := []
  outTasks : List OutTask := []
  triangles : List Triangle := []
  reflectors : List Reflector := []
  profiles : List (List Int) := []
  bounds : List Nat := []
  groups : List Group := []
  tasks : List TaskRec := []
  routing : Routing := {}
  outParams : List OutParam := []
  code : Bytes := []
deriving DecidableEq, Repr

/-! ### Plan store, load and swap -/

/-- The load in progress (R168). -/
structure PlanLoad where
  cid : Nat
  plan : Nat
  image : Bytes
  supplied : Nat
deriving DecidableEq, Repr

/-- A swap that waits for its apply QN (R172, R178). -/
structure SwapReq where
  plan : Nat
  applyQn : Nat
  xfade : Nat
  cid : Option Nat
  /-- seq of the swap record sent or taken (R178). -/
  seq : Nat
  /-- The code bank of the incoming plan is written on every core (R243). -/
  banksReady : Bool
deriving DecidableEq, Repr

/-- A swap in progress (R174 to R177). -/
structure SwapRun where
  incoming : Plan
  applyQn : Nat
  xq : Nat
  sequential : Bool
  /-- In a sequential swap: the incoming plan has been activated (R176). -/
  switched : Bool
  cid : Option Nat
  /-- X and seq of its swap record (R178). -/
  xfade : Nat
  seq : Nat
deriving DecidableEq, Repr

/-- Plan store and swaps. -/
structure PlanSt where
  /-- Images held, by index (R169). -/
  held : FMap Bytes := []
  /-- The active plan (R168). -/
  active : Option Plan := none
  /-- The load in progress (R168, R427). -/
  load : Option PlanLoad := none
  /-- The swap that awaits its apply QN (R172). -/
  pending : Option SwapReq := none
  /-- The swap in progress (R174). -/
  running : Option SwapRun := none
  /-- A PLAN_SWAP received while a swap is in progress (R177). -/
  heldSwap : Option SwapReq := none
  /-- The outgoing plan while its voices still render (R175). -/
  outgoing : Option Plan := none
  /-- QN at which the active plan took effect (R187). -/
  activeQn : Nat := 0
  /-- The last swap was sequential (R174). -/
  lastSequential : Bool := false
  /-- seq of the next swap record a central device sends (R178). -/
  swapSeq : Nat := 0
  /-- seq of the last swap record applied (R178). -/
  lastSwapSeq : Option Nat := none
deriving DecidableEq, Repr

/-! ### The routing engine -/

/-- An indirect slot (R184). -/
structure IndSlot where
  source : Nat := 0
  /-- Value held at the start of a crossfade whose old side is a blend. -/
  oldSource : Nat := 0
  /-- Step m of a crossfade, 0 none. -/
  step : Nat := 0
  /-- Steps of the crossfade. -/
  total : Nat := 0
  /-- Present value, from which a second change starts. -/
  value : Int := 0
  /-- The old side is the held value, not a source. -/
  fromValue : Bool := false
  held : Int := 0
deriving DecidableEq, Repr

/-- A gain change that waits for a zero crossing (R185). -/
structure GainWait where
  entry : Nat
  value : Int
  applyQn : Nat
  cid : Nat
  /-- Samples waited so far; none before the apply QN. -/
  waited : Option Nat
deriving DecidableEq, Repr

/-- A source change that waits for its apply QN (R184). -/
structure SourceWait where
  slot : Nat
  source : Nat
  applyQn : Nat
  cid : Nat
deriving DecidableEq, Repr

/-- The routing engine (R179 to R185). -/
structure RouteSt where
  /-- Gains in force; unlisted: the active program's (R179, R185). -/
  gains : FMap Int := []
  /-- Indirect slots 0 to 7 (R184). -/
  slots : FMap IndSlot := []
  /-- x[n − 1] of each source code (R185). -/
  prev : FMap Int := []
  /-- Latest samples of the serial-port inputs, decimators and microphone, by source code (R181). -/
  inputs : FMap Int := []
  /-- Destinations written in the last period (R181). -/
  outputs : FMap Int := []
  /-- Samples departing in this quantum, key 32 × output + k (R181). -/
  departing : FMap Int := []
  /-- Unsettled masks of the outputs departing in this quantum at serial-port and direct-drive sinks (R8, R210). -/
  departUnset : FMap Nat := []
  /-- Sample index of the next period within the quantum. -/
  sample : Nat := 0
  /-- The quantum at whose start departure work was last done, plus one (R262). -/
  departQn : Nat := 0
  /-- Domain samples since the start of the crossfade of two programs; 0 none (R175, R176). -/
  xfadeN : Nat := 0
  /-- Length of that crossfade. -/
  xfadeLen : Nat := 0
  /-- The outgoing program during the crossfade. -/
  oldProgram : List Nat := []
  /-- The outgoing gains during the crossfade. -/
  oldGains : List Int := []
  gainWaits : List GainWait := []
  sourceWaits : List SourceWait := []
deriving DecidableEq, Repr

/-! ### Objects and geometry -/

/-- A metadata record with the QN at which it applies (R96, R100). -/
structure MetaRec where
  qn : Nat
  x : Int
  y : Int
  z : Int
  valid : Nat
  law : Nat
  priority : Nat
  gain : Int
  rmin : Nat
  seq : Nat
  /-- Its 32 bytes, for the check of mirrored inputs (R398). -/
  raw : Bytes
deriving DecidableEq, Repr

/-- A move of an object (R104, R105). -/
inductive Move
  | none
  | slot (k startQn : Nat) (x y z : Int)
  | dip (startQn : Nat) (x y z : Int)
deriving DecidableEq, Repr

/-- A rebase of an object (R139). -/
inductive Rebase
  | none
  | fadeOut
  | refillWait
  | fadeUp
deriving DecidableEq, Repr

/-- One object of the active plan (R96 to R107, R137 to R140). Fade factors are held as steps below N (R114). -/
structure Obj where
  inPlan : Bool := false
  recs : List MetaRec := []
  lastSeq : Option Nat := none
  px : Int := 0
  py : Int := 0
  pz : Int := 0
  qx : Int := 0
  qy : Int := 0
  qz : Int := 0
  gain : Int := 0
  law : Nat := 0
  priority : Nat := 0
  rmin : Nat := 0
  live : Bool := false
  mute : Bool := false
  frozen : Bool := false
  /-- The object's stream has timed out (R107, R373). -/
  audioLost : Bool := false
  moveReq : Bool := false
  move : Move := .none
  speedLimited : Bool := false
  clamped : Bool := false
  /-- QN of the last activation that applied a record (R106). -/
  lastRecQn : Nat := 0
  muteDn : Nat := 0
  freezeDn : Nat := 0
  audioDn : Nat := 0
  dipDn : Nat := 0
  /-- Dip of the reflection voices during a move in a slot (R104). -/
  reflDn : Nat := 0
  /-- B_o in samples (R137). -/
  base : Nat := 0
  baseAuto : Bool := false
  rebase : Rebase := .none
  /-- A direct or move-slot voice was clamped and counted at the last posting (R138, R139). -/
  clampDue : Bool := false
  /-- VOICE_BASE.clamped (R159). -/
  delayClamped : Bool := false
  /-- QN of the last VOICE_DELAY_CLAMP event plus one; 0 never (R138). -/
  clampEventQn : Nat := 0
deriving DecidableEq, Repr

/-- An air change that waits for its apply QN (R112). -/
structure AirReq where
  applyQn : Nat
  temp : Int
  humidity : Nat
  cid : Option Nat
deriving DecidableEq, Repr

/-- An availability change that waits for its apply QN (R123, R125). -/
structure AvailReq where
  applyQn : Nat
  output : Nat
  available : Bool
  cause : Nat
  cid : Option Nat
  /-- From an availability record: its seq and its whole mask (R126). -/
  mask : Option (Nat × Nat)
deriving DecidableEq, Repr

/-- What a lane is told of a voice beside its operand record. -/
structure OpTag where
  /-- The object whose window the lane reads: it names the bank and slot of R129. -/
  object : Nat := 0
  /-- The lane skips the voice: it is shed, or matched in its outgoing group (R158, R175). -/
  skip : Bool := false
  /-- The voice starts from the initialised state (R153). -/
  init : Bool := false
  /-- Its state record is one of the outgoing plan of an overlap swap (R173). -/
  out : Bool := false
deriving DecidableEq, Repr

/-- An operand: target window delay, gain, air coefficient (R151), and what the lane is told with it. -/
structure VOp where
  d : Nat := 0
  g : Int := 0
  a : Nat := 0
  tag : OpTag := {}
deriving DecidableEq, Repr

/-- The operand block of a voice-group task in shared scratch (R151, R152, R458). -/
structure OpBlock where
  /-- Its first record in the operand buffer. -/
  place : Nat := 0
  /-- One entry per record, in voice-list order. -/
  tags : List OpTag := []
deriving DecidableEq, Repr

/-- The last two evaluations of a reflection voice: total delay, gain, air (R121). -/
structure ReflEval where
  d0 : Nat := 0
  g0 : Int := 0
  a0 : Nat := 0
  d1 : Nat := 0
  g1 : Int := 0
  a1 : Nat := 0
  /-- QN of the last evaluation. -/
  qn : Nat := 0
deriving DecidableEq, Repr

/-- The geometry unit. -/
structure GeomSt where
  objs : FMap Obj := []
  /-- Speed of sound and air: old value, new value, first quantum and length of the slew (R112, R119). -/
  kOld : Nat := 0
  kNew : Nat := 0
  wOld : Nat := 0
  wNew : Nat := 0
  slewQn : Nat := 0
  slewLen : Nat := 0
  /-- Present K and GEOM_AIR_W (R128). -/
  k : Nat := 0
  w : Nat := 0
  /-- K in force by quantum, key QN mod 8 (R262). -/
  kHist : FMap Nat := []
  airReqs : List AirReq := []
  /-- Outputs lost: the complement of the availability mask (R123). -/
  lost : FMap Bool := []
  /-- N − φ of each output (R123). -/
  phiDn : FMap Nat := []
  /-- OUT_ISOLATED has been raised for the present interval (R124). -/
  isolated : FMap Bool := []
  availReqs : List AvailReq := []
  /-- QN of the last mask change (R128). -/
  availQn : Nat := 0
  /-- The last change sent in the domain: cause and output (R125). -/
  lastCause : Nat := 0
  lastOutput : Nat := 0
  /-- seq of the availability records a central device sends (R126). -/
  availSeq : Nat := 0
  /-- A change has been sent, so the record goes with each domain frame (R125). -/
  availSent : Bool := false
  /-- The record last sent, as it is repeated (R125). -/
  availLast : Bytes := []
  /-- seq of the last availability record applied (R126). -/
  lastAvailSeq : Option Nat := none
  /-- The objects as they stood at the latest activation, for GEOM_OBJ_STATUS (R128). -/
  seen : FMap Obj := []
  /-- Reflection evaluations by voice key (R121). -/
  refl : FMap ReflEval := []
  /-- Values posted for the last quantum, by voice key (R174). -/
  posted : FMap VOp := []
  /-- X_f: values in force at the end of quantum A − 1 of the swap (R174). -/
  frozenPost : FMap VOp := []
  /-- Operand blocks evaluated and not yet written: quantum, side, group, operands (R151, R152). -/
  toPost : List (Nat × Nat × Nat × List VOp) := []
  /-- The last quantum activated plus one; 0 none (R189). -/
  nextAct : Nat := 0
  /-- The next activation is the first since CONFIG: the render starts from its initial state (R37, R135, R262). -/
  fresh : Bool := true
  /-- Output j was in an availability fade in quantum q: key 8 × j + q mod 8 (R123, R368). -/
  fading : FMap Bool := []
  /-- Objects whose base delay the present activation assigns (R137). -/
  baseDue : FMap Bool := []
  /-- Refills that the staging unit has yet to make, by object: the quantum of the refill, and the base delay of the fills before
  it (R139). -/
  refillDue : FMap (Nat × Nat) := []
deriving DecidableEq, Repr

/-! ### Voices and the delay store -/

/-- A voice-state record (R151). -/
structure VoiceSt where
  d : Nat := 0
  g : Int := 0
  y : Int := 0
deriving DecidableEq, Repr

/-- The voice-state table passes to another plan (R153, R173). -/
structure VoiceTurn where
  /-- The first quantum rendered under that plan. -/
  qn : Nat := 0
  /-- The records of the outgoing plan that are still needed. -/
  old : List Nat := []
  /-- The records of the incoming plan, each with the outgoing record that it continues from. -/
  new : List (Nat × Option Nat) := []
deriving DecidableEq, Repr

/-- Peony, staging and the delay store. -/
structure VoiceBlk where
  /-- Delay-store windows: key 16,384 × object + position (R129). -/
  window : FMap Int := []
  /-- Lines with an uncorrectable error: key 1,024 × object + line of 16 (R133). -/
  badLine : FMap Bool := []
  /-- The event of a bad line has been raised since its last rewrite (R133). -/
  badRaised : FMap Bool := []
  /-- Presence bits of the staging lines, which lie in DRAM: key 278,528 × object + position (R134). -/
  present : FMap Bool := []
  /-- Unsettled bits of staged samples, by the same keys (R8, R333, R337). -/
  stagedUnset : FMap Bool := []
  /-- The next quantum whose window fill has not run (R135, R370, R420). -/
  filled : Nat := 0
  /-- State records of the outgoing plan of an overlap swap, by record; the voice-state table of the plan in force lies in DRAM
  (R151, R173). -/
  outStates : FMap VoiceSt := []
  /-- Where the voice-state table passes to another plan, oldest first (R153, R173). -/
  turns : List VoiceTurn := []
  /-- Operand blocks in the buffer: key (quantum × 2 + side) × 4,096 + group (R152). -/
  blocks : FMap OpBlock := []
  /-- The shed units: key 64 × object + reflector (R156). -/
  shed : FMap Bool := []
  /-- Units fading to zero, or up, at an operating-point change: steps below N; N + 1 once the unit is no longer evaluated
  (R157). -/
  shedDn : FMap Nat := []
  /-- The next activation computes the shed set: with fades, or without (R156, R157). -/
  shedDue : Option Bool := none
  /-- Units that the computation of the present activation has restored (R153). -/
  restored : FMap Bool := []
  /-- Apply QN of the last shed computation (R157). -/
  shedQn : Nat := 0
  /-- The first voice-group dispatch of a quantum, and its local time plus one; 0 none (R159). -/
  spanQn : Nat := 0
  spanFrom : Nat := 0
deriving DecidableEq, Repr

/-! ### The dispatcher -/

/-- A matching-store entry (R189, R192). -/
structure MatchEnt where
  side : Nat
  task : Nat
  qn : Nat
  declared : Nat
  arrived : Nat
  cls : Nat
  kind : Nat
  ref : Nat
  affinity : Nat
  late : Bool
  /-- 1 waiting, 2 ready, 3 running (R192). -/
  state : Nat
  /-- Unit that runs it. -/
  unit : Nat
  /-- Local time at which it became ready (R202). -/
  readyAt : Nat
deriving DecidableEq, Repr

/-- A background or compatibility item (R207, R208). -/
structure Item where
  entry : Nat
  arg : Nat
  affinity : Nat
  seq : Nat
deriving DecidableEq, Repr

/-- A mailbox and its core (R197, R214). -/
structure CoreBox where
  /-- 0 idle, 1 deadline task, 2 compatibility item, 3 background item, 4 switch handler. -/
  state : Nat := 0
  word : Nat := 0xFFFFFFFF
  qn : Nat := 0
  ref : Nat := 0
  arg : Nat := 0
  /-- A preempted item held: its state code, word, ref, arg (R201). -/
  heldState : Nat := 0
  heldWord : Nat := 0
  heldRef : Nat := 0
  heldArg : Nat := 0
  /-- The task written with a preempt request, until the switch handler starts it (R199). -/
  nextWord : Option Nat := none
  nextQn : Nat := 0
  nextRef : Nat := 0
  /-- MODEL: the runtime has jumped to the code of the deadline task in the mailbox (R202). -/
  entered : Bool := false
deriving DecidableEq, Repr

/-- A control core's banked view (R203). -/
structure CtlBox where
  word : Nat := 0xFFFFFFFF
  ref : Nat := 0
  qn : Nat := 0
  /-- A TAKE waits (R203). -/
  waiting : Bool := false
deriving DecidableEq, Repr

/-- The task dispatcher. -/
structure DispSt where
  /-- The matching store: 16,384 entries by place (R189). -/
  store : FMap (Option MatchEnt) := []
  /-- Quantum-boundary posts latched until their entry is allocated, by QN (R190). -/
  latched : FMap Bool := []
  /-- The staging unit runs a task. -/
  stagingBusy : Bool := false
  /-- Peony engines that run a task: place of its entry plus one (R195). -/
  peony : FMap Nat := []
  /-- Correction tasks queued into Lupin, by place (R195). -/
  lupinQ : List Nat := []
  /-- Service tasks in the service queue, by place (R204). -/
  serviceQ : List Nat := []
  /-- Cores whose TAKE waits, in order of arrival (R204). -/
  takers : List Nat := []
  bgQ : List Item := []
  bgSeq : Nat := 0
  /-- Compatibility queues 0 to 7 (R208). -/
  cq : FMap (List Item) := []
  cqSeq : Nat := 0
  /-- Aster mailboxes (R197). -/
  cores : FMap CoreBox := []
  /-- Control cores 0 to 3 (R203). -/
  ctl : FMap CtlBox := []
  /-- Consecutive late quanta (R211). -/
  lateRun : Nat := 0
  /-- Quanta suppressed at their cutoff, by QN (R210). -/
  suppressed : FMap Bool := []
  /-- Quanta whose cutoff has been judged: the next QN (R210). -/
  cutoffQn : Nat := 0
  /-- Local time since which an activation waits, plus one; 0 none (R191). -/
  waitFrom : Nat := 0
  /-- Every quantum from this one on is late: a core has faulted in a deadline task (R250). -/
  lateFrom : Option Nat := none
  /-- The next trace record carries the gap flag (R213). -/
  traceGap : Bool := false
  /-- Tasks found late before their entry was allocated: side, task, QN (R191, R209). -/
  lateEarly : List (Nat × Nat × Nat) := []
deriving DecidableEq, Repr

end Sys2Proof.Machine
end

