-- ==== Sys2Proof/Machine/StPair.lean ====
section
/-!
DEFINITION. State of lockstep pairs (13_lockstep_pairs.md).
-/

namespace Sys2Proof.Machine

/-- A sequenced record sent and not acknowledged (R394). -/
structure PairTx where
  mseq : Nat
  kind : Nat
  body : Bytes
  /-- QN at whose activation resending stops; none: only an acknowledgement stops it. -/
  untilQn : Option Nat
  /-- Heartbeats of the partner that have not acknowledged it. -/
  missed : Nat
deriving DecidableEq, Repr

/-- A mirrored command that this device proposed (R391). -/
structure Proposal where
  pid : Nat
  applyQn : Nat
  cid : Nat
  hdr : CmdHdr
  cmd : Cmd
  /-- The partner's code, once it has replied. -/
  reply : Option Nat
deriving DecidableEq, Repr

/-- A mirrored command of the partner that this device has scheduled (R391). -/
structure Mirrored where
  pid : Nat
  applyQn : Nat
  cid : Nat
  cmd : Cmd
  /-- The 64 bytes of the command (R386). -/
  body : Bytes
deriving DecidableEq, Repr

/-- A command carried out with its effect of CONFIG at an apply QN (R391). -/
structure Deferred where
  applyQn : Nat
  cmd : Cmd
  cid : Nat
deriving DecidableEq, Repr

/-- A digest entry (R395, R398). -/
structure Digest where
  qn : Nat
  late : Bool := false
  solo : Bool := false
  mirrorLate : Bool := false
  value : Nat := 0
  inCrc : Nat := 0
  /-- Local time of completion. -/
  doneAt : Nat := 0
deriving DecidableEq, Repr

/-- What a path's heartbeats have shown (R395, R400). -/
structure PathSt where
  good : Bool := false
  /-- hb_seq of the next heartbeat sent. -/
  txSeq : Nat := 0
  /-- hb_seq and ct32 of the last heartbeat received; none yet. -/
  rxSeq : Option Nat := none
  rxCt : Nat := 0
  /-- Consecutive heartbeats since the path failed. -/
  run : Nat := 0
  /-- Local time of the last heartbeat received, plus one; 0 none. -/
  heardAt : Nat := 0
  /-- Local time since which heartbeats have come without a gap, plus one; 0 none. -/
  since : Nat := 0
  /-- Send times of the last heartbeats: hb_seq and ct32 (R397). -/
  sent : List (Nat × Nat) := []
deriving DecidableEq, Repr

/-- State of the partner that a join copies, as the end of a phase of R405 delivers it. The spec numbers neither the
regions of BULK nor their layout, so the copied state stands here as the state it becomes. -/
structure JoinCopy where
  /-- Phase 2: histories and banks. -/
  staging : FMap Int := []
  present : FMap Bool := []
  window : FMap Int := []
  bulk : FMap Int := []
  input : FMap (List Int) := []
  banks : FMap OutCorr := []
  /-- Phase 3: geometry state, the active plan's index, the shed set, routing gains and sources. -/
  geom : GeomSt := {}
  planIndex : Nat := 0
  shed : FMap Bool := []
  gains : FMap Int := []
  slots : FMap IndSlot := []
  /-- Phase 4: voice-state records. -/
  voices : FMap VoiceSt := []
  /-- Phase 5: chain states. -/
  chains : FMap Chain := []
deriving DecidableEq, Repr

/-- A join (R404 to R406). -/
structure Join where
  /-- This device is the joiner. -/
  joiner : Bool
  /-- 1 to 7 (R405). -/
  phase : Nat
  /-- QN of the phase: T, G, E + 1, ..., J, as named. -/
  qn : Nat
  /-- J, once known. -/
  j : Option Nat
  /-- Quanta of phase 4 or 5 that are done: 64 voice groups, or 16 outputs, each (R405). -/
  step : Nat := 0
deriving DecidableEq, Repr

/-- A lane switch that waits for its PT (R408). -/
structure LaneSwitch where
  l4 : Bool
  pt : Nat
deriving DecidableEq, Repr

/-- The pair. -/
structure PairSt where
  /-- PAIR_STATUS.state (R379). -/
  state : Nat := 0
  /-- Paths: 0 Ethernet, 1 pair link. -/
  paths : FMap PathSt := []
  /-- The partner as its heartbeats show it (R395). -/
  partnerMode : Nat := 0
  partnerFault : Bool := false
  partnerDiverged : Bool := false
  partnerP0 : Nat := 0
  partnerCfg : Nat := 0
  partnerHoldover : Bool := false
  partnerV : Nat := 0
  partnerC : Nat := 0
  /-- The partner's paths on which heartbeats come to it (R378, R395). -/
  partnerHears : Bool := false
  /-- P0 in MHz, and the partner's V and C, that the tests of R383 use since the last computation of the shed set; 0 none. -/
  capP0 : Nat := 0
  capV : Nat := 0
  capC : Nat := 0
  /-- Own and partner cfg_id for which PAIR_CONFIG_MISMATCH was last raised (R378). -/
  mismatchSeen : Option (Nat × Nat) := none
  /-- QN of formation that a FORM record named (R378). -/
  formQn : Option Nat := none
  /-- mseq of the next sequenced record (R394). -/
  txSeq : Nat := 1
  unacked : List PairTx := []
  /-- The newest mseq seen (R394). -/
  rxHigh : Nat := 0
  /-- The highest mseq up to which every record has arrived, and the later ones seen (R394). -/
  rxAck : Nat := 0
  rxSeen : FMap Bool := []
  nextPid : Nat := 0
  proposals : List Proposal := []
  mirrored : List Mirrored := []
  deferred : List Deferred := []
  /-- PROPOSE bodies of bank swaps whose image is still loading here (R286). -/
  heldProps : List Bytes := []
  /-- Segments of an IMAGE and of an IR record that have arrived (R286, R393). -/
  imageBuf : Bytes := []
  irBuf : Bytes := []
  /-- Impulse-response records of the partner: key 512 × microphone + output (R286). -/
  partnerIr : FMap Bytes := []
  /-- The partner's presence: masks by object for a quantum, key 1,024 × (QN mod 8) + object (R388, R396). -/
  presMasks : FMap Nat := []
  /-- The masks sent in this device's own PRESENCE, under the same keys, and the quanta for which it went (R388). -/
  presOwn : FMap Nat := []
  presSent : FMap Bool := []
  /-- Quanta for which the partner's PRESENCE is whole, key QN (R388). -/
  presWhole : FMap Bool := []
  /-- Quanta whose wait has expired, key QN (R388). -/
  presSolo : FMap Bool := []
  /-- Bytes of the mirrored records applied at the activation of a quantum and of its presence masks (R398). -/
  inBytes : FMap Bytes := []
  /-- Quanta with a mirrored record applied late (R387). -/
  lateQn : FMap Bool := []
  /-- Own digests, most recent first (R395). -/
  digests : List Digest := []
  /-- Partner digests not yet compared, and QNs left uncompared (R399). -/
  partnerDigests : List Digest := []
  skipped : FMap Bool := []
  compared : FMap Bool := []
  /-- Consecutive mismatches, the first of them, and consecutive matches (R399). -/
  misses : Nat := 0
  firstMiss : Nat := 0
  matches' : Nat := 0
  diverged : Bool := false
  /-- Local time of the last PAIR_DIVERGED plus one; 0 none (R401). -/
  divergedAt : Nat := 0
  join : Option Join := none
  /-- A joiner waits for T to be named, when no crossfade is pending or running (R404). -/
  joinWait : Bool := false
  /-- Transfers of IMAGE and IR records that wait for L4: kind and bytes (R408, R409). -/
  linkOut : List (Nat × Bytes) := []
  /-- The command PAIR_RESYNC that completes with the join (R403). -/
  resyncCid : Option Nat := none
  /-- This device joins once it has reached SAFE (R403). -/
  resyncSelf : Bool := false
  /-- The pair link runs in L4 (R407). -/
  l4 : Bool := false
  lane : Option LaneSwitch := none
  /-- Local time since which the load is below the shed bound, plus one; 0 not (R408). -/
  lowSince : Nat := 0
  /-- Local time of the last lane failure plus one; 0 none (R409). -/
  laneFailAt : Nat := 0
deriving DecidableEq, Repr

end Sys2Proof.Machine
end

