-- ==== Sys2Proof/Syntax.lean ====
section
/-!
DEFINITION. The commands: one constructor for each row of spec/opcode_table.json, in the table's order. The rows give no
bits, so a command's operands are the values that its rule names. Times are PT in ns, addresses of registers are BAR0 offsets,
and what only the outside knows of an event (bytes received, readings, answers) is an operand.
-/

namespace Sys2Proof

/-- A command to the block, or an event at it. -/
inductive Instr
  /-- R15: A write to a register that has no row of its own stores, sets, clears or acts on the value written as the
  field access types state, or is discarded as locked or out of range. -/
  | registerWrite (m : Master) (a : Nat) (v : Nat)
  /-- R12: An access narrower than 32 bits or not 4-byte aligned completes with no effect and sets no flag. -/
  | unalignedRegisterAccess (m : Master) (write : Bool) (a : Nat) (size : Nat)
  /-- R20: An access to an address of no block, a gap or a missing instance completes, reads zero, and sets
  SYS_ERR_STATUS.unmapped and SYS_ERR_ADDR. -/
  | unmappedAccess (m : Master) (write : Bool) (a : Nat) (v : Nat)
  /-- R17: A read of an RC counter returns the count and clears it, keeping an event of the same cycle as a count of
  1. -/
  | rcCounterRead (m : Master) (a : Nat) (event : Bool)
  /-- R18: A read of the lowest word of a wide value snapshots the higher words into a shadow. -/
  | wideLowWordRead (m : Master) (a : Nat)
  /-- R35: A write to SYS_FAULT_CAUSES clears each written cause bit only when its condition no longer holds. -/
  | faultCausesWrite (m : Master) (v : Nat)
  /-- R427: Command NOP completes DONE with result 0. -/
  | nop (h : CmdHdr)
  /-- R427: Command REG_READ returns the two register words at an 8-byte aligned BAR0 offset. -/
  | regRead (h : CmdHdr) (addr : Nat)
  /-- R427: Command REG_WRITE presents one 32-bit write to a register and completes DONE. -/
  | regWrite (h : CmdHdr) (addr : Nat) (value : Nat)
  /-- R26: Command SET_MODE is judged against the transition table and preconditions and schedules, holds or refuses
  a mode transition. -/
  | setMode (h : CmdHdr) (mode : Nat) (scope : Nat)
  /-- R488: Command SET_OPPOINT checks and schedules, pends or carries out a change of DVFS operating point. -/
  | setOppoint (h : CmdHdr) (point : Nat)
  /-- R80: Command REANCHOR_TIME schedules a step of counter and epoch at an apply QN after a range check. -/
  | reanchorTime (h : CmdHdr) (step : Int)
  /-- R112: Command SET_AIR schedules a new air temperature and humidity that starts a K slew at its apply QN. -/
  | setAir (h : CmdHdr) (temp : Int) (humidity : Nat)
  /-- R125: Command SET_OUTPUT_AVAIL reports an output lost or restored and schedules the mask change. -/
  | setOutputAvail (h : CmdHdr) (output : Nat) (available : Nat)
  /-- R168: Command PLAN_LOAD copies a plan image into the load buffer and starts its validation. -/
  | planLoad (h : CmdHdr) (plan : Nat) (src : Nat) (record : Nat) (data : DRef)
  /-- R168: Validation of a loaded plan ends, moving the image into the plan store or failing with a reason in
  PLAN_ERR. -/
  | planLoadComplete
  /-- R169: Command PLAN_DROP frees a plan index and recomputes PLAN_SET_ID. -/
  | planDrop (h : CmdHdr) (plan : Nat)
  /-- R172: Command PLAN_SWAP is checked and schedules, replaces or at once carries out a swap of the active plan. -/
  | planSwap (h : CmdHdr) (plan : Nat) (xfade : Nat)
  /-- R185: Command SET_ROUTE_GAIN starts a zero-crossing wait to step a routing gain. -/
  | setRouteGain (h : CmdHdr) (entry : Nat) (gain : Nat)
  /-- R184: Command SET_ROUTE_SOURCE schedules a crossfade of an indirect routing slot to a new source. -/
  | setRouteSource (h : CmdHdr) (slot : Nat) (source : Nat)
  /-- R270: Command CORR_LOAD checks a filter image and starts loading it into the inactive Lupin bank. -/
  | corrLoad (h : CmdHdr) (output : Nat) (data : DRef)
  /-- R271: Command CORR_SWAP schedules or at once carries out a crossfade to the loaded correction bank. -/
  | corrSwap (h : CmdHdr) (output : Nat) (which : Nat) (xfade : Nat)
  /-- R275: Command SURVEY_PROGRAM loads or clears an excitation programme of up to 4,096 steps. -/
  | surveyProgram (h : CmdHdr) (steps : Nat) (data : DRef)
  /-- R298: Command DEC_CONFIG schedules new configuration words for a decimator channel at an apply QN. -/
  | decConfig (h : CmdHdr) (ch : Nat) (cfg : Nat) (rate : Nat) (phase : Nat)
  /-- R299: Command DEC_COMP_SWAP schedules a swap of a channel's compensation banks. -/
  | decCompSwap (h : CmdHdr) (ch : Nat)
  /-- R315: Command DRV_DIAG starts load diagnostics on the named direct-drive channels. -/
  | drvDiag (h : CmdHdr) (mask : Nat)
  /-- R321: Command DRV_CLEAR resets the retry count of named latched channels and starts a retry at once. -/
  | drvClear (h : CmdHdr) (mask : Nat)
  /-- R361: Command STREAM_SET checks and loads a stream descriptor into a transmit or receive context. -/
  | streamSet (h : CmdHdr) (data : DRef)
  /-- R427: Command STREAM_CLEAR unloads a stream context under the state rules of STREAM_SET. -/
  | streamClear (h : CmdHdr) (context : Nat) (dir : Nat)
  /-- R403: Command PAIR_RESYNC sends the named device of a formed pair to SAFE and then through a MIRROR join. -/
  | pairResync (h : CmdHdr) (device : Nat)
  /-- R440: Command SCENE_WRITE checks a record and its space and starts programming it at the head of the log. -/
  | sceneWrite (h : CmdHdr) (record : Nat) (kind : Nat) (flags : Nat) (data : DRef)
  /-- R427: Command SCENE_READ copies bytes of a scene record to the named buffer. -/
  | sceneRead (h : CmdHdr) (record : Nat) (offset : Nat) (data : DRef)
  /-- R440: Command SCENE_ERASE writes a tombstone for a record identifier by the steps of a scene write. -/
  | sceneErase (h : CmdHdr) (record : Nat)
  /-- R508: Command AGE_MEASURE starts an ageing measurement and re-plan. -/
  | ageMeasure (h : CmdHdr)
  /-- R438: Command SESSION_KEY_SET writes or empties a session key slot and closes sessions that use it. -/
  | sessionKeySet (h : CmdHdr) (slot : Nat) (role : Nat) (data : DRef)
  /-- R431: Command EVENT_MASK sets the event groups a network session receives. -/
  | eventMask (h : CmdHdr) (mask : Nat)
  /-- R425: The device fetches and accepts the next command of a source in order, subject to fences and the 64
  in-flight limit. -/
  | commandFetch (src : Source) (entry : Bytes) (host : Bytes) (pcieErr : Bool)
  /-- R425: Command fetch resumes when in-flight commands or the completion holding queue fall below their limits. -/
  | fetchResume
  /-- R425: A fenced command that has waited more than 30 s completes TIMEOUT. -/
  | fenceTimeout (src : Source)
  /-- R430: A completion waiting in the holding queue leaves it when its ring has room and is delivered again. -/
  | completionRelease
  /-- R31: A mode transition finishes its ramps, the mode changes, SET_MODE completes DONE and any pending request is
  judged again. -/
  | transitionComplete
  /-- R33: At the quantum boundary after a fault cause arises in a rendering mode, the device enters SAFE and ends
  running and pending transitions. -/
  | faultEntrySafe
  /-- R37: The muted pre-roll of 1 s ends and the common-mode ramp up or the unmute ramp begins. -/
  | prerollEnd
  /-- R36: The 10 ms output ramp to or from zero ends and the next phase of the transition begins. -/
  | outputRampEnd
  /-- R55: QN reaches 2^40 − 2^31 or a further 2^24 quanta and the event QN_NEAR_END is raised. -/
  | qnNearEnd
  /-- R56: At the departure boundary of QN 2^40 − 4 the device enters SAFE with cause QN_EXHAUSTED. -/
  | qnExhausted
  /-- R47: A start-up step exceeds its bound and STARTUP_SLOW is raised while work continues. -/
  | startupSlow (step : Nat)
  /-- R40: Every 10 ms the device multicasts a domain frame on each active Ethernet port. -/
  | domainFrameSend
  /-- R41: A received domain frame is checked, counted or dropped, and its authoritative fields are taken. -/
  | domainFrameReceive (ip : Nat) (b : Bytes)
  /-- R42: Domain frames of a device are missing for 30 ms and its outputs are reported lost. -/
  | deviceAbsent (index : Nat)
  /-- R62: A write to TIME_ADDEND sets the counter rate or is refused outside ±500 ppm. -/
  | timeAddendWrite (m : Master) (v : Nat)
  /-- R63: A read of TIME_NOW_NS snapshots the seconds words of the counter. -/
  | timeNowNsRead (m : Master)
  /-- R73: A write to TIME_ADJ replaces the slew in progress or is refused as a jump. -/
  | timeAdjWrite (m : Master) (v : Nat)
  /-- R73: The remaining slew reaches zero and the counter returns to its plain rate. -/
  | slewComplete
  /-- R75: A write of TIME_SET_NS in CONFIG loads the counter, clears the slew and clears qualified. -/
  | timeSetCommit (m : Master) (v : Nat)
  /-- R83: A write of TIME_EPOCH_NS commits the epoch, or is refused when QN would be too high. -/
  | timeEpochCommit (m : Master) (v : Nat)
  /-- R72: A PTP message is timestamped and processed by the service, updating the servo offset and path delay. -/
  | ptpMessageReceive (port : Nat) (msg : PtpMsg)
  /-- R69: The PTP service sends an event or general message on queue 7 with timestamp insertion. -/
  | ptpMessageSend (port : Nat) (body : Bytes)
  /-- R72: Sixteen consecutive Sync offsets within 1 µs set TIME_STATUS.qualified. -/
  | timeQualify
  /-- R76: The slave port's announce receipt timeout expires, the port changes state and holdover may begin. -/
  | announceReceiptTimeout (port : Nat) (next : Nat)
  /-- R77: Once per second a following device forms the mean partner offset, adjusts its addend and slews towards the
  partner. -/
  | holdoverFollowSecond
  /-- R79: TIME_HOLDOVER_AGE reaches its limit, qualified clears and a rendering device enters SAFE with FAULT_TIME.
  -/
  | holdoverExpired
  /-- R87: A media synthesiser's phase error stays within ±4 ns for 1 ms and it reports lock. -/
  | synthLock (b : Bool)
  /-- R87: Synthesiser A is out of lock for more than 1 ms and a rendering device enters SAFE with FAULT_CLOCK. -/
  | synthALockLoss
  /-- R87: Synthesiser B loses lock and the master B ports it clocks output zeros and underrun. -/
  | synthBLockLoss
  /-- R89: A write of arm to TIME_PULSE_CTRL arms a pulse output or refuses it, setting missed for a past one-shot.
  -/
  | pulseArm (m : Master) (n : Nat) (v : Nat)
  /-- R89: A scheduled pulse edge time is reached and the pulse ball changes level. -/
  | pulseEdge (n : Nat)
  /-- R92: A write of enable 1 latches an alarm's compare value and arms it. -/
  | alarmEnable (m : Master) (n : Nat) (v : Nat)
  /-- R92: An alarm reaches its PT or QN, sets fired, clears enable and raises TIME_ALARM, waking the device when so
  set. -/
  | timeAlarm (n : Nat)
  /-- R88: Once per second, as nanoseconds wrap, TIME_TICK is raised with the full PT. -/
  | timeTick
  /-- R536: The media edge of a quantum start clears presence bits, posts boundary operands, applies QN-scheduled
  changes and starts departure work. -/
  | quantumStart
  /-- R189: The dispatcher allocates matching-store entries for a quantum and the geometry unit applies records,
  conditions objects and evaluates voices. -/
  | quantumActivation
  /-- R97: A metadata record from a ring or control stream is checked, dropped, or held for its QN. -/
  | metadataRecordReceive (ring : Option Nat) (pcieErr : Bool) (b : Bytes)
  /-- R106: A live object with no applied record for T quanta freezes and raises OBJ_FROZEN. -/
  | objFrozen (o : Nat)
  /-- R104: A crossfaded move or dip ends after its fade quanta and frees its slot. -/
  | moveEnd (o : Nat)
  /-- R151: The geometry unit writes a group's operand block and posts its operand. -/
  | geomOperandPost
  /-- R152: The geometry unit, waiting for a full operand buffer, resumes when a voice-group task frees a block. -/
  | geomPostResume
  /-- R125: A central device receives a loss or restoration report, names an apply QN, sends AVAIL to its partner and
  multicasts a record. -/
  | availReportReceive (output : Nat) (cause : Nat) (available : Bool)
  /-- R126: A device takes an availability record whose seq is newer and schedules its mask. -/
  | availRecordReceive (b : Bytes)
  /-- R190: An operand is posted to a matching-store entry, counted, or dropped as orphan or extra. -/
  | operandPost (side : Nat) (task : Nat) (qn : Nat)
  /-- R195: The dispatcher issues the first eligible ready task or item to a free unit in class order. -/
  | taskDispatch
  /-- R135: The staging unit finishes copying a quantum's samples into the delay-store windows and posts to the voice
  groups. -/
  | windowFillComplete
  /-- R146: A Peony voice-group task finishes its voices, writes back state and posts to its outputs' tasks. -/
  | voiceGroupComplete (engine : Nat) (errors : LaneErrors)
  /-- R178: An edge device takes a swap record from a control stream and schedules the swap. -/
  | swapRecordReceive (b : Bytes)
  /-- R180: Once per sample the routing engine runs its program, applies slot crossfades and gain steps. -/
  | routingPeriod
  /-- R185: No crossing within T samples steps the gain anyway and raises GAIN_ZC_TIMEOUT. -/
  | gainZcTimeout (entry : Nat)
  /-- R198: A write of a task word to DISP_CORE_DONE or DISP_DONE frees the entry and posts onward, or is discarded
  as a mismatch. -/
  | taskDoneWrite (m : Master) (unit : Option Nat) (w : Nat) (code : OutCode)
  /-- R203: A control core's read of DISP_TAKE returns a service task or stalls until one is given. -/
  | take (core : Nat)
  /-- R203: A stalled TAKE reaches DISP_TAKE_TIMEOUT and returns 0xFFFF_FFFF. -/
  | takeTimeout (core : Nat)
  /-- R206: A control-core write of DISP_POST commits an operand post for the named task and QN. -/
  | dispPost (m : Master) (v : Nat)
  /-- R207: A write of DISP_BG_SUBMIT queues a background item or is discarded as full or without affinity. -/
  | dispBgSubmit (m : Master) (v : Nat)
  /-- R208: A write of DISP_CQ_PUSH appends an item to a compatibility queue or is discarded. -/
  | dispCqPush (m : Master) (q : Nat) (v : Nat)
  /-- R193: A write of DISP_MATCH_SEL snapshots the selected matching-store entry. -/
  | dispMatchSelWrite (m : Master) (v : Nat)
  /-- R214: A write of DISP_MATCH_PEAK sets the peak that hardware then raises to higher use. -/
  | dispMatchPeakWrite (m : Master) (v : Nat)
  /-- R247: After the drain the core saves epc and sr, clears lp and pe and enters the switch handler. -/
  | switchEntry (core : Nat)
  /-- R209: A task not complete at its class deadline is marked late, counted and traced. -/
  | taskDeadline (side : Nat) (task : Nat) (qn : Nat)
  /-- R210: At the cutoff a quantum with an incomplete output or correction task is suppressed as late. -/
  | departureCutoff (qn : Nat)
  /-- R211: The eighth consecutive late quantum puts the device into SAFE with FAULT_DEADLINE. -/
  | deadlineFault
  /-- R215: ASTER_CTRL.run going from 0 to 1 resets a core's state and starts it at the runtime entry. -/
  | asterRun (m : Master) (core : Nat) (v : Nat)
  /-- R219: Load/store sub-operation LD.V loads 16 bytes into a vector register. -/
  | ldV (y : Bool) (mode : Nat) (k : Nat) (r : Nat) (b : Bundle)
  /-- R219: Sub-operation ST.V stores a vector register to 16 bytes. -/
  | stV (y : Bool) (mode : Nat) (k : Nat) (r : Nat) (b : Bundle)
  /-- R219: Sub-operation LD.W loads 4 bytes into a scalar register. -/
  | ldW (y : Bool) (mode : Nat) (k : Nat) (r : Nat) (b : Bundle)
  /-- R219: Sub-operation ST.W stores a scalar register to 4 bytes. -/
  | stW (y : Bool) (mode : Nat) (k : Nat) (r : Nat) (b : Bundle)
  /-- R219: Sub-operation LD.B loads 4 bytes into every lane of a vector register. -/
  | ldB (y : Bool) (mode : Nat) (k : Nat) (r : Nat) (b : Bundle)
  /-- R218: A K-format bundle loads a 32-bit immediate into a scalar register. -/
  | li (rd : Nat) (imm : Nat) (b : Bundle)
  /-- R220: MAC op VMUL sets four accumulators to lane products. -/
  | vmul (a : Nat) (va : Nat) (vb : Nat) (b : Bundle)
  /-- R220: MAC op VMAC adds lane products to four accumulators. -/
  | vmac (a : Nat) (va : Nat) (vb : Nat) (b : Bundle)
  /-- R220: MAC op VMSU subtracts lane products from four accumulators. -/
  | vmsu (a : Nat) (va : Nat) (vb : Nat) (b : Bundle)
  /-- R220: MAC op VMACB adds products with lane 0 of vb to four accumulators. -/
  | vmacb (a : Nat) (va : Nat) (vb : Nat) (b : Bundle)
  /-- R220: MAC op VDOT sets one accumulator to a four-lane dot product. -/
  | vdot (a : Nat) (va : Nat) (vb : Nat) (b : Bundle)
  /-- R220: MAC op VDOTA adds a four-lane dot product to one accumulator. -/
  | vdota (a : Nat) (va : Nat) (vb : Nat) (b : Bundle)
  /-- R220: MAC op VCLR clears four accumulators. -/
  | vclr (a : Nat) (va : Nat) (vb : Nat) (b : Bundle)
  /-- R220: MAC op VLDA loads four accumulators from lanes shifted by sr.ash. -/
  | vlda (a : Nat) (va : Nat) (vb : Nat) (b : Bundle)
  /-- R232: MAC op VEXT extracts four accumulators with convergent rounding and saturation. -/
  | vext (a : Nat) (va : Nat) (vb : Nat) (b : Bundle)
  /-- R232: MAC op VEXT.T extracts four accumulators truncating. -/
  | vextT (a : Nat) (va : Nat) (vb : Nat) (b : Bundle)
  /-- R220: MAC op VEXT1 extracts one accumulator into one lane, convergent. -/
  | vext1 (a : Nat) (va : Nat) (vb : Nat) (b : Bundle)
  /-- R220: MAC op VEXT1.T extracts one accumulator into one lane, truncating. -/
  | vext1T (a : Nat) (va : Nat) (vb : Nat) (b : Bundle)
  /-- R220: MAC op VRDA copies an accumulator's 72 bits into vector lanes. -/
  | vrda (a : Nat) (va : Nat) (vb : Nat) (b : Bundle)
  /-- R220: MAC op VWRA writes an accumulator from vector lanes. -/
  | vwra (a : Nat) (va : Nat) (vb : Nat) (b : Bundle)
  /-- R238: MAC op VMAX.IDX keeps the running signed maximum and its index per lane. -/
  | vmaxIdx (a : Nat) (va : Nat) (vb : Nat) (b : Bundle)
  /-- R238: MAC op VMIN.IDX keeps the running signed minimum and its index per lane. -/
  | vminIdx (a : Nat) (va : Nat) (vb : Nat) (b : Bundle)
  /-- R238: MAC op VMAXA.IDX keeps the running largest magnitude and its index per lane. -/
  | vmaxaIdx (a : Nat) (va : Nat) (vb : Nat) (b : Bundle)
  /-- R221: ALU op NOP does nothing. -/
  | aluNop (b : Bundle)
  /-- R221: ALU op MOV copies a scalar register. -/
  | mov (rd : Nat) (ra : Nat) (b : Bundle)
  /-- R221: ALU op ADD adds modulo 2^32. -/
  | add (rd : Nat) (ra : Nat) (b : Bundle)
  /-- R221: ALU op SUB subtracts modulo 2^32. -/
  | sub (rd : Nat) (ra : Nat) (b : Bundle)
  /-- R233: ALU op ADDS adds with saturation. -/
  | adds (rd : Nat) (ra : Nat) (b : Bundle)
  /-- R221: ALU op AND forms the bitwise and. -/
  | and (rd : Nat) (ra : Nat) (b : Bundle)
  /-- R221: ALU op OR forms the bitwise or. -/
  | or (rd : Nat) (ra : Nat) (b : Bundle)
  /-- R221: ALU op XOR forms the bitwise exclusive or. -/
  | xor (rd : Nat) (ra : Nat) (b : Bundle)
  /-- R221: ALU op SLL shifts left by a register amount. -/
  | sll (rd : Nat) (ra : Nat) (b : Bundle)
  /-- R221: ALU op SRL shifts right logically by a register amount. -/
  | srl (rd : Nat) (ra : Nat) (b : Bundle)
  /-- R221: ALU op SRA shifts right arithmetically by a register amount. -/
  | sra (rd : Nat) (ra : Nat) (b : Bundle)
  /-- R221: ALU op MIN takes the signed minimum. -/
  | min (rd : Nat) (ra : Nat) (b : Bundle)
  /-- R221: ALU op MAX takes the signed maximum. -/
  | max (rd : Nat) (ra : Nat) (b : Bundle)
  /-- R221: ALU op MUL keeps the low 32 bits of a product. -/
  | mul (rd : Nat) (ra : Nat) (b : Bundle)
  /-- R221: ALU op MOVP writes a pointer register. -/
  | movp (rd : Nat) (ra : Nat) (b : Bundle)
  /-- R221: ALU op MOVM writes a modifier register. -/
  | movm (rd : Nat) (ra : Nat) (b : Bundle)
  /-- R221: ALU op RDP reads a pointer register. -/
  | rdp (rd : Nat) (ra : Nat) (b : Bundle)
  /-- R221: ALU op RDM reads a modifier register. -/
  | rdm (rd : Nat) (ra : Nat) (b : Bundle)
  /-- R221: ALU op VLANE reads one vector lane into a scalar register. -/
  | vlane (rd : Nat) (ra : Nat) (lane : Nat) (b : Bundle)
  /-- R221: ALU op VINS writes a scalar into one vector lane. -/
  | vins (rd : Nat) (ra : Nat) (lane : Nat) (b : Bundle)
  /-- R221: ALU op VSPLAT writes a scalar into every vector lane. -/
  | vsplat (rd : Nat) (ra : Nat) (b : Bundle)
  /-- R233: ALU op VADDS adds vectors lane-wise with saturation. -/
  | vadds (rd : Nat) (ra : Nat) (b : Bundle)
  /-- R233: ALU op VSUBS subtracts vectors lane-wise with saturation. -/
  | vsubs (rd : Nat) (ra : Nat) (b : Bundle)
  /-- R233: ALU op VABS takes saturated lane magnitudes. -/
  | vabs (rd : Nat) (ra : Nat) (b : Bundle)
  /-- R221: ALU op VMAXV takes lane-wise signed maxima. -/
  | vmaxv (rd : Nat) (ra : Nat) (b : Bundle)
  /-- R221: ALU op VMINV takes lane-wise signed minima. -/
  | vminv (rd : Nat) (ra : Nat) (b : Bundle)
  /-- R239: ALU op VREDMAX reduces lanes to the largest value and its index. -/
  | vredmax (rd : Nat) (ra : Nat) (b : Bundle)
  /-- R239: ALU op VREDMIN reduces lanes to the smallest value and its index. -/
  | vredmin (rd : Nat) (ra : Nat) (b : Bundle)
  /-- R217: ALU op MFS reads a system register. -/
  | mfs (rd : Nat) (ra : Nat) (b : Bundle)
  /-- R217: ALU op MTS writes a system register. -/
  | mts (rd : Nat) (ra : Nat) (b : Bundle)
  /-- R222: Long op ADDI adds a sign-extended immediate. -/
  | addi (rd : Nat) (ra : Nat) (imm : Nat) (b : Bundle)
  /-- R222: Long op ANDI ands a zero-extended immediate. -/
  | andi (rd : Nat) (ra : Nat) (imm : Nat) (b : Bundle)
  /-- R222: Long op ORI ors a zero-extended immediate. -/
  | ori (rd : Nat) (ra : Nat) (imm : Nat) (b : Bundle)
  /-- R222: Long op XORI exclusive-ors a zero-extended immediate. -/
  | xori (rd : Nat) (ra : Nat) (imm : Nat) (b : Bundle)
  /-- R222: Long op SLLI shifts left by an immediate. -/
  | slli (rd : Nat) (ra : Nat) (imm : Nat) (b : Bundle)
  /-- R222: Long op SRLI shifts right logically by an immediate. -/
  | srli (rd : Nat) (ra : Nat) (imm : Nat) (b : Bundle)
  /-- R222: Long op SRAI shifts right arithmetically by an immediate. -/
  | srai (rd : Nat) (ra : Nat) (imm : Nat) (b : Bundle)
  /-- R222: Long op BEQ branches when two registers are equal. -/
  | beq (rd : Nat) (ra : Nat) (imm : Nat) (b : Bundle)
  /-- R222: Long op BNE branches when two registers differ. -/
  | bne (rd : Nat) (ra : Nat) (imm : Nat) (b : Bundle)
  /-- R222: Long op BLT branches on signed less than. -/
  | blt (rd : Nat) (ra : Nat) (imm : Nat) (b : Bundle)
  /-- R222: Long op BGE branches on signed greater or equal. -/
  | bge (rd : Nat) (ra : Nat) (imm : Nat) (b : Bundle)
  /-- R222: Long op BLTU branches on unsigned less than. -/
  | bltu (rd : Nat) (ra : Nat) (imm : Nat) (b : Bundle)
  /-- R222: Long op BGEU branches on unsigned greater or equal. -/
  | bgeu (rd : Nat) (ra : Nat) (imm : Nat) (b : Bundle)
  /-- R222: Long op JMP branches by a signed bundle offset. -/
  | jmp (off : Nat) (b : Bundle)
  /-- R222: Long op JMPR branches to a register address. -/
  | jmpr (ra : Nat) (b : Bundle)
  /-- R222: Long op CALL branches and writes the return address to g31. -/
  | call (off : Nat) (b : Bundle)
  /-- R234: Long op REP repeats the next bundle an immediate count of times. -/
  | rep (count : Nat) (b : Bundle)
  /-- R234: Long op REPR repeats the next bundle a register count of times, clipping at 4,096. -/
  | repr (ra : Nat) (b : Bundle)
  /-- R236: Long op DO opens a hardware loop level with an immediate count. -/
  | loopDo (count : Nat) (ending : Nat) (b : Bundle)
  /-- R236: Long op DOR opens a hardware loop level with a register count. -/
  | dor (rd : Nat) (ending : Nat) (b : Bundle)
  /-- R222: Long op LEAVE closes the innermost loop level. -/
  | leave (b : Bundle)
  /-- R222: Long op SETXI sets the extreme index counter. -/
  | setxi (imm : Nat) (b : Bundle)
  /-- R244: Long op XFER queues a tile transfer described in tile memory. -/
  | xfer (ra : Nat) (b : Bundle)
  /-- R244: A queued tile transfer finishes, retrying bus errors up to three times. -/
  | tileTransferComplete (core : Nat) (resp : BurstResp)
  /-- R245: Long op XWAIT stalls issue until few enough transfers remain outstanding. -/
  | xwait (n : Nat) (b : Bundle)
  /-- R222: Long op DONE writes a task word to DISP_CORE_DONE. -/
  | done (ra : Nat) (b : Bundle)
  /-- R246: Long op IDLE stops issue until a mailbox signal. -/
  | idle (b : Bundle)
  /-- R248: Long op RTI returns to epc and restores sr from esr. -/
  | rti (b : Bundle)
  /-- R251: Long op BRK halts the core for debug in BOOT or CONFIG, or faults otherwise. -/
  | brk (b : Bundle)
  /-- R251: ASTER_DBG_CMD bit 0 halts a core for debug. -/
  | asterDbgHalt (m : Master) (core : Nat)
  /-- R251: ASTER_DBG_CMD bit 1 resumes a halted core. -/
  | asterDbgResume (m : Master) (core : Nat)
  /-- R251: ASTER_DBG_CMD bit 2 steps a halted core by one bundle. -/
  | asterDbgStep (m : Master) (core : Nat)
  /-- R251: A write of ASTER_DBG_DATA sets the selected core register while halted, or is refused. -/
  | asterDbgDataWrite (m : Master) (core : Nat) (v : Nat)
  /-- R261: Lupin completes an output's correction task, writes its bulk line and marks the block complete for
  departure. -/
  | correctionTaskComplete (side : Nat) (output : Nat) (qn : Nat) (ecc : Bool)
  /-- R265: A level 1 to 3 block job becomes due when its input block closes and runs on Lupin. -/
  | levelBlockJob (output : Nat) (level : Nat) (block : Nat)
  /-- R265: A level block job finishes and releases any correction task waiting for it. -/
  | levelBlockJobComplete (output : Nat) (level : Nat) (ecc : Bool)
  /-- R262: At the departure of a quantum each sink reads its bulk line and sends the samples. -/
  | departure
  /-- R270: Lupin finishes loading and transforming an image into the inactive bank and CORR_LOAD completes. -/
  | corrBankLoaded (output : Nat)
  /-- R272: A bank crossfade ends, the new bank is active and CORR_SWAPPED is raised. -/
  | corrSwapped (output : Nat)
  /-- R276: A programme step ends and Zinnia identifies its outputs at every enabled microphone. -/
  | surveyStepEnd (results : List IrResult)
  /-- R276: After the last step and 16,384 samples the device enters CONFIG with cause SURVEY_DONE. -/
  | surveyDone
  /-- R279: A live identification period ends and Zinnia writes impulse responses for its pair group. -/
  | averagingPeriodEnd (results : List IrResult) (descs : List Nat) (designs : List DesignForm)
  /-- R285: A correction design item finishes, writing an image or a failure status. -/
  | designJobComplete (desc : Nat) (mics : Nat) (taps : List Int)
  /-- R284: A design job not finished within 5 s ends with status 0x04. -/
  | designJobTimeout (desc : Nat)
  /-- R286: A partner that does not load a designed image within 100 ms makes the swap complete PAIR_DISAGREE. -/
  | imageLoadTimeout (output : Nat)
  /-- R291: A modulator bit holding one value for 4,096 clocks marks the source stuck. -/
  | decSrcStuck (src : Nat)
  /-- R291: A stuck source shows both values again and its channels restart. -/
  | decSrcOk (src : Nat)
  /-- R298: The first sample of the new configuration is delivered and DEC_CONFIG completes DONE. -/
  | decConfigComplete (ch : Nat)
  /-- R299: The compensation banks swap at the first output of the apply QN and DEC_SWAPPED is raised. -/
  | decSwapped (ch : Nat)
  /-- R294: A write of DEC_COEF_DATA stores a coefficient in the inactive bank and advances the tap. -/
  | decCoefDataWrite (m : Master) (v : Nat)
  /-- R292: A write of a channel configuration register is checked and starts or switches the channel. -/
  | decChCfgWrite (m : Master) (ch : Nat) (word : Nat) (v : Nat)
  /-- R301: When 32 samples of every member channel are delivered a capture stream writes a block or drops it. -/
  | captureBlockWrite (stream : Nat) (entries : List Bytes) (pcieErr : Bool)
  /-- R314: A timed diagnostics step ends, judging its fault condition and moving to the next step or ending the run.
  -/
  | diagStepEnd (ch : Nat) (node : Nat) (limit : Bool) (z : Option Nat)
  /-- R309: A common-mode ramp reaches its end and the channel plays or drives its gates low. -/
  | cmRampEnd (ch : Nat)
  /-- R317: The current-sense input crosses the limit and the conducting phase ends. -/
  | currentLimitCrossing (x : LimitCrossing)
  /-- R318: The limit acts in 64 consecutive cycles and the channel latches OVERCURRENT. -/
  | drvOvercurrent (ch : Nat)
  /-- R313: A rail below its threshold for 10 ms latches every playing channel on it. -/
  | railUv (rail : Nat)
  /-- R313: DRV_PSFAULT_N held low for 1 µs latches every channel on its rail. -/
  | stageFaultInput (rail : Nat)
  /-- R308: A channel's switching phase stays within ±5° for 1 ms and it is locked. -/
  | staggerLock (ch : Nat)
  /-- R308: A channel idling 100 ms without lock sets unlock_seen and raises DRV_UNLOCK. -/
  | drvUnlock (ch : Nat)
  /-- R321: The retry delay after a latch passes and an automatic retry diagnostics run starts. -/
  | retryDelayExpiry (ch : Nat)
  /-- R321: A rail reads above threshold with PSFAULT high for 100 ms and retries may start. -/
  | railRecovered (rail : Nat)
  /-- R325: A write of DRV_CH_CFG or DRV_RAIL_CFG is checked against ranges, pairings and the rail rule. -/
  | drvChCfgWrite (m : Master) (rail : Bool) (n : Nat) (v : Nat)
  /-- R340: APORT_CTRL.enable written 1 starts a port, each slot waiting for its zero crossing. -/
  | aportEnable (m : Master) (port : Nat) (v : Nat)
  /-- R341: APORT_CTRL.enable written 0 stops a port, each slot silencing at its zero crossing. -/
  | aportDisable (m : Master) (port : Nat) (v : Nat)
  /-- R327: A write of APORT_CFG is checked against roles, clock limits and formats, or refused. -/
  | aportCfgWrite (m : Master) (port : Nat) (v : Nat)
  /-- R338: A write of a receive or transmit mask is held for the next frame start. -/
  | slotMaskWrite (m : Master) (port : Nat) (dir : Nat) (v : Nat)
  /-- R338: A written slot mask comes into force at the next frame start. -/
  | slotMaskLatch (port : Nat)
  /-- R330: A master port starts a frame, sending the data of its domain sample or underrunning. -/
  | frameStart (port : Nat) (line : List Bool)
  /-- R333: A slave or locked-slave port receives a frame and checks its period, bit count and alignment. -/
  | rxFrame (port : Nat) (seen : SerialSeen) (offset : Int) (bitClocks : Nat) (ppm : Int)
  /-- R333: No frame start arrives within 1.5 periods and a missing frame delivers zeros. -/
  | missingFrame (port : Nat)
  /-- R332: Sixteen consecutive aligned frames set APORT_STATUS.aligned. -/
  | portAligned (port : Nat)
  /-- R333: After 100 ms of frames passing the period check a port is no longer unlocked. -/
  | periodFaultClear (port : Nat)
  /-- R335: A converter's ratio stays within ±2 ppm for 100 ms and it locks. -/
  | aportAsrcLock (port : Nat) (ratio : Nat)
  /-- R335: A converter loses lock and raises APORT_ASRC_UNLOCK. -/
  | aportAsrcUnlock (port : Nat)
  /-- R340: A slot start or stop finds no crossing within T samples and switches at sample T. -/
  | aportZcTimeout (port : Nat) (dir : Nat) (slot : Nat)
  /-- R341: With every slot silent and one further frame passed a master port stops its clocks. -/
  | portClocksStop (port : Nat)
  /-- R344: An insertion edge on LSN_DET starts the debounce of accessory detection. -/
  | listenInsertion
  /-- R344: A timed detection step ends, judging the accessory or moving to the next test. -/
  | listenDetectStep (reading : Nat)
  /-- R345: A removal edge mutes the outputs, removes bias and raises LISTEN_UNPLUG. -/
  | listenUnplug
  /-- R346: R_line stays in or out of a button window for 20 ms and a press or release is raised. -/
  | listenButton (line : LineSeen)
  /-- R346: Fifty milliseconds after a button release the microphone source reads again. -/
  | micGateEnd
  /-- R347: Headphone current above 150 mA for 1 ms mutes both outputs. -/
  | listenHpFault
  /-- R351: A link goes down, queued frames are discarded and NET_LINK_DOWN raised. -/
  | netLinkDown (port : Nat)
  /-- R351: A link comes up, PCS latency reloads and NET_LINK_UP raised. -/
  | netLinkUp (port : Nat)
  /-- R352: An Ethernet frame is filtered, checked and buffered or dropped and counted. -/
  | frameReceive (port : Nat) (frame : Bytes) (check : MacCheck) (mPacket : Bool) (shared : Nat) (reserved : Nat)
  /-- R355: A control-stream datagram is checked and its availability, swap and metadata records are taken. -/
  | controlDatagramReceive (ip : Nat) (csumOk : Bool) (port : Nat) (b : Bytes)
  /-- R356: Every 10 ms the per-port control-frame allowance restarts. -/
  | controlRateWindow (port : Nat)
  /-- R358: Buffer occupancy rises to NET_PAUSE_HI and a PAUSE is sent. -/
  | pauseHighWatermark (port : Nat)
  /-- R358: Half the pause time elapses with occupancy above the low mark and the PAUSE is repeated. -/
  | pauseRepeat (port : Nat)
  /-- R358: Occupancy falls to NET_PAUSE_LO and a zero PAUSE is sent. -/
  | pauseLowWatermark (port : Nat)
  /-- R358: A received PAUSE holds every queue for its time or is counted and ignored. -/
  | pauseReceive (port : Nat) (quanta : Nat)
  /-- R358: The time of a received PAUSE elapses and transmission resumes. -/
  | pauseExpiry (port : Nat)
  /-- R354: A verify mPacket attempt of IEEE 802.3br is answered or times out after verify_ms. -/
  | preemptionVerify (port : Nat) (answered : Bool)
  /-- R364: At its send time a stream packet joins queue 5 of each leg, or is suppressed. -/
  | streamPacketSend (context : Nat) (packet : Nat)
  /-- R365: A packet not begun within NET_LAUNCH_LIMIT of its send time is discarded as late. -/
  | launchLimitExpiry (port : Nat)
  /-- R370: A stream packet is matched, de-duplicated and written to staging or dropped as late, early or duplicate.
  -/
  | streamPacketReceive (packet : RxPacket)
  /-- R377: A write of NET_STREAM_SEL snapshots a context and clears its counters. -/
  | netStreamSelWrite (m : Master) (v : Nat)
  /-- R378: When the pairing conditions hold device 0 sends a FORM record naming the QN of formation. -/
  | pairForm
  /-- R395: Every millisecond each device sends a heartbeat with digests on each path and resends unacknowledged
  records. -/
  | heartbeatSend
  /-- R392: A pair frame is checked and its records are taken, merged, acknowledged or skipped. -/
  | pairFrameReceive (path : Nat) (b : Bytes)
  /-- R399: No partner entry arrives within 4 ms of the own digest and that QN is left uncompared. -/
  | digestWaitExpiry (qn : Nat)
  /-- R388: The partner's presence is missing after PAIR_PRES_WAIT and the fill proceeds solo. -/
  | presWaitExpiry (qn : Nat)
  /-- R400: No heartbeat on one path within 1.5 ms marks a path fault. -/
  | pairPathFault (path : Nat)
  /-- R400: Ten consecutive heartbeats on a faulted path raise PAIR_PATH_OK. -/
  | pairPathOk (path : Nat)
  /-- R400: No heartbeat on either path for 3 ms puts the device in ALONE and cancels proposals. -/
  | partnerLost
  /-- R401: One second after a divergence with no fault held, device 1 begins PAIR_RESYNC. -/
  | autoResync
  /-- R405: A join phase's transfer ends and the next phase of the join begins. -/
  | joinPhaseAdvance (copy : Machine.JoinCopy)
  /-- R406: A join fails and the joiner enters CONFIG with cause JOIN_FAILED. -/
  | pairJoinFailed
  /-- R408: Every 10 ms device 0 measures pair-link load and may decide to shed or restore lanes. -/
  | laneLoadWindow (load : Nat)
  /-- R408: At the named PT both devices switch lane state and raise PAIR_LANE. -/
  | pairLane
  /-- R409: Lane training fails or block lock is lost for 1 ms and the link moves to L1. -/
  | pairLaneFail
  /-- R409: One second after a lane failure the link retries L4 while load calls for it. -/
  | laneRetry (load : Nat)
  /-- R415: A doorbell write advances a ring's host index, halts it on error, or is stored while disabled. -/
  | doorbellWrite (offset : Nat) (v : BarWrite)
  /-- R418: A write of RING_CFG configures, enables from RING_HOST_IDX, or stops a ring. -/
  | ringCfgWrite (m : Master) (ring : Nat) (v : Nat)
  /-- R412: A Function Level Reset, hot reset or link-down disables every ring and clears HOSTIF ring registers. -/
  | hostLinkReset (linkDown : Bool)
  /-- R422: RING_MOD time passes since an unsignalled entry and the ring's vector signals. -/
  | interruptModerationExpiry (ring : Nat)
  /-- R420: The device fetches a host audio entry and moves its buffer to or from staging or a port block. -/
  | hostAudioFetch (ring : Nat) (entry : Bytes) (buf : Bytes) (pcieErr : Bool)
  /-- R434: A HELLO message is answered with a CHALLENGE or ignored. -/
  | sessionHello (port : Nat) (ip : Nat) (b : Bytes)
  /-- R434: A PROVE message is verified, deriving the session key and opening the session. -/
  | sessionProve (port : Nat) (ip : Nat) (b : Bytes)
  /-- R435: A session COMMAND message is accepted and run, or a replay is answered with the cached completion. -/
  | sessionCommand (port : Nat) (ip : Nat) (b : Bytes)
  /-- R437: A DATA message writes bytes into the session's staging area. -/
  | sessionData (port : Nat) (ip : Nat) (b : Bytes)
  /-- R433: A KEEPALIVE message is accepted and keeps the session open. -/
  | sessionKeepalive (port : Nat) (ip : Nat) (b : Bytes)
  /-- R436: A CLOSE message closes the session and raises SESSION_CLOSED. -/
  | sessionClose (port : Nat) (ip : Nat) (b : Bytes)
  /-- R436: A session with no accepted message for 10 s closes. -/
  | sessionIdleTimeout (slot : Nat)
  /-- R434: Sixty seconds after eight failures from an address HELLO from it is accepted again. -/
  | helloBanExpiry (ip : Nat)
  /-- R440: Programming and readback of a record end, it enters the index and SCENE_COMMITTED is raised. -/
  | sceneCommitted (ok : Bool)
  /-- R444: At the first entry into CONFIG after boot the firmware applies standing autoload records by kind. -/
  | autoload
  /-- R444: Every 100 ms a refused start-up SET_MODE is issued again. -/
  | autoloadSetModeRetry
  /-- R469: A matrix request has no answer within MATRIX_TIMEOUT and receives a timeout error. -/
  | matrixTimeout (master : Nat) (target : Nat) (a : Nat) (write : Bool) (late : Bool)
  /-- R455: Every 32 ms all activate counts of the row-protection tables clear. -/
  | rowActivateWindowEnd (acts : List (Nat × Nat × Nat))
  /-- R456: The retrain interval or a temperature change starts a retrain of one channel. -/
  | dramRetrain (ch : Nat) (temp : Nat)
  /-- R456: A channel retrain ends and waiting requests proceed. -/
  | dramRetrainEnd (ch : Nat)
  /-- R459: Each scrub period the scrubber reads and corrects the SRAM regions. -/
  | sramScrubPeriod (hits : List ScrubHit)
  /-- R463: A vault wipe ends and VAULT_WIPED is raised with its cause. -/
  | vaultWiped
  /-- R473: A write of DMA_CH_PROD posts descriptors to a channel or halts it on a bad index. -/
  | dmaChProdWrite (m : Master) (ch : Nat) (v : Nat)
  /-- R478: DMA_CH_CTRL.stop stops a channel at the next descriptor boundary. -/
  | dmaStop (m : Master) (ch : Nat) (v : Nat)
  /-- R478: DMA_CH_CTRL.abort ends a channel's transfers and marks its descriptor aborted. -/
  | dmaAbort (m : Master) (ch : Nat) (v : Nat)
  /-- R478: DMA_CH_CTRL.resume continues a stopped channel or reruns a halted descriptor. -/
  | dmaResume (m : Master) (ch : Nat) (v : Nat)
  /-- R478: DMA_CH_CTRL.skip abandons a halted channel's entry and advances the consumer index. -/
  | dmaSkip (m : Master) (ch : Nat) (v : Nat)
  /-- R477: A channel checks a chain and fetches its next descriptor, halting on loops or malformed fields. -/
  | dmaDescriptorFetch (ch : Nat) (host : Bytes) (resp : BurstResp)
  /-- R475: A DMA burst's response arrives, completing it or starting a retry or halt. -/
  | dmaBurstResponse (ch : Nat) (resp : BurstResp) (host : Bytes)
  /-- R473: A ring entry ends; its status is written and the consumer index written back. -/
  | dmaEntryComplete (ch : Nat)
  /-- R484: An enabled wake cause in Stop starts the wake sequence into CONFIG or BOOT. -/
  | wake (cause : Nat)
  /-- R485: PGOOD_CORE not high 10 ms after the AVSBus write fails the attempt and retries or leaves FAULT_N low. -/
  | wakeAttemptFail
  /-- R484: A timed stage of the wake sequence completes and the next begins. -/
  | wakeStepComplete
  /-- R496: REFCLK shows no edge or runs out of bounds; AON falls back and Run enters SAFE with FAULT_CLOCK. -/
  | refclkLost
  /-- R496: REFCLK has been within bounds for 100 ms and qualifies again. -/
  | refclkOk
  /-- R486: After 1 s without REFCLK at wake FAULT_N is driven low with code 0x01. -/
  | refclkAbsentAlarm
  /-- R495: Every 10 µs each clock count is compared and two bad windows are a clock failure. -/
  | clockCheckWindow (counts : List Nat)
  /-- R489: The VDD_CORE readback reaches the target and a held frequency step or lowering completion proceeds. -/
  | voltageArrival (mv : Nat)
  /-- R492: Ten milliseconds after A without the raise voltage the device enters SAFE with FAULT_SUPPLY. -/
  | dvfsSupplyFault
  /-- R492: A lowering's voltage is not reached within PWR_AVS_TIMEOUT and the command completes TIMEOUT. -/
  | avsTimeout
  /-- R494: The junction reading rises through PWR_THERM_WARN and THERMAL_WARN is raised. -/
  | thermalWarn (temp : Int)
  /-- R494: The junction exceeds 118 °C and FAULT_THERMAL is recorded. -/
  | thermalFault (temp : Int)
  /-- R494: PGOOD_CORE low for 1 µs in Run records FAULT_SUPPLY. -/
  | pgoodCoreLow
  /-- R522: A monitored supply leaves regulation and the device holds itself in reset. -/
  | supplyMonitorLoss
  /-- R497: VDD_AON rises and the device resets into BOOT, clearing always-on registers. -/
  | powerOnReset
  /-- R497: RESET_N held low for 1 µs resets the device into BOOT. -/
  | resetNAssert
  /-- R497: PWR_WDT not serviced within PWR_WDT_TIMEOUT resets the device. -/
  | watchdogExpiry
  /-- R497: A debug-port reset in MANUFACTURE or RETURNED resets the device. -/
  | debugReset
  /-- R497: A write of 0x0000_A55A to PWR_WDT restarts the watchdog. -/
  | pwrWdtWrite (m : Master) (v : Nat)
  /-- R500: A boot step finishes and the next begins, or it fails with a code and retries or stops. -/
  | bootStepComplete (seen : BootSeen)
  /-- R500: One second after every candidate fails authentication the boot repeats from step 2. -/
  | bootRetry
  /-- R501: A write of SEC_SVN_COMMIT raises the fused security version or is refused. -/
  | secSvnCommit (m : Master) (v : Nat)
  /-- R509: A write of SEC_LC_REQ requests the next life-cycle state, blowing its fuse and wiping the vault. -/
  | secLcReq (m : Master) (v : Nat)
  /-- R511: A tamper source acts; the vault is wiped, sessions close and a rendering device enters SAFE with
  FAULT_TAMPER. -/
  | tamper (cause : Nat) (levels : Nat) (detectors : Nat)
  /-- R504: Every 24 h of Run with auto set an ageing measurement starts. -/
  | ageDailyMeasure
  /-- R505: An ageing measurement ends, offsets are re-planned and AGE_MEASURE completes. -/
  | ageMeasureComplete (paths : List Nat) (vmin : List Nat) (lanes : List (Nat × Nat))
  /-- R534: PERIPH_FLASH_CMD 0x01 programs up to one page of the flash part. -/
  | flashProgram (m : Master)
  /-- R534: PERIPH_FLASH_CMD 0x02 erases a 4 KiB sector. -/
  | flashEraseSector (m : Master)
  /-- R534: PERIPH_FLASH_CMD 0x03 erases a 64 KiB block. -/
  | flashEraseBlock (m : Master)
  /-- R534: PERIPH_FLASH_CMD 0x04 reads the flash status. -/
  | flashReadStatus (m : Master)
  /-- R534: A flash program or erase ends and its verify sets flash_err on failure. -/
  | flashOperationComplete (verified : Bool)
  /-- R534: A write of PERIPH_I2C_CMD starts an I²C transfer. -/
  | i2cTransfer (m : Master) (n : Nat) (v : Nat)
  /-- R534: An I²C transfer ends with done, nack or arbitration loss. -/
  | i2cTransferComplete (n : Nat) (result : Nat) (data : Bytes)
  /-- R534: SCL held low for 25 ms ends an I²C transfer with timeout. -/
  | i2cTimeout (n : Nat)
  /-- R534: A write of PERIPH_UART_TX queues a byte or sets tx_full. -/
  | uartTxWrite (m : Master) (v : Nat)
  /-- R534: A write of PERIPH_UART_RX_POP removes the oldest received byte. -/
  | uartRxPop (m : Master) (v : Nat)
  /-- R534: A byte received on UART_RX enters the receive FIFO or sets overrun or framing error. -/
  | uartRxByte (b : Byte) (stopOk : Bool)
  /-- R534: Every 10 ms with telemetry enabled the PMBus master reads the core regulator. -/
  | pmbTelemetryPoll (vout : Nat) (iout : Nat) (temp : Nat) (nack : Bool) (pec : Bool) (alert : Bool)
  /-- R521: The release of RESET_N with supplies in regulation (T0) starts boot step 1. -/
  | resetNRelease
  /-- R522: A monitored supply that left regulation has been back in regulation for 1 ms and the device leaves the
  reset it held. -/
  | supplyRestored
  /-- R494: The junction reading falls 2 °C below PWR_THERM_WARN and the warning arms again. -/
  | thermalWarnRearm (temp : Int)
  /-- R354: A frame finishes transmission on a port and the head of the highest non-empty queue is sent next. -/
  | txFrameBoundary (port : Nat) (preempts : Bool)
  /-- R243: The write of a plan into the free Aster code and data banks ends, so the bank counts as written for a
  swap. -/
  | codeBankWritten
  /-- R295: A decimator channel computes and delivers an output sample on its modulator clock, updating its latest
  sample and settle count. -/
  | decimatorSampleDelivered (ch : Nat) (given : List Bool)
  /-- R412: The PCI Express link trains up again after a hot reset or link-down and HOSTIF_STATUS.link_up is set. -/
  | pcieLinkUp (gen : Nat) (width : Nat)
deriving DecidableEq, Repr

end Sys2Proof
end

