-- ==== Sys2Proof/Decode.lean ====
section
/-!
DEFINITION. Commands that a word of the opcode table spells.
-/

namespace Sys2Proof

/-- The command that a table word spells: none, since every row of the opcode table has no bits. (The 64-byte entry of a
command, R424, is read by `Machine.entryCmd`, an Aster bundle, R218, by `Machine.decodeBundle`.) -/
def decodeTableWord (_nbits _w : Nat) : Option Instr := none

end Sys2Proof
end

