-- ==== Sys2Proof/Machine/Ops.lean ====
section
/-!
DEFINITION. The named operations over stores, bits, integers and byte strings that every meaning is written with.
-/

namespace Sys2Proof.Machine

/-! ### Sparse stores in canonical form -/

/-- What a store holds at a key; an unlisted key holds `dflt`. -/
def fget {α : Type} (dflt : α) (m : FMap α) (k : Nat) : α :=
  match m with
  | [] => dflt
  | (j, v) :: rest => if j = k then v else fget dflt rest k

/-- The entry listed at a key, if any. -/
def fget? {α : Type} (m : FMap α) (k : Nat) : Option α :=
  match m with
  | [] => none
  | (j, v) :: rest => if j = k then some v else fget? rest k

/-- Removes the entry at a key. -/
def ferase {α : Type} (m : FMap α) (k : Nat) : FMap α :=
  match m with
  | [] => []
  | (j, v) :: rest => if j = k then ferase rest k else (j, v) :: ferase rest k

/-- Lists `v` at `k`, keeping the keys rising. -/
def fins {α : Type} (m : FMap α) (k : Nat) (v : α) : FMap α :=
  match m with
  | [] => [(k, v)]
  | (j, w) :: rest =>
    if k < j then (k, v) :: (j, w) :: rest
    else if j = k then (k, v) :: rest
    else (j, w) :: fins rest k v

/-- Stores `v` at `k`; storing the default removes the entry, so that equal stores are equal data. -/
def fput {α : Type} [DecidableEq α] (dflt : α) (m : FMap α) (k : Nat) (v : α) : FMap α :=
  if v = dflt then ferase m k else fins m k v

/-- Changes the value at a key. -/
def fupd {α : Type} [DecidableEq α] (dflt : α) (m : FMap α) (k : Nat) (f : α → α) : FMap α :=
  fput dflt m k (f (fget dflt m k))

/-- The keys of a store rise strictly from above `lo` and no entry equals the default. -/
def fwfFrom {α : Type} [DecidableEq α] (dflt : α) (lo : Nat) (m : FMap α) : Bool :=
  match m with
  | [] => true
  | (k, v) :: rest => decide (lo ≤ k) && decide (v ≠ dflt) && fwfFrom dflt (k + 1) rest

/-- The canonical form of a store. -/
def fwf {α : Type} [DecidableEq α] (dflt : α) (m : FMap α) : Bool :=
  fwfFrom dflt 0 m

/-! ### Folding over index ranges -/

/-- `f (n-1) (... (f 0 s))`: the indices 0 to n − 1 in rising order. -/
def forN {σ : Type} (n : Nat) (f : Nat → σ → σ) (s : σ) : σ :=
  match n with
  | 0 => s
  | k + 1 => f k (forN k f s)

/-- `f` over a list in order, threading the state. -/
def forL {α σ : Type} (l : List α) (f : α → σ → σ) (s : σ) : σ :=
  l.foldl (fun acc a => f a acc) s

/-- The sum of `f` over the indices 0 to n − 1. -/
def sumN (n : Nat) (f : Nat → Int) : Int :=
  forN n (fun k acc => acc + f k) 0

/-! ### Bits and numbers -/

/-- Bits [hi:lo] of a number. -/
def bits (v hi lo : Nat) : Nat :=
  (v >>> lo) % 2 ^ (hi + 1 - lo)

/-- `v` with bits [hi:lo] replaced by `x`. -/
def setBits (v hi lo x : Nat) : Nat :=
  v - (bits v hi lo) * 2 ^ lo + (x % 2 ^ (hi + 1 - lo)) * 2 ^ lo

/-- 1 for true, 0 for false. -/
def b2n (b : Bool) : Nat := if b then 1 else 0

/-- The low `w` bits read as two's complement. -/
def sext (w v : Nat) : Int :=
  let u := v % 2 ^ w
  if u < 2 ^ (w - 1) then (u : Int) else (u : Int) - (2 ^ w : Nat)

/-- The low `w` bits of an integer in two's complement. -/
def wrapN (w : Nat) (i : Int) : Nat := (i % ((2 ^ w : Nat) : Int)).toNat

/-- Saturation to `w` bits of two's complement. -/
def satI (w : Nat) (i : Int) : Int :=
  let hi : Int := ((2 ^ (w - 1) : Nat) : Int) - 1
  let lo : Int := -((2 ^ (w - 1) : Nat) : Int)
  if i > hi then hi else if i < lo then lo else i

/-- Does `i` fall outside `w` bits of two's complement? -/
def satOvf (w : Nat) (i : Int) : Bool := decide (satI w i ≠ i)

/-- Clamp to a closed range. -/
def clampI (lo hi i : Int) : Int := if i < lo then lo else if i > hi then hi else i

/-- Clamp of naturals. -/
def clampN (lo hi i : Nat) : Nat := if i < lo then lo else if i > hi then hi else i

/-- Convergent rounding of i / 2ⁿ: to nearest, ties to even (R7). -/
def rndEven (i : Int) (n : Nat) : Int :=
  if n = 0 then i else
  let d : Int := ((2 ^ n : Nat) : Int)
  let q := i / d
  let r := i % d
  let h := ((2 ^ (n - 1) : Nat) : Int)
  if r > h then q + 1 else if r < h then q else if q % 2 = 0 then q else q + 1

/-- a / b to the nearest integer, ties to even; b > 0. -/
def divEven (a b : Int) : Int :=
  let q := a / b
  let r := a % b
  if 2 * r > b then q + 1 else if 2 * r < b then q else if q % 2 = 0 then q else q + 1

/-- a / b to the nearest integer, ties away from zero towards plus infinity; b > 0. -/
def divHalfUp (a b : Int) : Int := (2 * a + b) / (2 * b)

/-- Ceiling of a / b. -/
def ceilDiv (a b : Nat) : Nat := (a + b - 1) / b

/-- Integer square root (floor), `fuel` Newton steps from above. -/
def isqrtGo (fuel n x : Nat) : Nat :=
  match fuel with
  | 0 => x
  | k + 1 =>
    let y := (x + n / x) / 2
    if y < x then isqrtGo k n y else x

/-- The largest r with r² ≤ n. -/
def isqrt (n : Nat) : Nat :=
  if n = 0 then 0 else isqrtGo (n.log2 + 8) n (2 ^ (n.log2 / 2 + 1))

/-- Is s newer than r, modulo 2ʷ (R535)? -/
def seqNewer (w s r : Nat) : Bool :=
  let dlt := (s + 2 ^ w - r % 2 ^ w) % 2 ^ w
  decide (1 ≤ dlt) && decide (dlt ≤ 2 ^ (w - 1) - 1)

/-- The difference a − b modulo 2ʷ. -/
def subMod (w a b : Nat) : Nat := (a % 2 ^ w + 2 ^ w - b % 2 ^ w) % 2 ^ w

/-- Saturating count of 32 bits (R17). -/
def satInc (v n : Nat) : Nat := min (v + n) 0xFFFFFFFF

/-- Is n a power of two? -/
def isPow2 (n : Nat) : Bool := decide (n ≠ 0) && decide (n = 2 ^ n.log2)

/-- The number of set bits among the low `n`. -/
def popcount (n v : Nat) : Nat := forN n (fun i acc => acc + b2n (v.testBit i)) 0

/-- The indices of set bits among the low `n`, rising. -/
def setIdx (n v : Nat) : List Nat := (List.range n).filter (fun i => v.testBit i)

/-- Bit-reversal of the low `n` bits. -/
def bitRev (n v : Nat) : Nat := forN n (fun i acc => 2 * acc + b2n (v.testBit i)) 0

/-! ### Byte strings -/

/-- A number of bytes, little-endian (R3). -/
def leBytes (n v : Nat) : Bytes :=
  match n with
  | 0 => []
  | k + 1 => BitVec.ofNat 8 v :: leBytes k (v / 256)

/-- A number of bytes in network byte order (R3). -/
def beBytes (n v : Nat) : Bytes := (leBytes n v).reverse

/-- The number that little-endian bytes spell. -/
def leVal (bs : Bytes) : Nat :=
  match bs with
  | [] => 0
  | b :: rest => b.toNat + 256 * leVal rest

/-- The number that big-endian bytes spell. -/
def beVal (bs : Bytes) : Nat := leVal bs.reverse

/-- `n` bytes from offset `off`; fewer when the string ends. -/
def slice (bs : Bytes) (off n : Nat) : Bytes := (bs.drop off).take n

/-- Little-endian field of `n` bytes at `off`. -/
def leAt (bs : Bytes) (off n : Nat) : Nat := leVal (slice bs off n)

/-- Network-order field of `n` bytes at `off`. -/
def beAt (bs : Bytes) (off n : Nat) : Nat := beVal (slice bs off n)

/-- `n` zero bytes. -/
def zeros (n : Nat) : Bytes := List.replicate n 0

/-- Are the bytes from `off` for `n` all zero (and present)? -/
def zeroAt (bs : Bytes) (off n : Nat) : Bool := decide (slice bs off n = zeros n)

/-- The string padded with zeros, or cut, to `n` bytes. -/
def padTo (n : Nat) (bs : Bytes) : Bytes := (bs ++ zeros (n - bs.length)).take n

/-- A signed number of `n` bytes, little-endian. -/
def leInt (n : Nat) (i : Int) : Bytes := leBytes n (wrapN (8 * n) i)

/-- Bitwise exclusive or of two byte strings. -/
def xorBytes (a b : Bytes) : Bytes := List.zipWith (fun x y => x ^^^ y) a b

/-! ### Checks -/

/-- Reflected CRC over one byte: eight shifts with polynomial `poly`. -/
def crcByte (poly : Nat) (crc : Nat) (b : Byte) : Nat :=
  forN 8 (fun _ c => if c % 2 = 1 then (c / 2) ^^^ poly else c / 2) (crc ^^^ b.toNat)

/-- CRC-32C: reflected polynomial 0x82F6_3B78, initial and final value all ones. -/
def crc32c (bs : Bytes) : Nat :=
  (bs.foldl (crcByte 0x82F63B78) 0xFFFFFFFF) ^^^ 0xFFFFFFFF

/-- The frame check sequence of IEEE 802.3: reflected polynomial 0xEDB8_8320, initial and final value all ones. -/
def crc32 (bs : Bytes) : Nat :=
  (bs.foldl (crcByte 0xEDB88320) 0xFFFFFFFF) ^^^ 0xFFFFFFFF

/-- The Internet checksum's one's-complement sum over 16-bit network-order words. -/
def onesSum (bs : Bytes) : Nat :=
  match bs with
  | [] => 0
  | [a] => a.toNat * 256
  | a :: b :: rest =>
    let s := onesSum rest + a.toNat * 256 + b.toNat
    s % 65536 + s / 65536

end Sys2Proof.Machine
end

