-- ==== Sys2Proof/Machine/Real.lean ====
section
/-!
DEFINITION. Real functions evaluated closely enough to round them once (R109, R116, R143, R266, R538), and IEEE 754
binary64 arithmetic with round-to-nearest (R111, R119, R276, R283). A real is an integer scaled by 2²⁵⁶.
-/

namespace Sys2Proof.Machine

/-- Bits of the fixed-point fraction. -/
abbrev fixP : Nat := 256

/-- One. -/
def fixOne : Int := ((2 ^ fixP : Nat) : Int)

/-- Product. -/
def fmul (a b : Int) : Int := a * b / fixOne

/-- Quotient. -/
def fdiv (a b : Int) : Int := if b = 0 then 0 else a * fixOne / b

/-- A rational number. -/
def fixRat (n : Int) (d : Nat) : Int := n * fixOne / (d : Int)

/-- Square root of a number that is not negative. -/
def fsqrt (a : Int) : Int := (isqrt (a.toNat * 2 ^ fixP) : Nat)

/-- The sum of a power series: each term is the one before times `x` times `num k` over `den k`. -/
def fseries (n : Nat) (x first : Int) (ratio : Nat → Int × Int) : Int :=
  (forN n (fun k (acc : Int × Int) =>
    let r := ratio k
    let t := fmul acc.2 x * r.1 / r.2
    (acc.1 + t, t)) (first, first)).1

/-- arctan(1/n) by its series. -/
def fatanInv (n : Nat) : Int :=
  sumN 120 (fun k =>
    let t := fixOne / (((n ^ (2 * k + 1)) * (2 * k + 1) : Nat) : Int)
    if k % 2 = 0 then t else -t)

/-- π by Machin's formula. -/
def fpi : Int := 4 * (4 * fatanInv 5 - fatanInv 239)

/-- ln of a number in [1, 2) by the series of artanh. -/
def flnMant (m : Int) : Int :=
  let z := fdiv (m - fixOne) (m + fixOne)
  let z2 := fmul z z
  let s := (forN 90 (fun k (acc : Int × Int) =>
    (acc.1 + acc.2 / ((2 * k + 1 : Nat) : Int), fmul acc.2 z2)) (0, z)).1
  2 * s

/-- ln 2. -/
def fln2 : Int := 2 * (forN 90 (fun k (acc : Int × Int) =>
    (acc.1 + acc.2 / ((2 * k + 1 : Nat) : Int), acc.2 / 9)) (0, fixOne / 3)).1

/-- Natural logarithm of a positive number. -/
def fln (a : Int) : Int :=
  let e : Int := (a.toNat.log2 : Int) - fixP
  let m := if e ≥ 0 then a / ((2 ^ e.toNat : Nat) : Int) else a * ((2 ^ (-e).toNat : Nat) : Int)
  e * fln2 + flnMant m

/-- Exponential. -/
def fexp (x : Int) : Int :=
  let k := x / fln2
  let r := x - k * fln2
  let s := fseries 70 r fixOne (fun i => (1, ((i + 1 : Nat) : Int)))
  if k ≥ 0 then s * ((2 ^ k.toNat : Nat) : Int) else s / ((2 ^ (-k).toNat : Nat) : Int)

/-- Cosine. -/
def fcos (x : Int) : Int :=
  let tp := 2 * fpi
  let y := x % tp
  let y2 := fmul y y
  fseries 60 y2 fixOne (fun i => (-1, (((2 * i + 1) * (2 * i + 2) : Nat) : Int)))

/-- Sine. -/
def fsin (x : Int) : Int := fcos (fpi / 2 - x)

/-- The modified Bessel function I₀ of a number given by its square. -/
def fbesselI0 (xsq : Int) : Int :=
  let q := xsq / 4
  fseries 80 q fixOne (fun i => (1, (((i + 1) * (i + 1) : Nat) : Int)))

/-- Rounds a real times 2ⁿ to the nearest integer, ties to even. -/
def fround (n : Nat) (a : Int) : Int := rndEven a (fixP - n)

/-! ### binary64: a pair (m, e) stands for m × 2ᵉ with |m| below 2⁵³ -/

/-- A binary64 value. -/
abbrev B64 := Int × Int

/-- The binary64 value nearest to n / d, ties to even. -/
def b64Rat (n : Int) (d : Nat) : B64 :=
  if n = 0 ∨ d = 0 then (0, 0) else
  let a := n.natAbs
  let e : Int := (a.log2 : Int) - (d.log2 : Int) - 54
  let scaled (e : Int) : Int :=
    if e ≥ 0 then divEven a ((d * 2 ^ e.toNat : Nat) : Int) else divEven ((a * 2 ^ (-e).toNat : Nat) : Int) d
  let fits (e : Int) : Bool := decide (scaled e < 2 ^ 53)
  let e := if fits e then e else if fits (e + 1) then e + 1 else if fits (e + 2) then e + 2 else e + 3
  (if n < 0 then -(scaled e) else scaled e, e)

/-- The binary64 value nearest to a fixed-point real. -/
def b64Fix (a : Int) : B64 := b64Rat a (2 ^ fixP)

/-- The fixed-point real of a binary64 value. -/
def fixB64 (x : B64) : Int :=
  let s := x.2 + (fixP : Int)
  if s ≥ 0 then x.1 * ((2 ^ s.toNat : Nat) : Int) else x.1 / ((2 ^ (-s).toNat : Nat) : Int)

/-- The exact value times 2ᵉ rounded to binary64. -/
def b64Norm (m e : Int) : B64 :=
  if e ≥ 0 then b64Rat (m * ((2 ^ e.toNat : Nat) : Int)) 1 else b64Rat m (2 ^ (-e).toNat)

/-- Product. -/
def b64Mul (a b : B64) : B64 := b64Norm (a.1 * b.1) (a.2 + b.2)

/-- Sum. -/
def b64Add (a b : B64) : B64 :=
  let e := min a.2 b.2
  b64Norm (a.1 * ((2 ^ (a.2 - e).toNat : Nat) : Int) + b.1 * ((2 ^ (b.2 - e).toNat : Nat) : Int)) e

/-- Difference. -/
def b64Sub (a b : B64) : B64 := b64Add a (-b.1, b.2)

/-- Quotient. -/
def b64Div (a b : B64) : B64 :=
  if b.1 = 0 then (0, 0) else
  let e := a.2 - b.2
  let n := if b.1 < 0 then -a.1 else a.1
  if e ≥ 0 then b64Rat (n * ((2 ^ e.toNat : Nat) : Int)) b.1.natAbs else b64Rat n (b.1.natAbs * 2 ^ (-e).toNat)

/-- Square root of a value that is not negative. -/
def b64Sqrt (a : B64) : B64 :=
  let e := a.2 - 200
  let e2 := if e % 2 = 0 then e else e - 1
  let m := a.1.toNat * 2 ^ (a.2 - e2).toNat
  let r := isqrt m
  b64Norm (2 * (r : Int) + (if r * r = m then 0 else 1)) (e2 / 2 - 1)

/-- Nearest integer, ties to even. -/
def b64Int (a : B64) : Int :=
  if a.2 ≥ 0 then a.1 * ((2 ^ a.2.toNat : Nat) : Int) else rndEven a.1 (-a.2).toNat

end Sys2Proof.Machine
end

