-- ==== Sys2Proof/Machine/Crypto.lean ====
section
/-!
DEFINITION. The cryptographic functions that the spec names by their standards: SHA-384, HMAC-SHA-384, ECDSA and
ECDH on P-384 (R167, R169, R433, R434, R439, R500). PRESUMED: the algorithms and constants are those of FIPS 180-4,
FIPS 198-1 and FIPS 186, which the spec names and does not restate.
-/

namespace Sys2Proof.Machine

/-- Round constants of SHA-384, part 0. -/
def sha512KP0 : List Nat := [
  0x428A2F98D728AE22, 0x7137449123EF65CD, 0xB5C0FBCFEC4D3B2F, 0xE9B5DBA58189DBBC,
  0x3956C25BF348B538, 0x59F111F1B605D019, 0x923F82A4AF194F9B, 0xAB1C5ED5DA6D8118,
  0xD807AA98A3030242, 0x12835B0145706FBE, 0x243185BE4EE4B28C, 0x550C7DC3D5FFB4E2,
  0x72BE5D74F27B896F, 0x80DEB1FE3B1696B1, 0x9BDC06A725C71235, 0xC19BF174CF692694]

/-- Round constants of SHA-384, part 1. -/
def sha512KP1 : List Nat := [
  0xE49B69C19EF14AD2, 0xEFBE4786384F25E3, 0x0FC19DC68B8CD5B5, 0x240CA1CC77AC9C65,
  0x2DE92C6F592B0275, 0x4A7484AA6EA6E483, 0x5CB0A9DCBD41FBD4, 0x76F988DA831153B5,
  0x983E5152EE66DFAB, 0xA831C66D2DB43210, 0xB00327C898FB213F, 0xBF597FC7BEEF0EE4,
  0xC6E00BF33DA88FC2, 0xD5A79147930AA725, 0x06CA6351E003826F, 0x142929670A0E6E70]

/-- Round constants of SHA-384, part 2. -/
def sha512KP2 : List Nat := [
  0x27B70A8546D22FFC, 0x2E1B21385C26C926, 0x4D2C6DFC5AC42AED, 0x53380D139D95B3DF,
  0x650A73548BAF63DE, 0x766A0ABB3C77B2A8, 0x81C2C92E47EDAEE6, 0x92722C851482353B,
  0xA2BFE8A14CF10364, 0xA81A664BBC423001, 0xC24B8B70D0F89791, 0xC76C51A30654BE30,
  0xD192E819D6EF5218, 0xD69906245565A910, 0xF40E35855771202A, 0x106AA07032BBD1B8]

/-- Round constants of SHA-384, part 3. -/
def sha512KP3 : List Nat := [
  0x19A4C116B8D2D0C8, 0x1E376C085141AB53, 0x2748774CDF8EEB99, 0x34B0BCB5E19B48A8,
  0x391C0CB3C5C95A63, 0x4ED8AA4AE3418ACB, 0x5B9CCA4F7763E373, 0x682E6FF3D6B2B8A3,
  0x748F82EE5DEFB2FC, 0x78A5636F43172F60, 0x84C87814A1F0AB72, 0x8CC702081A6439EC,
  0x90BEFFFA23631E28, 0xA4506CEBDE82BDE9, 0xBEF9A3F7B2C67915, 0xC67178F2E372532B]

/-- Round constants of SHA-384, part 4. -/
def sha512KP4 : List Nat := [
  0xCA273ECEEA26619C, 0xD186B8C721C0C207, 0xEADA7DD6CDE0EB1E, 0xF57D4F7FEE6ED178,
  0x06F067AA72176FBA, 0x0A637DC5A2C898A6, 0x113F9804BEF90DAE, 0x1B710B35131C471B,
  0x28DB77F523047D84, 0x32CAAB7B40C72493, 0x3C9EBE0A15C9BEBC, 0x431D67C49C100D4C,
  0x4CC5D4BECB3E42B6, 0x597F299CFC657E2A, 0x5FCB6FAB3AD6FAEC, 0x6C44198C4A475817]

/-- Round constants of SHA-384. -/
def sha512K : List Nat := sha512KP0 ++ sha512KP1 ++ sha512KP2 ++ sha512KP3 ++ sha512KP4

/-- Initial hash value of SHA-384. -/
def sha384Init : List Nat := [
  0xCBBB9D5DC1059ED8, 0x629A292A367CD507, 0x9159015A3070DD17, 0x152FECD8F70E5939,
  0x67332667FFC00B31, 0x8EB44A8768581511, 0xDB0C2E0D64F98FA7, 0x47B5481DBEFA4FA4]

/-- Rotation right of 64 bits. -/
def ror64 (n x : Nat) : Nat := (x >>> n) ||| ((x <<< (64 - n)) % 2 ^ 64)

/-- One extension of the message schedule, held newest first. -/
def shaExtend (w : List Nat) : List Nat :=
  let w15 := w.getD 14 0
  let w2 := w.getD 1 0
  let s0 := (ror64 1 w15 ^^^ ror64 8 w15) ^^^ (w15 >>> 7)
  let s1 := (ror64 19 w2 ^^^ ror64 61 w2) ^^^ (w2 >>> 6)
  ((w.getD 15 0 + s0 + w.getD 6 0 + s1) % 2 ^ 64) :: w

/-- One round on the eight working words. -/
def shaRound (kw : Nat) (v : List Nat) : List Nat :=
  match v with
  | [a, b, c, d, e, f, g, h] =>
    let s1 := (ror64 14 e ^^^ ror64 18 e) ^^^ ror64 41 e
    let ch := (e &&& f) ^^^ ((2 ^ 64 - 1 - e) &&& g)
    let t1 := (h + s1 + ch + kw) % 2 ^ 64
    let s0 := (ror64 28 a ^^^ ror64 34 a) ^^^ ror64 39 a
    let maj := ((a &&& b) ^^^ (a &&& c)) ^^^ (b &&& c)
    [(t1 + s0 + maj) % 2 ^ 64, a, b, c, (d + t1) % 2 ^ 64, e, f, g]
  | _ => v

/-- The 16 words of a block of 128 bytes. -/
def shaWords (n : Nat) (bs : Bytes) : List Nat :=
  match n with
  | 0 => []
  | k + 1 => beVal (bs.take 8) :: shaWords k (bs.drop 8)

/-- One block. -/
def shaBlock (h : List Nat) (block : Bytes) : List Nat :=
  let w := (forN 64 (fun _ w => shaExtend w) (shaWords 16 block).reverse).reverse
  let v := (List.zip sha512K w).foldl (fun v p => shaRound ((p.1 + p.2) % 2 ^ 64) v) h
  List.zipWith (fun x y => (x + y) % 2 ^ 64) h v

/-- The blocks of a padded message. -/
def shaBlocks (n : Nat) (h : List Nat) (bs : Bytes) : List Nat :=
  match n with
  | 0 => h
  | k + 1 => shaBlocks k (shaBlock h (bs.take 128)) (bs.drop 128)

/-- SHA-384 of a byte string: 48 bytes. -/
def sha384 (bs : Bytes) : Bytes :=
  let n := bs.length
  let pad := (239 - n % 128) % 128
  let msg := bs ++ [0x80] ++ zeros pad ++ beBytes 16 (8 * n)
  ((shaBlocks (msg.length / 128) sha384Init msg).take 6).flatMap (beBytes 8)

/-- HMAC-SHA-384. -/
def hmac384 (key bs : Bytes) : Bytes :=
  let k := padTo 128 (if key.length > 128 then sha384 key else key)
  sha384 (xorBytes k (List.replicate 128 0x5C) ++ sha384 (xorBytes k (List.replicate 128 0x36) ++ bs))

/-- The prime of P-384. -/
def p384P : Nat := 2 ^ 384 - 2 ^ 128 - 2 ^ 96 + 2 ^ 32 - 1
/-- The order of P-384. -/
def p384N : Nat := 0xFFFFFFFFFFFFFFFFFFFFFFFFFFFFFFFFFFFFFFFFFFFFFFFFC7634D81F4372DDF581A0DB248B0A77AECEC196ACCC52973
/-- The coefficient b of P-384. -/
def p384B : Nat := 0xB3312FA7E23EE7E4988E056BE3F82D19181D9C6EFE8141120314088F5013875AC656398D8A2ED19D2A85C8EDD3EC2AEF
/-- The base point of P-384. -/
def p384G : Option (Nat × Nat) := some (0xAA87CA22BE8B05378EB1C71EF320AD746E1D3B628BA79B9859F741E082542A385502F25DBF55296C3A545E3872760AB7, 0x3617DE4A96262C6F5D9E98BF9292DC29F8F41DBD289A147CE9DA3113B5F0B8C00A60B1CE1D7E819D7A431D7C90EA0E5F)

/-- Modular power by squaring over the bits of the exponent. -/
def powMod (fuel m b e : Nat) : Nat :=
  match fuel with
  | 0 => 1 % m
  | k + 1 =>
    if e = 0 then 1 % m else
    let h := powMod k m (b * b % m) (e / 2)
    if e % 2 = 1 then h * b % m else h

/-- The inverse modulo a prime. -/
def invMod (m a : Nat) : Nat := powMod 400 m (a % m) (m - 2)

/-- Addition of points of P-384; none is the point at infinity. -/
def p384Add (p q : Option (Nat × Nat)) : Option (Nat × Nat) :=
  match p, q with
  | none, _ => q
  | _, none => p
  | some (x1, y1), some (x2, y2) =>
    let m := p384P
    if x1 = x2 ∧ (y1 + y2) % m = 0 then none else
    let l := if x1 = x2 then ((3 * x1 * x1 + 3 * (m - 1)) * invMod m (2 * y1)) % m
             else ((y2 + m - y1) * invMod m ((x2 + m - x1) % m)) % m
    let x3 := (l * l + 2 * m - x1 - x2) % m
    some (x3, (l * (x1 + m - x3) + m - y1) % m)

/-- Scalar multiple of a point, over `fuel` bits. -/
def p384Mul (fuel k : Nat) (p : Option (Nat × Nat)) : Option (Nat × Nat) :=
  match fuel with
  | 0 => none
  | f + 1 =>
    if k = 0 then none else
    let h := p384Mul f (k / 2) (p384Add p p)
    if k % 2 = 1 then p384Add p h else h

/-- The point an uncompressed encoding of 97 bytes spells, when it lies on the curve. -/
def p384Point (bs : Bytes) : Option (Nat × Nat) :=
  if bs.length = 97 ∧ bs.headD 0 = 4 then
    let x := beAt bs 1 48
    let y := beAt bs 49 48
    if x < p384P ∧ y < p384P ∧ (y * y) % p384P = (x * x * x + (p384P - 3) * x + p384B) % p384P then some (x, y)
    else none
  else none

/-- The uncompressed encoding of a point. -/
def p384Bytes (p : Option (Nat × Nat)) : Bytes :=
  match p with
  | some (x, y) => [4] ++ beBytes 48 x ++ beBytes 48 y
  | none => zeros 97

/-- Does a signature of 96 bytes (r, s) by a public key verify over SHA-384 of a message? -/
def ecdsaVerify (pub msg sig : Bytes) : Bool :=
  match p384Point pub with
  | none => false
  | some q =>
    let r := beAt sig 0 48
    let s := beAt sig 48 48
    if sig.length = 96 ∧ 0 < r ∧ r < p384N ∧ 0 < s ∧ s < p384N then
      let w := invMod p384N s
      let z := beVal (sha384 msg)
      match p384Add (p384Mul 385 (z * w % p384N) p384G) (p384Mul 385 (r * w % p384N) (some q)) with
      | some (x, _) => decide (x % p384N = r)
      | none => false
    else false

/-- The signature of a message by a private key with the per-message secret `k`. -/
def ecdsaSign (priv k : Nat) (msg : Bytes) : Bytes :=
  match p384Mul 385 (k % p384N) p384G with
  | some (x, _) =>
    let r := x % p384N
    beBytes 48 r ++ beBytes 48 (invMod p384N k * (beVal (sha384 msg) + r * priv) % p384N)
  | none => zeros 96

/-- The 48-byte x-coordinate of the shared point (R434). -/
def ecdhX (priv : Nat) (pub : Bytes) : Bytes :=
  match p384Point pub with
  | some q => match p384Mul 385 priv (some q) with
    | some (x, _) => beBytes 48 x
    | none => zeros 48
  | none => zeros 48

end Sys2Proof.Machine
end

