-- ==== Sys2Proof/Config.lean ====
section
/-!
DEFINITION. What an implementation fixes and the values the spec leaves open. A constant declared opaque has no body
that a proof may use: a statement about it holds for every value.
-/

namespace Sys2Proof.Config

/-- A fresh open value of the part: the n-th value that the spec leaves undefined in a run. -/
opaque freeValue : Nat → Nat

/-- The n-th random byte of the part's random source (R433, R434). -/
opaque randomByte : Nat → Byte

/-- The device identity private key of the fuses (R433, R500). -/
opaque identityKey : Nat

/-- The fused scene-signing public key, uncompressed, 97 bytes; anything else: none is fused (R167, R439, R503). -/
opaque sceneKey : Bytes

/-- The firmware-signing public key whose digest key slot 0 to 3 of the fuses holds; empty: not fused (R499, R509). -/
opaque fwKey : Nat → Bytes

/-- Is a firmware key slot revoked by its fuse (R499, R509)? -/
opaque fwRevoked : Nat → Bool

/-- The path delay in ps that the fused voltage-delay curves give at another voltage: reading, its voltage and the
other voltage in mV (R504). -/
opaque agePath : Nat → Nat → Nat → Nat

/-- The SRAM Vmin in mV that the fused curves refer to another voltage: reading, its voltage, the other (R504). -/
opaque ageVmin : Nat → Nat → Nat → Nat

/-- The unique identifier of the part: four words (R514). -/
opaque uid : Nat → Word

/-- The ROM of probe gains, Q1.31, by probe level (R278). -/
opaque znGain : Int → Int

/-- The ROM of the 16 basis filters of 33 taps, Q2.30 (R278). -/
opaque znBasis : Nat → Nat → Int

/-- The probe level of −40 dBFS in the units of R278. -/
opaque znLimit : Int

/-- The gain of the output ramp at sample m of its T samples, Q1.31 (R36, R37). -/
opaque rampGain : Nat → Nat → Int

/-- The compensation coefficients that the firmware designs, Q2.30, by DEC_CH_CFG, DEC_CH_RATE, f_mod and tap (R294). -/
opaque compDesign : Nat → Nat → Nat → Nat → Int

/-- The group delay in 1/256 clock of a minimum-phase channel, by DEC_CH_CFG, DEC_CH_RATE and f_mod (R296). -/
opaque minPhaseDelay : Nat → Nat → Nat → Nat

/-- The PCS and PMA latency in ns that the hardware loads at link-up, by speed code and direction (R70). -/
opaque pcsLatency : Nat → Nat → Nat

/-- The clockIdentity of the PTP service (R68). -/
opaque clockIdentity : Nat

/-- The payload of a mode-history record: the transitions it keeps, each with mode code, cause and QN (R24, R439). -/
opaque historyBytes : List (Nat × Nat × Nat) → Bytes

/-- The identifier under which the firmware keeps its mode-history records, less one (R439). -/
opaque historyRecord : Nat

/-- The bytes of the boot ROM (R446). -/
opaque bootRom : Nat → Byte

/-- The region byte of a BULK record, by region of the copy; the spec gives no codes (R396). Region 0 is the delay store. -/
opaque bulkRegion : Nat → Byte

/-- Sample i of a response that no command gives, by the counter of open values: the spec fixes no arithmetic for the
identification (R279, R282; log 60). -/
opaque openSample : Nat → Nat → BitVec 32

/-- Coherence of bin i of such a response, in 1/65,536 (R281; log 60). -/
opaque openCoherence : Nat → Nat → Nat

/-- The reason that SURVEY_MIC_FAULT names: true for the unsettled flag, false for samples at full scale. The spec gives no
code (R282; log 60). -/
opaque micReason : Bool → Byte

/-- A header field of the device's own datagrams to UDP port `proto` that no rule gives: field 0 the DSCP, 1 the IPv4
identification with flags and fragment offset, 2 the UDP source port, 3 the VLAN of a tagged frame plus one, 0 for none. -/
opaque ownField : Nat → Nat → Nat

/-- Do the device's multicasts to a UDP port go over IPv6? No rule says. -/
opaque groupV6 : Nat → Bool

/-- The group address of the domain frames and control streams, by UDP port: no rule gives it. -/
opaque groupIp : Nat → Nat

/-- The Ethernet address of the client at an IP address, which an address resolution that no rule gives finds. -/
opaque peerMac : Nat → Nat

/-- The UDP port of the client at an IP address. -/
opaque peerPort : Nat → Nat

/-- Pelurn's PCI Express vendor identifier (R411). -/
opaque vendorId : BitVec 16

end Sys2Proof.Config
end

