-- ==== Sys2Proof/Machine/StAport.lean ====
section
/-!
DEFINITION. State of the serial audio ports and the listen port (11_serial_ports_listen.md).
-/

namespace Sys2Proof.Machine

/-- How a slot stands between start and stop (R340 to R342). -/
inductive SlotPhase
  | silent | starting | running | stopping
deriving DecidableEq, Repr

/-- One slot of one direction. -/
structure Slot where
  phase : SlotPhase := .silent
  /-- Domain samples waited for a crossing. -/
  waited : Nat := 0
  /-- x[n − 1]. -/
  prev : Int := 0
deriving DecidableEq, Repr

/-- A block of R336 as it is filled or sent. -/
structure Block where
  qn : Nat := 0
  maskA : Nat := 0
  maskB : Nat := 0
  switch : Nat := 32
  flags : Nat := 0
  /-- Values: key 32 × frame + slot. -/
  vals : FMap Int := []
  /-- Unsettled samples: the same keys. -/
  unset : FMap Bool := []
deriving DecidableEq, Repr

/-- One serial port. -/
structure APort where
  /-- Frames are running. -/
  running : Bool := false
  /-- A frame has started since the port began. -/
  framed : Bool := false
  aligned : Bool := false
  /-- Consecutive aligned frames (R332). -/
  run : Nat := 0
  /-- The converter is locked (R334). -/
  locked : Bool := false
  /-- Domain samples still to be flagged after a lock (R335). -/
  settle : Nat := 0
  /-- The time of lost frames that the converter still has to fill with zeros, in domain samples times f_port (R333). -/
  lost : Nat := 0
  /-- Index of the last frame that a master started, plus one; 0 none since the epoch (R330). -/
  frameNo : Nat := 0
  /-- A frame failed the period check (R333). -/
  periodBad : Bool := false
  /-- Slots: key 32 × direction + slot, direction 0 receive, 1 transmit. -/
  slots : FMap Slot := []
  /-- The blocks being filled, by direction (R336). -/
  blocks : FMap Block := []
  /-- The last complete received block (R420). -/
  done : Option Block := none
  /-- Blocks of a host ring of kind port transmit, by QN (R420). -/
  host : FMap Block := []
  /-- The last bit sent, which a format with a delay of one bit clock sends after the next frame start (R328). -/
  lastBit : Option Bool := some false
  /-- Local time of the last APORT_UNDERRUN plus one; 0 never (R339). -/
  underAt : Nat := 0
deriving DecidableEq, Repr

/-- The listen port (R343 to R347). -/
structure Listen where
  /-- LSN_DET shows insertion after debounce. -/
  plugged : Bool := false
  /-- Step of detection: 0 none, 1 debounce, 2 test current, 3 bias on the sleeve, 4 bias on ring 2 (R344). -/
  step : Nat := 0
  /-- Accessory code, 0 none (R343). -/
  accessory : Nat := 0
  /-- The button held plus one; 0 none (R346). -/
  button : Nat := 0
  /-- The 50 ms after a release run (R346). -/
  gate : Bool := false
  /-- Muted after a headphone fault (R347). -/
  muted : Bool := false
  /-- Steps made of the 10 ms ramp of the outputs (R344). -/
  ramp : Nat := 0
  /-- Attenuation in force, samples waited and x[n − 1], by channel (R347). -/
  vol : FMap Nat := []
  waited : FMap Nat := []
  prev : FMap Int := []
deriving DecidableEq, Repr

/-- The serial ports, what the host rings move for them, and the listen port. -/
structure AportSt where
  ports : FMap APort := []
  /-- Routing results of the last periods for the low-latency path: key 512 × (sample mod 8) + slot code (R183). -/
  low : FMap Int := []
  /-- Blocks placed in the present entry of a host ring of kind port receive (R420). -/
  placed : FMap Nat := []
  /-- The first quantum whose block such a ring takes next (R420). -/
  rxNext : FMap Nat := []
  listen : Listen := {}
deriving DecidableEq, Repr

end Sys2Proof.Machine
end

