-- ==== Sys2Proof/Machine/StAster.lean ====
section
/-!
DEFINITION. State of the Aster cores (07_aster_cores.md).
-/

namespace Sys2Proof.Machine

/-- Where a result of a bundle goes (R223). The accumulators have two views: what MAC operations read, and what
extraction reads two bundles later. -/
inductive Tgt
  | g (r : Nat)
  | v (r lane : Nat)
  | acc (a : Nat)
  | accExt (a : Nat)
  | p (k : Nat)
  | m (k : Nat)
  | sys (i : Nat)
  /-- RTI: sr takes esr as the target issues (R248). Of the value, bits 18 to 16 are sticky bits that stay set, and bit 3
  says that bits 1 to 0 are an lp that a later bundle has set for the same bundle (R217, R224). -/
  | srFromEsr
deriving DecidableEq, Repr

/-- A result in flight: the number of the first bundle that reads it (R223). -/
structure Res where
  due : Nat
  tgt : Tgt
  val : Int
deriving DecidableEq, Repr

/-- The forwarding of VMAX.IDX, VMIN.IDX and VMAXA.IDX to the same operation in the next bundle (R223). -/
structure ExtFwd where
  /-- Number of the bundle that may read it. -/
  due : Nat
  op : Nat
  vb : Nat
  /-- The new extreme and its index of each lane whose test held. -/
  val : List (Option Int)
  idx : List (Option Int)
deriving DecidableEq, Repr

/-- A tile transfer in a queue (R244, R245). -/
structure Xfer where
  desc : Nat
  kind : Nat
  tile : Nat
  remote : Nat
  length : Nat
  errors : Nat
deriving DecidableEq, Repr

/-- One core (R215). -/
structure AsterCore where
  g : FMap Nat := []
  /-- Vector lanes: key 4 × register + lane. -/
  v : FMap Nat := []
  acc : FMap Int := []
  accExt : FMap Int := []
  p : FMap Nat := []
  m : FMap Nat := []
  pc : Nat := 0
  sr : Nat := 0x1F4
  esr : Nat := 0
  epc : Nat := 0
  lc : FMap Nat := []
  la : FMap Nat := []
  ls : FMap Nat := []
  xi : Nat := 0
  /-- Bundles issued since run was set: latencies count these (R223). -/
  n : Nat := 0
  inflight : List Res := []
  fwd : Option ExtFwd := none
  /-- A branch under way: target and bundles that still issue before it (R226). -/
  br : Option (Nat × Nat) := none
  /-- Delay slots still to issue of the last branch, taken or not (R226). -/
  delay : Nat := 0
  /-- Repetitions of the next bundle still to issue (R234). -/
  rep : Nat := 0
  /-- 0 held in reset, 1 running, 2 faulted, 3 halted for debug. -/
  status : Nat := 0
  /-- IDLE has stopped issue (R246). -/
  idle : Bool := false
  /-- A mailbox signal is pending (R246). -/
  sig : Bool := false
  /-- Descriptor of a transfer that failed four times (R244). -/
  failed : Option Nat := none
  queueD : List Xfer := []
  queueB : List Xfer := []
  /-- The core has faulted in a deadline task or the switch handler and has left dispatch (R250). -/
  left : Bool := false
  /-- Tile words with an uncorrectable error, by tile offset / 8 (R241). -/
  badWord : FMap Bool := []
deriving DecidableEq, Repr

/-- The 16 cores and the code banks. -/
structure AsterSt where
  cores : FMap AsterCore := []
  /-- Code bank of side 0: false A, true B (R217, R243). -/
  bankB : Bool := false
  /-- Side 1 is loaded (R217). -/
  side1 : Bool := false
  /-- A bank write is under way for this plan index (R243). -/
  writing : Option Nat := none
deriving DecidableEq, Repr

end Sys2Proof.Machine
end

