-- ==== Sys2Proof/Machine/StCore.lean ====
section
/-!
DEFINITION. State of the core of the part: what it sends to the outside, the operating mode and the render domain
(01_system_roles.md), presentation time (02_presentation_time.md), host rings, commands, sessions and the scene
store (14_host_control.md).
-/

namespace Sys2Proof.Machine

/-- The eight operating modes (R23). -/
inductive Mode
  | boot | config | central | edge | mirror | survey | safe | stop
deriving DecidableEq, Repr, Inhabited

/-- The code of a mode in SYS_MODE_STATUS.mode (R24). -/
def Mode.code : Mode → Nat
  | .boot => 0 | .config => 1 | .central => 2 | .edge => 3
  | .mirror => 4 | .survey => 5 | .safe => 6 | .stop => 7

/-- The mode that a code names; codes 8 to 15 are not used (R24). -/
def Mode.ofCode (n : Nat) : Option Mode :=
  match n with
  | 0 => some .boot | 1 => some .config | 2 => some .central | 3 => some .edge
  | 4 => some .mirror | 5 => some .survey | 6 => some .safe | 7 => some .stop
  | _ => none

/-- What the block sends to the outside world, in the order in which it sends it. -/
inductive Output
  /-- A completed register read (R12, R15). -/
  | readData (m : Master) (value : Nat)
  /-- A posted write to host memory (R416). -/
  | hostWrite (addr : Nat) (bytes : Bytes)
  /-- An MSI-X message (R422). -/
  | msix (vector addr data : Nat)
  /-- An Ethernet frame as it starts on a port, with its transmit queue (R353). -/
  | frame (port queue : Nat) (bytes : Bytes)
  /-- A PTP event message as it starts on a port; over IPv4 its UDP checksum is 0, over IPv6 it is computed (R71, R359). -/
  | eventFrame (port queue : Nat) (checksum : Option Nat) (bytes : Bytes)
  /-- A PAUSE frame (R358). -/
  | pauseFrame (port quanta : Nat)
  /-- A pair frame on the link (0) or the Ethernet path (1) (R392). -/
  | pairFrame (path : Nat) (bytes : Bytes)
  /-- A sample at a departure sink: `sink` numbers the kind, `chan` the channel (R262, R306, R337). -/
  | sample (sink chan : Nat) (value : Int)
  /-- One frame on the balls of a serial port: whether data and FS change on the falling bit-clock edge, FS by bit clock
  where the port drives it, and SDOUT by bit clock, none at high impedance (R328, R329). -/
  | serial (port : Nat) (falling : Bool) (fs : List Bool) (data : List (Option Bool))
  /-- A level of a named ball (R49, R89). -/
  | ball (name : String) (index : Nat) (level : Nat)
  /-- The conducting switch of a direct-drive channel turns off, and after the dead time in ns the opposite one on (R307,
  R317). -/
  | turn (ch deadNs : Nat)
  /-- A target written to the regulator over AVSBus (R490). -/
  | avs (millivolts : Nat)
  /-- A word to a control core (R203). -/
  | control (core word : Nat)
  /-- A trace record (R212). -/
  | trace (bytes : Bytes)
  /-- A report of an output lost or restored that an edge device sends to the central pair (R125). -/
  | availReport (output cause : Nat) (available : Bool)
  /-- A byte on a serial or I2C line (R534). -/
  | wire (unit value : Nat)
deriving DecidableEq, Repr

/-! ### Mode and render domain -/

/-- A SET_MODE request as it waits: its target, the apply QN it named and the command to complete (R32). -/
structure ModeReq where
  target : Mode
  qn : Nat
  cid : Option Nat
deriving DecidableEq, Repr

/-- What a running transition is doing (R36, R37, R404, R483). -/
inductive Phase
  | waiting
  | outputRampDown
  | cmRampDown
  | preroll
  | cmRampUp
  | outputRampUp
  | joining
  | stopping
  | ready
deriving DecidableEq, Repr

/-- A transition that is scheduled or running (R32). -/
structure Trans where
  target : Mode
  applyQn : Nat
  cause : Nat
  cid : Option Nat
  phase : Phase
deriving DecidableEq, Repr

/-- Mode, transitions and render domain. -/
structure SysSt where
  /-- Present mode (R23). -/
  mode : Mode := .boot
  /-- Cause of the last transition (R23, R24). -/
  cause : Nat := 0
  /-- QN at which the last transition took effect (R24). -/
  modeQn : Nat := 0
  /-- The transition accepted and waiting for its apply QN (R32). -/
  sched : Option Trans := none
  /-- The transition between its apply QN and its completion (R32). -/
  running : Option Trans := none
  /-- The one-deep pending slot (R32). -/
  pendReq : Option ModeReq := none
  /-- Fault causes that arose since the last quantum boundary (R25, R33). -/
  newCauses : List Nat := []
  /-- QN at which QN_NEAR_END is raised next (R55). -/
  nearEndNext : Nat := 2 ^ 40 - 2 ^ 31
  /-- The output ramp: the quantum it starts at, the level it starts from in samples of the ramp, and its direction. A
  ramp that has ended stays at its end (R36, R37). -/
  rampQn : Nat := 0
  rampFrom : Nat := 0
  rampUp : Bool := false
  /-- Time at which a domain frame of an index last arrived, plus one; 0 never (R40, R42). -/
  heard : FMap Nat := []
  /-- Indices marked absent (R42). -/
  absent : FMap Bool := []
  /-- present_mask of the last authoritative frame (R41). -/
  authPresent : Nat := 0
  /-- Time of the last authoritative frame of the own domain, plus one; 0 never (R41). -/
  authAt : Nat := 0
  /-- Time of the last domain frame of a central device, plus one; 0 never (R29). -/
  centralAt : Nat := 0
  /-- The rate bit of the last authoritative frame (R41). -/
  authRate96 : Bool := false
  /-- start_qn: QN at which the central pair first unmuted (R40, R48). -/
  startQn : Nat := 0
  /-- seq of the next domain frame (R40). -/
  domainSeq : Nat := 0
  /-- The last authoritative frame named another plan set (R43). -/
  planMismatch : Bool := false
  /-- Another device uses the own dev_index (R44). -/
  indexConflict : Bool := false
  /-- MODEL: the present conflict of the own dev_index has raised its event (R44). -/
  clashNoted : Bool := false
deriving DecidableEq, Repr

/-! ### Presentation time -/

/-- One pulse output as armed (R89 to R91). -/
structure Pulse where
  armed : Bool := false
  mode : Nat := 0
  start : Nat := 0
  /-- Period in ns; in mode 3, qn_div in quanta. -/
  period : Nat := 0
  width : Nat := 0
  /-- PT of the next edge. -/
  next : Nat := 0
  /-- PT at which the ball falls back, while it is active. -/
  fallAt : Option Nat := none
deriving DecidableEq, Repr

/-- One alarm as latched (R92). -/
structure Alarm where
  armed : Bool := false
  byQn : Bool := false
  value : Nat := 0
deriving DecidableEq, Repr

/-- A re-anchor that waits for its apply QN (R80). -/
structure Reanchor where
  applyQn : Nat
  step : Int
  cid : Nat
deriving DecidableEq, Repr

/-- What the PTP service remembers (R68 to R72). Keys are ports, or 16 × port + messageType. -/
structure PtpSt where
  /-- sequenceId and transmit timestamp of the last event message sent, by port and type. -/
  sent : FMap (Nat × Nat) := []
  /-- A two-step Sync that waits for its Follow_Up: sequenceId and receive timestamp. -/
  syncRx : FMap (Nat × Int) := []
  /-- The last measured t2 − t1. -/
  toSlave : FMap Int := []
  /-- A two-step Pdelay_Resp that waits for its Follow_Up: sequenceId, t2 and t4. -/
  respRx : FMap (Nat × Nat × Int) := []
  /-- The best data set heard in Announce messages. -/
  best : FMap PtpData := []
  /-- Clocks heard in Announce messages at each port: identity and local time of the last message (R68, R72). -/
  foreign : FMap (List (Nat × Nat)) := []
  /-- Identity of the selected grandmaster. -/
  master : Option Nat := none
deriving DecidableEq, Repr

/-- The TIME unit. PT values are whole nanoseconds: seconds × 10⁹ + nanoseconds. -/
structure TimeSt where
  /-- The counter, PT in ns (R9, R61). -/
  pt : Nat := 0
  /-- The 28-bit fraction below the nanoseconds (R61). -/
  frac : Nat := 0
  /-- Slew still to make, in units of 2⁻²⁸ × 10⁻⁵ ns (R73). -/
  slewRem : Int := 0
  /-- MODEL: the part of the slew made that is below one unit of the fraction (R73). -/
  slewAcc : Int := 0
  /-- MODEL: local time since reset in ns, from which intervals are measured. -/
  now : Nat := 0
  /-- Seconds words written to TIME_SET, waiting for the nanoseconds word (R64). -/
  setLo : Nat := 0
  setHi : Nat := 0
  /-- The committed epoch, PT in ns (R83). -/
  epoch : Nat := 0
  /-- TIME_STATUS.epoch_set (R83). -/
  epochSet : Bool := false
  /-- The present quantum number (R10, R85). -/
  qn : Nat := 0
  /-- The first quantum start of the epoch has passed (R84). -/
  counting : Bool := false
  /-- TIME_STATUS.qualified (R65, R72). -/
  qualified : Bool := false
  /-- TIME_STATUS.holdover (R76). -/
  holdover : Bool := false
  /-- Whole seconds of PT since holdover began, TIME_HOLDOVER_AGE (R79). -/
  holdAge : Nat := 0
  /-- Sub-second part of the age, ns (R79). -/
  holdFrac : Nat := 0
  /-- MODEL: the age of the present holdover has reached its limit (R79). -/
  holdExpired : Bool := false
  /-- TIME_STATUS.refclk_fallback (R65, R496). -/
  refclkFallback : Bool := false
  /-- Synthesiser A in lock (R87). -/
  lockA : Bool := false
  /-- Synthesiser B in lock (R87). -/
  lockB : Bool := false
  /-- Consecutive Sync messages with |offset| at most 1,000 ns (R72). -/
  goodSyncs : Nat := 0
  /-- Sum and number of the partner offsets of the present second (R77). -/
  thetaSum : Int := 0
  thetaCnt : Nat := 0
  /-- Mean of the second before, when there is one, as sum and count (R77). -/
  thetaPrev : Option (Int × Nat) := none
  /-- The re-anchors that wait for their apply QN (R80). -/
  reanchors : List Reanchor := []
  /-- TIME_PULSE_START of each output as committed by its nanoseconds word, PT in ns (R64). -/
  pulseStart : FMap Nat := []
  /-- The PTP service (R68). -/
  ptp : PtpSt := {}
  /-- Pulse outputs 0 to 3 (R89). -/
  pulses : FMap Pulse := []
  /-- Alarms 0 to 7 (R92). -/
  alarms : FMap Alarm := []
  /-- IEEE 1588 portState of the four ports; unlisted: INITIALIZING (R76). -/
  portStates : FMap Nat := []
  /-- The port that last held SLAVE or UNCALIBRATED (R76). -/
  lastSlave : Nat := 0
deriving DecidableEq, Repr

/-! ### Host rings, commands, sessions, scene store -/

/-- What a ring holds besides its registers. -/
structure RingSt where
  /-- Entries produced or consumed since the last signal (R422). -/
  count : Nat := 0
  /-- Local time of the first of those entries (R422). -/
  since : Nat := 0
  /-- The next record carries the gap flag (R431). -/
  gap : Bool := false
  /-- The ring has signalled and its consumer has not caught up (R423). -/
  signalled : Bool := false
deriving DecidableEq, Repr

/-- What the host writes in the configuration space of the endpoint, at its reset values (R411, R412). The encodings are those of PCI
Express: a maximum payload of 128 bytes and a maximum read request of 512 bytes at reset are PRESUMED (log 81). -/
structure PcieConfig where
  memoryOn : Bool := false
  busMaster : Bool := false
  /-- Bases of BAR0 and BAR2, 64-bit. -/
  bar0 : Nat := 0
  bar2 : Nat := 0
  d3hot : Bool := false
  msixOn : Bool := false
  msixMask : Bool := false
  maxPayload : Nat := 128
  maxRead : Nat := 512
deriving DecidableEq, Repr

/-- A command in flight (R425). -/
structure InFlight where
  cid : Nat
  src : Source
  opcode : Nat
  cring : Nat
  tag : Nat
  /-- Its completion record is dropped (R412, R436). -/
  dropped : Bool
deriving DecidableEq, Repr

/-- A command that its source has issued and that is not accepted yet (R425). -/
structure Waiting where
  hdr : CmdHdr
  cmd : Option Cmd
  opcode : Nat
  /-- Local time at which it began to wait (R425). -/
  since : Nat
deriving DecidableEq, Repr

/-- A completion record (R429). -/
structure Compl where
  cring : Nat
  tag : Nat
  opcode : Nat
  code : Nat
  detail : Nat
  result : Nat
deriving DecidableEq, Repr

/-- A client key slot of the vault (R438). -/
structure KeySlot where
  role : Nat := 0
  key : Bytes := []
deriving DecidableEq, Repr

/-- A COMMAND accepted in a session, kept for repetition (R435). -/
structure Accepted where
  counter : Nat
  body : Bytes
  tag : Nat
  reply : Option Bytes
deriving DecidableEq, Repr

/-- One of the eight sessions (R433 to R437). -/
structure Session where
  /-- CHALLENGE has been sent. -/
  used : Bool := false
  /-- PROVE has verified. -/
  isOpen : Bool := false
  slot : Nat := 0
  ip : Nat := 0
  port : Nat := 0
  helloBody : Bytes := []
  challenge : Bytes := []
  ephPriv : Nat := 0
  key : Bytes := []
  rxCounter : Nat := 0
  txCounter : Nat := 0
  accepted : List Accepted := []
  evMask : Nat := 0
  lastAt : Nat := 0
deriving DecidableEq, Repr

/-- A live record of the scene store (R439, R441). -/
structure SceneRec where
  kind : Nat
  flags : Nat
  length : Nat
  generation : Nat
  wseq : Nat
  /-- Offset of its header in the store. -/
  offset : Nat
deriving DecidableEq, Repr

/-- The scene write in progress (R440). -/
structure SceneOp where
  cid : Option Nat
  record : Nat
  kind : Nat
  flags : Nat
  payload : Bytes
  generation : Nat
deriving DecidableEq, Repr

/-- Rings, commands, sessions and scene store. -/
structure HostSt where
  /-- Rings 0 to 73 (R413). -/
  rings : FMap RingSt := []
  /-- The configuration space of the PCI Express endpoint (R411). -/
  pcie : PcieConfig := {}
  /-- Commands issued and not accepted, oldest first, of every source (R425). -/
  waitQ : List Waiting := []
  /-- Commands in flight, oldest first (R425). -/
  inflight : List InFlight := []
  /-- MODEL: number of the next command accepted. -/
  nextCid : Nat := 0
  /-- The holding queue of 256 completion records (R430). -/
  holding : List Compl := []
  /-- Transitions since the last mode-history record: mode code, cause, QN (R24, R444). -/
  history : List (Nat × Nat × Nat) := []
  /-- Local time of the last mode-history record, plus one; 0 none (R444). -/
  historyAt : Nat := 0
  /-- seq of the next event (R431). -/
  evSeq : Nat := 0
  /-- Sessions 0 to 7 (R436). -/
  sessions : FMap Session := []
  /-- Key slots 0 to 15 (R438). -/
  keys : FMap KeySlot := []
  /-- Times of authentication failures by IP source address, newest first (R434). -/
  authFails : FMap (List Nat) := []
  /-- Addresses whose HELLO is ignored: local time of the eighth failure, plus one (R434). -/
  banned : FMap Nat := []
  /-- Live identifiers of the scene store (R441, R443). -/
  scene : FMap SceneRec := []
  /-- Offset of the head of the log (R441). -/
  sceneHead : Nat := 0
  /-- wseq of the next record (R439). -/
  sceneWseq : Nat := 1
  /-- The scene write in progress (R440). -/
  sceneOp : Option SceneOp := none
  /-- The autoload of this boot has run (R444). -/
  autoloaded : Bool := false
  /-- The mode the start-up record names, while the firmware still tries to enter it (R444). -/
  startMode : Option Mode := none
  /-- MODEL: code of the last completion of a command of the firmware (R391, R444). -/
  fwCode : Nat := 0
deriving DecidableEq, Repr

end Sys2Proof.Machine
end

