-- ==== Sys2Proof/Machine/StDec.lean ====
section
/-!
DEFINITION. State of the decimators and capture streams (09_capture_decimation.md).
-/

namespace Sys2Proof.Machine

/-- A DEC_CONFIG that waits for its apply QN (R298). -/
structure DecReq where
  applyQn : Nat
  cfg : Nat
  rate : Nat
  phase : Nat
  cid : Nat
deriving DecidableEq, Repr

/-- A DEC_COMP_SWAP that waits for its apply QN (R299). -/
structure DecSwap where
  applyQn : Nat
  cid : Nat
deriving DecidableEq, Repr

/-- One decimator channel (R292 to R299). -/
structure DecCh where
  /-- Modulator clock of the next bit, counted from the epoch (R290, R296). -/
  clk : Nat := 0
  /-- CIC integrators and combs (R293). -/
  ints : List Int := []
  combs : List Int := []
  /-- CIC outputs, newest first (R294). -/
  yc : List Int := []
  /-- Compensation outputs, newest first (R295). -/
  u : List Int := []
  /-- Index of the next output sample (R295). -/
  m : Nat := 0
  /-- Samples still to be flagged (R297). -/
  settle : Nat := 0
  /-- The channel has started since it was enabled or restarted. -/
  started : Bool := false
  /-- The latest delivered sample carries the unsettled flag (R297). -/
  flagged : Bool := false
  /-- Coefficient banks A and B by tap (R294). -/
  bankA : FMap Int := []
  bankB : FMap Int := []
  /-- Active bank: false A, true B (R294). -/
  activeB : Bool := false
  /-- Modulator clock of the last bank swap: compensation outputs before it use the other bank (R299). -/
  swapAt : Nat := 0
  /-- The inactive bank has been written since the last swap (R299). -/
  written : Bool := false
  pending : Option DecReq := none
  swap : Option DecSwap := none
  /-- A DEC_CONFIG that has applied and whose first sample is still to come: command and apply QN (R298). -/
  applied : Option (Nat × Nat) := none
  /-- A sample has been delivered since the last start or switch (R298). -/
  delivered : Bool := false
  /-- The last bit latched from the source (R290). -/
  last : Bool := false
  /-- Delivered samples by output index mod 64: index, value, flag (R301). -/
  recent : FMap (Nat × Int × Bool) := []
deriving DecidableEq, Repr

/-- A capture stream (R301, R302, R421). -/
structure Capture where
  /-- Sequence of the next block. -/
  seq : Nat := 0
  /-- First sample after the last block or drop; 0 before any since a restart (R301). -/
  next : Nat := 0
  /-- The next block written carries the gap flag. -/
  gap : Bool := false
  /-- Blocks placed in the present host entry. -/
  placed : Nat := 0
  /-- A block was dropped while the present host entry was filled. -/
  partly : Bool := false
  /-- Local time of the last DEC_CAP_DROP event plus one; 0 never. -/
  dropAt : Nat := 0
deriving DecidableEq, Repr

/-- The decimators. -/
structure DecSt where
  chans : FMap DecCh := []
  /-- Stuck sources: the modulator clock from which a source is stuck, plus one; 0 not stuck (R291). -/
  stuck : FMap Nat := []
  /-- Capture streams 0 to 7. -/
  caps : FMap Capture := []
  /-- Local time of the first lock of synthesiser A, plus one; 0 never (R296). -/
  lockedAt : Nat := 0
deriving DecidableEq, Repr

end Sys2Proof.Machine
end

