-- ==== Sys2Proof/Machine/StDrv.lean ====
section
/-!
DEFINITION. State of direct drive (10_direct_drive.md).
-/

namespace Sys2Proof.Machine

/-- Why a diagnostics run was started (R315). -/
inductive DiagFor
  | preroll | retry | command
deriving DecidableEq, Repr

/-- A common-mode ramp (R309): its direction, its start in local time, its length in ns, and the rail reading. -/
structure CmRamp where
  up : Bool
  start : Nat
  len : Nat
  /-- Full length t_cm in ns. -/
  full : Nat
  rail : Nat
deriving DecidableEq, Repr

/-- One direct-drive channel. -/
structure DrvCh where
  /-- DRV_CH_STATUS.state (R323). -/
  state : Nat := 0
  /-- Cause of the last latch (R318). -/
  fault : Nat := 0
  /-- Local time of the last latch plus one; 0 never. -/
  latchedAt : Nat := 0
  retries : Nat := 0
  locked : Bool := false
  /-- DRV_UNLOCK has been raised since the last start (R308). -/
  unlockRaised : Bool := false
  /-- Step of the diagnostics run, 0 none (R314). -/
  step : Nat := 0
  why : DiagFor := .command
  /-- The state in which the run found the channel (R320). -/
  was : Nat := 0
  /-- Code of the last diagnostics run; it passed when it is 0 and `ran` holds. -/
  code : Nat := 0
  ran : Bool := false
  ramp : Option CmRamp := none
  /-- An up-ramp waits for the first settled rail sample (R311). -/
  wantUp : Bool := false
  /-- The retry has passed its diagnostics: the end of its up-ramp reports restoration (R321). -/
  retrying : Bool := false
  /-- Samples still to come of the 10 ms in which the feed of a channel that latched in play goes to zero (R319). -/
  feedLeft : Nat := 0
  /-- Rail limiter gain g and the applied gain (R312). -/
  g : Int := 0x7FFFFFFF
  applied : Int := 0x7FFFFFFF
  /-- The last reference sample, after the limiter (R306). -/
  ref : Int := 0
deriving DecidableEq, Repr

/-- One rail group (R311, R313). -/
structure Rail where
  /-- V_rail in 10 mV. -/
  volts : Nat := 0
  settled : Bool := false
  /-- RAIL_UV or STAGE_FAULT: no retry until the rail has recovered (R321). -/
  blocked : Bool := false
deriving DecidableEq, Repr

/-- A DRV_DIAG command that waits for its runs (R315). -/
structure DiagCmd where
  cid : Nat
  open' : List Nat
  codes : Nat
deriving DecidableEq, Repr

/-- Direct drive. -/
structure DrvSt where
  chans : FMap DrvCh := []
  rails : FMap Rail := []
  cmds : List DiagCmd := []
deriving DecidableEq, Repr

end Sys2Proof.Machine
end

