-- ==== Sys2Proof/Machine/StMem.lean ====
section
/-!
DEFINITION. State of the memories, the bus matrix and the DMA engine (15_memory_interconnect.md).
-/

namespace Sys2Proof.Machine

/-- DMA_CH_STATUS.state (R480). -/
inductive DmaState
  | disabled | idle | running | stopping | stopped | halted
deriving DecidableEq, Repr

/-- One DMA channel. -/
structure DmaCh where
  state : DmaState := .disabled
  /-- Address of the descriptor in progress, or the next after a stop (R478). -/
  cur : Nat := 0
  /-- The 32 bytes of the descriptor in progress, once fetched. -/
  desc : Option Bytes := none
  /-- Bytes of it that have been moved. -/
  done : Nat := 0
  /-- Retries used by the present burst or fetch (R475). -/
  tries : Nat := 0
  /-- Retries used by the descriptor (R472). -/
  used : Nat := 0
  /-- The transfer of an entry's last descriptor has ended (R473). -/
  ended : Bool := false
  /-- A chain is under way: a next pointer is followed (R477). -/
  chained : Bool := false
  /-- Addresses of the last 8 descriptors fetched in this chain, newest first, and their number (R477). -/
  recent : List Nat := []
  hops : Nat := 0
deriving DecidableEq, Repr

/-- A corrected word in the scrubber's table (R459). -/
structure Corrected where
  region : Nat
  offset : Nat
  /-- Local times of its corrections, newest first. -/
  times : List Nat
deriving DecidableEq, Repr

/-- What a port of the DMA engine serves (R474). -/
structure DmaPort where
  chan : Nat
  /-- Bytes moved for the channel since the port took it. -/
  share : Nat := 0
  /-- The last burst reached a boundary of 4 KiB of them. -/
  edge : Bool := false
deriving DecidableEq, Repr

/-- The memories, the matrix and DMA. -/
structure MemSt where
  /-- Channels of DRAM in service: 1, 2 or 4 (R450). -/
  population : Nat := 1
  /-- The channel that retrains (R456). -/
  retraining : Option Nat := none
  /-- Activate counts: key 4,096 × channel + bank, entries (row, count) by place (R455). -/
  rows : FMap (List (Nat × Nat)) := []
  /-- Local time of the last DRAM_ECC_CE of a channel, plus one (R452). -/
  ceAt : FMap Nat := []
  /-- The 32 corrected addresses (R459). -/
  corrected : List Corrected := []
  /-- Causes of the vault wipe in progress (R463). -/
  wipes : List Nat := []
  dma : FMap DmaCh := []
  /-- The four ports by number (R464, R474). -/
  dmaPorts : FMap DmaPort := []
  /-- The channel that a port took last: equal channels follow it in turn (R474). -/
  dmaLast : Nat := 63
deriving DecidableEq, Repr

end Sys2Proof.Machine
end

