-- ==== Sys2Proof/Machine/StNet.lean ====
section
/-!
DEFINITION. State of the network ports and streams (12_network.md).
-/

namespace Sys2Proof.Machine

/-- A frame that waits on a transmit queue (R353). -/
structure TxFrame where
  proto : Nat
  bytes : Bytes
  /-- The transmit context of a stream packet (R365). -/
  ctx : Option Nat
  /-- Local time of queueing. -/
  at' : Nat
  /-- The IP address of the client of a session message (R433). -/
  peer : Nat := 0
  /-- The packet index of a stream packet (R363). -/
  packet : Nat := 0
  /-- The packet has been counted as sent, on its other leg (R377). -/
  counted : Bool := false
deriving DecidableEq, Repr

/-- One Ethernet port. -/
structure PortSt where
  /-- A received PAUSE holds the queues (R358). -/
  paused : Bool := false
  /-- A PAUSE has been sent and occupancy is above NET_PAUSE_LO (R358). -/
  pausing : Bool := false
  /-- Control frames accepted in this window (R356). -/
  ctrlCount : Nat := 0
  /-- Verify mPackets sent without an answer (R354). -/
  verifies : Nat := 0
  /-- Local time of the last wake frame evaluated, plus one; 0 never (R376). -/
  wakeAt : Nat := 0
deriving DecidableEq, Repr

/-- What the de-duplication window keeps of an accepted packet (R371, R372). -/
structure Taken where
  crc : Nat
  legB : Bool
  /-- IP source address in network order: 4 bytes, or 16 over IPv6 (R402). -/
  ip : Bytes
deriving DecidableEq, Repr

/-- A loaded stream context (R361, R377). -/
structure StreamCtx where
  desc : Bytes
  packets : Nat := 0
  late : Nat := 0
  /-- Early packets, or suppressed ones. -/
  early : Nat := 0
  dups : Nat := 0
  dupMismatch : Nat := 0
  takenB : Nat := 0
  format : Nat := 0
  /-- Transmit: index of the next packet at least (R363). -/
  next : Nat := 0
  /-- Receive: highest accepted sequence (R371). -/
  high : Option Nat := none
  /-- Accepted sequences of the window: key seq32. -/
  window : FMap Taken := []
  /-- Domain samples at which accepted packets start, while a window fill may still take them (R371). -/
  starts : List Nat := []
  /-- Quanta in which an accepted packet delivered a position (R373). -/
  delivered : FMap Bool := []
  timedOut : Bool := false
  /-- IP source address of the accepted copy of the last mismatched packet, when the count has risen (R402). -/
  copyIp : Option Bytes := none
  /-- Local time of the last PAIR_COPY_TAKEN plus one; 0 never (R402). -/
  copyAt : Nat := 0
deriving DecidableEq, Repr

/-- The network. -/
structure NetSt where
  /-- Frames that wait, key 8 × port + queue (R353). -/
  txq : FMap (List TxFrame) := []
  ports : FMap PortSt := []
  /-- Contexts: key context, plus 256 for receive (R361). -/
  ctxs : FMap StreamCtx := []
  /-- T_e: domain samples from PT 0 to the epoch, at the epoch commit (R363). -/
  te : Nat := 0
  /-- Departed samples of network outputs: key 256 × output + domain sample mod 256 (R364). -/
  sent : FMap Int := []
  /-- Unsettled departed samples: the same keys (R368). -/
  sentFlag : FMap Bool := []
  /-- Quanta that have departed: the next one (R364). -/
  departNext : Nat := 0
  /-- The first quantum that departed in this rendering run. -/
  departFirst : Nat := 0
  /-- The device has left a formed pair: it sends no stream packet (R380). -/
  stopped : Bool := false
  /-- IP source addresses of authoritative domain frames: time of the last, plus one (R355). -/
  authIps : FMap Nat := []
deriving DecidableEq, Repr

end Sys2Proof.Machine
end

