-- ==== Sys2Proof/Machine/StPlat.lean ====
section
/-!
DEFINITION. State of the platform: power, clocks, reset, boot, ageing and security (16_power_clock_reset.md) and the
peripherals (17_balls_electrical.md, R534).
-/

namespace Sys2Proof.Machine

/-- A change of operating point in progress (R489, R490). -/
structure OpStep where
  target : Nat
  applyQn : Nat
  /-- QN of the frequency step (R493). -/
  stepQn : Nat
  raising : Bool
  cid : Nat
  /-- The voltage write has been issued. -/
  written : Bool
  /-- V and C of the target apply: the apply QN has started. -/
  applied : Bool
  /-- The frequency step has taken place. -/
  stepped : Bool
deriving DecidableEq, Repr

/-- A SET_OPPOINT in the pending slot (R493). -/
structure OpPend where
  point : Nat
  applyQn : Nat
  cid : Nat
deriving DecidableEq, Repr

/-- Where a wake stands (R484 to R486). -/
inductive WakeStage
  | none
  /-- Waits for REFCLK (R486). -/
  | refclk
  /-- Event 1 is done: waits for PGOOD_CORE and the readback. -/
  | supply
  /-- 0 V for 50 ms between attempts (R485). -/
  | pause
  | plls
  | sram
  | dram
  /-- The third retry has failed: the device stays in Stop (R485). -/
  | failed
deriving DecidableEq, Repr

/-- The boot (R500). -/
structure BootSt where
  /-- The step that runs, 1 to 6; 0: the boot has not begun. -/
  step : Nat := 0
  /-- The slot that is read or runs: 0 A, 1 B. -/
  slot : Nat := 0
  /-- The first slot tried. -/
  first : Option Nat := none
  /-- Slots that have failed step 3 in this pass. -/
  tried : List Nat := []
  /-- Waits 1 s before it repeats from step 2. -/
  waiting : Bool := false
  /-- The one repeat has been used. -/
  repeated : Bool := false
  /-- The boot has stopped: BOOT with FAULT_N low. -/
  stopped : Bool := false
deriving DecidableEq, Repr

/-- Power, clocks, reset and boot. -/
structure PwrSt where
  /-- The operating point in force, 0 to 3 (R487). -/
  point : Nat := 0
  /-- The point whose V and C apply (R489, R490). -/
  capPoint : Nat := 0
  step : Option OpStep := none
  pend : Option OpPend := none
  /-- An offset step of the present point waits for the step in progress (R493, R505). -/
  offsetDue : Bool := false
  /-- The temperature warning is armed (R494). -/
  warnArmed : Bool := true
  /-- PGOOD_CORE is low (R494). -/
  pgoodLow : Bool := false
  /-- REFCLK is not qualified (R496). -/
  refLost : Bool := false
  /-- Consecutive failed windows by clock: 0 CORE, 1 MGMT, 2 MEM, 3 HOST, 4 PERIPH (R495). -/
  badWindows : FMap Nat := []
  /-- A failed clock that has not passed since (R495). -/
  clockFailed : FMap Bool := []
  wake : WakeStage := .none
  /-- Attempts of the present wake (R485). -/
  attempts : Nat := 0
  /-- Wake causes latched (R483, R484). -/
  causes : Nat := 0
  /-- FAULT_N is held low by a failed or waiting wake (R485, R486). -/
  wakeFault : Bool := false
  /-- SRAMC_RET as latched at the entry into Stop (R461). -/
  retained : Nat := 0
  /-- Fault causes found in Stop (R34). -/
  stopFaults : List Nat := []
  /-- Tamper causes found in Stop, whose events are raised at the next wake (R511). -/
  stopTamper : List Nat := []
  /-- The boot in progress follows a wake: its causes and attempts (R484). -/
  wakeBoot : Option (Nat × Nat) := none
  boot : BootSt := {}
  /-- RESET_N is low (R497, R521). -/
  resetLow : Bool := true
  /-- A monitored supply has left regulation (R522). -/
  supplyLost : Bool := false
  /-- Local time at which the watchdog was last restarted (R497). -/
  wdtAt : Nat := 0
deriving DecidableEq, Repr

/-- SEC: life cycle and tamper. -/
structure SecSt where
  /-- The life-cycle state in force: 0 MANUFACTURE, 1 DEPLOYED, 2 RETURNED (R509). -/
  lifeCycle : Nat := 0
  /-- The life-cycle state that the fuses hold (R509). -/
  fused : Nat := 0
  /-- The fused security version (R501). -/
  svn : Nat := 0
  /-- The security version of the running image (R500, R501). -/
  runSvn : Nat := 0
  /-- Bytes written to SEC_LC_TOKEN (R509). -/
  token : FMap Nat := []
  /-- Levels of TAMPER[3:0] (R510). -/
  levels : Nat := 0
  /-- Detectors that act now: bit 0 voltage, 1 clock, 2 temperature (R510). -/
  detectors : Nat := 0
deriving DecidableEq, Repr

/-- Ageing (R504 to R508). -/
structure AgeSt where
  /-- A measurement runs. -/
  measuring : Bool := false
  /-- The command AGE_MEASURE that it completes. -/
  cid : Option Nat := none
  /-- P0 frequency in MHz that waits for the next entry into CONFIG (R506). -/
  nextMhz : Option Nat := none
  /-- Interfaces below their margin that have not been re-adapted (R507). -/
  margins : FMap Bool := []
deriving DecidableEq, Repr

/-- A flash operation in progress (R534). -/
inductive FlashOp
  | program (addr : Nat) (data : Bytes)
  | erase (addr size : Nat)
deriving DecidableEq, Repr

/-- The test access port as far as its balls show it (R509, R518, R533): it is in reset, or shifts. -/
structure Tap where
  inReset : Bool := true
  /-- It is in Shift-DR or Shift-IR: JTAG_TDO is driven. -/
  shifting : Bool := false
deriving DecidableEq, Repr

/-- The PERIPH block. -/
structure PeriphSt where
  flash : Option FlashOp := none
  /-- The I2C transfer of a controller: read, length. -/
  i2c : FMap (Option (Bool × Nat)) := []
  /-- Local time at which each queued byte of the UART has been sent. -/
  txEnds : List Nat := []
  rxFifo : List Byte := []
  /-- PMB_ALERT_N is low. -/
  alert : Bool := false
  /-- The test access port (R509, R518, R533); no command of the table reaches it (log 112). -/
  tap : Tap := {}
deriving DecidableEq, Repr

end Sys2Proof.Machine
end

