-- ==== Sys2Proof/Machine/Dev.lean ====
section
/-!
DEFINITION. The device: everything the spec gives the block, without the queue of waiting commands.
-/

namespace Sys2Proof.Machine

/-- The block's state. -/
structure Dev where
  /-- Register space: the stored words of every register, by BAR0 offset; unlisted: the reset value (R12, R13). -/
  regs : FMap Word := []
  /-- The shadow words of wide values, by address; unlisted: the reset value (R18). -/
  shadow : FMap Word := []
  /-- Device memory by 40-bit address; unlisted: 0 (R446). -/
  mem : FMap Byte := []
  /-- The NOR flash by offset; unlisted: 0xFF, erased (R439). -/
  flash : FMap Byte := []
  /-- MODEL: what the block has sent, oldest first. -/
  out : List Output := []
  /-- MODEL: the number of open values taken so far. -/
  free : Nat := 0
  sys : SysSt := {}
  time : TimeSt := {}
  host : HostSt := {}
  plan : PlanSt := {}
  route : RouteSt := {}
  geom : GeomSt := {}
  voice : VoiceBlk := {}
  disp : DispSt := {}
  aster : AsterSt := {}
  lupin : LupinSt := {}
  survey : SurveySt := {}
  dec : DecSt := {}
  drv : DrvSt := {}
  aport : AportSt := {}
  net : NetSt := {}
  memory : MemSt := {}
  pair : PairSt := {}
  pwr : PwrSt := {}
  sec : SecSt := {}
  age : AgeSt := {}
  periph : PeriphSt := {}
deriving DecidableEq, Repr

end Sys2Proof.Machine
end

