-- ==== Sys2Proof/Machine/RegMap.lean ====
section
/-!
DEFINITION. The map of register space: one row per register or register array of the spec's tables, with its
address, its instance strides, its reset value, which bits take writes (RW), which clear on a written 1 (W1C), its
access kind, the modes in which it takes writes and the ranges of its fields.
-/

namespace Sys2Proof.Machine

/-- How a register is accessed beyond its bit masks (R15). -/
inductive RegKind
  | plain | rc | wo
deriving DecidableEq, Repr

/-- In which modes a register takes writes. -/
inductive RegLock
  | any | config | bootConfig | boot | firmware | running
deriving DecidableEq, Repr

/-- One row of the map. `dims` lists (count, stride) of the instances; `ranges` lists (msb, lsb, lowest, highest). -/
structure RegRow where
  name : String
  base : Nat
  dims : List (Nat × Nat)
  reset : Nat
  rw : Nat
  w1c : Nat
  kind : RegKind
  lock : RegLock
  ranges : List (Nat × Nat × Nat × Nat)
deriving DecidableEq, Repr

/-- Registers of the SYS block (R23, R24, R35, R38, R41, R60). -/
def sysRows : List RegRow := [
  ⟨"SYS_ID", 0x0, [], 0x51200100, 0x0, 0x0, .plain, .any, []⟩,
  ⟨"SYS_ERR_STATUS", 0x100, [], 0x0, 0x0, 0x3, .plain, .any, []⟩,
  ⟨"SYS_ERR_ADDR", 0x104, [], 0x0, 0x0, 0x0, .plain, .any, []⟩,
  ⟨"SYS_LOCK_ADDR", 0x108, [], 0x0, 0x0, 0x0, .plain, .any, []⟩,
  ⟨"SYS_MODE_STATUS", 0x200, [], 0x0, 0x0, 0x0, .plain, .any, []⟩,
  ⟨"SYS_MODE_QN_LO", 0x204, [], 0x0, 0x0, 0x0, .plain, .any, []⟩,
  ⟨"SYS_MODE_QN_HI", 0x208, [], 0x0, 0x0, 0x0, .plain, .any, []⟩,
  ⟨"SYS_ROLE_CFG", 0x210, [], 0x0, 0xFFFF03FF, 0x0, .plain, .config, []⟩,
  ⟨"SYS_DOMAIN_DROPS", 0x220, [], 0x0, 0x0, 0x0, .rc, .any, []⟩,
  ⟨"SYS_FAULT_CAUSES", 0x230, [], 0x0, 0x0, 0xBF, .plain, .any, []⟩]

/-- Registers of the PWR block (R497, R498, R513). -/
def pwrRows : List RegRow := [
  ⟨"PWR_CTRL", 0x10000, [], 0x4, 0x7, 0x0, .plain, .config, []⟩,
  ⟨"PWR_STATUS", 0x10004, [], 0x0, 0x0, 0xF00, .plain, .any, []⟩,
  ⟨"PWR_AVS_OFFSET", 0x10008, [], 0x0, 0x0, 0x0, .plain, .any, []⟩,
  ⟨"PWR_P0_MHZ", 0x1000C, [], 0x4B0, 0x0, 0x0, .plain, .any, []⟩,
  ⟨"PWR_VOLT", 0x10010, [], 0x0, 0x0, 0x0, .plain, .any, []⟩,
  ⟨"PWR_AVS_TIMEOUT", 0x10014, [], 0x1F4, 0xFFFFFFFF, 0x0, .plain, .config, [(31, 0, 0x64, 0x2710)]⟩,
  ⟨"PWR_THERM_WARN", 0x10018, [], 0x6E00, 0xFFFFFFFF, 0x0, .plain, .config, [(31, 0, 0x5000, 0x7300)]⟩,
  ⟨"PWR_TEMP", 0x1001C, [], 0x0, 0x0, 0x0, .plain, .any, []⟩,
  ⟨"PWR_WAKE_CFG", 0x10020, [], 0xF, 0xF, 0x0, .plain, .any, []⟩,
  ⟨"PWR_WAKE_CAUSE", 0x10024, [], 0x0, 0x0, 0x0, .plain, .any, []⟩,
  ⟨"PWR_FAIL_CODE", 0x10028, [], 0x0, 0x0, 0x10000, .plain, .any, []⟩,
  ⟨"PWR_RESET_CAUSE", 0x1002C, [], 0x1, 0x0, 0xF, .plain, .any, []⟩,
  ⟨"PWR_WDT_TIMEOUT", 0x10030, [], 0x7D0, 0xFFFFFFFF, 0x0, .plain, .config, [(31, 0, 0x64, 0xEA60)]⟩,
  ⟨"PWR_WDT", 0x10034, [], 0x0, 0x0, 0x0, .wo, .any, []⟩,
  ⟨"PWR_BOOT", 0x10038, [], 0x0, 0x2, 0x0, .plain, .any, []⟩]

/-- Registers of the TIME block, part 0 (R61, R63, R64, R65, R66, R70, R73, R79, R83, R86, R89, R92). -/
def timeRowsP0 : List RegRow := [
  ⟨"TIME_CTRL", 0x20000, [], 0x531D0044, 0xFFFFFFFF, 0x0, .plain, .config, [(23, 20, 0x0, 0x4), (27, 24, 0x2, 0xA), (31, 28, 0x1, 0xF)]⟩,
  ⟨"TIME_STATUS", 0x20004, [], 0x10000, 0x0, 0x1F00, .plain, .any, []⟩,
  ⟨"TIME_ADDEND", 0x20008, [], 0x20000000, 0xFFFFFFFF, 0x0, .plain, .any, [(31, 0, 0x1FFBE76D, 0x20041893)]⟩,
  ⟨"TIME_JUMP_THR", 0x2000C, [], 0x3E8, 0xFFFFFFFF, 0x0, .plain, .config, [(31, 0, 0x64, 0x989680)]⟩,
  ⟨"TIME_NOW_NS", 0x20010, [], 0x0, 0x0, 0x0, .plain, .any, []⟩,
  ⟨"TIME_NOW_S_LO", 0x20014, [], 0x0, 0x0, 0x0, .plain, .any, []⟩,
  ⟨"TIME_NOW_S_HI", 0x20018, [], 0x0, 0x0, 0x0, .plain, .any, []⟩,
  ⟨"TIME_CT32", 0x2001C, [], 0x0, 0x0, 0x0, .plain, .any, []⟩,
  ⟨"TIME_ADJ", 0x20020, [], 0x0, 0x0, 0x0, .wo, .any, []⟩,
  ⟨"TIME_SLEW_REMAIN", 0x20024, [], 0x0, 0x0, 0x0, .plain, .any, []⟩,
  ⟨"TIME_SERVO_OFFSET", 0x20028, [], 0x0, 0x0, 0x0, .plain, .any, []⟩,
  ⟨"TIME_PATH_DELAY", 0x2002C, [], 0x0, 0x0, 0x0, .plain, .any, []⟩,
  ⟨"TIME_SET_NS", 0x20030, [], 0x0, 0x0, 0x0, .wo, .any, []⟩,
  ⟨"TIME_SET_S_LO", 0x20034, [], 0x0, 0x0, 0x0, .wo, .any, []⟩,
  ⟨"TIME_SET_S_HI", 0x20038, [], 0x0, 0x0, 0x0, .wo, .any, []⟩,
  ⟨"TIME_EPOCH_NS", 0x20040, [], 0x0, 0xFFFFFFFF, 0x0, .plain, .config, []⟩]

/-- Registers of the TIME block, part 1 (R61, R63, R64, R65, R66, R70, R73, R79, R83, R86, R89, R92). -/
def timeRowsP1 : List RegRow := [
  ⟨"TIME_EPOCH_S_LO", 0x20044, [], 0x0, 0xFFFFFFFF, 0x0, .plain, .config, []⟩,
  ⟨"TIME_EPOCH_S_HI", 0x20048, [], 0x0, 0xFFFF, 0x0, .plain, .config, []⟩,
  ⟨"TIME_QN_LO", 0x20050, [], 0x0, 0x0, 0x0, .plain, .any, []⟩,
  ⟨"TIME_QN_HI", 0x20054, [], 0x0, 0x0, 0x0, .plain, .any, []⟩,
  ⟨"TIME_HOLDOVER_LIMIT", 0x20058, [], 0x258, 0xFFFFFFFF, 0x0, .plain, .config, [(31, 0, 0x1, 0x15180)]⟩,
  ⟨"TIME_HOLDOVER_AGE", 0x2005C, [], 0x0, 0x0, 0x0, .plain, .any, []⟩,
  ⟨"TIME_MEDIA_CFG", 0x20060, [], 0x0, 0x3, 0x0, .plain, .config, []⟩,
  ⟨"TIME_PORT_LAT_RX", 0x20080, [(4, 0x8)], 0x0, 0xFFFF0000, 0x0, .plain, .any, []⟩,
  ⟨"TIME_PORT_LAT_TX", 0x20084, [(4, 0x8)], 0x0, 0xFFFF0000, 0x0, .plain, .any, []⟩,
  ⟨"TIME_PULSE_CTRL", 0x20100, [(4, 0x20)], 0x10000, 0xFFFF0007, 0x60, .plain, .any, [(31, 16, 0x1, 0xFFFF)]⟩,
  ⟨"TIME_PULSE_START_NS", 0x20104, [(4, 0x20)], 0x0, 0xFFFFFFFF, 0x0, .plain, .any, []⟩,
  ⟨"TIME_PULSE_START_S_LO", 0x20108, [(4, 0x20)], 0x0, 0xFFFFFFFF, 0x0, .plain, .any, []⟩,
  ⟨"TIME_PULSE_START_S_HI", 0x2010C, [(4, 0x20)], 0x0, 0xFFFF, 0x0, .plain, .any, []⟩,
  ⟨"TIME_PULSE_PERIOD", 0x20110, [(4, 0x20)], 0x3B9ACA00, 0xFFFFFFFF, 0x0, .plain, .any, []⟩,
  ⟨"TIME_PULSE_WIDTH", 0x20114, [(4, 0x20)], 0x3E8, 0xFFFFFFFF, 0x0, .plain, .any, []⟩,
  ⟨"TIME_ALARM_CTRL", 0x20200, [(8, 0x10)], 0x0, 0x7, 0x18, .plain, .any, []⟩]

/-- Registers of the TIME block, part 2 (R61, R63, R64, R65, R66, R70, R73, R79, R83, R86, R89, R92). -/
def timeRowsP2 : List RegRow := [
  ⟨"TIME_ALARM_LO", 0x20204, [(8, 0x10)], 0x0, 0xFFFFFFFF, 0x0, .plain, .any, []⟩,
  ⟨"TIME_ALARM_MID", 0x20208, [(8, 0x10)], 0x0, 0xFFFFFFFF, 0x0, .plain, .any, []⟩,
  ⟨"TIME_ALARM_HI", 0x2020C, [(8, 0x10)], 0x0, 0xFFFF, 0x0, .plain, .any, []⟩]

/-- Registers of the TIME block. -/
def timeRows : List RegRow := timeRowsP0 ++ timeRowsP1 ++ timeRowsP2

/-- Registers of the HOSTIF block, part 0 (R422, R445). -/
def hostifRowsP0 : List RegRow := [
  ⟨"HOSTIF_CTRL", 0x30000, [], 0x0, 0x1, 0x0, .plain, .any, []⟩,
  ⟨"HOSTIF_STATUS", 0x30004, [], 0x0, 0x0, 0x300, .plain, .any, []⟩,
  ⟨"HOSTIF_LINK", 0x30008, [], 0x0, 0x0, 0x0, .plain, .any, []⟩,
  ⟨"HOSTIF_INFLIGHT", 0x3000C, [], 0x0, 0x0, 0x0, .plain, .any, []⟩,
  ⟨"HOSTIF_COMPL_DROPS", 0x30010, [], 0x0, 0x0, 0x0, .rc, .any, []⟩,
  ⟨"HOSTIF_EVENT_DROPS", 0x30014, [], 0x0, 0x0, 0x0, .rc, .any, []⟩,
  ⟨"HOSTIF_EVENT_SEQ", 0x30018, [], 0x0, 0x0, 0x0, .plain, .any, []⟩,
  ⟨"HOSTIF_SCENE_SIZE", 0x30020, [], 0x0, 0x0, 0x0, .plain, .any, []⟩,
  ⟨"HOSTIF_SCENE_FREE", 0x30024, [], 0x0, 0x0, 0x0, .plain, .any, []⟩,
  ⟨"HOSTIF_SCENE_RECORDS", 0x30028, [], 0x0, 0x0, 0x0, .plain, .any, []⟩,
  ⟨"HOSTIF_SCENE_CORRUPT", 0x3002C, [], 0x0, 0x0, 0x0, .rc, .any, []⟩,
  ⟨"HOSTIF_SESSIONS", 0x30030, [], 0x0, 0x0, 0x0, .plain, .any, []⟩,
  ⟨"HOSTIF_AUTH_FAILS", 0x30034, [], 0x0, 0x0, 0x0, .rc, .any, []⟩,
  ⟨"RING_CFG", 0x31000, [(74, 0x40)], 0x4, 0x1FFFF1F, 0x0, .plain, .any, [(4, 0, 0x4, 0x10), (11, 10, 0x0, 0x2), (24, 16, 0x0, 0x1FF)]⟩,
  ⟨"RING_MOD", 0x31004, [(74, 0x40)], 0x1, 0xFFFFFFFF, 0x0, .plain, .any, []⟩,
  ⟨"RING_BASE_LO", 0x31008, [(74, 0x40)], 0x0, 0xFFFFFFFF, 0x0, .plain, .any, [(5, 0, 0x0, 0x0)]⟩]

/-- Registers of the HOSTIF block, part 1 (R422, R445). -/
def hostifRowsP1 : List RegRow := [
  ⟨"RING_BASE_HI", 0x3100C, [(74, 0x40)], 0x0, 0xFFFFFFFF, 0x0, .plain, .any, []⟩,
  ⟨"RING_WB_LO", 0x31010, [(74, 0x40)], 0x0, 0xFFFFFFFF, 0x0, .plain, .any, [(1, 0, 0x0, 0x0)]⟩,
  ⟨"RING_WB_HI", 0x31014, [(74, 0x40)], 0x0, 0xFFFFFFFF, 0x0, .plain, .any, []⟩,
  ⟨"RING_DEV_IDX", 0x31018, [(74, 0x40)], 0x0, 0x0, 0x0, .plain, .any, []⟩,
  ⟨"RING_HOST_IDX", 0x3101C, [(74, 0x40)], 0x0, 0x0, 0x0, .plain, .any, []⟩,
  ⟨"RING_STATUS", 0x31020, [(74, 0x40)], 0x0, 0x0, 0xF00, .plain, .any, []⟩,
  ⟨"RING_EVMASK", 0x31024, [(74, 0x40)], 0x0, 0xFFFFFFFF, 0x0, .plain, .any, []⟩,
  ⟨"MSIX_ADDR_LO", 0x38000, [(512, 0x10)], 0x0, 0xFFFFFFFF, 0x0, .plain, .any, []⟩,
  ⟨"MSIX_ADDR_HI", 0x38004, [(512, 0x10)], 0x0, 0xFFFFFFFF, 0x0, .plain, .any, []⟩,
  ⟨"MSIX_DATA", 0x38008, [(512, 0x10)], 0x0, 0xFFFFFFFF, 0x0, .plain, .any, []⟩,
  ⟨"MSIX_CTRL", 0x3800C, [(512, 0x10)], 0x1, 0x1, 0x0, .plain, .any, []⟩,
  ⟨"MSIX_PENDING", 0x3A000, [(16, 0x4)], 0x0, 0x0, 0x0, .plain, .any, []⟩]

/-- Registers of the HOSTIF block. -/
def hostifRows : List RegRow := hostifRowsP0 ++ hostifRowsP1

/-- Registers of the DISP block, part 0 (R193, R197, R198, R203, R206, R207, R208, R214). -/
def dispRowsP0 : List RegRow := [
  ⟨"DISP_CTRL", 0x40000, [], 0x0, 0x7, 0x0, .plain, .config, []⟩,
  ⟨"DISP_STATUS", 0x40004, [], 0x0, 0x0, 0x7F00, .plain, .any, []⟩,
  ⟨"DISP_MATCH_USED", 0x40008, [], 0x0, 0x0, 0x0, .plain, .any, []⟩,
  ⟨"DISP_MATCH_PEAK", 0x4000C, [], 0x0, 0xFFFFFFFF, 0x0, .plain, .any, []⟩,
  ⟨"DISP_DEPART_LEAD", 0x40010, [], 0x4E20, 0xFFFFFFFF, 0x0, .plain, .config, [(31, 0, 0x1388, 0x186A0)]⟩,
  ⟨"DISP_TAKE_TIMEOUT", 0x40014, [], 0x3E8, 0xFFFFFFFF, 0x0, .plain, .any, [(31, 0, 0x1, 0xF4240)]⟩,
  ⟨"DISP_LATE_TASKS", 0x40018, [], 0x0, 0x0, 0x0, .rc, .any, []⟩,
  ⟨"DISP_LATE_QUANTA", 0x4001C, [], 0x0, 0x0, 0x0, .rc, .any, []⟩,
  ⟨"DISP_ORPHANS", 0x40020, [], 0x0, 0x0, 0x0, .rc, .any, []⟩,
  ⟨"DISP_EXTRA_OPS", 0x40024, [], 0x0, 0x0, 0x0, .rc, .any, []⟩,
  ⟨"DISP_PREEMPTS", 0x40028, [], 0x0, 0x0, 0x0, .rc, .any, []⟩,
  ⟨"DISP_MATCH_WAIT", 0x4002C, [], 0x0, 0x0, 0x0, .rc, .any, []⟩,
  ⟨"DISP_LAST_LATE_QN_LO", 0x40030, [], 0x0, 0x0, 0x0, .plain, .any, []⟩,
  ⟨"DISP_LAST_LATE_QN_HI", 0x40034, [], 0x0, 0x0, 0x0, .plain, .any, []⟩,
  ⟨"DISP_MAX_LATENCY", 0x40038, [], 0x0, 0xFFFFFFFF, 0x0, .plain, .any, []⟩,
  ⟨"DISP_TAKE_TIMEOUTS", 0x4003C, [], 0x0, 0x0, 0x0, .rc, .any, []⟩]

/-- Registers of the DISP block, part 1 (R193, R197, R198, R203, R206, R207, R208, R214). -/
def dispRowsP1 : List RegRow := [
  ⟨"DISP_TRACE_CFG", 0x40040, [], 0xFFFF001F, 0xFFFF00FF, 0x0, .plain, .any, []⟩,
  ⟨"DISP_TRACE_BASE_LO", 0x40044, [], 0x0, 0xFFFFFFFF, 0x0, .plain, .config, [(5, 0, 0x0, 0x0)]⟩,
  ⟨"DISP_TRACE_BASE_HI", 0x40048, [], 0x0, 0xFFFFFFFF, 0x0, .plain, .config, []⟩,
  ⟨"DISP_TRACE_SIZE", 0x4004C, [], 0x400, 0xFFFFFFFF, 0x0, .plain, .config, []⟩,
  ⟨"DISP_TRACE_WR", 0x40050, [], 0x0, 0x0, 0x0, .plain, .any, []⟩,
  ⟨"DISP_TRACE_RD", 0x40054, [], 0x0, 0xFFFFFFFF, 0x0, .plain, .any, []⟩,
  ⟨"DISP_TRACE_DROPS", 0x40058, [], 0x0, 0x0, 0x0, .rc, .any, []⟩,
  ⟨"DISP_TRACE_SEQ", 0x4005C, [], 0x0, 0x0, 0x0, .plain, .any, []⟩,
  ⟨"DISP_CLASS_DL", 0x40100, [(16, 0x4)], 0x200, 0x3FF, 0x0, .plain, .config, [(9, 0, 0x1, 0x300)]⟩,
  ⟨"DISP_TAKE", 0x40200, [], 0xFFFFFFFF, 0x0, 0x0, .plain, .any, []⟩,
  ⟨"DISP_TAKE_REF", 0x40204, [], 0x0, 0x0, 0x0, .plain, .any, []⟩,
  ⟨"DISP_TAKE_QN_LO", 0x40208, [], 0x0, 0x0, 0x0, .plain, .any, []⟩,
  ⟨"DISP_TAKE_QN_HI", 0x4020C, [], 0x0, 0x0, 0x0, .plain, .any, []⟩,
  ⟨"DISP_DONE", 0x40210, [], 0x0, 0x0, 0x0, .wo, .any, []⟩,
  ⟨"DISP_POST", 0x40214, [], 0x0, 0x0, 0x0, .wo, .any, []⟩,
  ⟨"DISP_POST_QN_LO", 0x40218, [], 0x0, 0xFFFFFFFF, 0x0, .plain, .any, []⟩]

/-- Registers of the DISP block, part 2 (R193, R197, R198, R203, R206, R207, R208, R214). -/
def dispRowsP2 : List RegRow := [
  ⟨"DISP_POST_QN_HI", 0x4021C, [], 0x0, 0xFF, 0x0, .plain, .any, []⟩,
  ⟨"DISP_BG_ARG", 0x40220, [], 0x0, 0xFFFFFFFF, 0x0, .plain, .any, []⟩,
  ⟨"DISP_BG_AFFINITY", 0x40224, [], 0xFFFF, 0xFFFF, 0x0, .plain, .any, []⟩,
  ⟨"DISP_BG_SUBMIT", 0x40228, [], 0x0, 0x0, 0x0, .wo, .any, []⟩,
  ⟨"DISP_BG_LEVEL", 0x4022C, [], 0x0, 0x0, 0x0, .plain, .any, []⟩,
  ⟨"DISP_CQ_PUSH", 0x40300, [(8, 0x4)], 0x0, 0x0, 0x0, .wo, .any, []⟩,
  ⟨"DISP_CQ_ARG", 0x40320, [], 0x0, 0xFFFFFFFF, 0x0, .plain, .any, []⟩,
  ⟨"DISP_CQ_AFFINITY", 0x40324, [], 0xFFFF, 0xFFFF, 0x0, .plain, .any, []⟩,
  ⟨"DISP_CQ_LEVEL", 0x40340, [(8, 0x4)], 0x0, 0x0, 0x10000, .plain, .any, []⟩,
  ⟨"DISP_MATCH_SEL", 0x40400, [], 0x0, 0x3FFF, 0x0, .plain, .any, []⟩,
  ⟨"DISP_MATCH_DATA", 0x40404, [(4, 0x4)], 0x0, 0x0, 0x0, .plain, .any, []⟩,
  ⟨"DISP_CORE_TASK", 0x40800, [(16, 0x20)], 0xFFFFFFFF, 0x0, 0x0, .plain, .any, []⟩,
  ⟨"DISP_CORE_QN", 0x40804, [(16, 0x20)], 0x0, 0x0, 0x0, .plain, .any, []⟩,
  ⟨"DISP_CORE_REF", 0x40808, [(16, 0x20)], 0x0, 0x0, 0x0, .plain, .any, []⟩,
  ⟨"DISP_CORE_ARG", 0x4080C, [(16, 0x20)], 0x0, 0x0, 0x0, .plain, .any, []⟩,
  ⟨"DISP_CORE_DONE", 0x40810, [(16, 0x20)], 0x0, 0x0, 0x0, .wo, .any, []⟩]

/-- Registers of the DISP block, part 3 (R193, R197, R198, R203, R206, R207, R208, R214). -/
def dispRowsP3 : List RegRow := [
  ⟨"DISP_CORE_STATE", 0x40814, [(16, 0x20)], 0x0, 0x0, 0x0, .plain, .any, []⟩]

/-- Registers of the DISP block. -/
def dispRows : List RegRow := dispRowsP0 ++ dispRowsP1 ++ dispRowsP2 ++ dispRowsP3

/-- Registers of the GEOM block, part 0 (R128). -/
def geomRowsP0 : List RegRow := [
  ⟨"GEOM_CTRL", 0x50000, [], 0x3, 0xF, 0x0, .plain, .config, []⟩,
  ⟨"GEOM_STATUS", 0x50004, [], 0x0, 0x0, 0x700, .plain, .any, []⟩,
  ⟨"GEOM_VMAX", 0x50008, [], 0x186A0, 0xFFFFFFFF, 0x0, .plain, .config, [(31, 0, 0x3E8, 0xF4240)]⟩,
  ⟨"GEOM_JUMP_MM", 0x5000C, [], 0x3E8, 0xFFFFFFFF, 0x0, .plain, .config, [(31, 0, 0x64, 0x186A0)]⟩,
  ⟨"GEOM_META_TIMEOUT", 0x50010, [], 0x7D0, 0xFFFFFFFF, 0x0, .plain, .config, [(31, 0, 0xA, 0xEA60)]⟩,
  ⟨"GEOM_RMIN", 0x50014, [], 0x1F4, 0xFFFFFFFF, 0x0, .plain, .config, [(31, 0, 0x1, 0xFFFF)]⟩,
  ⟨"GEOM_RREF", 0x50018, [], 0x2710, 0xFFFFFFFF, 0x0, .plain, .config, [(31, 0, 0x3E8, 0xF4240)]⟩,
  ⟨"GEOM_DIST_ROLLOFF", 0x5001C, [], 0x600, 0xFFFFFFFF, 0x0, .plain, .config, [(31, 0, 0x0, 0xC00)]⟩,
  ⟨"GEOM_AVAIL_LEAD", 0x50048, [], 0x32, 0xFFFFFFFF, 0x0, .plain, .config, [(31, 0, 0x32, 0x7D0)]⟩,
  ⟨"GEOM_K_SLEW", 0x5004C, [], 0xBB8, 0xFFFFFFFF, 0x0, .plain, .config, [(31, 0, 0x1, 0x7530)]⟩,
  ⟨"GEOM_REF", 0x50020, [(3, 0x4)], 0x0, 0xFFFFFFFF, 0x0, .plain, .config, []⟩,
  ⟨"GEOM_BOX_XMIN", 0x50030, [], 0xFF800000, 0xFFFFFFFF, 0x0, .plain, .config, []⟩,
  ⟨"GEOM_BOX_XMAX", 0x50034, [], 0x7FFFFF, 0xFFFFFFFF, 0x0, .plain, .config, []⟩,
  ⟨"GEOM_BOX_YMIN", 0x50038, [], 0xFF800000, 0xFFFFFFFF, 0x0, .plain, .config, []⟩,
  ⟨"GEOM_BOX_YMAX", 0x5003C, [], 0x7FFFFF, 0xFFFFFFFF, 0x0, .plain, .config, []⟩,
  ⟨"GEOM_BOX_ZMIN", 0x50040, [], 0xFF800000, 0xFFFFFFFF, 0x0, .plain, .config, []⟩]

/-- Registers of the GEOM block, part 1 (R128). -/
def geomRowsP1 : List RegRow := [
  ⟨"GEOM_BOX_ZMAX", 0x50044, [], 0x7FFFFF, 0xFFFFFFFF, 0x0, .plain, .config, []⟩,
  ⟨"GEOM_AIR", 0x50050, [], 0x1400, 0x0, 0x0, .plain, .any, []⟩,
  ⟨"GEOM_SOUND_K", 0x50054, [], 0x0, 0x0, 0x0, .plain, .any, []⟩,
  ⟨"GEOM_AIR_W_LO", 0x50058, [], 0x0, 0x0, 0x0, .plain, .any, []⟩,
  ⟨"GEOM_AIR_W_HI", 0x5005C, [], 0x0, 0x0, 0x0, .plain, .any, []⟩,
  ⟨"GEOM_LOAD", 0x50060, [], 0x0, 0x0, 0x0, .plain, .any, []⟩,
  ⟨"GEOM_CAPACITY", 0x50064, [], 0x0, 0x0, 0x0, .plain, .any, []⟩,
  ⟨"GEOM_REFL_SHED", 0x50068, [], 0x0, 0x0, 0x0, .plain, .any, []⟩,
  ⟨"GEOM_META_DROPS", 0x50070, [], 0x0, 0x0, 0x0, .rc, .any, []⟩,
  ⟨"GEOM_META_LATE", 0x50074, [], 0x0, 0x0, 0x0, .rc, .any, []⟩,
  ⟨"GEOM_META_CLAMPED", 0x50078, [], 0x0, 0x0, 0x0, .rc, .any, []⟩,
  ⟨"GEOM_META_STALE", 0x5007C, [], 0x0, 0x0, 0x0, .rc, .any, []⟩,
  ⟨"GEOM_AVAIL", 0x50100, [(16, 0x4)], 0xFFFFFFFF, 0x0, 0x0, .plain, .any, []⟩,
  ⟨"GEOM_FADING", 0x50140, [(16, 0x4)], 0x0, 0x0, 0x0, .plain, .any, []⟩,
  ⟨"GEOM_AVAIL_QN_LO", 0x50180, [], 0x0, 0x0, 0x0, .plain, .any, []⟩,
  ⟨"GEOM_AVAIL_QN_HI", 0x50184, [], 0x0, 0x0, 0x0, .plain, .any, []⟩]

/-- Registers of the GEOM block, part 2 (R128). -/
def geomRowsP2 : List RegRow := [
  ⟨"GEOM_OBJ_STATUS", 0x54000, [(1024, 0x4)], 0x0, 0x0, 0x0, .plain, .any, []⟩,
  ⟨"GEOM_OUT", 0x58000, [(512, 0x20), (8, 0x4)], 0x0, 0x0, 0x0, .plain, .any, []⟩]

/-- Registers of the GEOM block. -/
def geomRows : List RegRow := geomRowsP0 ++ geomRowsP1 ++ geomRowsP2

/-- Registers of the VOICE block, part 0 (R143, R159). -/
def voiceRowsP0 : List RegRow := [
  ⟨"VOICE_CTRL", 0x60000, [], 0x1, 0x1, 0x0, .plain, .config, []⟩,
  ⟨"VOICE_STATUS", 0x60004, [], 0x0, 0x0, 0x1F00, .plain, .any, []⟩,
  ⟨"VOICE_CAPACITY", 0x60008, [], 0x0, 0x0, 0x0, .plain, .any, []⟩,
  ⟨"VOICE_CAPACITY_P0", 0x6000C, [], 0x0, 0x0, 0x0, .plain, .any, []⟩,
  ⟨"VOICE_TOTAL", 0x60010, [], 0x0, 0x0, 0x0, .plain, .any, []⟩,
  ⟨"VOICE_FIXED", 0x60014, [], 0x0, 0x0, 0x0, .plain, .any, []⟩,
  ⟨"VOICE_BASE_MARGIN", 0x60018, [], 0x400, 0xFFFFFFFF, 0x0, .plain, .config, [(31, 0, 0x4, 0x2000)]⟩,
  ⟨"VOICE_DELAY_CLAMPS", 0x60020, [], 0x0, 0x0, 0x0, .rc, .any, []⟩,
  ⟨"VOICE_SLOPE_LIMITS", 0x60024, [], 0x0, 0x0, 0x0, .rc, .any, []⟩,
  ⟨"VOICE_STAGE_MISSING", 0x60028, [], 0x0, 0x0, 0x0, .rc, .any, []⟩,
  ⟨"VOICE_REBASES", 0x6002C, [], 0x0, 0x0, 0x0, .rc, .any, []⟩,
  ⟨"VOICE_XBAR_STALLS", 0x60030, [], 0x0, 0x0, 0x0, .rc, .any, []⟩,
  ⟨"VOICE_STORE_SATS", 0x60034, [], 0x0, 0x0, 0x0, .rc, .any, []⟩,
  ⟨"VOICE_SHED_UNITS", 0x60038, [], 0x0, 0x0, 0x0, .plain, .any, []⟩,
  ⟨"VOICE_LAST_SPAN", 0x6003C, [], 0x0, 0x0, 0x0, .plain, .any, []⟩,
  ⟨"VOICE_BASE", 0x61000, [(1024, 0x4)], 0x0, 0x0, 0x0, .plain, .any, []⟩]

/-- Registers of the VOICE block, part 1 (R143, R159). -/
def voiceRowsP1 : List RegRow := [
  ⟨"VOICE_SHED_MAP", 0x62000, [(1024, 0x8), (2, 0x4)], 0x0, 0x0, 0x0, .plain, .any, []⟩,
  ⟨"VOICE_KERNEL", 0x68000, [(256, 0x20), (8, 0x4)], 0x0, 0x0, 0x0, .plain, .any, []⟩]

/-- Registers of the VOICE block. -/
def voiceRows : List RegRow := voiceRowsP0 ++ voiceRowsP1

/-- Registers of the PLAN block, part 0 (R187). -/
def planRowsP0 : List RegRow := [
  ⟨"PLAN_CTRL", 0x80000, [], 0x1, 0x1, 0x0, .plain, .config, []⟩,
  ⟨"PLAN_STATUS", 0x80004, [], 0x0, 0x0, 0xF000000, .plain, .any, []⟩,
  ⟨"PLAN_ERR", 0x80008, [], 0x0, 0x0, 0x0, .plain, .any, []⟩,
  ⟨"PLAN_STORE_USED", 0x8000C, [], 0x0, 0x0, 0x0, .plain, .any, []⟩,
  ⟨"PLAN_ACTIVE_QN_LO", 0x80010, [], 0x0, 0x0, 0x0, .plain, .any, []⟩,
  ⟨"PLAN_ACTIVE_QN_HI", 0x80014, [], 0x0, 0x0, 0x0, .plain, .any, []⟩,
  ⟨"PLAN_PENDING_QN_LO", 0x80018, [], 0x0, 0x0, 0x0, .plain, .any, []⟩,
  ⟨"PLAN_PENDING_QN_HI", 0x8001C, [], 0x0, 0x0, 0x0, .plain, .any, []⟩,
  ⟨"PLAN_SET_ID_LO", 0x80020, [], 0x0, 0x0, 0x0, .plain, .any, []⟩,
  ⟨"PLAN_SET_ID_HI", 0x80024, [], 0x0, 0x0, 0x0, .plain, .any, []⟩,
  ⟨"PLAN_ROUTE_LEN", 0x80028, [], 0x0, 0x0, 0x0, .plain, .any, []⟩,
  ⟨"PLAN_ZC_TIMEOUTS", 0x8002C, [], 0x0, 0x0, 0x0, .rc, .any, []⟩,
  ⟨"PLAN_ROUTE_SATS", 0x80030, [], 0x0, 0x0, 0x0, .rc, .any, []⟩,
  ⟨"PLAN_MATCHED", 0x80034, [], 0x0, 0x0, 0x0, .plain, .any, []⟩,
  ⟨"PLAN_HELD", 0x80100, [(8, 0x4)], 0x0, 0x0, 0x0, .plain, .any, []⟩,
  ⟨"PLAN_ROUTE_IND", 0x80200, [(8, 0x4)], 0x0, 0x0, 0x0, .plain, .any, []⟩]

/-- Registers of the PLAN block, part 1 (R187). -/
def planRowsP1 : List RegRow := [
  ⟨"PLAN_ROUTE_GAIN", 0x81000, [(256, 0x4)], 0x0, 0x0, 0x0, .plain, .any, []⟩]

/-- Registers of the PLAN block. -/
def planRows : List RegRow := planRowsP0 ++ planRowsP1

/-- Registers of the LUPIN block (R266, R287). -/
def lupinRows : List RegRow := [
  ⟨"LUPIN_CTRL", 0xA0000, [], 0x1, 0x1, 0x0, .plain, .config, []⟩,
  ⟨"LUPIN_STATUS", 0xA0004, [], 0x0, 0x0, 0xF00, .plain, .any, []⟩,
  ⟨"LUPIN_TAP_UNITS", 0xA0008, [], 0x0, 0x0, 0x0, .plain, .any, []⟩,
  ⟨"LUPIN_TAP_BUDGET", 0xA000C, [], 0x2000, 0x0, 0x0, .plain, .any, []⟩,
  ⟨"LUPIN_READ_RATE", 0xA0010, [], 0x0, 0x0, 0x0, .plain, .any, []⟩,
  ⟨"LUPIN_SATS", 0xA0014, [], 0x0, 0x0, 0x0, .rc, .any, []⟩,
  ⟨"LUPIN_LEVEL_LATE", 0xA0018, [], 0x0, 0x0, 0x0, .rc, .any, []⟩,
  ⟨"LUPIN_LOADS", 0xA001C, [], 0x0, 0x0, 0x0, .rc, .any, []⟩,
  ⟨"LUPIN_SWAPS", 0xA0020, [], 0x0, 0x0, 0x0, .rc, .any, []⟩,
  ⟨"LUPIN_XFADES", 0xA0024, [], 0x0, 0x0, 0x0, .plain, .any, []⟩,
  ⟨"LUPIN_OUT_STATE", 0xA1000, [(512, 0x10)], 0x0, 0x0, 0x0, .plain, .any, []⟩,
  ⟨"LUPIN_OUT_CRC_A", 0xA1004, [(512, 0x10)], 0x0, 0x0, 0x0, .plain, .any, []⟩,
  ⟨"LUPIN_OUT_CRC_B", 0xA1008, [(512, 0x10)], 0x0, 0x0, 0x0, .plain, .any, []⟩,
  ⟨"LUPIN_OUT_SWAP_QN", 0xA100C, [(512, 0x10)], 0x0, 0x0, 0x0, .plain, .any, []⟩,
  ⟨"LUPIN_TWIDDLE", 0xA8000, [(8192, 0x4)], 0x0, 0x0, 0x0, .plain, .any, []⟩]

/-- Registers of the SURVEY block, part 0 (R288). -/
def surveyRowsP0 : List RegRow := [
  ⟨"SURVEY_CTRL", 0xB0000, [], 0x4006, 0xFF07, 0x0, .plain, .config, []⟩,
  ⟨"SURVEY_STATUS", 0xB0004, [], 0x0, 0x0, 0xF00, .plain, .any, []⟩,
  ⟨"SURVEY_PROBE_OFFSET", 0xB0008, [], 0x1E00, 0xFFFFFFFF, 0x0, .plain, .config, [(31, 0, 0x1E00, 0x3C00)]⟩,
  ⟨"SURVEY_PERIOD", 0xB000C, [], 0x3C, 0xFFFFFFFF, 0x0, .plain, .config, [(31, 0, 0xA, 0x258)]⟩,
  ⟨"SURVEY_PRE", 0xB0010, [], 0x100, 0xFFFFFFFF, 0x0, .plain, .config, [(31, 0, 0x40, 0x1000)]⟩,
  ⟨"SURVEY_REFRESH", 0xB0014, [], 0x0, 0x0, 0x0, .plain, .any, []⟩,
  ⟨"SURVEY_TEMP", 0xB0018, [], 0x0, 0x0, 0x0, .plain, .any, []⟩,
  ⟨"SURVEY_GROUP", 0xB001C, [], 0x0, 0x0, 0x0, .plain, .any, []⟩,
  ⟨"SURVEY_STEP", 0xB0020, [], 0x0, 0x0, 0x0, .plain, .any, []⟩,
  ⟨"SURVEY_IRS", 0xB0024, [], 0x0, 0x0, 0x0, .rc, .any, []⟩,
  ⟨"SURVEY_DESIGN_FAILS", 0xB0028, [], 0x0, 0x0, 0x0, .rc, .any, []⟩,
  ⟨"SURVEY_TEMP_REJECTS", 0xB002C, [], 0x0, 0x0, 0x0, .rc, .any, []⟩,
  ⟨"SURVEY_MIC_OK", 0xB0030, [(3, 0x4)], 0x0, 0x0, 0x0, .plain, .any, []⟩,
  ⟨"SURVEY_MIC_X", 0xB1000, [(72, 0x10)], 0x0, 0xFFFFFFFF, 0x0, .plain, .config, []⟩,
  ⟨"SURVEY_MIC_Y", 0xB1004, [(72, 0x10)], 0x0, 0xFFFFFFFF, 0x0, .plain, .config, []⟩,
  ⟨"SURVEY_MIC_Z", 0xB1008, [(72, 0x10)], 0x0, 0xFFFFFFFF, 0x0, .plain, .config, []⟩]

/-- Registers of the SURVEY block, part 1 (R288). -/
def surveyRowsP1 : List RegRow := [
  ⟨"SURVEY_MIC_CFG", 0xB100C, [(72, 0x10)], 0x40000000, 0xFFFF00FF, 0x0, .plain, .config, []⟩]

/-- Registers of the SURVEY block. -/
def surveyRows : List RegRow := surveyRowsP0 ++ surveyRowsP1

/-- Registers of the ASTER block (R251, R252). -/
def asterRows : List RegRow := [
  ⟨"ASTER_CTRL", 0xC0000, [(16, 0x1000)], 0x42, 0xF3, 0x0, .plain, .bootConfig, [(7, 4, 0x0, 0xD)]⟩,
  ⟨"ASTER_STATUS", 0xC0004, [(16, 0x1000)], 0x0, 0x0, 0x300, .plain, .any, []⟩,
  ⟨"ASTER_PC", 0xC0008, [(16, 0x1000)], 0x0, 0x0, 0x0, .plain, .any, []⟩,
  ⟨"ASTER_FAULT", 0xC000C, [(16, 0x1000)], 0x0, 0x0, 0x0, .plain, .any, []⟩,
  ⟨"ASTER_FAULT_PC", 0xC0010, [(16, 0x1000)], 0x0, 0x0, 0x0, .plain, .any, []⟩,
  ⟨"ASTER_FAULT_ADDR", 0xC0014, [(16, 0x1000)], 0x0, 0x0, 0x0, .plain, .any, []⟩,
  ⟨"ASTER_CYCLES_LO", 0xC0018, [(16, 0x1000)], 0x0, 0x0, 0x0, .plain, .any, []⟩,
  ⟨"ASTER_CYCLES_HI", 0xC001C, [(16, 0x1000)], 0x0, 0x0, 0x0, .plain, .any, []⟩,
  ⟨"ASTER_DL_CYCLES", 0xC0020, [(16, 0x1000)], 0x0, 0x0, 0x0, .rc, .any, []⟩,
  ⟨"ASTER_ITEM_CYCLES", 0xC0024, [(16, 0x1000)], 0x0, 0x0, 0x0, .rc, .any, []⟩,
  ⟨"ASTER_XSTALLS", 0xC0028, [(16, 0x1000)], 0x0, 0x0, 0x0, .rc, .any, []⟩,
  ⟨"ASTER_REPCLIPS", 0xC002C, [(16, 0x1000)], 0x0, 0x0, 0x0, .rc, .any, []⟩,
  ⟨"ASTER_SATS", 0xC0030, [(16, 0x1000)], 0x0, 0x0, 0x0, .rc, .any, []⟩,
  ⟨"ASTER_DBG_SEL", 0xC0040, [(16, 0x1000)], 0x0, 0xFF, 0x0, .plain, .any, []⟩,
  ⟨"ASTER_DBG_DATA", 0xC0044, [(16, 0x1000)], 0x0, 0xFFFFFFFF, 0x0, .plain, .any, []⟩,
  ⟨"ASTER_DBG_CMD", 0xC0048, [(16, 0x1000)], 0x0, 0x0, 0x0, .wo, .bootConfig, []⟩]

/-- Registers of the NET block, part 0 (R352, R363, R375, R377). -/
def netRowsP0 : List RegRow := [
  ⟨"NET_CTRL", 0x100000, [(4, 0x10000)], 0x80, 0xFF, 0x0, .plain, .config, []⟩,
  ⟨"NET_STATUS", 0x100004, [(4, 0x10000)], 0x0, 0x0, 0x3F00, .plain, .any, []⟩,
  ⟨"NET_MAC_LO", 0x100008, [(4, 0x10000)], 0x0, 0xFFFFFFFF, 0x0, .plain, .config, []⟩,
  ⟨"NET_MAC_HI", 0x10000C, [(4, 0x10000)], 0x0, 0xFFFF, 0x0, .plain, .config, []⟩,
  ⟨"NET_IP4", 0x100010, [(4, 0x10000)], 0x0, 0xFFFFFFFF, 0x0, .plain, .config, []⟩,
  ⟨"NET_IP6", 0x100014, [(4, 0x10000), (4, 0x4)], 0x0, 0xFFFFFFFF, 0x0, .plain, .config, []⟩,
  ⟨"NET_IP_CFG", 0x100024, [(4, 0x10000)], 0x40, 0xFF, 0x0, .plain, .config, [(7, 0, 0x1, 0xFF)]⟩,
  ⟨"NET_PAUSE_CFG", 0x100028, [(4, 0x10000)], 0xFFFF, 0xFFFF, 0x0, .plain, .config, [(15, 0, 0x1, 0xFFFF)]⟩,
  ⟨"NET_PAUSE_HI", 0x10002C, [(4, 0x10000)], 0xC0, 0xFFFFFFFF, 0x0, .plain, .config, [(31, 0, 0x20, 0xF0)]⟩,
  ⟨"NET_PAUSE_LO", 0x100030, [(4, 0x10000)], 0x40, 0xFFFFFFFF, 0x0, .plain, .config, [(31, 0, 0x10, 0xE0)]⟩,
  ⟨"NET_LAUNCH_LIMIT", 0x100040, [(4, 0x10000)], 0x64, 0xFFFFFFFF, 0x0, .plain, .config, [(31, 0, 0xA, 0x3E8)]⟩,
  ⟨"NET_CTRL_RATE", 0x100044, [(4, 0x10000)], 0x4E20, 0xFFFFFFFF, 0x0, .plain, .config, [(31, 0, 0x3E8, 0x186A0)]⟩,
  ⟨"NET_MM_CFG", 0x100034, [(4, 0x10000)], 0xA01, 0xFF07, 0x0, .plain, .config, [(15, 8, 0x1, 0x80)]⟩,
  ⟨"NET_MM_STATUS", 0x100038, [(4, 0x10000)], 0x0, 0x0, 0x0, .plain, .any, []⟩,
  ⟨"NET_WAKE_CFG", 0x10003C, [(4, 0x10000)], 0x3, 0x7, 0x0, .plain, .any, []⟩,
  ⟨"NET_RX_FRAMES", 0x100100, [(4, 0x10000)], 0x0, 0x0, 0x0, .rc, .any, []⟩]

/-- Registers of the NET block, part 1 (R352, R363, R375, R377). -/
def netRowsP1 : List RegRow := [
  ⟨"NET_RX_FCS_ERRS", 0x100104, [(4, 0x10000)], 0x0, 0x0, 0x0, .rc, .any, []⟩,
  ⟨"NET_RX_LEN_ERRS", 0x100108, [(4, 0x10000)], 0x0, 0x0, 0x0, .rc, .any, []⟩,
  ⟨"NET_RX_FILTERED", 0x10010C, [(4, 0x10000)], 0x0, 0x0, 0x0, .rc, .any, []⟩,
  ⟨"NET_RX_OVERFLOW", 0x100110, [(4, 0x10000)], 0x0, 0x0, 0x0, .rc, .any, []⟩,
  ⟨"NET_RX_EXPRESS_DROPS", 0x100114, [(4, 0x10000)], 0x0, 0x0, 0x0, .rc, .any, []⟩,
  ⟨"NET_RX_CSUM_ERRS", 0x100118, [(4, 0x10000)], 0x0, 0x0, 0x0, .rc, .any, []⟩,
  ⟨"NET_RX_RATE_DROPS", 0x10011C, [(4, 0x10000)], 0x0, 0x0, 0x0, .rc, .any, []⟩,
  ⟨"NET_RX_PAUSE", 0x100120, [(4, 0x10000)], 0x0, 0x0, 0x0, .rc, .any, []⟩,
  ⟨"NET_RX_MM_ERRS", 0x100124, [(4, 0x10000)], 0x0, 0x0, 0x0, .rc, .any, []⟩,
  ⟨"NET_TX_FRAMES", 0x100128, [(4, 0x10000)], 0x0, 0x0, 0x0, .rc, .any, []⟩,
  ⟨"NET_TX_PAUSE", 0x10012C, [(4, 0x10000)], 0x0, 0x0, 0x0, .rc, .any, []⟩,
  ⟨"NET_TX_PREEMPTED", 0x100130, [(4, 0x10000)], 0x0, 0x0, 0x0, .rc, .any, []⟩,
  ⟨"NET_TX_LATE", 0x100134, [(4, 0x10000)], 0x0, 0x0, 0x0, .rc, .any, []⟩,
  ⟨"NET_LINK_DOWNS", 0x100138, [(4, 0x10000)], 0x0, 0x0, 0x0, .rc, .any, []⟩,
  ⟨"NET_MCAST_LO", 0x100400, [(4, 0x10000), (32, 0x8)], 0x0, 0xFFFFFFFF, 0x0, .plain, .any, []⟩,
  ⟨"NET_MCAST_HI", 0x100404, [(4, 0x10000), (32, 0x8)], 0x0, 0x8000FFFF, 0x0, .plain, .any, []⟩]

/-- Registers of the NET block, part 2 (R352, R363, R375, R377). -/
def netRowsP2 : List RegRow := [
  ⟨"NET_STREAM_SEL", 0x108000, [], 0x0, 0x1FF, 0x0, .plain, .any, []⟩,
  ⟨"NET_STREAM_DESC", 0x108004, [(32, 0x4)], 0x0, 0x0, 0x0, .plain, .any, []⟩,
  ⟨"NET_STREAM_STAT", 0x108100, [(8, 0x4)], 0x0, 0x0, 0x0, .plain, .any, []⟩,
  ⟨"NET_STREAM_SATS", 0x108200, [], 0x0, 0x0, 0x0, .rc, .any, []⟩]

/-- Registers of the NET block. -/
def netRows : List RegRow := netRowsP0 ++ netRowsP1 ++ netRowsP2

/-- Registers of the PAIR block, part 0 (R410). -/
def pairRowsP0 : List RegRow := [
  ⟨"PAIR_CTRL", 0x140000, [], 0x2, 0x37, 0x0, .plain, .config, []⟩,
  ⟨"PAIR_STATUS", 0x140004, [], 0x0, 0x0, 0xFF00, .plain, .any, []⟩,
  ⟨"PAIR_PEER_IP4", 0x140008, [], 0x0, 0xFFFFFFFF, 0x0, .plain, .config, []⟩,
  ⟨"PAIR_PEER_IP6", 0x14000C, [(4, 0x4)], 0x0, 0xFFFFFFFF, 0x0, .plain, .config, []⟩,
  ⟨"PAIR_PEER_MAC_LO", 0x14001C, [], 0x0, 0xFFFFFFFF, 0x0, .plain, .config, []⟩,
  ⟨"PAIR_PEER_MAC_HI", 0x140020, [], 0x0, 0xFFFF, 0x0, .plain, .config, []⟩,
  ⟨"PAIR_MIRROR_LEAD", 0x140024, [], 0x3, 0xFFFFFFFF, 0x0, .plain, .config, [(31, 0, 0x1, 0x1E)]⟩,
  ⟨"PAIR_CMD_LEAD", 0x140028, [], 0x6, 0xFFFFFFFF, 0x0, .plain, .config, [(31, 0, 0x3, 0x258)]⟩,
  ⟨"PAIR_PRES_WAIT", 0x14002C, [], 0x28, 0xFFFFFFFF, 0x0, .plain, .config, [(31, 0, 0xA, 0xC8)]⟩,
  ⟨"PAIR_JOIN_RATE", 0x140054, [], 0x1F40, 0xFFFFFFFF, 0x0, .plain, .config, [(31, 0, 0x1F4, 0x2710)]⟩,
  ⟨"PAIR_APORT", 0x140030, [], 0x0, 0xFFFFFFFF, 0x0, .plain, .config, []⟩,
  ⟨"PAIR_FAULT_HELD", 0x140034, [], 0x0, 0x0, 0x1F, .plain, .any, []⟩,
  ⟨"PAIR_CFG_ID_LO", 0x140038, [], 0x0, 0x0, 0x0, .plain, .any, []⟩,
  ⟨"PAIR_CFG_ID_HI", 0x14003C, [], 0x0, 0x0, 0x0, .plain, .any, []⟩,
  ⟨"PAIR_OFFSET", 0x140040, [], 0x0, 0x0, 0x0, .plain, .any, []⟩,
  ⟨"PAIR_LAST_DIVERGED_QN_LO", 0x140044, [], 0x0, 0x0, 0x0, .plain, .any, []⟩]

/-- Registers of the PAIR block, part 1 (R410). -/
def pairRowsP1 : List RegRow := [
  ⟨"PAIR_LAST_DIVERGED_QN_HI", 0x140048, [], 0x0, 0x0, 0x0, .plain, .any, []⟩,
  ⟨"PAIR_CAP_V", 0x14004C, [], 0x0, 0x0, 0x0, .plain, .any, []⟩,
  ⟨"PAIR_CAP_C", 0x140050, [], 0x0, 0x0, 0x0, .plain, .any, []⟩,
  ⟨"PAIR_DIGEST_MISMATCH", 0x140060, [], 0x0, 0x0, 0x0, .rc, .any, []⟩,
  ⟨"PAIR_HB_MISSED_LINK", 0x140064, [], 0x0, 0x0, 0x0, .rc, .any, []⟩,
  ⟨"PAIR_HB_MISSED_ETH", 0x140068, [], 0x0, 0x0, 0x0, .rc, .any, []⟩,
  ⟨"PAIR_MIRROR_LATE", 0x14006C, [], 0x0, 0x0, 0x0, .rc, .any, []⟩,
  ⟨"PAIR_PRES_TIMEOUTS", 0x140070, [], 0x0, 0x0, 0x0, .rc, .any, []⟩,
  ⟨"PAIR_CMD_DISAGREE", 0x140074, [], 0x0, 0x0, 0x0, .rc, .any, []⟩,
  ⟨"PAIR_RETRANSMITS", 0x140078, [], 0x0, 0x0, 0x0, .rc, .any, []⟩,
  ⟨"PAIR_LINK_ERRS", 0x14007C, [], 0x0, 0x0, 0x0, .rc, .any, []⟩]

/-- Registers of the PAIR block. -/
def pairRows : List RegRow := pairRowsP0 ++ pairRowsP1

/-- Registers of the APORT block, part 0 (R338, R348). -/
def aportRowsP0 : List RegRow := [
  ⟨"APORT_ALIGNED", 0x150000, [], 0x0, 0x0, 0x0, .plain, .any, []⟩,
  ⟨"APORT_FLAGS", 0x150004, [], 0x0, 0x0, 0x0, .plain, .any, []⟩,
  ⟨"APORT_CFG", 0x151000, [(16, 0x80)], 0x6110, 0x1FFFFF, 0x0, .plain, .config, [(1, 0, 0x0, 0x2), (6, 4, 0x0, 0x6), (15, 14, 0x0, 0x2)]⟩,
  ⟨"APORT_CTRL", 0x151004, [(16, 0x80)], 0x0, 0x3, 0x0, .plain, .running, []⟩,
  ⟨"APORT_STATUS", 0x151008, [(16, 0x80)], 0x0, 0x0, 0x3F00, .plain, .any, []⟩,
  ⟨"APORT_RX_MASK", 0x15100C, [(16, 0x80)], 0x3, 0xFFFFFFFF, 0x0, .plain, .running, []⟩,
  ⟨"APORT_TX_MASK", 0x151010, [(16, 0x80)], 0x3, 0xFFFFFFFF, 0x0, .plain, .running, []⟩,
  ⟨"APORT_RX_MASK_NOW", 0x151014, [(16, 0x80)], 0x3, 0x0, 0x0, .plain, .any, []⟩,
  ⟨"APORT_TX_MASK_NOW", 0x151018, [(16, 0x80)], 0x3, 0x0, 0x0, .plain, .any, []⟩,
  ⟨"APORT_RATIO", 0x15101C, [(16, 0x80)], 0x0, 0x0, 0x0, .plain, .any, []⟩,
  ⟨"APORT_ASRC_DELAY", 0x151020, [(16, 0x80)], 0x0, 0x0, 0x0, .plain, .any, []⟩,
  ⟨"APORT_UNDERRUNS", 0x151024, [(16, 0x80)], 0x0, 0x0, 0x0, .rc, .any, []⟩,
  ⟨"APORT_FRAME_ERRS", 0x151028, [(16, 0x80)], 0x0, 0x0, 0x0, .rc, .any, []⟩,
  ⟨"APORT_ZC_TIMEOUTS", 0x15102C, [(16, 0x80)], 0x0, 0x0, 0x0, .rc, .any, []⟩,
  ⟨"APORT_SATS", 0x151030, [(16, 0x80)], 0x0, 0x0, 0x0, .rc, .any, []⟩,
  ⟨"APORT_RX_BUF", 0x151034, [(16, 0x80)], 0x0, 0x0, 0x0, .plain, .any, []⟩]

/-- Registers of the APORT block, part 1 (R338, R348). -/
def aportRowsP1 : List RegRow := [
  ⟨"APORT_TX_BUF", 0x151038, [(16, 0x80)], 0x0, 0x0, 0x0, .plain, .any, []⟩]

/-- Registers of the APORT block. -/
def aportRows : List RegRow := aportRowsP0 ++ aportRowsP1

/-- Registers of the DEC block, part 0 (R294, R295, R303). -/
def decRowsP0 : List RegRow := [
  ⟨"DEC_CTRL", 0x160000, [], 0x0, 0xF3, 0x0, .plain, .config, []⟩,
  ⟨"DEC_STATUS", 0x160004, [], 0x0, 0x0, 0xF00, .plain, .any, []⟩,
  ⟨"DEC_LOAD", 0x160008, [], 0x0, 0x0, 0x0, .plain, .any, []⟩,
  ⟨"DEC_SWAPS", 0x16000C, [], 0x0, 0x0, 0x0, .rc, .any, []⟩,
  ⟨"DEC_SRC_STUCK", 0x160010, [(4, 0x4)], 0x0, 0x0, 0x0, .plain, .any, []⟩,
  ⟨"DEC_CIC_SATS", 0x160020, [], 0x0, 0x0, 0x0, .rc, .any, []⟩,
  ⟨"DEC_FIR_SATS", 0x160024, [], 0x0, 0x0, 0x0, .rc, .any, []⟩,
  ⟨"DEC_COEF_SEL", 0x160040, [], 0x0, 0x7F013F, 0x0, .plain, .any, []⟩,
  ⟨"DEC_COEF_DATA", 0x160044, [], 0x0, 0x0, 0x0, .wo, .any, []⟩,
  ⟨"DEC_CAP_CTRL", 0x160100, [(8, 0x40)], 0x0, 0xF, 0x0, .plain, .config, [(3, 2, 0x0, 0x2)]⟩,
  ⟨"DEC_CAP_MASK", 0x160104, [(8, 0x40), (4, 0x4)], 0x0, 0xFFFFFFFF, 0x0, .plain, .config, []⟩,
  ⟨"DEC_CAP_BASE_LO", 0x160114, [(8, 0x40)], 0x0, 0xFFFFFFFF, 0x0, .plain, .config, [(5, 0, 0x0, 0x0)]⟩,
  ⟨"DEC_CAP_BASE_HI", 0x160118, [(8, 0x40)], 0x0, 0xFFFFFFFF, 0x0, .plain, .config, []⟩,
  ⟨"DEC_CAP_SIZE", 0x16011C, [(8, 0x40)], 0x10, 0xFFFFFFFF, 0x0, .plain, .config, []⟩,
  ⟨"DEC_CAP_WR", 0x160120, [(8, 0x40)], 0x0, 0x0, 0x0, .plain, .any, []⟩,
  ⟨"DEC_CAP_RD", 0x160124, [(8, 0x40)], 0x0, 0xFFFFFFFF, 0x0, .plain, .any, []⟩]

/-- Registers of the DEC block, part 1 (R294, R295, R303). -/
def decRowsP1 : List RegRow := [
  ⟨"DEC_CAP_DROPS", 0x160128, [(8, 0x40)], 0x0, 0x0, 0x0, .rc, .any, []⟩,
  ⟨"DEC_CAP_BLOCK", 0x16012C, [(8, 0x40)], 0x0, 0x0, 0x0, .plain, .any, []⟩,
  ⟨"DEC_CH_CFG", 0x161000, [(128, 0x20)], 0x0, 0x3FFFFFFF, 0x0, .plain, .config, []⟩,
  ⟨"DEC_CH_RATE", 0x161004, [(128, 0x20)], 0x4, 0x7, 0x0, .plain, .config, [(2, 0, 0x0, 0x6)]⟩,
  ⟨"DEC_CH_PHASE", 0x161008, [(128, 0x20)], 0x0, 0xFFFF, 0x0, .plain, .config, []⟩,
  ⟨"DEC_CH_DELAY", 0x16100C, [(128, 0x20)], 0x0, 0x0, 0x0, .plain, .any, []⟩,
  ⟨"DEC_CH_STATE", 0x161010, [(128, 0x20)], 0x0, 0x0, 0x0, .plain, .any, []⟩,
  ⟨"DEC_CH_LATEST", 0x161014, [(128, 0x20)], 0x0, 0x0, 0x0, .plain, .any, []⟩,
  ⟨"DEC_RS_KERNEL", 0x16C000, [(256, 0x40), (16, 0x4)], 0x0, 0x0, 0x0, .plain, .any, []⟩]

/-- Registers of the DEC block. -/
def decRows : List RegRow := decRowsP0 ++ decRowsP1

/-- Registers of the DRIVE block, part 0 (R323, R324). -/
def driveRowsP0 : List RegRow := [
  ⟨"DRV_CTRL", 0x170000, [], 0x6, 0x7, 0x0, .plain, .config, []⟩,
  ⟨"DRV_STATUS", 0x170004, [], 0x0, 0x0, 0x1F00, .plain, .any, []⟩,
  ⟨"DRV_STAGGER", 0x170008, [], 0x60, 0xFF, 0x0, .plain, .config, [(7, 0, 0x52, 0x8C)]⟩,
  ⟨"DRV_RETRY", 0x17000C, [], 0x302, 0xFFF, 0x0, .plain, .config, [(7, 0, 0x1, 0x3C)]⟩,
  ⟨"DRV_DIAG_THR", 0x170010, [], 0x3E80064, 0xFFFFFFFF, 0x0, .plain, .config, [(15, 0, 0x14, 0x3E8), (31, 16, 0xFA, 0xFA0)]⟩,
  ⟨"DRV_LATCHES", 0x170014, [], 0x0, 0x0, 0x0, .rc, .any, []⟩,
  ⟨"DRV_DIAG_RUNS", 0x170018, [], 0x0, 0x0, 0x0, .rc, .any, []⟩,
  ⟨"DRV_RAIL_CFG", 0x170040, [(8, 0x10)], 0x0, 0xFFFF00FF, 0x0, .plain, .config, []⟩,
  ⟨"DRV_RAIL_UV", 0x170044, [(8, 0x10)], 0x0, 0xFFFF, 0x0, .plain, .config, []⟩,
  ⟨"DRV_RAIL_NOW", 0x170048, [(8, 0x10)], 0x0, 0x0, 0x0, .plain, .any, []⟩,
  ⟨"DRV_CH_CFG", 0x171000, [(16, 0x40)], 0x0, 0x3FFFFFFF, 0x0, .plain, .config, []⟩,
  ⟨"DRV_CH_VFS", 0x171004, [(16, 0x40)], 0x0, 0xFFFFFFFF, 0x0, .plain, .config, [(15, 0, 0x1F4, 0x9C40), (31, 16, 0x0, 0x7D0)]⟩,
  ⟨"DRV_CH_ILIM", 0x171008, [(16, 0x40)], 0x6403E8, 0xFFFF0FFF, 0x0, .plain, .config, [(11, 0, 0x32, 0x7D0), (31, 16, 0x1, 0x3E8)]⟩,
  ⟨"DRV_CH_REL", 0x17100C, [(16, 0x40)], 0x369C5, 0xFFFFFFFF, 0x0, .plain, .config, [(31, 0, 0x1, 0x7FFFFFFF)]⟩,
  ⟨"DRV_CH_STATUS", 0x171010, [(16, 0x40)], 0x0, 0x0, 0x30000, .plain, .any, []⟩,
  ⟨"DRV_CH_Z", 0x171014, [(16, 0x40)], 0x0, 0x0, 0x0, .plain, .any, []⟩]

/-- Registers of the DRIVE block, part 1 (R323, R324). -/
def driveRowsP1 : List RegRow := [
  ⟨"DRV_CH_GR", 0x171018, [(16, 0x40)], 0x7FFFFFFF, 0x0, 0x0, .plain, .any, []⟩,
  ⟨"DRV_CH_LIMITS", 0x17101C, [(16, 0x40)], 0x0, 0x0, 0x0, .rc, .any, []⟩]

/-- Registers of the DRIVE block. -/
def driveRows : List RegRow := driveRowsP0 ++ driveRowsP1

/-- Registers of the LISTEN block (R349). -/
def listenRows : List RegRow := [
  ⟨"LISTEN_CTRL", 0x180000, [], 0x6402, 0xFF03, 0x0, .plain, .any, [(15, 8, 0xA, 0xFF)]⟩,
  ⟨"LISTEN_STATUS", 0x180004, [], 0x0, 0x0, 0xF0000, .plain, .any, []⟩,
  ⟨"LISTEN_HP_VOL", 0x180008, [], 0xFF, 0xFF, 0x0, .plain, .any, []⟩,
  ⟨"LISTEN_MIC_GAIN", 0x18000C, [], 0x0, 0x3F, 0x0, .plain, .any, [(5, 0, 0x0, 0x2A)]⟩,
  ⟨"LISTEN_LINE_R", 0x180010, [], 0xFFFFFFFF, 0x0, 0x0, .plain, .any, []⟩,
  ⟨"LISTEN_BTN_THR0", 0x180020, [], 0x460000, 0xFFFFFFFF, 0x0, .plain, .config, []⟩,
  ⟨"LISTEN_BTN_THR1", 0x180024, [], 0x12200D2, 0xFFFFFFFF, 0x0, .plain, .config, []⟩,
  ⟨"LISTEN_BTN_THR2", 0x180028, [], 0x2A80168, 0xFFFFFFFF, 0x0, .plain, .config, []⟩,
  ⟨"LISTEN_BTN_THR3", 0x18002C, [], 0xB4006E, 0xFFFFFFFF, 0x0, .plain, .config, []⟩]

/-- Registers of the DMA block, part 0 (R473, R475, R477, R478, R480). -/
def dmaRowsP0 : List RegRow := [
  ⟨"DMA_CTRL", 0x190000, [], 0x1, 0x1, 0x0, .plain, .config, []⟩,
  ⟨"DMA_STATUS", 0x190004, [], 0x0, 0x0, 0x300, .plain, .any, []⟩,
  ⟨"DMA_OUTSTANDING", 0x190008, [], 0x0, 0x0, 0x0, .plain, .any, []⟩,
  ⟨"DMA_HALTED_LO", 0x19000C, [], 0x0, 0x0, 0x0, .plain, .any, []⟩,
  ⟨"DMA_HALTED_HI", 0x190010, [], 0x0, 0x0, 0x0, .plain, .any, []⟩,
  ⟨"DMA_CH_CFG", 0x191000, [(64, 0x40)], 0x103404, 0x3FFFFF, 0x0, .plain, .any, [(4, 0, 0x4, 0x10), (21, 16, 0x1, 0x40)]⟩,
  ⟨"DMA_CH_CTRL", 0x191004, [(64, 0x40)], 0x0, 0x1, 0x0, .plain, .any, []⟩,
  ⟨"DMA_CH_STATUS", 0x191008, [(64, 0x40)], 0x0, 0x0, 0x70000, .plain, .any, []⟩,
  ⟨"DMA_CH_BASE_LO", 0x19100C, [(64, 0x40)], 0x0, 0xFFFFFFFF, 0x0, .plain, .any, [(4, 0, 0x0, 0x0)]⟩,
  ⟨"DMA_CH_BASE_HI", 0x191010, [(64, 0x40)], 0x0, 0xFFFFFFFF, 0x0, .plain, .any, []⟩,
  ⟨"DMA_CH_WB_LO", 0x191014, [(64, 0x40)], 0x0, 0xFFFFFFFF, 0x0, .plain, .any, [(1, 0, 0x0, 0x0)]⟩,
  ⟨"DMA_CH_WB_HI", 0x191018, [(64, 0x40)], 0x0, 0xFFFFFFFF, 0x0, .plain, .any, []⟩,
  ⟨"DMA_CH_PROD", 0x19101C, [(64, 0x40)], 0x0, 0xFFFFFFFF, 0x0, .plain, .any, []⟩,
  ⟨"DMA_CH_CONS", 0x191020, [(64, 0x40)], 0x0, 0x0, 0x0, .plain, .any, []⟩,
  ⟨"DMA_CH_CUR_LO", 0x191024, [(64, 0x40)], 0x0, 0x0, 0x0, .plain, .any, []⟩,
  ⟨"DMA_CH_CUR_HI", 0x191028, [(64, 0x40)], 0x0, 0x0, 0x0, .plain, .any, []⟩]

/-- Registers of the DMA block, part 1 (R473, R475, R477, R478, R480). -/
def dmaRowsP1 : List RegRow := [
  ⟨"DMA_CH_REMAIN", 0x19102C, [(64, 0x40)], 0x0, 0x0, 0x0, .plain, .any, []⟩,
  ⟨"DMA_CH_ERR_ADDR_LO", 0x191030, [(64, 0x40)], 0x0, 0x0, 0x0, .plain, .any, []⟩,
  ⟨"DMA_CH_ERR_ADDR_HI", 0x191034, [(64, 0x40)], 0x0, 0x0, 0x0, .plain, .any, []⟩,
  ⟨"DMA_CH_HOPS", 0x191038, [(64, 0x40)], 0x10000, 0xFFFFFFFF, 0x0, .plain, .any, [(31, 0, 0x10, 0x1000000)]⟩,
  ⟨"DMA_CH_RETRIES", 0x19103C, [(64, 0x40)], 0x0, 0x0, 0x0, .rc, .any, []⟩]

/-- Registers of the DMA block. -/
def dmaRows : List RegRow := dmaRowsP0 ++ dmaRowsP1

/-- Registers of the DRAMC block (R449, R480). -/
def dramcRows : List RegRow := [
  ⟨"DRAMC_CFG", 0x1A0000, [], 0x0, 0x1, 0x0, .plain, .boot, []⟩,
  ⟨"DRAMC_STATUS", 0x1A0004, [], 0x0, 0x0, 0xF00, .plain, .any, []⟩,
  ⟨"DRAMC_ROWPROT_THR", 0x1A0008, [], 0x800, 0xFFFFFFFF, 0x0, .plain, .config, [(31, 0, 0x100, 0x4000)]⟩,
  ⟨"DRAMC_RETRAIN_S", 0x1A000C, [], 0xE10, 0xFFFFFFFF, 0x0, .plain, .config, [(31, 0, 0x3C, 0x15180)]⟩,
  ⟨"DRAMC_ERR_ADDR_LO", 0x1A0010, [], 0x0, 0x0, 0x0, .plain, .any, []⟩,
  ⟨"DRAMC_ERR_ADDR_HI", 0x1A0014, [], 0x0, 0x0, 0x0, .plain, .any, []⟩,
  ⟨"DRAMC_REGION_BASE_LO", 0x1A0100, [(11, 0x10)], 0x0, 0x0, 0x0, .plain, .any, []⟩,
  ⟨"DRAMC_REGION_BASE_HI", 0x1A0104, [(11, 0x10)], 0x0, 0x0, 0x0, .plain, .any, []⟩,
  ⟨"DRAMC_REGION_SIZE", 0x1A0108, [(11, 0x10)], 0x0, 0x0, 0x0, .plain, .any, []⟩,
  ⟨"DRAMC_CE", 0x1A1000, [(4, 0x40)], 0x0, 0x0, 0x0, .rc, .any, []⟩,
  ⟨"DRAMC_UE", 0x1A1004, [(4, 0x40)], 0x0, 0x0, 0x0, .rc, .any, []⟩,
  ⟨"DRAMC_FWD", 0x1A1008, [(4, 0x40)], 0x0, 0x0, 0x0, .rc, .any, []⟩,
  ⟨"DRAMC_TRR", 0x1A100C, [(4, 0x40)], 0x0, 0x0, 0x0, .rc, .any, []⟩,
  ⟨"DRAMC_RETRAINS", 0x1A1010, [(4, 0x40)], 0x0, 0x0, 0x0, .rc, .any, []⟩,
  ⟨"DRAMC_TEMP", 0x1A1014, [(4, 0x40)], 0x0, 0x0, 0x0, .plain, .any, []⟩]

/-- Registers of the SRAMC block (R460, R480). -/
def sramcRows : List RegRow := [
  ⟨"SRAMC_CTRL", 0x1B0000, [], 0xA, 0xFFF, 0x0, .plain, .config, [(11, 0, 0x1, 0xE10)]⟩,
  ⟨"SRAMC_STATUS", 0x1B0004, [], 0x0, 0x0, 0xF00, .plain, .any, []⟩,
  ⟨"SRAMC_RET", 0x1B0008, [], 0x40FF, 0x7FFF, 0x0, .plain, .config, []⟩,
  ⟨"SRAMC_ERR_ADDR", 0x1B000C, [], 0x0, 0x0, 0x0, .plain, .any, []⟩,
  ⟨"SRAMC_CE", 0x1B0100, [(5, 0x10)], 0x0, 0x0, 0x0, .rc, .any, []⟩,
  ⟨"SRAMC_UE", 0x1B0104, [(5, 0x10)], 0x0, 0x0, 0x0, .rc, .any, []⟩,
  ⟨"SRAMC_REPAIR", 0x1B0108, [(5, 0x10)], 0x0, 0x0, 0x0, .plain, .any, []⟩]

/-- Registers of the MATRIX block (R480). -/
def matrixRows : List RegRow := [
  ⟨"MATRIX_TIMEOUT", 0x1C0000, [], 0x4E20, 0xFFFFFFFF, 0x0, .plain, .config, [(31, 0, 0x3E8, 0xF4240)]⟩,
  ⟨"MATRIX_ERR_STATUS", 0x1C0004, [], 0x0, 0x0, 0x1F, .plain, .any, []⟩,
  ⟨"MATRIX_ERR_ADDR_LO", 0x1C0008, [], 0x0, 0x0, 0x0, .plain, .any, []⟩,
  ⟨"MATRIX_ERR_ADDR_HI", 0x1C000C, [], 0x0, 0x0, 0x0, .plain, .any, []⟩,
  ⟨"MATRIX_TIMEOUTS", 0x1C0010, [], 0x0, 0x0, 0x0, .rc, .any, []⟩,
  ⟨"MATRIX_DECODE_ERRS", 0x1C0014, [], 0x0, 0x0, 0x0, .rc, .any, []⟩,
  ⟨"MATRIX_LATE_RESP", 0x1C0018, [], 0x0, 0x0, 0x0, .rc, .any, []⟩,
  ⟨"MATRIX_QOS_CFG", 0x1C001C, [], 0x206, 0xF0F, 0x0, .plain, .config, [(3, 0, 0x0, 0xD), (11, 8, 0x0, 0xD)]⟩,
  ⟨"MATRIX_BUSY", 0x1C0100, [(24, 0x4)], 0x0, 0x0, 0x0, .rc, .any, []⟩]

/-- Registers of the SEC block (R501, R509, R514). -/
def secRows : List RegRow := [
  ⟨"SEC_STATUS", 0x1D0000, [], 0x0, 0x0, 0x10000, .plain, .any, []⟩,
  ⟨"SEC_LC_REQ", 0x1D0004, [], 0x0, 0x0, 0x0, .wo, .config, []⟩,
  ⟨"SEC_TAMPER_CFG", 0x1D0008, [], 0xA00, 0xFFFF, 0x0, .plain, .config, [(15, 8, 0x1, 0xFF)]⟩,
  ⟨"SEC_TAMPER_STATUS", 0x1D000C, [], 0x0, 0x0, 0x7F, .plain, .any, []⟩,
  ⟨"SEC_LC_TOKEN", 0x1D0010, [(24, 0x4)], 0x0, 0x0, 0x0, .wo, .any, []⟩,
  ⟨"SEC_UID", 0x1D0080, [(4, 0x4)], 0x0, 0x0, 0x0, .plain, .any, []⟩,
  ⟨"SEC_FW_DIGEST", 0x1D0090, [(12, 0x4)], 0x0, 0x0, 0x0, .plain, .any, []⟩,
  ⟨"SEC_SVN", 0x1D00C0, [], 0x0, 0x0, 0x0, .plain, .any, []⟩,
  ⟨"SEC_SVN_COMMIT", 0x1D00C4, [], 0x0, 0x0, 0x0, .wo, .any, []⟩,
  ⟨"SEC_ID_PUB", 0x1D0100, [(25, 0x4)], 0x0, 0x0, 0x0, .plain, .any, []⟩]

/-- Registers of the AGE block (R515). -/
def ageRows : List RegRow := [
  ⟨"AGE_CTRL", 0x1E0000, [], 0x1901, 0xFF01, 0x0, .plain, .config, [(15, 8, 0x5, 0x64)]⟩,
  ⟨"AGE_STATUS", 0x1E0004, [], 0x0, 0x0, 0xF00, .plain, .any, []⟩,
  ⟨"AGE_SLACK_MIN", 0x1E0008, [], 0x0, 0x0, 0x0, .plain, .any, []⟩,
  ⟨"AGE_YEARS", 0x1E000C, [], 0xFFFF, 0x0, 0x0, .plain, .any, []⟩,
  ⟨"AGE_HOURS", 0x1E0010, [], 0x0, 0x0, 0x0, .plain, .any, []⟩,
  ⟨"AGE_LAST_CT32", 0x1E0014, [], 0x0, 0x0, 0x0, .plain, .any, []⟩,
  ⟨"AGE_PATH", 0x1E0100, [(64, 0x4)], 0x0, 0x0, 0x0, .plain, .any, []⟩,
  ⟨"AGE_SRAM_VMIN", 0x1E0200, [(8, 0x4)], 0x0, 0x0, 0x0, .plain, .any, []⟩]

/-- Registers of the PERIPH block, part 0 (R534). -/
def periphRowsP0 : List RegRow := [
  ⟨"PERIPH_STATUS", 0x1F0000, [], 0x0, 0x0, 0x300, .plain, .any, []⟩,
  ⟨"PERIPH_FLASH_ID", 0x1F0010, [], 0x0, 0x0, 0x0, .plain, .any, []⟩,
  ⟨"PERIPH_FLASH_SIZE", 0x1F0014, [], 0x0, 0x0, 0x0, .plain, .any, []⟩,
  ⟨"PERIPH_FLASH_CLK", 0x1F0018, [], 0x7D, 0xFFFFFFFF, 0x0, .plain, .firmware, [(31, 0, 0x19, 0x7D)]⟩,
  ⟨"PERIPH_FLASH_CMD", 0x1F001C, [], 0x0, 0x0, 0x0, .wo, .firmware, []⟩,
  ⟨"PERIPH_FLASH_ADDR_LO", 0x1F0020, [], 0x0, 0xFFFFFFFF, 0x0, .plain, .firmware, []⟩,
  ⟨"PERIPH_FLASH_ADDR_HI", 0x1F0024, [], 0x0, 0xFF, 0x0, .plain, .firmware, []⟩,
  ⟨"PERIPH_FLASH_BUF_LO", 0x1F0028, [], 0x0, 0xFFFFFFFF, 0x0, .plain, .firmware, [(5, 0, 0x0, 0x0)]⟩,
  ⟨"PERIPH_FLASH_BUF_HI", 0x1F002C, [], 0x0, 0xFFFFFFFF, 0x0, .plain, .firmware, []⟩,
  ⟨"PERIPH_FLASH_LEN", 0x1F0030, [], 0x0, 0xFFFFFFFF, 0x0, .plain, .firmware, [(31, 0, 0x1, 0x100)]⟩,
  ⟨"PERIPH_I2C_CFG", 0x1F0100, [(2, 0x40)], 0x1, 0x103, 0x0, .plain, .firmware, [(1, 0, 0x0, 0x2)]⟩,
  ⟨"PERIPH_I2C_CMD", 0x1F0104, [(2, 0x40)], 0x0, 0x0, 0x0, .wo, .firmware, []⟩,
  ⟨"PERIPH_I2C_DATA", 0x1F0108, [(2, 0x40), (8, 0x4)], 0x0, 0xFFFFFFFF, 0x0, .plain, .firmware, []⟩,
  ⟨"PERIPH_I2C_STATUS", 0x1F0128, [(2, 0x40)], 0x0, 0x0, 0xF00, .plain, .any, []⟩,
  ⟨"PERIPH_UART_CFG", 0x1F0200, [], 0x1C200, 0xFFFFFF, 0x0, .plain, .firmware, [(23, 0, 0x2580, 0x2DC6C0)]⟩,
  ⟨"PERIPH_UART_TX", 0x1F0204, [], 0x0, 0x0, 0x0, .wo, .firmware, []⟩]

/-- Registers of the PERIPH block, part 1 (R534). -/
def periphRowsP1 : List RegRow := [
  ⟨"PERIPH_UART_RX", 0x1F0208, [], 0x0, 0x0, 0x0, .plain, .any, []⟩,
  ⟨"PERIPH_UART_RX_POP", 0x1F020C, [], 0x0, 0x0, 0x0, .wo, .firmware, []⟩,
  ⟨"PERIPH_UART_STATUS", 0x1F0210, [], 0x0, 0x0, 0x700, .plain, .any, []⟩,
  ⟨"PERIPH_PMB_CFG", 0x1F0300, [], 0x60, 0x17F, 0x0, .plain, .firmware, []⟩,
  ⟨"PERIPH_PMB_VOUT", 0x1F0304, [], 0x0, 0x0, 0x0, .plain, .any, []⟩,
  ⟨"PERIPH_PMB_IOUT", 0x1F0308, [], 0x0, 0x0, 0x0, .plain, .any, []⟩,
  ⟨"PERIPH_PMB_TEMP", 0x1F030C, [], 0x0, 0x0, 0x0, .plain, .any, []⟩,
  ⟨"PERIPH_PMB_STATUS", 0x1F0310, [], 0x0, 0x0, 0x300, .plain, .any, []⟩]

/-- Registers of the PERIPH block. -/
def periphRows : List RegRow := periphRowsP0 ++ periphRowsP1

/-- The rows of the block that holds an address (R19); the NET ports share one map. -/
def blockRows (blk : Nat) : List RegRow :=
  match blk with
  | 0x0 => sysRows
  | 0x1 => pwrRows
  | 0x2 => timeRows
  | 0x3 => hostifRows
  | 0x4 => dispRows
  | 0x5 => geomRows
  | 0x6 => voiceRows
  | 0x8 => planRows
  | 0xA => lupinRows
  | 0xB => surveyRows
  | 0xC => asterRows
  | 0x10 => netRows
  | 0x14 => pairRows
  | 0x15 => aportRows
  | 0x16 => decRows
  | 0x17 => driveRows
  | 0x18 => listenRows
  | 0x19 => dmaRows
  | 0x1A => dramcRows
  | 0x1B => sramcRows
  | 0x1C => matrixRows
  | 0x1D => secRows
  | 0x1E => ageRows
  | 0x1F => periphRows
  | 0x11 => netRows
  | 0x12 => netRows
  | 0x13 => netRows
  | _ => []

/-- Does an offset from a row's base fall on one of its instances? -/
def dimsHit (off : Nat) (dims : List (Nat × Nat)) : Bool :=
  match dims with
  | [] => decide (off = 0)
  | (c, st) :: rest => decide (off / st < c) && dimsHit (off % st) rest

/-- The row of a list that an address belongs to. -/
def findRow (rows : List RegRow) (a : Nat) : Option RegRow :=
  match rows with
  | [] => none
  | r :: rest =>
    if r.base ≤ a ∧ dimsHit (a - r.base) r.dims = true then some r else findRow rest a

/-- The row of the register at BAR0 offset `a`; none for a gap, an absent block or an absent instance (R20). -/
def regRow (a : Nat) : Option RegRow :=
  if a % 4 = 0 then findRow (blockRows (a >>> 16)) a else none

/-- The reset value of the register at `a` (R13). -/
def regReset (a : Nat) : Word :=
  match regRow a with
  | some r => BitVec.ofNat 32 r.reset
  | none => 0

end Sys2Proof.Machine
end

