-- ==== Sys2Proof/Machine/Operands.lean ====
section
/-!
DEFINITION. Operand access: stored register words and their fields, device memory, flash, open values, the outbox.
-/

namespace Sys2Proof.Machine

/-! ### Stored registers -/

/-- The stored word of a register. -/
def reg (d : Dev) (a : Nat) : Word :=
  match fget? d.regs a with
  | some w => w
  | none => regReset a

/-- Stores a word; a word equal to the reset value is not listed. -/
def setReg (a : Nat) (w : Word) (d : Dev) : Dev :=
  if w = regReset a then { d with regs := ferase d.regs a } else { d with regs := fins d.regs a w }

/-- The stored word as a number. -/
def rdN (d : Dev) (a : Nat) : Nat := (reg d a).toNat

/-- Stores a number, modulo 2³². -/
def wrN (a v : Nat) (d : Dev) : Dev := setReg a (BitVec.ofNat 32 v) d

/-- Field [hi:lo] of a register. -/
def fld (d : Dev) (a hi lo : Nat) : Nat := bits (rdN d a) hi lo

/-- Writes field [hi:lo] of a register. -/
def setFld (a hi lo x : Nat) (d : Dev) : Dev := wrN a (setBits (rdN d a) hi lo x) d

/-- Bit i of a register. -/
def bitAt (d : Dev) (a i : Nat) : Bool := (rdN d a).testBit i

/-! ### Time, open values, outbox -/

/-- The present ct32 (R11). -/
def ct32 (d : Dev) : Nat := d.time.pt % 2 ^ 32

/-- The present QN as software and records see it: 0 before the epoch (R84, R431). -/
def qnNow (d : Dev) : Nat := if d.time.counting then d.time.qn else 0

/-- The present local time in ns. -/
def nowNs (d : Dev) : Nat := d.time.now

/-- Takes an open value modulo `m`. -/
def takeFree (m : Nat) (d : Dev) : Nat × Dev :=
  (Config.freeValue d.free % m, { d with free := d.free + 1 })

/-- Takes `n` random bytes (R433). -/
def takeRandom (n : Nat) (d : Dev) : Bytes × Dev :=
  ((List.range n).map (fun i => Config.randomByte (d.free + i)), { d with free := d.free + n })

/-- Appends to the outbox. -/
def emit (o : Output) (d : Dev) : Dev := { d with out := d.out ++ [o] }

/-- Applies `f` when `b` holds. -/
def onlyIf (b : Bool) (f : Dev → Dev) (d : Dev) : Dev := if b then f d else d

/-! ### Memory and flash -/

/-- One byte of device memory. -/
def memByte (d : Dev) (a : Nat) : Byte := fget 0 d.mem (a % 2 ^ 40)

/-- `n` bytes of device memory from `a`. -/
def memRead (d : Dev) (a n : Nat) : Bytes := (List.range n).map (fun i => memByte d (a + i))

/-- Stores one byte in device memory. -/
def memPut (a : Nat) (b : Byte) (d : Dev) : Dev := { d with mem := fput 0 d.mem (a % 2 ^ 40) b }

/-- Stores bytes in device memory from `a` on. -/
def memWrite (a : Nat) (bs : Bytes) (d : Dev) : Dev :=
  match bs with
  | [] => d
  | b :: rest => memWrite (a + 1) rest (memPut a b d)

/-- Takes every byte of a range of device memory to 0. -/
def memClear (lo n : Nat) (d : Dev) : Dev :=
  { d with mem := d.mem.filter (fun e => !(decide (lo ≤ e.1) && decide (e.1 < lo + n))) }

/-- The signed integer of `n` bytes of device memory. -/
def memInt (d : Dev) (a n : Nat) : Int := sext (8 * n) (leVal (memRead d a n))

/-- One byte of the flash. -/
def flashByte (d : Dev) (a : Nat) : Byte := fget 0xFF d.flash a

/-- `n` bytes of the flash from `a`. -/
def flashRead (d : Dev) (a n : Nat) : Bytes := (List.range n).map (fun i => flashByte d (a + i))

/-- Programs bytes: programming clears bits and sets none. -/
def flashProgram (a : Nat) (bs : Bytes) (d : Dev) : Dev :=
  match bs with
  | [] => d
  | b :: rest =>
    flashProgram (a + 1) rest { d with flash := fput 0xFF d.flash a (flashByte d a &&& b) }

/-- Erases the bytes from `a` for `n`. -/
def flashErase (a n : Nat) (d : Dev) : Dev :=
  { d with flash := d.flash.filter (fun e => decide (e.1 < a) || decide (a + n ≤ e.1)) }

/-! ### Configuration every block reads -/

/-- The sample rate of the render domain is 96 kHz (PLAN_CTRL bit 0, R187). -/
def rate96 (d : Dev) : Bool := bitAt d 0x80000 0

/-- The sample rate in Hz. -/
def fsHz (d : Dev) : Nat := if rate96 d then 96000 else 48000

/-- The role of SYS_ROLE_CFG as R39 reads it: 0 none, 1 CENTRAL, 2 EDGE. -/
def role (d : Dev) : Nat :=
  let w := rdN d 0x210
  let idx := bits w 5 0
  let r := bits w 7 6
  if bits w 31 16 = 0 then 0
  else if r = 1 ∧ idx < 2 then 1
  else if r = 2 ∧ 2 ≤ idx then 2
  else 0

/-- Is the device in a rendering mode: CENTRAL, EDGE or SURVEY (R33)? -/
def rendering (d : Dev) : Bool :=
  match d.sys.mode with
  | .central => true
  | .edge => true
  | .survey => true
  | _ => false

/-- Is a transition into a rendering mode running (R33)? -/
def enteringRender (d : Dev) : Bool :=
  match d.sys.running with
  | some t => match t.target with
    | .central => true
    | .edge => true
    | .survey => true
    | _ => false
  | none => false

/-- Does a joiner condition and evaluate: from phase 4 of its join (R405)? -/
def joinerRuns (d : Dev) : Bool :=
  match d.pair.join with
  | some x => x.joiner && decide (4 ≤ x.phase) && decide (d.sys.mode = .mirror)
  | none => false

/-- Does a task of a kind run on this device: on a joiner a voice group once its records have come, the tasks of an output once its
chain has (R405)? -/
def joinTask (d : Dev) (kind ref : Nat) : Bool :=
  match d.pair.join with
  | none => true
  | some x =>
    if x.joiner = false then true
    else if kind = 1 then decide (5 ≤ x.phase) || decide (ref < 64 * x.step)
    else if kind = 2 ∨ kind = 3 then decide (6 ≤ x.phase) || (decide (x.phase = 5) && decide (ref < 16 * x.step))
    else true

/-- Is a joiner still taking over voices or outputs (R405)? -/
def joinPartial (d : Dev) : Bool := d.pair.join.any (fun x => x.joiner && decide (x.phase ≤ 5))

/-- Are quanta activated: in a rendering mode, on the way into one, on in SAFE, and on a joiner that has the state of its
partner (R37, R211, R405)? -/
def renderRuns (d : Dev) : Bool :=
  d.plan.active.isSome
    && (rendering d || enteringRender d || (decide (d.sys.mode = .safe) && !d.geom.fresh) || joinerRuns d)

end Sys2Proof.Machine
end

