-- ==== Sys2Proof/Machine/Flags.lean ====
section
/-!
DEFINITION. Flags and counters of registers: the bits that the hardware raises and clears, and the RC counters.
-/

namespace Sys2Proof.Machine

/-- Sets bit i of a register: a flag the hardware raises (R15, R16). -/
def setFlag (a i : Nat) (d : Dev) : Dev := setFld a i i 1 d

/-- Clears bit i of a register. -/
def clrFlag (a i : Nat) (d : Dev) : Dev := setFld a i i 0 d

/-- Sets or clears bit i of a register. -/
def putFlag (a i : Nat) (b : Bool) (d : Dev) : Dev := setFld a i i (b2n b) d

/-- Counts an event in an RC counter, saturating (R17). -/
def addCnt (a n : Nat) (d : Dev) : Dev := wrN a (satInc (rdN d a) n) d

/-- Counts one event. -/
def incCnt (a : Nat) (d : Dev) : Dev := addCnt a 1 d

end Sys2Proof.Machine
end

