-- ==== Sys2Proof/Machine/HostOps.lean ====
section
/-!
DEFINITION. Delivery: transmit queues, session messages, rings and MSI-X (R413 to R423), completion records
(R429, R430) and events (R431, R432).
-/

namespace Sys2Proof.Machine

/-! ### Frames that the device sends -/

/-- Is a port's link up (R377)? -/
def linkIsUp (d : Dev) (p : Nat) : Bool := bitAt d (0x100000 + 0x10000 * p) 0 && bitAt d (0x100004 + 0x10000 * p) 0

/-- Puts a frame at the tail of a transmit queue of a port; a port with no link queues nothing (R351, R353). The number
is the UDP port or EtherType that the rule of the frame names. -/
def txFramePush (port queue : Nat) (f : TxFrame) (d : Dev) : Dev :=
  if linkIsUp d port then
    { d with net := { d.net with txq := fupd [] d.net.txq (8 * port + queue) (fun l => l ++ [f]) } }
  else d

/-- Queues a frame of the device's own traffic. -/
def txPush (port queue proto : Nat) (bs : Bytes) (d : Dev) : Dev :=
  txFramePush port queue { proto := proto, bytes := bs, ctx := none, at' := nowNs d } d

/-- Queues a session message to the client at an IP address (R433). -/
def sessionPush (port ip : Nat) (bs : Bytes) (d : Dev) : Dev :=
  txFramePush port 4 { proto := 51233, bytes := bs, ctx := none, at' := nowNs d, peer := ip } d

/-! ### Session messages -/

/-- The header and body of a session message, before its mac (R433). -/
def sessionMsgHead (type session counter : Nat) (body : Bytes) : Bytes :=
  beBytes 2 0x5953 ++ [1] ++ beBytes 1 type ++ beBytes 4 session ++ beBytes 8 counter ++ beBytes 2 body.length
    ++ zeros 2 ++ body

/-- The session record of a slot. -/
def sess (d : Dev) (k : Nat) : Session := fget {} d.host.sessions k

/-- Replaces a session record. -/
def putSess (k : Nat) (s : Session) (d : Dev) : Dev :=
  { d with host := { d.host with sessions := fput {} d.host.sessions k s } }

/-- Sends a message of an open session, with its counter and mac, on transmit queue 4 of its port (R353, R433). -/
def sendSession (k type : Nat) (body : Bytes) (d : Dev) : Dev :=
  let s := sess d k
  let head := sessionMsgHead type (k + 1) (s.txCounter + 1) body
  let msg := head ++ (hmac384 s.key head).take 16
  sessionPush s.port s.ip msg (putSess k { s with txCounter := s.txCounter + 1 } d)

/-! ### Rings -/

/-- Address of RING_CFG of a ring; its other registers follow at fixed offsets (R445). -/
def ringA (r : Nat) : Nat := 0x31000 + 0x40 * r

/-- Is the ring enabled? -/
def ringEnabled (d : Dev) (r : Nat) : Bool := bitAt d (ringA r) 8

/-- Is the ring halted (R417)? -/
def ringHalted (d : Dev) (r : Nat) : Bool := bitAt d (ringA r + 0x20) 1

/-- Is the ring enabled and not halted (R429, R431)? -/
def ringRunning (d : Dev) (r : Nat) : Bool := ringEnabled d r && !ringHalted d r

/-- The number of entries of a ring (R414). -/
def ringSize (d : Dev) (r : Nat) : Nat := 2 ^ fld d (ringA r) 4 0

/-- The device's index of a ring. -/
def ringDev (d : Dev) (r : Nat) : Nat := rdN d (ringA r + 0x18)

/-- The host's index of a ring. -/
def ringHost (d : Dev) (r : Nat) : Nat := rdN d (ringA r + 0x1C)

/-- Does the device produce the entries of a ring (R413)? -/
def ringDevProduces (r : Nat) : Bool := (decide (1 ≤ r) && decide (r ≤ 16)) || decide (r = 73)

/-- Bytes of one entry (R413). -/
def ringEntryBytes (d : Dev) (r : Nat) : Nat :=
  if r = 0 then 64 else if r ≤ 16 then (if bitAt d (ringA r) 9 then 32 else 16) else if r ≤ 72 then 32 else 16

/-- Entries held: producer less consumer, modulo 2³² (R414). -/
def ringHeld (d : Dev) (r : Nat) : Nat :=
  if ringDevProduces r then subMod 32 (ringDev d r) (ringHost d r) else subMod 32 (ringHost d r) (ringDev d r)

/-- A 64-bit address from its low and high registers. -/
def addr64 (d : Dev) (a : Nat) : Nat := rdN d a + rdN d (a + 4) * 2 ^ 32

/-- Is a vector masked (R422)? -/
def msixMasked (d : Dev) (v : Nat) : Bool := bitAt d (0x3800C + 16 * v) 0

/-- Sends a vector's message, or leaves its pending bit set while it is masked (R422). -/
def msixSend (v : Nat) (d : Dev) : Dev :=
  if msixMasked d v then setFlag (0x3A000 + 4 * (v / 32)) (v % 32) d
  else emit (.msix v (addr64 d (0x38000 + 16 * v)) (rdN d (0x38008 + 16 * v))) d

/-- The ring's record outside its registers. -/
def ringSt (d : Dev) (r : Nat) : RingSt := fget {} d.host.rings r

/-- Replaces it. -/
def putRing (r : Nat) (x : RingSt) (d : Dev) : Dev :=
  { d with host := { d.host with rings := fput {} d.host.rings r x } }

/-- The ring signals: a message, or its pin in pin mode (R422, R423). -/
def ringSignal (r : Nat) (d : Dev) : Dev :=
  let d := putRing r { ringSt d r with count := 0, signalled := true } d
  if bitAt d 0x30000 0 then emit (.ball "IRQ_N" (fld d (ringA r) 24 16 % 16) 0) d
  else msixSend (fld d (ringA r) 24 16) d

/-- The device's index moves by one: register, writeback, then the signal when the count is reached (R416, R422). -/
def ringAdvance (r : Nat) (d : Dev) : Dev :=
  let idx := (ringDev d r + 1) % 2 ^ 32
  let d := wrN (ringA r + 0x18) idx d
  let d := emit (.hostWrite (addr64 d (ringA r + 0x10)) (leBytes 4 idx)) d
  let x := ringSt d r
  let c := x.count + 1
  let d := putRing r { x with count := c, since := if x.count = 0 then nowNs d else x.since } d
  let limit := fld d (ringA r + 4) 15 0
  if limit ≠ 0 ∧ limit ≤ c then ringSignal r d else d

/-- Writes an entry at the device's index of a ring that has room and advances the index (R414, R416). -/
def ringProduce (r : Nat) (bs : Bytes) (d : Dev) : Dev :=
  let a := addr64 d (ringA r + 8) + (ringDev d r % ringSize d r) * ringEntryBytes d r
  ringAdvance r (emit (.hostWrite a bs) d)

/-- Is a ring full (R414)? -/
def ringFull (d : Dev) (r : Nat) : Bool := decide (ringHeld d r = ringSize d r)

/-! ### Completions -/

/-- Is ring r (1 to 16) running as a completion ring (R429)? -/
def complRingRuns (d : Dev) (r : Nat) : Bool := ringRunning d r && !bitAt d (ringA r) 9

/-- The completion ring a record goes to (R429). -/
def complRing (d : Dev) (cring : Nat) : Option Nat :=
  if cring < 16 ∧ complRingRuns d (cring + 1) = true then some (cring + 1)
  else (List.range 16).map (· + 1) |>.find? (complRingRuns d)

/-- The 16 bytes of a completion record (R429). -/
def complBytes (c : Compl) : Bytes :=
  leBytes 4 c.tag ++ leBytes 2 c.opcode ++ leBytes 1 c.code ++ leBytes 1 c.detail ++ leBytes 8 c.result

/-- Delivers a record, holds it while its ring is full, or drops and counts it (R429, R430). -/
def deliverCompl (c : Compl) (d : Dev) : Dev :=
  match complRing d c.cring with
  | none => incCnt 0x30010 d
  | some r =>
    if ringFull d r then
      (if d.host.holding.length < 256 then
        { d with host := { d.host with holding := d.host.holding ++ [c] } }
      else incCnt 0x30010 d)
    else ringProduce r (complBytes c) d

/-- Stores the reply that a repeated COMMAND gets again (R435): with the command of that tag and opcode that has none and before
which `place` such commands came, a queue being first in, first out. -/
def cacheReply (k tag opcode place : Nat) (bs : Bytes) (d : Dev) : Dev :=
  let s := sess d k
  let open' := (s.accepted.zipIdx.filter (fun a =>
    decide (a.1.tag = tag) && decide (leAt a.1.body 0 2 = opcode) && a.1.reply.isNone)).reverse
  match open'[place]? with
  | none => d
  | some x => putSess k { s with accepted := s.accepted.zipIdx.map (fun a =>
      if a.2 = x.2 then { a.1 with reply := some bs } else a.1) } d

/-- Commands in flight of a session that came before one and carry its tag and opcode. -/
def placeInFlight (f : InFlight) (d : Dev) : Nat :=
  (d.host.inflight.filter (fun g => decide (g.src = f.src) && decide (g.tag = f.tag) && decide (g.opcode = f.opcode)
    && decide (g.cid < f.cid))).length

/-- The result field is 0 when the code is not DONE or PARTIAL (R429). -/
def resultFor (code result : Nat) : Nat := if code = 0 ∨ code = 7 then result % 2 ^ 64 else 0

/-- Sends the completion of a command that is no longer in flight; that of a closed session is dropped and counted (R429, R433,
R436, R445). -/
def sendCompl (f : InFlight) (code detail result : Nat) (d : Dev) : Dev :=
  let c : Compl := ⟨f.cring, f.tag, f.opcode, code, detail, resultFor code result⟩
  match f.src with
  | .host => if f.dropped then incCnt 0x30010 d else deliverCompl c d
  | .session k =>
    if f.dropped ∨ (sess d k).isOpen = false then incCnt 0x30010 d
    else sendSession k 5 (complBytes c) (cacheReply k f.tag f.opcode (placeInFlight f d) (complBytes c) d)
  | .firmware => { d with host := { d.host with fwCode := code } }

/-- Completes the command in flight with a number: its one completion (R21, R429). -/
def complete (cid code detail result : Nat) (d : Dev) : Dev :=
  match d.host.inflight.find? (fun f => f.cid = cid) with
  | none => d
  | some f =>
    sendCompl f code detail result
      { d with host := { d.host with inflight := d.host.inflight.filter (fun g => g.cid ≠ cid) } }

/-- Completes a command that may have none (a transition the device makes by itself). -/
def completeOpt (cid : Option Nat) (code result : Nat) (d : Dev) : Dev :=
  match cid with
  | some c => complete c code 0 result d
  | none => d

/-! ### Completion codes (R21) -/

abbrev cDone : Nat := 0
abbrev cState : Nat := 1
abbrev cRange : Nat := 2
abbrev cFormat : Nat := 3
abbrev cAuth : Nat := 4
abbrev cBusy : Nat := 5
abbrev cTimeout : Nat := 6
abbrev cPartial : Nat := 7
abbrev cSuperseded : Nat := 8
abbrev cNoResource : Nat := 9
abbrev cDisagree : Nat := 10
abbrev cHwFault : Nat := 11

/-! ### Events -/

/-- The 32 bytes of an event record (R431). -/
def eventBytes (seq code ct qn : Nat) (gap : Bool) (args : Bytes) : Bytes :=
  leBytes 2 seq ++ leBytes 2 code ++ leBytes 4 ct ++ leBytes 5 qn ++ leBytes 1 (b2n gap) ++ zeros 2 ++ padTo 16 args

/-- Writes an event to one event ring, or drops it there (R431). -/
def eventToRing (r code : Nat) (seq : Nat) (args : Bytes) (d : Dev) : Dev :=
  if ringRunning d r && bitAt d (ringA r) 9 && bitAt d (ringA r + 0x24) (code / 256 - 1) then
    if ringFull d r then
      putRing r { ringSt d r with gap := true } (setFlag (ringA r + 0x20) 11 (incCnt 0x30014 d))
    else
      let g := (ringSt d r).gap
      let d := ringProduce r (eventBytes seq code (ct32 d) (qnNow d) g args) d
      putRing r { ringSt d r with gap := false } d
  else d

/-- Sends an event to one session that selects its group (R431, R433). -/
def eventToSession (k code seq : Nat) (args : Bytes) (d : Dev) : Dev :=
  if (sess d k).isOpen && (sess d k).evMask.testBit (code / 256 - 1) then
    sendSession k 6 (eventBytes seq code (ct32 d) (qnNow d) false args) d
  else d

/-- Raises an event: one seq for the device, a record to every running event ring and every session that selects
its group (R431, R432). -/
def raiseEvent (code : Nat) (args : Bytes) (d : Dev) : Dev :=
  let seq := d.host.evSeq
  let d := forN 16 (fun i d => eventToRing (i + 1) code seq args d) d
  let d := forN 8 (fun k d => eventToSession k code seq args d) d
  { d with host := { d.host with evSeq := (seq + 1) % 65536 } }

/-! ### Event codes: group base plus position (R432) -/

abbrev evModeChanged : Nat := 0x100
abbrev evFaultCause : Nat := 0x101
abbrev evStartupSlow : Nat := 0x102
abbrev evQnNearEnd : Nat := 0x103
abbrev evDomainPlanMismatch : Nat := 0x104
abbrev evDomainIndexConflict : Nat := 0x105
abbrev evHostRingErr : Nat := 0x106
abbrev evSceneCommitted : Nat := 0x107
abbrev evSceneRecovered : Nat := 0x108
abbrev evSessionOpen : Nat := 0x109
abbrev evSessionClosed : Nat := 0x10A
abbrev evSessionAuthFail : Nat := 0x10B
abbrev evTimeTick : Nat := 0x200
abbrev evTimeJumpRefused : Nat := 0x201
abbrev evTimeHoldover : Nat := 0x202
abbrev evTimeHoldoverEnd : Nat := 0x203
abbrev evTimeReanchored : Nat := 0x204
abbrev evTimeEpochMismatch : Nat := 0x205
abbrev evTimeAlarm : Nat := 0x206
abbrev evObjFrozen : Nat := 0x300
abbrev evObjReleased : Nat := 0x301
abbrev evOutIsolated : Nat := 0x302
abbrev evAvailLate : Nat := 0x303
abbrev evVoiceEcc : Nat := 0x400
abbrev evVoiceDelayClamp : Nat := 0x401
abbrev evVoiceRebase : Nat := 0x402
abbrev evVoiceShedChange : Nat := 0x403
abbrev evPlanSwapLate : Nat := 0x500
abbrev evGainZcTimeout : Nat := 0x501
abbrev evMatchFull : Nat := 0x600
abbrev evDispOrphan : Nat := 0x601
abbrev evDispDoneMismatch : Nat := 0x602
abbrev evCqOverflow : Nat := 0x603
abbrev evDepartLate : Nat := 0x604
abbrev evAsterFault : Nat := 0x605
abbrev evLupinEcc : Nat := 0x700
abbrev evLupinSat : Nat := 0x701
abbrev evCorrSwapped : Nat := 0x702
abbrev evCorrImageReady : Nat := 0x703
abbrev evCorrDesignFail : Nat := 0x704
abbrev evSurveyMicFault : Nat := 0x705
abbrev evDecSrcStuck : Nat := 0x800
abbrev evDecSrcOk : Nat := 0x801
abbrev evDecSwapped : Nat := 0x802
abbrev evDecCapDrop : Nat := 0x803
abbrev evDrvFault : Nat := 0x900
abbrev evDrvUnlock : Nat := 0x901
abbrev evDrvRetryExhausted : Nat := 0x902
abbrev evAportFrameErr : Nat := 0xA00
abbrev evAportAsrcLock : Nat := 0xA01
abbrev evAportAsrcUnlock : Nat := 0xA02
abbrev evAportUnderrun : Nat := 0xA03
abbrev evAportZcTimeout : Nat := 0xA04
abbrev evListenPlug : Nat := 0xA05
abbrev evListenUnplug : Nat := 0xA06
abbrev evListenButton : Nat := 0xA07
abbrev evListenHpFault : Nat := 0xA08
abbrev evNetLinkDown : Nat := 0xB00
abbrev evNetLinkUp : Nat := 0xB01
abbrev evNetStreamTimeout : Nat := 0xB02
abbrev evNetStreamResumed : Nat := 0xB03
abbrev evNetDupMismatch : Nat := 0xB04
abbrev evPairFormed : Nat := 0xC00
abbrev evPartnerLost : Nat := 0xC01
abbrev evPairDissolved : Nat := 0xC02
abbrev evPairConfigMismatch : Nat := 0xC03
abbrev evPairCmdApplied : Nat := 0xC04
abbrev evPairDiverged : Nat := 0xC05
abbrev evPairConverged : Nat := 0xC06
abbrev evPairPathFault : Nat := 0xC07
abbrev evPairPathOk : Nat := 0xC08
abbrev evPairCopyTaken : Nat := 0xC09
abbrev evPairFwdLost : Nat := 0xC0A
abbrev evPairJoinFailed : Nat := 0xC0B
abbrev evPairLane : Nat := 0xC0C
abbrev evPairLaneFail : Nat := 0xC0D

abbrev evOppointChanged : Nat := 0xD00
abbrev evDvfsSlow : Nat := 0xD01
abbrev evWake : Nat := 0xD02
abbrev evThermalWarn : Nat := 0xD03
abbrev evRefclkLost : Nat := 0xD04
abbrev evRefclkOk : Nat := 0xD05
abbrev evFwSlotFallback : Nat := 0xD06
abbrev evAgeReport : Nat := 0xD07
abbrev evAgeReplan : Nat := 0xD08
abbrev evAgeFreqReduced : Nat := 0xD09
abbrev evAgeExhausted : Nat := 0xD0A
abbrev evAgeLinkMargin : Nat := 0xD0B
abbrev evTamper : Nat := 0xD0C
abbrev evLcRequested : Nat := 0xD0D
abbrev evSramEccUe : Nat := 0xE00
abbrev evSramHardErr : Nat := 0xE01
abbrev evDramEccUe : Nat := 0xE02
abbrev evDramEccCe : Nat := 0xE03
abbrev evMatrixTimeout : Nat := 0xE04
abbrev evMatrixDecode : Nat := 0xE05
abbrev evDmaHalt : Nat := 0xE06
abbrev evDramRetrain : Nat := 0xE07
abbrev evVaultWiped : Nat := 0xE08

/-! ### Fault causes (R24, R33 to R35) -/

/-- The bit of a cause in SYS_FAULT_CAUSES (R35). -/
def causeBit (cause : Nat) : Nat := if cause = 0x10 then 8 else cause - 8

/-- A fault cause arises: its bit is set, FAULT_CAUSE is raised, and the cause is remembered for the next quantum
boundary (R25, R33 to R35). -/
def faultCause (cause : Nat) (d : Dev) : Dev :=
  let d := setFlag 0x230 (causeBit cause) d
  let d := raiseEvent evFaultCause (leBytes 1 cause) d
  { d with sys := { d.sys with newCauses := d.sys.newCauses ++ [cause] } }

/-- A hardware event that PAIR_FAULT_HELD records (R401): 0 SRAM, 1 DRAM, 2 Aster, 3 dispatcher, 4 media. -/
def pairFault (i : Nat) (d : Dev) : Dev := setFlag 0x140034 i d

/-- An uncorrectable SRAM error: counted, recorded and raised (R457); regions other than the vault also set
PAIR_FAULT_HELD.sram_ecc (R401). -/
def sramUe (region offset : Nat) (d : Dev) : Dev :=
  let d := setFlag 0x1B0004 9 (incCnt (0x1B0104 + 0x10 * region) d)
  let d := wrN 0x1B000C (offset % 2 ^ 27 + region * 2 ^ 28) d
  let d := raiseEvent evSramEccUe (leBytes 1 region ++ leBytes 4 offset) d
  if region = 4 then d else pairFault 0 d

/-- A single-bit error that a read of an SRAM region has corrected and written back (R457). -/
def sramCe (region : Nat) (d : Dev) : Dev := setFlag 0x1B0004 8 (incCnt (0x1B0100 + 0x10 * region) d)

/-- Is any fault cause held (R29, R35)? -/
def faultHeld (d : Dev) : Bool := decide (fld d 0x230 8 0 ≠ 0)

end Sys2Proof.Machine
end

