-- ==== Sys2Proof/Machine/Time.lean ====
section
/-!
DEFINITION. Presentation time: the counter, corrections, holdover, epoch and QN, pulses and alarms
(02_presentation_time.md, R61 to R94).
-/

namespace Sys2Proof.Machine

abbrev secNs : Nat := 1000000000

/-- Seconds wrap in 48 bits (R9). -/
abbrev ptMod : Nat := 2 ^ 48 * 1000000000

/-! ### PT, QN -/

/-- The QN of a presentation time; none before the epoch (R84). -/
def qnOf (d : Dev) (t : Nat) : Option Nat :=
  if t < d.time.epoch then none else some ((t - d.time.epoch) * fsHz d / (32 * secNs))

/-- The PT at or before the exact start of a quantum (R10, R85). -/
def ptOfQn (d : Dev) (q : Nat) : Nat := d.time.epoch + q * 32 * secNs / fsHz d

/-- The first whole ns at or after the exact start of a quantum: the TIME tick at its edge, to the tick (R85, R536). -/
def edgeOfQn (d : Dev) (q : Nat) : Nat := d.time.epoch + ceilDiv (q * 32 * secNs) (fsHz d)

/-- Words of a PT: ns, seconds low, seconds high (R63). -/
def ptBytes (t : Nat) : Bytes := leBytes 6 (t / secNs) ++ leBytes 4 (t % secNs)

/-- Counts the present QN anew from the counter, after a step of PT, a new epoch or Stop (R84, R87). The reset epoch is
PT 0, so quanta are counted before an epoch is committed too (R83). Marks of late quanta belong to the old numbers and go
(R210). -/
def recountQn (d : Dev) : Dev :=
  let d := { d with disp := { d.disp with cutoffQn := 0, suppressed := [] } }
  match qnOf d d.time.pt with
  | some q => { d with time := { d.time with qn := q, counting := true } }
  | none => { d with time := { d.time with qn := 0, counting := false } }

/-- Is time qualified in the sense of R67? -/
def timeQualified (d : Dev) : Bool :=
  d.time.epochSet && d.time.qualified && decide (d.time.epoch ≤ d.time.pt)

/-! ### Slew -/

/-- One ns in the units of the slew (R73). -/
abbrev slewUnit : Int := 2 ^ 28 * 100000

/-- TIME_SLEW_REMAIN: whole signed ns still to slew, away from zero so that it is 0 only at the end (R65). -/
def slewRemain (d : Dev) : Int :=
  let r := d.time.slewRem
  if r ≥ 0 then (r + slewUnit - 1) / slewUnit else -((-r + slewUnit - 1) / slewUnit)

/-! ### Holdover -/

/-- Entry into holdover: the addend stays, the age restarts and the event is raised (R76). -/
def enterHoldover (d : Dev) : Dev :=
  if d.time.holdover then d
  else raiseEvent evTimeHoldover [] { d with time := { d.time with
    holdover := true, holdAge := 0, holdFrac := 0, holdExpired := false, thetaPrev := none, thetaSum := 0, thetaCnt := 0 } }

/-- End of holdover (R78). That TIME_HOLDOVER_AGE reads 0 outside holdover is the model's choice (log 106). -/
def endHoldover (d : Dev) : Dev :=
  if d.time.holdover then
    raiseEvent evTimeHoldoverEnd [] { d with time := { d.time with holdover := false, holdAge := 0, holdFrac := 0, holdExpired := false } }
  else d

/-- Is a jump above the threshold refused now (R74)? -/
def jumpGuard (d : Dev) : Bool :=
  d.time.qualified || rendering d || decide (d.sys.mode = .safe)

/-- A correction of v ns: a slew that replaces the one in progress, or a refusal (R73, R74). -/
def timeAdj (v : Int) (d : Dev) : Dev :=
  if jumpGuard d && decide (v.natAbs > rdN d 0x2000C) then
    let d := setFlag 0x20004 8 d
    let d := raiseEvent evTimeJumpRefused (leInt 4 v) d
    if d.time.qualified then enterHoldover d else d
  else { d with time := { d.time with slewRem := v * slewUnit, slewAcc := 0 } }

/-! ### Pulses and alarms (R89 to R92) -/

/-- A pulse output's state. -/
def pulse (d : Dev) (n : Nat) : Pulse := fget {} d.time.pulses n

/-- Replaces it. -/
def putPulse (n : Nat) (p : Pulse) (d : Dev) : Dev :=
  { d with time := { d.time with pulses := fput {} d.time.pulses n p } }

/-- Base of the registers of a pulse output. -/
def pulseA (n : Nat) : Nat := 0x20100 + 0x20 * n

/-- The level of TIME_PULSE[n] when the pulse is active or idle (R89). -/
def pulseLevel (d : Dev) (n : Nat) (active : Bool) : Nat := b2n (active != bitAt d (pulseA n) 2)

/-- PT held in three registers: ns, seconds low, seconds high (R63). -/
def ptReg (d : Dev) (a : Nat) : Nat := (rdN d (a + 4) + (rdN d (a + 8) % 65536) * 2 ^ 32) * secNs + rdN d a

/-- The earliest start + k × period at or after t (R90, R91). -/
def nextEdge (start period t : Nat) : Nat :=
  if t ≤ start then start else if period = 0 then start else start + ceilDiv (t - start) period * period

/-- The ball goes active; it falls back a width after the scheduled time `due` (R89). -/
def pulseRise (n due : Nat) (d : Dev) : Dev :=
  let p := pulse d n
  let d := emit (.ball "TIME_PULSE" n (pulseLevel d n true)) d
  let next := if p.mode = 2 then nextEdge p.start p.period (d.time.pt + 1) else p.next
  putPulse n { p with armed := decide (p.mode ≠ 1), next := next, fallAt := some (due + p.width) } d

/-- A scheduled rise that passes in Stop, where the ball rests (R91). -/
def pulsePass (n : Nat) (d : Dev) : Dev :=
  let p := pulse d n
  let next := if p.mode = 2 then nextEdge p.start p.period (d.time.pt + 1) else p.next
  putPulse n { p with armed := decide (p.mode ≠ 1), next := next } d

/-- The ball returns to its inactive level. -/
def pulseFall (n : Nat) (d : Dev) : Dev :=
  let p := pulse d n
  putPulse n { p with fallAt := none } (emit (.ball "TIME_PULSE" n (pulseLevel d n false)) d)

/-- Is the scheduled rise of a one-shot or periodic pulse due? -/
def pulseDue (d : Dev) (n : Nat) : Bool :=
  let p := pulse d n
  p.armed && (p.mode = 1 || p.mode = 2) && decide (p.next ≤ d.time.pt)

/-- The edges of a pulse output whose scheduled time the counter has reached (R89). -/
def pulseRun (n : Nat) (d : Dev) : Dev :=
  let d := match (pulse d n).fallAt with
    | some t => if t ≤ d.time.pt then pulseFall n d else d
    | none => d
  if pulseDue d n then (if d.sys.mode = .stop then pulsePass n d else pulseRise n (pulse d n).next d) else d

/-- The start of quantum q for a pulse output in pmode 0b11 (R89, R536). -/
def pulseQuantum (q n : Nat) (d : Dev) : Dev :=
  let p := pulse d n
  if p.armed && decide (p.mode = 3) && decide (p.period ≠ 0) && decide (q % p.period = 0) && decide (d.sys.mode ≠ .stop) then
    pulseRise n d.time.pt d
  else d

/-- The PT of the next scheduled edge of a pulse output: its fall, or a rise before it. Those of pmode 0b11 come with
their quantum. -/
def pulseNext (d : Dev) (n : Nat) : Option Nat :=
  let p := pulse d n
  let rise := p.armed && (p.mode = 1 || p.mode = 2)
  match p.fallAt with
  | some t => some (if rise then min p.next t else t)
  | none => if rise then some p.next else none

/-- The ball falls back at once, when the pulse is switched off or the device enters Stop (R89, R91). -/
def pulseRest (n : Nat) (d : Dev) : Dev := if (pulse d n).fallAt.isSome then pulseFall n d else d

/-- Arming with the present settings and the committed start (R64, R89, R90). pmode is taken over here, with the other settings:
a later write of pmode without arm leaves an armed pulse as it was armed, and only an arm with pmode 0b00 switches it off. That is
the model's choice (log 38). -/
def pulseArm (n : Nat) (d : Dev) : Dev :=
  let a := pulseA n
  let mode := fld d a 1 0
  let period := rdN d (a + 0x10)
  let width := rdN d (a + 0x14)
  let start := fget 0 d.time.pulseStart n
  let widthOk := decide (8 ≤ width) && (mode = 3 || decide (width + 8 ≤ period))
  let periodOk := mode = 3 || (decide (1000 ≤ period) && decide (period ≤ 4000000000))
  let off : Pulse := { ({} : Pulse) with fallAt := (pulse d n).fallAt }
  if !(widthOk && periodOk) then setFlag 0x20004 12 (putPulse n { pulse d n with armed := false } d)
  else if mode = 0 then pulseRest n (putPulse n off d)
  else if mode = 1 ∧ start < d.time.pt then setFlag a 5 (putPulse n off d)
  else putPulse n ⟨true, mode, start, if mode = 3 then fld d a 31 16 else period, width,
    if mode = 2 then nextEdge start period d.time.pt else start, (pulse d n).fallAt⟩ d

/-- The commit of TIME_PULSE_START on its nanoseconds word (R9, R64). -/
def pulseStartWrite (n ns : Nat) (d : Dev) : Dev :=
  let a := pulseA n + 4
  if ns ≥ secNs then setFlag 0x20004 12 d
  else
    let d := wrN a ns d
    { d with time := { d.time with pulseStart := fput 0 d.time.pulseStart n (ptReg d a) } }

/-- What a step of the counter from `old` to `new` does to a pulse output (R91). A pulse that is active keeps its width:
its fall moves with the step (DEDUCED, log 38). -/
def pulseStep (old new n : Nat) (d : Dev) : Dev :=
  let p := pulse d n
  let p := { p with fallAt := p.fallAt.map (fun t => t + new - old) }
  if p.armed = false ∨ p.mode = 3 then putPulse n p d
  else if p.mode = 1 then
    (if old < p.next ∧ p.next ≤ new then pulseRise n new (setFlag (pulseA n) 6 (putPulse n p d)) else putPulse n p d)
  else if p.mode = 2 then
    setFlag (pulseA n) 6 (putPulse n { p with next := nextEdge p.start p.period new } d)
  else putPulse n p d

/-- An alarm as latched. -/
def alarm (d : Dev) (n : Nat) : Alarm := fget {} d.time.alarms n

/-- Replaces it. -/
def putAlarm (n : Nat) (x : Alarm) (d : Dev) : Dev :=
  { d with time := { d.time with alarms := fput {} d.time.alarms n x } }

/-- Base of the registers of an alarm. -/
def alarmA (n : Nat) : Nat := 0x20200 + 0x10 * n

/-- Writing 1 to enable latches the compare value and arms the alarm (R92). -/
def alarmArm (n : Nat) (d : Dev) : Dev :=
  let a := alarmA n
  let byQn := bitAt d a 1
  let v := if byQn then rdN d (a + 4) + (rdN d (a + 8) % 256) * 2 ^ 32 else ptReg d (a + 4)
  putAlarm n ⟨true, byQn, v⟩ d

/-- Does a write of TIME_ALARM_CTRL enable an alarm on a PT whose nanoseconds are out of range (R9)? -/
def alarmRangeBad (n v : Nat) (d : Dev) : Bool :=
  v.testBit 0 && !v.testBit 1 && decide (secNs ≤ rdN d (alarmA n + 4))

/-- An alarm fires: fired is set, enable clears and the event carries n (R92). -/
def alarmFire (stepped : Bool) (n : Nat) (d : Dev) : Dev :=
  let a := alarmA n
  let d := clrFlag a 0 (setFlag a 3 d)
  let d := if stepped then setFlag a 4 d else d
  raiseEvent evTimeAlarm (leBytes 1 n) (putAlarm n { alarm d n with armed := false } d)

/-- Has an armed alarm's time come (R92)? -/
def alarmDue (d : Dev) (n : Nat) : Bool :=
  let x := alarm d n
  x.armed && (if x.byQn then d.time.counting && decide (x.value ≤ d.time.qn) else decide (x.value ≤ d.time.pt))

/-- A forward step of PT or QN across an alarm's value fires it at the step; one whose value had come before the step
fires at the next tick (R92). -/
def alarmStep (before : Dev) (n : Nat) (d : Dev) : Dev :=
  if !alarmDue before n && alarmDue d n then alarmFire true n d else d

/-- A step of the counter from its place in `before`: pulses and alarms are compared after it (R91, R92). -/
def stepEffects (before d : Dev) : Dev :=
  let new := d.time.pt
  let d := forN 4 (fun n d => pulseStep before.time.pt new n d) d
  forN 8 (alarmStep before) d

/-! ### The counter runs -/

/-- The event of each whole second, with the full PT (R88). -/
def secondEvent (d : Dev) : Dev := raiseEvent evTimeTick (ptBytes d.time.pt) d

/-- The counter carries PT `t`. -/
def atPt (t : Nat) (d : Dev) : Dev := { d with time := { d.time with pt := t } }

/-- The events of the seconds that the counter has passed since it stood at `old`, each at its tick (R88). -/
def secondsPassed (old : Nat) (d : Dev) : Dev :=
  let now := d.time.pt
  let s0 := old / secNs
  let k := now / secNs - s0
  atPt now (forN k (fun i d =>
    secondEvent (atPt (if i + 1 = k ∧ now % secNs < 3 then now else (s0 + i + 1) * secNs) d)) d)

/-- What the counter compares at a tick: the pulse outputs, then the alarms; a written arm bit has been taken (R15, R89,
R92). -/
def timeCompare (d : Dev) : Dev :=
  let d := forN 4 (fun n d => onlyIf (bitAt d (pulseA n) 3) (clrFlag (pulseA n) 3) (pulseRun n d)) d
  forN 8 (fun n d => if alarmDue d n then alarmFire false n d else d) d

/-- The most that one tick slews, in slew units (R73). -/
def slewTick (d : Dev) : Nat := fld d 0x20000 31 28 * 2 * 2 ^ 28

/-- What n ticks slew: in the direction of the slew, and no more than remains (R73). -/
def slewIn (d : Dev) (n : Nat) : Int :=
  clampI (-((n * slewTick d : Nat) : Int)) ((n * slewTick d : Nat) : Int) d.time.slewRem

/-- The counter's fraction and what n ticks add to it, in units of 2⁻²⁸ ns (R61, R73). -/
def ticksSum (d : Dev) (n : Nat) : Int :=
  (d.time.frac : Int) + ((n * rdN d 0x20008 : Nat) : Int) + (d.time.slewAcc + slewIn d n) / 100000

/-- The TIME state after n ticks: counter, slew, local time, and the holdover age in PT of the counter (R61, R73, R79). -/
def ticked (d : Dev) (n : Nat) : TimeSt :=
  let t := d.time
  let sum := ticksSum d n
  let adv := (sum / 2 ^ 28).toNat
  let f := t.holdFrac + adv
  { t with
    pt := (t.pt + adv) % ptMod
    frac := (sum % 2 ^ 28).toNat
    slewRem := t.slewRem - slewIn d n
    slewAcc := (t.slewAcc + slewIn d n) % 100000
    now := t.now + 2 * n
    holdAge := if t.holdover then t.holdAge + f / secNs else t.holdAge
    holdFrac := if t.holdover then f % secNs else t.holdFrac }

/-- The counter runs n ticks. At the last one, when every second passed has had its event, `step` acts on the counter, and then
pulses and alarms are compared: a step comes before the comparison in its tick (R91). -/
def ticksThen (step : Dev → Dev) (n : Nat) (d : Dev) : Dev :=
  timeCompare (step (secondsPassed d.time.pt { d with time := ticked d n }))

/-- The counter runs n ticks. -/
def ticks (n : Nat) (d : Dev) : Dev := ticksThen id n d

/-- The number of ticks after which the counter is first at or after PT `t`, at its present rate and slew (R89). -/
def ticksTo (t : Nat) (d : Dev) : Nat :=
  let rate : Nat := rdN d 0x20008 * 100000
  let slew := slewTick d
  let rem := d.time.slewRem
  let need : Int := (((t - d.time.pt) * 2 ^ 28 : Nat) : Int) * 100000 - (d.time.frac : Int) * 100000 - d.time.slewAcc
  let n := ceilDiv need.toNat (if 0 ≤ rem then rate + slew else rate - slew)
  if n * slew ≤ rem.natAbs then n else max (ceilDiv (need - rem).toNat rate) (rem.natAbs / slew + 1)

/-- The instant of a scheduled event has come: the counter runs to the first tick at or after that PT, unless it stands
there or later already (R89, R92, R536). -/
def runTo (t : Nat) (d : Dev) : Dev := if d.time.pt < t then ticks (ticksTo t d) d else d

/-- The counter runs as in `runTo`, with a step at the tick it comes to, before the comparison (R91). -/
def runToThen (step : Dev → Dev) (t : Nat) (d : Dev) : Dev :=
  if d.time.pt < t then ticksThen step (ticksTo t d) d else step d

/-- One TIME tick (R61). -/
def timeTick (d : Dev) : Dev := ticks 1 d

/-- The tick at which TIME_NOW_NS wraps to 0 (R88). -/
def timeSecond (d : Dev) : Dev := runTo ((d.time.pt / secNs + 1) * secNs) d

/-- The slew makes all of its amount, at its rate (R73). -/
def slewComplete (d : Dev) : Dev := ticks (ceilDiv d.time.slewRem.natAbs (slewTick d)) d

/-- The next scheduled edge of a pulse output: the counter runs to its time (R89). -/
def pulseEdge (n : Nat) (d : Dev) : Dev :=
  match pulseNext d n with
  | some t => pulseRun n (runTo t d)
  | none => d

/-! ### Register acts -/

/-- TIME_ADDEND takes values within ±500 ppm (R62). -/
def wrAddend (v : Nat) (d : Dev) : Dev :=
  if 0x1FFBE76D ≤ v ∧ v ≤ 0x20041893 then wrN 0x20008 v d else setFlag 0x20004 12 d

/-- A write discarded because its register takes writes only in other modes (R60). `a` is the register's offset. -/
def lockedWrite (a : Nat) (d : Dev) : Dev :=
  let d := if bitAt d 0x100 1 then d else wrN 0x108 (a % 2 ^ 24) d
  setFlag 0x100 1 d

/-- The commit of TIME_SET on its nanoseconds word (R64, R75). That it also clears the fraction below the nanoseconds and the
count of good Sync messages is the model's choice (log 106): the rule names neither. -/
def timeSet (ns : Nat) (d : Dev) : Dev :=
  if d.sys.mode ≠ .config then lockedWrite 0x20030 d
  else if ns ≥ secNs then setFlag 0x20004 12 d
  else
    let new := (d.time.setLo + (d.time.setHi % 65536) * 2 ^ 32) * secNs + ns
    stepEffects d (recountQn { d with time := { d.time with
      pt := new, frac := 0, slewRem := 0, slewAcc := 0, qualified := false, goodSyncs := 0 } })

/-- A seconds word of TIME_SET: held for the nanoseconds word, in CONFIG only (R64, R75). -/
def timeSetWord (hi : Bool) (v : Nat) (d : Dev) : Dev :=
  if d.sys.mode ≠ .config then lockedWrite (if hi then 0x20038 else 0x20034) d
  else if hi then { d with time := { d.time with setHi := v % 65536 } }
  else { d with time := { d.time with setLo := v } }

/-- Judges and makes the commit of the epoch on its nanoseconds word (R64, R83); answers whether it committed. -/
def epochCommit (ns : Nat) (d : Dev) : Bool × Dev :=
  if d.sys.mode ≠ .config then (false, lockedWrite 0x20040 d)
  else if ns ≥ secNs then (false, setFlag 0x20004 12 d)
  else
    let e := (rdN d 0x20044 + (rdN d 0x20048 % 65536) * 2 ^ 32) * secNs + ns
    let q := if d.time.pt < e then 0 else (d.time.pt - e) * fsHz d / (32 * secNs)
    if q ≥ 2 ^ 40 - 2 ^ 31 then (false, setFlag 0x20004 12 d)
    else
      let d := wrN 0x20040 ns d
      let d := { d with time := { d.time with epoch := e, epochSet := true },
                        sys := { d.sys with nearEndNext := 2 ^ 40 - 2 ^ 31 } }
      (true, clrFlag 0x230 8 (recountQn d))

/-! ### The PTP service -/

/-- The port that TIME_STATUS.slave_port names (R76). -/
def slavePort (d : Dev) : Nat :=
  match (List.range 4).find? (fun p => decide (fget 1 d.time.portStates p ≥ 8)) with
  | some p => p
  | none => if bitAt d 0x20000 1 then d.time.lastSlave else fld d 0x20000 5 4

/-- A port takes a portState (R76). -/
def setPortState (p st : Nat) (d : Dev) : Dev :=
  { d with time := { d.time with
    portStates := fput 1 d.time.portStates p st,
    lastSlave := if st ≥ 8 then p else d.time.lastSlave } }

/-- The receive timestamp of an event message, referred to the ball (R70). -/
def rxStamp (d : Dev) (p : Nat) : Int :=
  let w := rdN d (0x20080 + 8 * p)
  (d.time.pt : Int) - ((bits w 15 0 + bits w 31 16 : Nat) : Int)

/-- The transmit timestamp of an event message, referred to the ball (R70). -/
def txStamp (d : Dev) (p : Nat) : Nat :=
  let w := rdN d (0x20084 + 8 * p)
  d.time.pt + bits w 15 0 + bits w 31 16

/-- A measured offset is acted on: step, slew, refusal or end of holdover (R72, R74, R75, R78). How the servo filters
offsets into the addend is not given: the model's servo corrects by slews alone and leaves TIME_ADDEND as it was last
written, so that value is the one holdover freezes (R76). That is the model's choice (log 106). -/
def servo (offset : Int) (d : Dev) : Dev :=
  let d := wrN 0x20028 (wrapN 32 (satI 32 offset)) d
  let good := decide (offset.natAbs ≤ 1000)
  let d := { d with time := { d.time with goodSyncs := if good then d.time.goodSyncs + 1 else 0 } }
  let far := decide (offset.natAbs > rdN d 0x2000C)
  if far && decide (d.sys.mode = .config) && !d.time.qualified then
    let target := ((d.time.pt : Int) - offset).toNat % ptMod
    let d := { d with time := { d.time with setLo := target / secNs % 2 ^ 32, setHi := target / secNs / 2 ^ 32 } }
    timeSet (target % secNs) d
  else
    let d := if far then d else endHoldover d
    timeAdj (satI 32 (-offset)) d

/-- Does the PTP service run: enabled, in a mode in which the control cores run it (R65, R94)? -/
def ptpRuns (d : Dev) : Bool := bitAt d 0x20000 0 && decide (d.sys.mode ≠ .stop) && decide (d.sys.mode ≠ .boot)

/-- Writes 10 bytes of PT at the timestamp's place of a message. -/
def putStamp (t : Nat) (body : Bytes) : Bytes :=
  body.take 34 ++ beBytes 6 (t / secNs) ++ beBytes 4 (t % secNs) ++ body.drop 44

/-- Writes 10 bytes of PT into a message body at the timestamp's place, keeping the UDP checksum right over IPv6
through the trailing two octets (R71). -/
def stampBody (ipv6 : Bool) (t : Nat) (body : Bytes) : Bytes :=
  let new := putStamp t body
  if ipv6 then
    let keep := new.take (new.length - 2)
    let want := onesSum body
    let have' := onesSum keep
    keep ++ beBytes 2 ((want + 65535 - have') % 65535)
  else new

/-- Qualification after 16 consecutive Sync messages within 1,000 ns (R72). -/
def timeQualify (d : Dev) : Dev :=
  if ptpRuns d && decide (d.time.goodSyncs ≥ 16) then { d with time := { d.time with qualified := true } } else d

/-- The addend that follows the partner, rounded once to nearest, ties to even: A × (1 + (θ̄ − θ̄_prev) / 10⁹) with the
means as exact quotients (R77). -/
def followAddend (a : Nat) (sum : Int) (cnt : Nat) (sum' : Int) (cnt' : Nat) : Nat :=
  let den : Int := ((cnt * cnt' * secNs : Nat) : Int)
  (clampI 0x1FFBE76D 0x20041893 (divEven ((a : Int) * (den + sum * cnt' - sum' * cnt)) den)).toNat

/-- The per-second step of a device that follows its partner in holdover (R77). TIME_ADJ takes whole ns: that a mean with
a fraction is rounded to nearest, ties to even, for it is the model's choice (log 106). -/
def followSecond (d : Dev) : Dev :=
  if d.time.holdover = false ∨ d.time.thetaCnt = 0 then d else
  let sum := d.time.thetaSum
  let cnt := d.time.thetaCnt
  let mean := divEven sum cnt
  let refused := jumpGuard d && decide (mean.natAbs > rdN d 0x2000C)
  let d' := match d.time.thetaPrev with
    | some (sum', cnt') => if refused then d else wrN 0x20008 (followAddend (rdN d 0x20008) sum cnt sum' cnt') d
    | none => d
  timeAdj mean { d' with time := { d'.time with thetaSum := 0, thetaCnt := 0, thetaPrev := some (sum, cnt) } }

/-- A fault cause arises; in Stop it is kept for the wake (R34, R35). -/
def causeFound (cause : Nat) (d : Dev) : Dev :=
  if d.sys.mode = .stop then { d with pwr := { d.pwr with stopFaults := d.pwr.stopFaults ++ [cause] } }
  else faultCause cause d

/-- The holdover age reaches its limit, once in a holdover: FAULT_TIME arises, in whatever mode and whether or not time was
still qualified (R35, R79). -/
def holdoverExpired (d : Dev) : Dev :=
  if d.time.holdover ∧ d.time.holdExpired = false ∧ rdN d 0x20058 ≤ d.time.holdAge then
    causeFound 9 (setFlag 0x20004 9 { d with time := { d.time with qualified := false, holdExpired := true } })
  else d

/-! ### Re-anchoring (R80) -/

/-- Would the counter and the epoch stay in the range of R9 after a step? -/
def reanchorFits (ptAt : Int) (d : Dev) (step : Int) : Bool :=
  let c := ptAt + step
  let e := (d.time.epoch : Int) + step
  decide (0 ≤ c) && decide (c < ptMod) && decide (0 ≤ e) && decide (e < ptMod)

/-- One re-anchor applied at the start of its apply QN, or refused there. -/
def reanchorApply (r : Reanchor) (d : Dev) : Dev :=
  if reanchorFits d.time.pt d r.step then
    let before := d
    let new := ((d.time.pt : Int) + r.step).toNat
    let e := ((d.time.epoch : Int) + r.step).toNat
    let d := { d with time := { d.time with pt := new, epoch := e } }
    let d := wrN 0x20040 (e % secNs) d
    let d := wrN 0x20044 (e / secNs % 2 ^ 32) d
    let d := wrN 0x20048 (e / secNs / 2 ^ 32) d
    let d := stepEffects before d
    let d := raiseEvent evTimeReanchored [] (setFlag 0x20004 10 d)
    complete r.cid cDone 0 r.applyQn d
  else complete r.cid cRange 0 0 d

/-- The re-anchors whose apply QN starts (R80, R536). -/
def reanchorsAt (q : Nat) (d : Dev) : Dev :=
  let due := d.time.reanchors.filter (fun r => r.applyQn ≤ q)
  forL due reanchorApply { d with time := { d.time with reanchors := d.time.reanchors.filter (fun r => r.applyQn > q) } }

end Sys2Proof.Machine
end

