-- ==== Sys2Proof/Machine/Plan.lean ====
section
/-!
DEFINITION. Plan images: parsing, validation and the plan store (R108, R109, R149, R150, R154, R155, R160 to R171,
R179 to R182, R242, R255, R256).
-/

namespace Sys2Proof.Machine

/-! ### Capacity (R95, R154) -/

/-- The CORE frequency of an operating point in Hz; P0 is that of PWR_P0_MHZ (R487). -/
def pointHz (d : Dev) (p : Nat) : Nat :=
  match p with
  | 0 => rdN d 0x1000C * 1000000
  | 1 => 1000000000
  | 2 => 800000000
  | _ => 400000000

/-- Voice pool V of a device whose CORE runs at a frequency (R154). -/
def poolOf (d : Dev) (hz : Nat) : Nat := hz * 2 ^ 20 / (fsHz d * 10000)

/-- Geometry capacity C of a device whose CORE runs at a frequency (R95). -/
def capacityOf (d : Dev) (hz : Nat) : Nat := 64 * hz / fsHz d

/-- The values of both devices come into use: as the pair forms, and at each computation of the shed set (R383). -/
def pairCapTake (d : Dev) : Dev :=
  let own := rdN d 0x1000C
  { d with pair := { d.pair with
    capP0 := if d.pair.partnerP0 = 0 then own else min own d.pair.partnerP0
    capV := d.pair.partnerV, capC := d.pair.partnerC } }

/-- The frequency that the tests of R155 to R157 and R174 use: on a formed pair the smaller of the two devices', as they stood at
the last computation of the shed set (R383). -/
def pairHz (d : Dev) (p : Nat) : Nat :=
  if d.pair.state = 2 ∧ p = 0 ∧ d.pair.capP0 ≠ 0 then d.pair.capP0 * 1000000 else pointHz d p

/-- Voice pool V at an operating point, pair-wide on a formed pair (R154, R383). -/
def voicePool (d : Dev) (p : Nat) : Nat :=
  let v := poolOf d (pairHz d p)
  if d.pair.state = 2 ∧ p = d.pwr.capPoint ∧ d.pair.capV ≠ 0 then min v d.pair.capV else v

/-- Geometry capacity C at an operating point, pair-wide on a formed pair (R95, R383). -/
def geomCapacity (d : Dev) (p : Nat) : Nat :=
  let c := capacityOf d (pairHz d p)
  if d.pair.state = 2 ∧ p = d.pwr.capPoint ∧ d.pair.capC ≠ 0 then min c d.pair.capC else c

/-! ### Fields -/

/-- A gain word keeps R5: bits [31:24] are the sign extension of bit 23. -/
def gainOk (w : Nat) : Bool := decide (bits w 31 24 = if w.testBit 23 then 255 else 0)

/-- The value of a gain word (R5). -/
def gainVal (w : Nat) : Int := sext 24 w

/-- The word of a gain (R5). -/
def gainWord (g : Int) : Nat := wrapN 32 g

/-- The section of a type: offset, length, record count (R161). -/
def planSection (img : Bytes) (type : Nat) : Option (Nat × Nat × Nat) :=
  ((List.range (leAt img 12 2)).map (fun i => (leAt img (64 + 16 * i) 2,
    leAt img (68 + 16 * i) 4, leAt img (72 + 16 * i) 4, leAt img (76 + 16 * i) 4))).find? (fun e => e.1 = type)
    |>.map (fun e => e.2)

/-- The bytes of a section; empty when it is absent. -/
def sectionBytes (img : Bytes) (type : Nat) : Bytes :=
  match planSection img type with
  | some (off, len, _) => slice img off len
  | none => []

/-- The record count of a section. -/
def sectionCount (img : Bytes) (type : Nat) : Nat :=
  match planSection img type with
  | some (_, _, n) => n
  | none => 0

/-- The records of `size` bytes of a section. -/
def sectionRecords (img : Bytes) (type size : Nat) : List Bytes :=
  let bs := sectionBytes img type
  (List.range (sectionCount img type)).map (fun i => slice bs (size * i) size)

/-! ### Records -/

/-- An object record (R162). -/
def parseObj (b : Bytes) : ObjRec where
  flags := leAt b 0 1
  priority := leAt b 1 1
  law := leAt b 2 1
  srcKind := leAt b 3 1
  gain := gainVal (leAt b 4 4)
  base := bits (leAt b 8 4) 18 0
  srcIndex := leAt b 12 2
  srcChan := leAt b 14 1
  x := sext 24 (leAt b 16 3)
  y := sext 24 (leAt b 19 3)
  z := sext 24 (leAt b 22 3)
  rmin := leAt b 25 2

/-- The neighbour indices of a descriptor (R108). -/
def parseNeighbours (v : Nat) : List Nat := (List.range (min 6 (bits v 56 54))).map (fun i => bits v (9 * i + 8) (9 * i))

/-- The unit axis of an output in Q2.30 (R109). -/
def outputAxis (azimuth : Nat) (elevation : Int) : Int × Int × Int :=
  let a := 2 * fpi * (azimuth : Int) / 65536
  let e := 2 * fpi * elevation / 65536
  (fround 30 (fmul (fcos e) (fcos a)), fround 30 (fmul (fcos e) (fsin a)), fround 30 (fsin e))

/-- An output descriptor (R108), with its axis (R109). -/
def parseOut (b : Bytes) : OutRec :=
  let az := leAt b 10 2
  let el := sext 16 (leAt b 12 2)
  let u := outputAxis az el
  { x := sext 24 (leAt b 0 3), y := sext 24 (leAt b 3 3), z := sext 24 (leAt b 6 3)
    owner := bits (leAt b 9 1) 5 0, sink := bits (leAt b 9 1) 7 6, azimuth := az, elevation := el
    profile := leAt b 14 1, flags := leAt b 15 1, trim := gainVal (leAt b 16 4), align := leAt b 20 4
    neighbours := parseNeighbours (leAt b 24 8), ux := u.1, uy := u.2.1, uz := u.2.2 }

/-- An output-task record (R163). -/
def parseOutTask (b : Bytes) : OutTask where
  cls := leAt b 2 1
  flags := leAt b 3 1
  sink := leAt b 4 1
  destChan := leAt b 5 1
  destIndex := leAt b 6 2
  bulk := leAt b 8 4
  params := leAt b 12 4
  entry := leAt b 16 4
  cycles := leAt b 20 4

/-- A signed 32-bit field. -/
def s32 (b : Bytes) (off : Nat) : Int := sext 32 (leAt b off 4)

/-- A triangle record (R164). -/
def parseTri (b : Bytes) : Triangle :=
  ⟨leAt b 0 2, leAt b 2 2, leAt b 4 2, (List.range 9).map (fun i => s32 b (8 + 4 * i))⟩

/-- A reflector record (R164). -/
def parseRefl (b : Bytes) : Reflector := ⟨s32 b 0, s32 b 4, s32 b 8, s32 b 12, gainVal (leAt b 16 4)⟩

/-- The sections of biquad coefficients (R255). -/
def parseSections (b : Bytes) (off n : Nat) : List (List Int) :=
  (List.range n).map (fun i => (List.range 5).map (fun k => s32 b (off + 20 * i + 4 * k)))

/-- An OUTPUT_PARAMS record (R255). -/
def parseParam (b : Bytes) : OutParam where
  ctrl := leAt b 0 4
  level := gainVal (leAt b 4 4)
  rmsThr := leAt b 8 4
  rmsAvg := leAt b 12 4
  rmsAtt := leAt b 16 4
  rmsRel := leAt b 20 4
  peakThr := leAt b 24 4
  peakRel := leAt b 28 4
  trackMm := leAt b 32 4
  extLatency := leAt b 36 4
  biquads := parseSections b 64 32
  crossover := parseSections b 704 8

/-- Bytes of a voice-group record (R149). -/
def groupBytes (outs voices : Nat) : Nat := (16 + 2 * outs + 3) / 4 * 4 + 4 * voices

/-- A voice entry (R150) over its group's output list. -/
def parseVoice (outs : List Nat) (w : Nat) : VoiceEnt :=
  ⟨bits w 9 0, outs.getD (bits w 15 10) 512, bits w 21 16, bits w 23 22⟩

/-- One voice-group record at the head of a string (R149). -/
def parseGroup (b : Bytes) : Group :=
  let nv := leAt b 2 2
  let no := leAt b 4 1
  let outs := (List.range no).map (fun i => leAt b (16 + 2 * i) 2)
  let vb := (16 + 2 * no + 3) / 4 * 4
  { index := leAt b 0 2, cls := leAt b 5 1, flags := leAt b 6 2, stateBase := leAt b 8 4, outs := outs
    voices := (List.range nv).map (fun i => parseVoice outs (leAt b (vb + 4 * i) 4)) }

/-- The records of the VOICE_GROUPS section one after another, as byte strings. -/
def groupRecords (n : Nat) (b : Bytes) : List Bytes :=
  match n with
  | 0 => []
  | k + 1 =>
    let len := groupBytes (leAt b 4 1) (leAt b 2 2)
    b.take len :: groupRecords k (b.drop len)

/-- A task record (R166). -/
def parseTask (b : Bytes) : TaskRec :=
  ⟨leAt b 0 2, leAt b 2 1, leAt b 3 1, leAt b 4 2, leAt b 8 4, leAt b 12 2⟩

/-- The ROUTING section; empty when absent (R161, R179). -/
def parseRouting (b : Bytes) : Routing where
  talkback := (List.range 8).map (fun i => if b = [] then (0xFFFF, 0) else (leAt b (4 + 4 * i) 2, leAt b (6 + 4 * i) 1))
  indirect := (List.range 8).map (fun i => leAt b (36 + 2 * i) 2)
  gains := (List.range 256).map (fun i => gainVal (leAt b (64 + 4 * i) 4))
  program := (List.range (leAt b 0 2)).map (fun i => leAt b (1088 + 4 * i) 4)

/-- The plan that an image spells (R160 to R166). -/
def parsePlan (img : Bytes) : Plan where
  index := leAt img 6 1
  rate := leAt img 7 1
  totalVoices := leAt img 16 4
  fixedVoices := leAt img 20 4
  geomLoad := leAt img 24 4
  matchPeak := leAt img 28 2
  moveSlots := leAt img 30 1
  reflDiv := leAt img 31 1
  asterLoad := leAt img 32 4
  objects := (sectionRecords img 1 32).map parseObj
  outputs := (sectionRecords img 2 32).map parseOut
  outTasks := (sectionRecords img 3 32).map parseOutTask
  triangles := (sectionRecords img 4 48).map parseTri
  reflectors := (sectionRecords img 5 32).map parseRefl
  profiles := (sectionRecords img 6 132).map (fun b => (List.range 33).map (fun i => gainVal (leAt b (4 * i) 4)))
  bounds := (sectionRecords img 7 4).map (fun b => leAt b 0 4)
  groups := (groupRecords (sectionCount img 8) (sectionBytes img 8)).map parseGroup
  tasks := (sectionRecords img 9 16).map parseTask
  routing := parseRouting (sectionBytes img 10)
  outParams := (sectionRecords img 11 1024).map parseParam
  code := sectionBytes img 12

/-! ### What a plan names -/

/-- Object o of a plan. -/
def planObj (p : Plan) (o : Nat) : ObjRec := p.objects.getD o {}
/-- Output j of a plan. -/
def planOut (p : Plan) (j : Nat) : OutRec := p.outputs.getD j {}
/-- Output-task record j of a plan. -/
def planTask (p : Plan) (j : Nat) : OutTask := p.outTasks.getD j {}
/-- The parameters of output j (R255). -/
def planParam (p : Plan) (j : Nat) : OutParam := p.outParams.getD ((planTask p j).params / 1024) {}
/-- tap_units of output j (R255). -/
def paramTaps (q : OutParam) : Nat := bits q.ctrl 22 16
/-- Look-ahead L of an output in quanta (R255). -/
def paramLook (q : OutParam) : Nat := bits q.ctrl 15 12

/-- Does the device render an output of a plan in the role set in SYS_ROLE_CFG (R170)? -/
def rendersOut (d : Dev) (p : Plan) (j : Nat) : Bool :=
  if role d = 2 then decide ((planOut p j).owner = fld d 0x210 5 0) else true

/-- Does the device run a group: does it render the group's outputs (R170)? -/
def runsGroup (d : Dev) (p : Plan) (g : Group) : Bool :=
  match g.outs with
  | j :: _ => rendersOut d p j
  | [] => false

/-- Fixed voices: direct and move-slot voices (R155). -/
def fixedCount (vs : List VoiceEnt) : Nat := (vs.filter (fun v => v.kind ≠ 2)).length

/-- Reflection voices of a divider phase: those of objects o with o mod div = phase (R121, R122). -/
def phaseCount (div phase : Nat) (vs : List VoiceEnt) : Nat :=
  (vs.filter (fun v => v.kind = 2 && decide (v.source % div = phase))).length

/-- The largest phase (R122). -/
def maxPhase (div : Nat) (vs : List VoiceEnt) : Nat :=
  (List.range div).foldl (fun m ph => max m (phaseCount div ph vs)) 0

/-- The voices of the groups a device runs (R170). -/
def runVoices (d : Dev) (p : Plan) : List VoiceEnt :=
  (p.groups.filter (runsGroup d p)).flatMap (fun g => g.voices)

/-- Every voice of a plan. -/
def allVoices (p : Plan) : List VoiceEnt := p.groups.flatMap (fun g => g.voices)

/-- The geometry load L of a list of voices (R122). -/
def loadOf (div : Nat) (vs : List VoiceEnt) : Nat := fixedCount vs + maxPhase div vs

/-! ### Validation (R168) -/

/-- The first index below n that a check refuses. -/
def firstBad (n : Nat) (ok : Nat → Bool) : Option Nat := (List.range n).find? (fun i => !ok i)

/-- The first record of a section that a check refuses: (section, record). -/
def badRec (sec : Nat) (recs : List Bytes) (ok : Bytes → Bool) : Option (Nat × Nat) :=
  (firstBad recs.length (fun i => ok (recs.getD i []))).map (fun i => (sec, i))

/-- A check with no record: 0xFFFF when it fails. -/
def badIf (sec : Nat) (ok : Bool) : Option (Nat × Nat) := if ok then none else some (sec, 0xFFFF)

/-- The first failure of a list. -/
def firstSome (l : List (Option (Nat × Nat))) : Option (Nat × Nat) := l.findSome? id

/-- Size of the fixed-length records of a section type; 0 for the others (R161). -/
def sectionRecSize (type : Nat) : Nat :=
  match type with
  | 1 => 32 | 2 => 32 | 3 => 32 | 4 => 48 | 5 => 32 | 6 => 132 | 7 => 4 | 9 => 16 | 11 => 1024 | _ => 0

/-- Is a section's record count in its range (R161)? -/
def sectionCountOk (type n : Nat) : Bool :=
  match type with
  | 1 => n = 1024 | 2 => n = 512 | 3 => n = 512 | 4 => n ≤ 1024 | 5 => n ≤ 64 | 6 => n = 64 | 7 => n = 512
  | 8 => 1 ≤ n ∧ n ≤ 4096 | 9 => 1 ≤ n ∧ n ≤ 8192 | 10 => n = 1 | 11 => n = 512 | 12 => n = 1 | _ => false

/-- Layout of ASTER_CODE: blocks one after another within the section (R242). -/
def codeBlocks (n : Nat) (b : Bytes) : List Bytes :=
  match n with
  | 0 => []
  | k + 1 => let len := 16 + leAt b 8 4; b.take len :: codeBlocks k (b.drop len)

/-- The data blocks of an ASTER_CODE section (R242). -/
def codeDataBlocks (code : Bytes) : List Bytes := codeBlocks (leAt code 4 4) (code.drop (16 + leAt code 0 4))

/-- Check 0x05: the directory (R161, R242). TRIANGLES and REFLECTORS are required by the laws of objects that are in the plan: the
model's choice, as the rule says "any object" (log 107). -/
def checkDirectory (img : Bytes) : Bool :=
  let n := leAt img 12 2
  let size := leAt img 8 4
  let es := (List.range n).map (fun i => (leAt img (64 + 16 * i) 2,
    leAt img (68 + 16 * i) 4, leAt img (72 + 16 * i) 4, leAt img (76 + 16 * i) 4))
  let types := es.map (fun e => e.1)
  let objs := sectionRecords img 1 32
  let panning := objs.any (fun b => decide (leAt b 0 1 % 2 = 1) && decide (leAt b 2 1 % 4 = 0))
  let refl := objs.any (fun b => decide (leAt b 0 1 % 2 = 1) && (leAt b 2 1).testBit 2)
  let need := [1, 2, 3, 6, 7, 8, 9, 11, 12] ++ (if panning then [4] else []) ++ (if refl then [5] else [])
  let code := sectionBytes img 12
  decide (1 ≤ n) && decide (n ≤ 16) && decide (64 + 16 * n + 96 ≤ size)
  && es.all (fun e => decide (1 ≤ e.1) && decide (e.1 ≤ 12) && decide (e.2.1 % 64 = 0)
      && decide (64 + 16 * n ≤ e.2.1) && decide (e.2.1 + e.2.2.1 + 96 ≤ size)
      && sectionCountOk e.1 e.2.2.2
      && (sectionRecSize e.1 = 0 || decide (e.2.2.1 = sectionRecSize e.1 * e.2.2.2)))
  && decide types.Nodup && need.all (fun t => types.contains t)
  && (List.range n).all (fun i => (List.range n).all (fun k => decide (i = k) ||
      let a := es.getD i (0, 0, 0, 0)
      let b := es.getD k (0, 0, 0, 0)
      decide (a.2.1 + a.2.2.1 ≤ b.2.1) || decide (b.2.1 + b.2.2.1 ≤ a.2.1)))
  && decide ((groupRecords (sectionCount img 8) (sectionBytes img 8)).flatten.length = (sectionBytes img 8).length)
  && (sectionCount img 10 = 0 || decide ((sectionBytes img 10).length = 1088 + 4 * leAt (sectionBytes img 10) 0 2))
  && (codeDataBlocks code).all (fun b => decide (b.length = 16 + leAt b 8 4))
  && decide (code.length = 16 + leAt code 0 4 + (codeDataBlocks code).flatten.length)

/-- Bits [hi:lo] of a field are zero. -/
def z (v hi lo : Nat) : Bool := decide (bits v hi lo = 0)

/-- Check 0x06: reserved fields and bits. -/
def checkReserved (img : Bytes) : Option (Nat × Nat) :=
  let rt := sectionBytes img 10
  let code := sectionBytes img 12
  firstSome [
    badIf 0 (zeroAt img 14 2 && zeroAt img 38 2 && zeroAt img 48 16
      && (List.range (leAt img 12 2)).all (fun i => zeroAt img (66 + 16 * i) 2)),
    badRec 1 (sectionRecords img 1 32) (fun b => z (leAt b 0 1) 7 4 && z (leAt b 2 1) 7 3 && z (leAt b 8 4) 31 19
      && zeroAt b 15 1 && zeroAt b 27 5),
    badRec 2 (sectionRecords img 2 32) (fun b => z (leAt b 15 1) 7 3 && z (leAt b 24 8) 63 57),
    badRec 3 (sectionRecords img 3 32) (fun b => z (leAt b 0 2) 15 9 && z (leAt b 3 1) 7 2 && zeroAt b 24 8),
    badRec 4 (sectionRecords img 4 48) (fun b => zeroAt b 6 2 && zeroAt b 44 4),
    badRec 5 (sectionRecords img 5 32) (fun b => zeroAt b 20 12),
    badRec 8 (groupRecords (sectionCount img 8) (sectionBytes img 8)) (fun b =>
      let no := leAt b 4 1
      let vb := (16 + 2 * no + 3) / 4 * 4
      z (leAt b 6 2) 15 2 && zeroAt b 12 4 && (List.range no).all (fun i => z (leAt b (16 + 2 * i) 2) 15 9)
      && (List.range (leAt b 2 2)).all (fun i =>
        let w := leAt b (vb + 4 * i) 4
        z w 31 24 && (bits w 23 22 = 2 || z w 21 16) && (bits w 23 22 ≠ 1 || z w 9 4))),
    badRec 9 (sectionRecords img 9 16) (fun b => zeroAt b 6 2 && zeroAt b 14 2),
    badIf 10 (rt = [] || (zeroAt rt 2 2 && zeroAt rt 52 12
      && (List.range 8).all (fun i => zeroAt rt (7 + 4 * i) 1)
      && (List.range (leAt rt 0 2)).all (fun i =>
        let w := leAt rt (1088 + 4 * i) 4
        z w 4 0 && (bits w 31 28 = 2 || z w 12 5)))),
    badRec 11 (sectionRecords img 11 1024) (fun b => z (leAt b 0 4) 31 23 && zeroAt b 40 24 && zeroAt b 864 160),
    badIf 12 (zeroAt code 8 8 && (codeDataBlocks code).all (fun b => zeroAt b 2 2 && zeroAt b 12 4))]

/-- Check 0x07: ranges and gains (R5, R162 to R166, R179, R186, R242, R255, R256). -/
def checkRanges (d : Dev) (img : Bytes) : Option (Nat × Nat) :=
  let rt := sectionBytes img 10
  let code := sectionBytes img 12
  let p := parsePlan img
  let central := decide (role d ≠ 2)
  let units := ((List.range 512).filter (fun j => central || rendersOut d p j)).foldl
    (fun s j => s + paramTaps (planParam p j)) 0
  let pos (b : Bytes) (off : Nat) : Bool := decide (1 ≤ leAt b off 4) && decide (leAt b off 4 < 2 ^ 31)
  firstSome [
    badIf 0 (decide (leAt img 30 1 ≤ 16) && [1, 2, 4, 8].contains (leAt img 31 1) && decide (1 ≤ leAt img 28 2)),
    badRec 1 (sectionRecords img 1 32) (fun b => decide (leAt b 2 1 % 4 ≠ 3) && decide (leAt b 3 1 ≤ 3)
      && gainOk (leAt b 4 4) && decide (bits (leAt b 8 4) 18 0 ≤ 262144)
      && (leAt b 3 1 ≠ 2 || (decide (leAt b 12 2 ≤ 15) && decide (leAt b 14 1 ≤ 31)))
      && (leAt b 3 1 ≠ 3 || decide (leAt b 12 2 ≤ 31))),
    badRec 2 (sectionRecords img 2 32) (fun b => decide ((sext 16 (leAt b 12 2)).natAbs ≤ 16384)
      && decide (leAt b 14 1 ≤ 63) && gainOk (leAt b 16 4)),
    badRec 3 (sectionRecords img 3 32) (fun b => decide (leAt b 2 1 ≤ 15) && decide (leAt b 4 1 ≤ 3)
      && decide (leAt b 8 4 ≤ 262144)
      && (leAt b 6 2 = 0xFFFF || leAt b 4 1 ≠ 1 || (decide (leAt b 6 2 ≤ 15) && decide (leAt b 5 1 ≤ 31)))
      && (leAt b 6 2 = 0xFFFF || leAt b 4 1 ≠ 2 || decide (leAt b 6 2 ≤ 15))),
    badRec 5 (sectionRecords img 5 32) (fun b => gainOk (leAt b 16 4)),
    badRec 6 (sectionRecords img 6 132) (fun b => (List.range 33).all (fun i => gainOk (leAt b (4 * i) 4))),
    badRec 8 (groupRecords (sectionCount img 8) (sectionBytes img 8)) (fun b =>
      let no := leAt b 4 1
      let nv := leAt b 2 2
      let vb := (16 + 2 * no + 3) / 4 * 4
      decide (leAt b 0 2 ≤ 4095) && decide (1 ≤ nv) && decide (nv ≤ 2048) && decide (1 ≤ no) && decide (no ≤ 64)
      && decide (leAt b 5 1 ≤ 15)
      && (List.range nv).all (fun i => decide (bits (leAt b (vb + 4 * i) 4) 23 22 ≠ 3))),
    badRec 9 (sectionRecords img 9 16) (fun b => decide (leAt b 0 2 ≤ 8191) && decide (leAt b 2 1 ≤ 4)
      && decide (leAt b 3 1 ≤ 15) && decide (1 ≤ leAt b 4 2) && decide (leAt b 4 2 ≤ 4096)
      && (leAt b 2 1 = 2 || decide (leAt b 12 2 = 0))),
    badIf 10 (rt = [] || (decide (1 ≤ leAt rt 0 2) && decide (leAt rt 0 2 ≤ if leAt img 7 1 = 1 then 512 else 1024)
      && (List.range 256).all (fun i => gainOk (leAt rt (64 + 4 * i) 4)))),
    badRec 11 (sectionRecords img 11 1024) (fun b =>
      decide (bits (leAt b 0 4) 5 0 ≤ 32) && decide (bits (leAt b 0 4) 9 6 ≤ 8) && decide (bits (leAt b 0 4) 22 16 ≤ 64)
      && gainOk (leAt b 4 4) && [8, 12, 16, 20, 24, 28].all (pos b) && decide (leAt b 36 4 ≤ 65535)),
    badIf 11 (decide (units ≤ if leAt img 7 1 = 1 then 8192 else 16384)),
    badIf 12 (decide (leAt code 0 4 % 8 = 0) && decide (8 ≤ leAt code 0 4) && decide (leAt code 0 4 ≤ 131072)
      && decide (leAt code 4 4 ≤ 1024)
      && (codeDataBlocks code).all (fun b => decide (leAt b 0 2 ≠ 0) && decide (leAt b 4 4 % 16 = 0)
        && decide (2048 ≤ leAt b 4 4) && decide (leAt b 8 4 % 16 = 0) && decide (leAt b 4 4 + leAt b 8 4 ≤ 196608)))]

/-- A source code of R181. -/
def routeSourceOk (c : Nat) : Bool :=
  decide (c ≤ 0x280) || (decide (0x400 ≤ c) && decide (c ≤ 0x5FF)) || (decide (0xFF0 ≤ c) && decide (c ≤ 0xFF7))

/-- A destination code of R181. -/
def routeDestOk (c : Nat) : Bool :=
  decide (c ≤ 0x1FF) || c = 0x200 || c = 0x201 || (decide (0x210 ≤ c) && decide (c ≤ 0x217))

/-- The MACs of each accumulator since its CLR, or the start of the period, stay at most 64: an ST leaves the sum (R180, R182).
The counts after one instruction, or none. -/
def macRun (cnt : Option (FMap Nat)) (w : Nat) : Option (FMap Nat) :=
  match cnt with
  | none => none
  | some m =>
    let a := bits w 27 25
    match bits w 31 28 with
    | 1 => some (fput 0 m a 0)
    | 2 => if fget 0 m a < 64 then some (fput 0 m a (fget 0 m a + 1)) else none
    | _ => some m

/-- The rules of the routing program (R180 to R182). -/
def routeProgramOk (p : Plan) (prog : List Nat) : Bool :=
  let dests := (prog.filter (fun w => bits w 31 28 = 3)).map (fun w => bits w 24 13)
  let sinks := (List.range 512).filterMap (fun j =>
    let t := planTask p j
    if t.sink = 1 ∧ t.destIndex ≠ 0xFFFF then some (32 * t.destIndex + t.destChan) else none)
  prog.all (fun w => match bits w 31 28 with
    | 0 => true | 1 => true | 2 => routeSourceOk (bits w 24 13) | 3 => routeDestOk (bits w 24 13) | 15 => true | _ => false)
  && decide dests.Nodup && dests.all (fun c => !sinks.contains c)
  && (prog.foldl macRun (some [])).isSome
  && (match prog.getLast? with
      | some w => decide (bits w 31 28 = 15)
      | none => false)
  && prog.dropLast.all (fun w => decide (bits w 31 28 ≠ 15))

/-- Check 0x08: cross-references (R163, R168, R170, R182, R242, R255, R256). -/
def checkCross (img : Bytes) : Option (Nat × Nat) :=
  let p := parsePlan img
  let groups := groupRecords (sectionCount img 8) (sectionBytes img 8)
  let rt := sectionBytes img 10
  let csize := leAt p.code 0 4
  firstSome [
    (firstBad 512 (fun j =>
      let b := (sectionRecords img 3 32).getD j []
      let t := planTask p j
      decide (leAt b 0 2 = j) && decide (t.sink = (planOut p j).sink) && decide (t.params % 1024 = 0)
      && decide (t.params / 1024 < p.outParams.length) && decide (t.entry % 8 = 0) && decide (t.entry < csize)
      && decide (32 * paramLook (planParam p j) ≤ t.bulk))).map (fun j => (3, j)),
    (firstBad p.triangles.length (fun i =>
      let t := p.triangles.getD i {}
      decide ([t.a, t.b, t.c].Nodup)
      && [t.a, t.b, t.c].all (fun j => decide (j < 512) && (planOut p j).flags.testBit 0))).map (fun i => (4, i)),
    (firstBad p.groups.length (fun i =>
      let g := p.groups.getD i {}
      let b := groups.getD i []
      let vb := (16 + 2 * g.outs.length + 3) / 4 * 4
      let owner := (planOut p (g.outs.headD 0)).owner
      decide (g.stateBase + g.voices.length ≤ p.totalVoices)
      && g.outs.all (fun j => decide ((planOut p j).owner = owner))
      && (List.range g.voices.length).all (fun k =>
        let w := leAt b (vb + 4 * k) 4
        decide (bits w 15 10 < g.outs.length)
        && (match bits w 23 22 with
            | 0 => (planObj p (bits w 9 0)).flags.testBit 0
            | 1 => decide (bits w 3 0 < p.moveSlots)
            | _ => (planObj p (bits w 9 0)).flags.testBit 0 && decide (bits w 21 16 < p.reflectors.length))))).map
      (fun i => (8, i)),
    badIf 8 (decide (p.groups.map (fun g => g.index)).Nodup),
    (firstBad p.tasks.length (fun i =>
      let t := p.tasks.getD i ⟨0, 0, 0, 0, 0, 0⟩
      match t.kind with
      | 1 => p.groups.any (fun g => g.index = t.ref)
      | 2 => decide (t.ref < 512)
      | 3 => decide (t.ref < 512)
      | _ => true)).map (fun i => (9, i)),
    badIf 9 (decide (p.tasks.map (fun t => t.task)).Nodup),
    badIf 10 (rt = [] || (routeProgramOk p p.routing.program && p.routing.indirect.all routeSourceOk))]

/-- Is there a voice of the same kind, source and reflector into output k? -/
def hasVoice (vs : List VoiceEnt) (v : VoiceEnt) (k : Nat) : Bool :=
  vs.any (fun u => u.kind = v.kind && u.source = v.source && u.reflector = v.reflector && u.output = k)

/-- Check 0x09: neighbour lists (R109, R171). -/
def checkNeighbours (img : Bytes) : Option (Nat × Nat) :=
  let p := parsePlan img
  let vs := allVoices p
  (firstBad 512 (fun j =>
    let b := (sectionRecords img 2 32).getD j []
    let ns := (planOut p j).neighbours
    decide (bits (leAt b 24 8) 56 54 ≤ 6) && decide ns.Nodup && !ns.contains j
    && (ns = [] || vs.all (fun v => decide (v.output ≠ j) || ns.all (hasVoice vs v))))).map (fun j => (2, j))

/-- The operand count the device derives for a task; none when it derives none (R168, R188, R261). -/
def derivedOperands (p : Plan) (t : TaskRec) : Option Nat :=
  match t.kind with
  | 0 => some 3
  | 1 => some 2
  | 2 => some (max 1 (p.groups.filter (fun g => g.outs.contains t.ref)).length)
  | 3 => some 1
  | _ => none

/-- Check 0x0A: declared values (R168). -/
def checkDeclared (p : Plan) : Option (Nat × Nat) :=
  let vs := allVoices p
  firstSome [
    badIf 0 (decide (p.totalVoices = vs.length) && decide (p.fixedVoices = fixedCount vs)
      && decide (p.geomLoad = loadOf p.reflDiv vs)),
    (firstBad p.tasks.length (fun i =>
      let t := p.tasks.getD i ⟨0, 0, 0, 0, 0, 0⟩
      match derivedOperands p t with
      | some n => decide (t.operands = n)
      | none => true)).map (fun i => (9, i))]

/-- The stream indices a plan names (R58). -/
def planStreams (p : Plan) : List Nat :=
  ((p.objects.filter (fun o => o.flags.testBit 0 && o.srcKind = 1)).map (fun o => o.srcIndex)
    ++ (p.outTasks.filter (fun t => t.sink = 0)).map (fun t => t.destIndex)
    ++ p.routing.talkback.map (fun t => t.1)).filter (fun i => i ≠ 0xFFFF)

/-- The checks of R168 in order; the first failure gives reason, section, record and code. -/
def checkPlan (d : Dev) (img : Bytes) (index supplied : Nat) : Option (Nat × Nat × Nat × Nat) :=
  let p := parsePlan img
  let fail (reason code : Nat) (e : Option (Nat × Nat)) : Option (Nat × Nat × Nat × Nat) :=
    e.map (fun s => (reason, s.1, s.2, code))
  let size := leAt img 8 4
  let bytesHeld := (d.plan.held.filter (fun e => e.1 ≠ index)).foldl (fun n e => n + e.2.length) 0
  if !(decide (leAt img 0 4 = 0x4C505259) && decide (leAt img 4 2 = 1) && decide (size % 64 = 0)
      && decide (160 ≤ size) && decide (size ≤ 2 ^ 25) && decide (size = supplied) && decide (size = img.length)) then
    some (1, 0, 0xFFFF, 3)
  else if !ecdsaVerify Config.sceneKey (img.take (size - 96)) (img.drop (size - 96)) then some (2, 0, 0xFFFF, 4)
  else if p.index ≠ index then some (3, 0, 0xFFFF, 3)
  else if p.rate ≠ b2n (rate96 d) then some (4, 0, 0xFFFF, 2)
  else if !checkDirectory img then some (5, 0, 0xFFFF, 3)
  else match fail 6 3 (checkReserved img) with
  | some f => some f
  | none => match fail 7 2 (checkRanges d img) with
  | some f => some f
  | none => match fail 8 3 (checkCross img) with
  | some f => some f
  | none => match fail 9 3 (checkNeighbours img) with
  | some f => some f
  | none => match fail 10 3 (checkDeclared p) with
  | some f => some f
  | none => match (firstBad p.bounds.length (fun j => decide (p.bounds.getD j 0 < 2 ^ 31))) with
  | some j => some (11, 7, j, 2)
  | none =>
    let vs := runVoices d p
    if vs.length > voicePool d 0 ∨ loadOf p.reflDiv vs > geomCapacity d 0 then some (12, 0, 0xFFFF, 9)
    else if p.matchPeak > 12288 then some (13, 0, 0xFFFF, 9)
    else if (planStreams p).any (fun i => decide (i > 65534)) then some (14, 0, 0xFFFF, 9)
    else if d.plan.held.length ≥ 256 ∨ bytesHeld + size > 2 ^ 31 then some (15, 0, 0xFFFF, 9)
    else none

/-! ### The plan store -/

/-- The digest of the plan set, 48 bytes; zero when no plan is held (R169). -/
def planSetDigest (d : Dev) : Bytes :=
  if d.plan.held = [] then zeros 48
  else sha384 (d.plan.held.flatMap (fun e => leBytes 1 e.1 ++ sha384 e.2))

/-- PLAN_SET_ID as a 64-bit value: byte k in bits [8k+7:8k] (R169). -/
def planSetId (d : Dev) : Nat := rdN d 0x80020 + rdN d 0x80024 * 2 ^ 32

/-- Recomputes PLAN_SET_ID and the registers of the plan store after a load or a drop (R169, R187). PLAN_STORE_USED counts a KiB
begun as a whole one: the model's choice (log 107). -/
def refreshPlanSet (d : Dev) : Dev :=
  let id := leVal ((planSetDigest d).take 8)
  let kib := ceilDiv (d.plan.held.foldl (fun n e => n + e.2.length) 0) 1024
  let d := wrN 0x80020 (id % 2 ^ 32) (wrN 0x80024 (id / 2 ^ 32) d)
  let d := wrN 0x8000C kib d
  forN 8 (fun i d => wrN (0x80100 + 4 * i)
    (forN 32 (fun b acc => acc + b2n ((fget? d.plan.held (32 * i + b)).isSome) * 2 ^ b) 0) d) d

/-- Is a plan index the active plan or named in a pending swap (R59, R169)? During a crossfade the incoming plan
counts as named (DEDUCED). -/
def planInUse (d : Dev) (i : Nat) : Bool :=
  (match d.plan.active with
   | some p => decide (p.index = i)
   | none => false)
  || (match d.plan.pending with
      | some s => decide (s.plan = i)
      | none => false)
  || (match d.plan.heldSwap with
      | some s => decide (s.plan = i)
      | none => false)
  || (match d.plan.running with
      | some r => decide (r.incoming.index = i)
      | none => false)

/-- A load fails: the buffer is freed, PLAN_ERR and load_failed show it (R22, R168). -/
def planLoadFail (cid reason sec rcd code : Nat) (d : Dev) : Dev :=
  let d := { d with plan := { d.plan with load := none } }
  let d := wrN 0x80008 (reason + sec % 256 * 256 + rcd % 65536 * 65536) d
  complete cid code reason 0 (setFlag 0x80004 24 d)

/-- The load in progress ends: the image is judged under R168 and moves into the plan store, or fails. -/
def planLoadEnd (d : Dev) : Dev :=
  match d.plan.load with
  | none => d
  | some l =>
    match checkPlan d l.image l.plan l.supplied with
    | some (reason, sec, rcd, code) =>
      planLoadFail l.cid reason sec rcd code d
    | none =>
      let d := { d with plan := { d.plan with load := none, held := fins d.plan.held l.plan l.image } }
      let d := refreshPlanSet d
      complete l.cid cDone 0 (planSetId d) d

/-- PLAN_DROP frees an index (R169). -/
def planDrop (cid i : Nat) (d : Dev) : Dev :=
  if planInUse d i then complete cid cState 0 0 d
  else if (fget? d.plan.held i).isNone then complete cid cRange 0 0 d
  else
    let d := refreshPlanSet { d with plan := { d.plan with held := ferase d.plan.held i } }
    complete cid cDone 0 (planSetId d) d

end Sys2Proof.Machine
end

