-- ==== Sys2Proof/Machine/Geom.lean ====
section
/-!
DEFINITION. Objects and the geometry unit: metadata, conditioning, distances, gain laws, air, reflections,
availability (03_objects_geometry.md, R95 to R128, R538).
-/

namespace Sys2Proof.Machine

/-- N of the fades: 30 quanta at 96 kHz, 15 at 48 kHz (R104, R114, R123). -/
def fadeN (d : Dev) : Nat := if rate96 d then 30 else 15

/-- Samples of a ramp of 10 ms. -/
def rampLen (d : Dev) : Nat := 32 * fadeN d

/-- The level of the ramp after `k` samples of quantum `q`, from 0 (muted) to the ramp's length (full). -/
def rampIdx (d : Dev) (q k : Nat) : Nat :=
  let s := 32 * (q - d.sys.rampQn) + k
  if d.sys.rampUp then min (rampLen d) (d.sys.rampFrom + s) else min (rampLen d) d.sys.rampFrom - s

/-- Truncated quotient. -/
def tdiv (a b : Int) : Int := a.tdiv b

/-- An object. -/
def obj (d : Dev) (o : Nat) : Obj := fget {} d.geom.objs o

/-- Replaces an object. -/
def putObj (o : Nat) (x : Obj) (d : Dev) : Dev := { d with geom := { d.geom with objs := fput {} d.geom.objs o x } }

/-- A sign-extended 24-bit coordinate register. -/
def coordReg (d : Dev) (a : Nat) : Int := sext 24 (rdN d a)

/-! ### Speed of sound and air (R111, R112, R119) -/

/-- K of a temperature in Q8.8 °C, in binary64 (R111). -/
def soundK (d : Dev) (temp : Int) : Nat :=
  let r := b64Sqrt (b64Add (b64Rat 1 1) (b64Div (b64Rat temp 256) (b64Rat 27315 100)))
  let c := b64Mul (b64Rat 331300 1) r
  (b64Int (b64Div (b64Rat ((fsHz d * 2 ^ 32 : Nat) : Int) 1) c)).toNat % 2 ^ 32

/-- The ISO 9613-1 pure-tone absorption at 8 kHz over 100 m in dB, at 101.325 kPa, as a fixed-point real. PRESUMED:
the formula is that of the standard, which R119 names and does not restate. -/
def isoAbsorption (temp : Int) (humidity : Nat) : Int :=
  let t := fixRat temp 256 + fixRat 27315 100
  let pw (base e : Int) : Int := fexp (fmul e (fln base))
  let t0 := fixRat 29315 100
  let t01 := fixRat 27316 100
  let ex := fmul (fixRat (-68346) 10000) (pw (fdiv t01 t) (fixRat 1261 1000)) + fixRat 46151 10000
  let psat := pw (10 * fixOne) ex
  let h := psat * (humidity : Int)
  let frO := 24 * fixOne + fmul (40400 * h) (fdiv (fixRat 2 100 + h) (fixRat 391 1000 + h))
  let tr := fdiv t t0
  let frN := fmul (fdiv fixOne (fsqrt tr))
    (9 * fixOne + fmul (280 * h) (fexp (fmul (fixRat (-4170) 1000) (pw tr (fixRat (-1) 3) - fixOne))))
  let f2 := fixRat 64000000 1
  let ox := fdiv (fmul (fixRat 1275 100000) (fexp (-(fdiv (fixRat 22391 10) t)))) (frO + fdiv f2 frO)
  let ni := fdiv (fmul (fixRat 1068 10000) (fexp (-(fdiv (3352 * fixOne) t)))) (frN + fdiv f2 frN)
  let cl := fmul (fixRat 184 10000000000000) (fsqrt tr)
  100 * fmul (fmul (fixRat 8686 1000) f2) (cl + fmul (pw tr (fixRat (-5) 2)) (ox + ni))

/-- GEOM_AIR_W of a temperature and humidity (R119). PRESUMED: power, cosine and root are correctly rounded, and the
operations run in the order written. -/
def airW (d : Dev) (temp : Int) (humidity : Nat) : Nat :=
  let fs := b64Rat (fsHz d : Int) 1
  let a := b64Fix (isoAbsorption temp humidity)
  let g := b64Fix (fexp (fmul (fixB64 (b64Div (-(a.1), a.2) (b64Rat 20 1))) (fln (10 * fixOne))))
  let twoPi := b64Fix (2 * fpi)
  let c := b64Fix (fcos (fixB64 (b64Div (b64Mul twoPi (b64Rat 8000 1)) fs)))
  let g2 := b64Mul g g
  let qa := b64Sub g2 (b64Rat 1 1)
  let qb := b64Sub (b64Rat 2 1) (b64Mul (b64Mul (b64Rat 2 1) g2) c)
  let disc := b64Sqrt (b64Sub (b64Mul qb qb) (b64Mul (b64Rat 4 1) (b64Mul qa qa)))
  let b := b64Div (b64Sub disc qb) (b64Mul (b64Rat 2 1) qa)
  let w := b64Div (b64Sub (b64Rat 1 1) b) b
  let cair := b64Div (b64Mul (b64Mul w fs) (b64Rat 100 1)) twoPi
  let x := b64Div (b64Mul (b64Mul (b64Mul twoPi cair) (b64Rat 256000 1)) (b64Rat (2 ^ 24) 1)) fs
  (b64Int x).toNat

/-- The value of a slew from `old` to `new` at quantum q (R112). -/
def slewAt (old new q qn len : Nat) : Nat :=
  if len = 0 ∨ qn + len ≤ q then new
  else ((old : Int) + tdiv (((new : Int) - (old : Int)) * ((q - qn : Nat) : Int)) (len : Int)).toNat

/-- K and GEOM_AIR_W of a quantum (R112, R119). -/
def slewStep (q : Nat) (d : Dev) : Dev :=
  { d with geom := { d.geom with
    k := slewAt d.geom.kOld d.geom.kNew q d.geom.slewQn d.geom.slewLen
    w := slewAt d.geom.wOld d.geom.wNew q d.geom.slewQn d.geom.slewLen } }

/-- An air change takes effect at quantum q: a new slew from the present values (R112). -/
def airApply (q : Nat) (r : AirReq) (d : Dev) : Dev :=
  let d := slewStep q d
  let d := wrN 0x50050 (wrapN 16 r.temp + r.humidity % 256 * 65536) d
  let d := { d with geom := { d.geom with
    kOld := d.geom.k, wOld := d.geom.w, kNew := soundK d r.temp, wNew := airW d r.temp r.humidity
    slewQn := q, slewLen := rdN d 0x5004C } }
  completeOpt r.cid cDone r.applyQn d

/-- The air changes due at quantum q (R112). -/
def airAt (q : Nat) (d : Dev) : Dev :=
  let due := d.geom.airReqs.filter (fun r => r.applyQn ≤ q)
  forL due (airApply q) { d with geom := { d.geom with airReqs := d.geom.airReqs.filter (fun r => r.applyQn > q) } }

/-- K and GEOM_AIR_W at a plan activation from CONFIG at quantum q, from the air in force (DEDUCED: the spec gives no earlier
computation, log 100). A slew in progress goes on, unless the rate has changed or it started from no value. -/
def airInit (q : Nat) (d : Dev) : Dev :=
  let k := soundK d (sext 16 (fld d 0x50050 15 0))
  let w := airW d (sext 16 (fld d 0x50050 15 0)) (fld d 0x50050 23 16)
  if d.geom.kOld ≠ 0 ∧ q < d.geom.slewQn + d.geom.slewLen ∧ d.geom.kNew = k ∧ d.geom.wNew = w then slewStep q d
  else { d with geom := { d.geom with kOld := k, kNew := k, wOld := w, wNew := w, k := k, w := w, slewLen := 0 } }

/-! ### Metadata records (R96 to R101) -/

/-- Do the reserved bits, the law, the gain and the PT of a record pass R97? -/
def metaFormatOk (b : Bytes) : Bool :=
  let valid := leAt b 21 1
  decide (b.length = 32) && decide (bits (leAt b 10 2) 15 10 = 0) && !valid.testBit 7
  && decide (bits (leAt b 22 1) 7 3 = 0) && (!valid.testBit 2 || decide (leAt b 22 1 % 4 ≠ 3))
  && (!valid.testBit 1 || gainOk (leAt b 24 4)) && decide (leAt b 0 4 ≤ 999999999)

/-- The PT of a record in ns. -/
def metaPt (b : Bytes) : Nat := leAt b 4 6 * secNs + leAt b 0 4

/-- The object a record names. -/
def metaObj (b : Bytes) : Nat := bits (leAt b 10 2) 9 0

/-- The record with the QN at which it applies. -/
def metaRec (qn : Nat) (b : Bytes) : MetaRec where
  qn := qn
  x := sext 24 (leAt b 12 3)
  y := sext 24 (leAt b 15 3)
  z := sext 24 (leAt b 18 3)
  valid := leAt b 21 1
  law := leAt b 22 1
  priority := leAt b 23 1
  gain := gainVal (leAt b 24 4)
  rmin := leAt b 28 2
  seq := leAt b 30 2
  raw := b

/-- Are inputs mirrored: on a formed pair, and while a join runs (R385, R405)? -/
def mirrorsInputs (d : Dev) : Bool := decide (d.pair.state = 2) || decide (d.pair.state = 4)

/-- The body of a mirrored record applied at the activation of q is kept for the check of inputs (R398). -/
def mirrorLog (q : Nat) (body : Bytes) (d : Dev) : Dev :=
  if mirrorsInputs d then
    { d with pair := { d.pair with inBytes := fupd [] d.pair.inBytes q (fun bs => bs ++ body) } }
  else d

/-- The QN of a record that passes R97, R98 and R56; none drops it. Between two activations the quantum now being activated
is taken to be the next one to be activated: the model's choice (log 107). -/
def metaAccept (d : Dev) (b : Bytes) : Option Nat :=
  if !metaFormatOk b || !(obj d (metaObj b)).inPlan then none
  else match qnOf d (metaPt b) with
    | none => none
    | some q => if q > d.geom.nextAct + 65536 ∨ q > 2 ^ 40 - 4 then none else some q

/-- The place of a seq relative to the reference r (R100). With r = 0xFFFF, as before any record, the formula puts a seq of
0xFFFF first, where plain integer order would put it last: the model follows the formula (its choice, log 107). -/
def seqPlace (last : Option Nat) (s : Nat) : Nat := subMod 16 s (last.getD 0xFFFF)

/-- Does record a go before b: earlier QN, or the same QN and earlier in seq order (R100)? -/
def metaBefore (last : Option Nat) (a b : MetaRec) : Bool :=
  decide (a.qn < b.qn) || (decide (a.qn = b.qn) && decide (seqPlace last a.seq < seqPlace last b.seq))

/-- Inserts a record in the order in which R99 keeps records: earlier QN first, later seq first within a QN. -/
def metaKeepIns (last : Option Nat) (r : MetaRec) (l : List MetaRec) : List MetaRec :=
  match l with
  | [] => [r]
  | h :: t =>
    if r.qn < h.qn ∨ (r.qn = h.qn ∧ seqPlace last h.seq < seqPlace last r.seq) then r :: h :: t
    else h :: metaKeepIns last r t

/-- An object takes a record among its 8 pending ones; a ninth leaves one over (R99). -/
def metaKeep (o : Nat) (r : MetaRec) (d : Dev) : Dev :=
  let x := obj d o
  let l := x.recs.foldl (fun acc m => metaKeepIns x.lastSeq m acc) [r]
  let d := if l.length > 8 then incCnt 0x50070 d else d
  putObj o { x with recs := l.take 8 } d

/-- A record is held; on a pair two copies of one input merge and the earlier apply QN stands (R99, R386). -/
def metaHold (o : Nat) (r : MetaRec) (d : Dev) : Dev :=
  let x := obj d o
  match (if mirrorsInputs d then x.recs.find? (fun m => m.seq = r.seq) else none) with
  | some m => if m.qn ≤ r.qn then d else metaKeep o r (putObj o { x with recs := x.recs.erase m } d)
  | none => metaKeep o r d

/-- A record arrives: dropped and counted, or held; late records count and apply at the next activation
(R97 to R101). `qn` overrides the record's own QN when a pair has agreed one (R101, R387); whether the record is late is
judged by its own QN, and a second copy of one that is held is not counted again. -/
def metaReceive (qn : Option Nat) (b : Bytes) (d : Dev) : Dev :=
  match metaAccept d b with
  | none => incCnt 0x50070 d
  | some q0 =>
    let q := qn.getD q0
    let again := mirrorsInputs d && (obj d (metaObj b)).recs.any (fun m => decide (m.seq = leAt b 30 2))
    let late := decide (q0 < d.geom.nextAct) && !again
    metaHold (metaObj b) (metaRec q b) (if late then incCnt 0x50074 d else d)

/-- Is a position inside the venue box (R102)? -/
def inBox (d : Dev) (x y z : Int) : Bool :=
  decide (coordReg d 0x50030 ≤ x) && decide (x ≤ coordReg d 0x50034) && decide (coordReg d 0x50038 ≤ y)
  && decide (y ≤ coordReg d 0x5003C) && decide (coordReg d 0x50040 ≤ z) && decide (z ≤ coordReg d 0x50044)

/-- The position fields of a record, through the venue box (R102). -/
def metaPosition (o : Nat) (r : MetaRec) (d : Dev) : Dev :=
  let x := obj d o
  if inBox d r.x r.y r.z then putObj o { x with qx := r.x, qy := r.y, qz := r.z, clamped := false } d
  else
    let d := incCnt 0x50078 d
    if bitAt d 0x50000 2 then
      putObj o { x with
        qx := clampI (coordReg d 0x50030) (coordReg d 0x50034) r.x
        qy := clampI (coordReg d 0x50038) (coordReg d 0x5003C) r.y
        qz := clampI (coordReg d 0x50040) (coordReg d 0x50044) r.z
        clamped := true } d
    else putObj o { x with clamped := true } d

/-- One record is applied to its object at quantum q (R96, R100, R102, R106). -/
def metaApply (q o : Nat) (r : MetaRec) (d : Dev) : Dev :=
  let stale := match (obj d o).lastSeq with
    | some s => !seqNewer 16 r.seq s
    | none => false
  let d := mirrorLog q (beBytes 5 r.qn ++ zeros 3 ++ r.raw) d
  if stale then incCnt 0x5007C d else
  let d := if r.valid.testBit 0 then metaPosition o r d else d
  let x := obj d o
  let v (i : Nat) : Bool := r.valid.testBit i
  let released := x.frozen
  let d := putObj o { x with
    gain := if v 1 then r.gain else x.gain
    law := if v 2 then r.law else x.law
    priority := if v 3 then r.priority else x.priority
    rmin := if v 4 then r.rmin else x.rmin
    moveReq := x.moveReq || v 5
    mute := if v 6 then true else if v 1 then false else x.mute
    frozen := false
    lastRecQn := q
    lastSeq := some r.seq } d
  if released then raiseEvent evObjReleased (leBytes 2 o) d else d

/-- The next record to apply: due, first in QN and seq order (R100). -/
def metaNext (q : Nat) (x : Obj) : Option MetaRec :=
  (x.recs.filter (fun r => r.qn ≤ q)).foldl (fun (acc : Option MetaRec) r =>
    match acc with
    | none => some r
    | some a => if metaBefore x.lastSeq r a then some r else some a) none

/-- Applies the due records of an object, `fuel` at most (R100). -/
def metaApplyDue (fuel q o : Nat) (d : Dev) : Dev :=
  match fuel with
  | 0 => d
  | k + 1 =>
    match metaNext q (obj d o) with
    | none => d
    | some r =>
      let x := obj d o
      metaApplyDue k q o (metaApply q o r (putObj o { x with recs := x.recs.erase r } d))

/-- The records due at the activation of quantum q, of every object of the plans in force (R96, R100). -/
def recordsAt (q : Nat) (d : Dev) : Dev :=
  forN 1024 (fun o d => if (obj d o).inPlan then metaApplyDue 8 q o d else d) d

/-! ### Conditioning (R101 to R107, R114) -/

/-- T of R106 in quanta. -/
def metaTimeout (d : Dev) : Nat := ceilDiv (rdN d 0x50010 * fsHz d) 32000

/-- A live object with no record for T quanta freezes (R106). -/
def freezeCheck (q o : Nat) (d : Dev) : Dev :=
  let x := obj d o
  if x.inPlan ∧ x.live ∧ x.frozen = false ∧ metaTimeout d ≤ q - x.lastRecQn then
    raiseEvent evObjFrozen (leBytes 2 o) (putObj o { x with frozen := true } d)
  else d

/-- A move ends, or its dip stands at zero (R104). -/
def moveCheck (q o : Nat) (d : Dev) : Dev :=
  let n := fadeN d
  let x := obj d o
  match x.move with
  | .none => d
  | .slot _ s tx ty tz =>
    if s + n ≤ q then putObj o { x with px := tx, py := ty, pz := tz, move := .none } d else d
  | .dip s tx ty tz =>
    let x := if s + n = q then { x with px := tx, py := ty, pz := tz } else x
    putObj o (if s + 2 * n ≤ q then { x with move := .none } else x) d

/-- The slot an object's move holds. -/
def moveSlot (x : Obj) : Option Nat :=
  match x.move with
  | .slot k _ _ _ _ => some k
  | _ => none

/-- The object whose move holds a slot (R104). -/
def slotOwner (d : Dev) (k : Nat) : Option Nat :=
  (d.geom.objs.find? (fun e => moveSlot e.2 = some k)).map (fun e => e.1)

/-- The lowest free slot of `n` (R104). -/
def freeSlot (d : Dev) (n : Nat) : Option Nat := (List.range n).find? (fun k => (slotOwner d k).isNone)

/-- d_max of R103 in mm per quantum. -/
def dMax (d : Dev) : Nat := max 1 (rdN d 0x50008 * 32 / fsHz d)

/-- The plan that the geometry unit evaluates now: the incoming one during an overlap swap and after the switch of a
sequential one (R175, R176). -/
def evalPlan (d : Dev) : Option Plan :=
  match d.plan.running with
  | some r => if r.sequential && !r.switched then d.plan.active else some r.incoming
  | none => d.plan.active

/-- The speed limit, or the start of a move (R103 to R105). Where L is within d_max and a move is due as well, by the move bit
or by GEOM_JUMP_MM, both rows of R103 hold: the model takes the move (its choice, log 107). -/
def moveOrStep (q o : Nat) (d : Dev) : Dev :=
  let x := obj d o
  let x := { x with speedLimited := false }
  if x.frozen ∨ x.move ≠ .none then putObj o x d else
  let dx := x.qx - x.px
  let dy := x.qy - x.py
  let dz := x.qz - x.pz
  let l := isqrt (dx * dx + dy * dy + dz * dz).toNat
  let m := dMax d
  if x.moveReq ∨ l > rdN d 0x5000C then
    let slots := match evalPlan d with
      | some p => p.moveSlots
      | none => 0
    let mv := match freeSlot d slots with
      | some k => Move.slot k q x.qx x.qy x.qz
      | none => Move.dip q x.qx x.qy x.qz
    putObj o { x with moveReq := false, move := mv } d
  else if l ≤ m then putObj o { x with px := x.qx, py := x.qy, pz := x.qz } d
  else
    putObj o { x with
      px := x.px + tdiv (dx * (m : Int)) (l : Int)
      py := x.py + tdiv (dy * (m : Int)) (l : Int)
      pz := x.pz + tdiv (dz * (m : Int)) (l : Int)
      speedLimited := true } d

/-- A fade moves one step down while its cause holds and one step up otherwise (R114); held as steps below N. -/
def fadeStep (n : Nat) (cause : Bool) (dn : Nat) : Nat := if cause then min n (dn + 1) else dn - 1

/-- Does the dip of a move act at quantum q (R104)? -/
def dipCause (n q : Nat) (x : Obj) : Bool :=
  match x.move with
  | .dip s _ _ _ => decide (q < s + n)
  | _ => false

/-- The fade factors of an object at quantum q (R114, R139). -/
def fadesStep (q o : Nat) (d : Dev) : Dev :=
  let n := fadeN d
  let x := obj d o
  let rb := decide (x.rebase = .fadeOut) || decide (x.rebase = .refillWait)
  putObj o { x with
    muteDn := fadeStep n x.mute x.muteDn
    freezeDn := fadeStep n (x.frozen && bitAt d 0x50000 3) x.freezeDn
    audioDn := fadeStep n x.audioLost x.audioDn
    dipDn := fadeStep n (rb || dipCause n q x) x.dipDn
    reflDn := fadeStep n (moveSlot x).isSome x.reflDn } d

/-- Start of a rebase: a counted clamp at the last posting, outside a move (R139, R140). -/
def rebaseStart (o : Nat) (d : Dev) : Dev :=
  let x := obj d o
  if x.clampDue ∧ x.baseAuto ∧ x.rebase = .none ∧ x.move = .none ∧ bitAt d 0x60000 0 = true then
    putObj o { x with rebase := .fadeOut, clampDue := false } d
  else putObj o { x with clampDue := false } d

/-- Were the gains posted for an object's voices all zero in the last quantum? -/
def postedSilent (d : Dev) (o : Nat) : Bool :=
  d.geom.posted.all (fun e => decide (e.2.tag.object ≠ o) || decide (e.2.g = 0))

/-- A rebase whose gains have come to zero waits for its refill: in the quantum after the one whose ramps end at zero every gain
is zero (R139). -/
def rebaseZero (o : Nat) (d : Dev) : Dev :=
  let x := obj d o
  if x.rebase = .fadeOut ∧ x.dipDn = fadeN d ∧ postedSilent d o = true then putObj o { x with rebase := .refillWait } d else d

/-- A rebase ends when its fade-up ends (R139). -/
def rebaseFade (o : Nat) (d : Dev) : Dev :=
  let x := obj d o
  if x.rebase = .fadeUp ∧ x.dipDn = 0 then putObj o { x with rebase := .none } d else d

/-! ### Distance, delay, air (R110, R113, R118) -/

/-- r_q of R110, in 1/256 mm. -/
def distQ (px py pz sx sy sz : Int) : Nat :=
  isqrt (65536 * ((px - sx) * (px - sx) + (py - sy) * (py - sy) + (pz - sz) * (pz - sz))).toNat

/-- 256 × rmin of an object (R96, R110). -/
def rminQ (d : Dev) (x : Obj) : Nat := 256 * (if x.rmin = 0 then rdN d 0x50014 else x.rmin)

/-- D of R113 before the split into base and window delay. -/
def targetDelay (d : Dev) (r align : Nat) : Nat := min 0xFFFFFFFF ((r * d.geom.k + 2 ^ 31) / 2 ^ 32 + align)

/-- The air coefficient a (R118). -/
def airCoef (d : Dev) (rNear : Nat) : Nat :=
  let w := min (d.geom.w / (max 1 rNear)) (2 ^ 32 - 1)
  w * 2 ^ 24 / (2 ^ 24 + w)

/-- A product of two gains, rounded and saturated (R114). -/
def gainMul (a b : Int) : Int := satI 24 (rndEven (a * b) 21)

/-! ### Gain laws (R115 to R117) -/

/-- h = M_T · v (R115). -/
def triH (t : Triangle) (vx vy vz : Int) : List Int :=
  (List.range 3).map (fun i => t.m.getD (3 * i) 0 * vx + t.m.getD (3 * i + 1) 0 * vy + t.m.getD (3 * i + 2) 0 * vz)

/-- floor(√(Σ h²)). -/
def hNorm (h : List Int) : Nat := isqrt (h.foldl (fun s x => s + x * x) 0).toNat

/-- The smallest component. -/
def hMin (h : List Int) : Int := h.foldl min (h.headD 0)

/-- The triangle selected for v, with its components after step 4 (R115). -/
def selectTri (p : Plan) (vx vy vz : Int) : Option (Triangle × List Int) :=
  let hs := p.triangles.map (fun t => (t, triH t vx vy vz))
  match hs.find? (fun e => e.2.all (fun x => decide (0 ≤ x))) with
  | some e => some e
  | none =>
    (hs.foldl (fun (acc : Option (Triangle × List Int)) e =>
      match acc with
      | none => some e
      | some a => if hMin e.2 * (hNorm a.2 : Int) > hMin a.2 * (hNorm e.2 : Int) then some e else some a) none).map
      (fun e => (e.1, e.2.map (fun x => max 0 x)))

/-- 1/√3 in Q3.21, rounded under R538. -/
abbrev invSqrt3 : Int := 1210791

/-- λ of amplitude panning (R115). -/
def lamPanning (p : Plan) (vx vy vz : Int) (j : Nat) : Int :=
  let pick (t : Triangle) (h : List Int) (flat : Bool) : Int :=
    let n := hNorm h
    let f (x : Int) : Int := if flat || n = 0 then invSqrt3 else divEven (x * 2 ^ 21) n
    if j = t.a then f (h.getD 0 0) else if j = t.b then f (h.getD 1 0) else if j = t.c then f (h.getD 2 0) else 0
  if vx = 0 ∧ vy = 0 ∧ vz = 0 then
    match p.triangles with
    | t :: _ => pick t [] true
    | [] => 0
  else match selectTri p vx vy vz with
    | some (t, h) => pick t h (h.all (fun x => decide (x = 0)))
    | none => 0

/-- w_k of R116 in Q16.32. -/
def distWeight (d : Dev) (rNear : Nat) : Nat :=
  let roll := rdN d 0x5001C
  if roll = 0 then 2 ^ 32 else
  let alpha := fdiv (fmul (fixRat (roll : Int) 256) (fln (10 * fixOne))) (20 * fln2)
  let ratio := fixRat (rNear : Int) (256 * rdN d 0x50018)
  let e := -(fmul alpha (fln ratio))
  if e > 12 * fixOne then 2 ^ 48 - 1 else (min (2 ^ 48 - 1) (fround 32 (fexp e))).toNat

/-- Near-field distance from a position to output k. -/
def nearQ (p : Plan) (x y z : Int) (rm k : Nat) : Nat :=
  let u := planOut p k
  max (distQ x y z u.x u.y u.z) rm

/-- λ of the distance-based law (R116). -/
def lamDistance (d : Dev) (p : Plan) (x y z : Int) (rm j : Nat) : Int :=
  let ks := (List.range 512).filter (fun k => (planOut p k).flags.testBit 0)
  let sum := ks.foldl (fun s k => let w := distWeight d (nearQ p x y z rm k); s + w * w) 0
  let n := isqrt sum
  if n = 0 then 0 else satI 24 (divEven ((distWeight d (nearQ p x y z rm j) : Int) * 2 ^ 21) n)

/-- cos θ of R117 in Q2.30. -/
def cosTheta (u : OutRec) (x y z : Int) (rq : Nat) : Int :=
  if rq = 0 then 2 ^ 30
  else clampI (-(2 ^ 30)) (2 ^ 30) (divEven (256 * (u.ux * (u.x - x) + u.uy * (u.y - y) + u.uz * (u.z - z))) rq)

/-- The profile gain P (R117). -/
def profileGain (prof : List Int) (c : Int) : Int :=
  let t := (c + 2 ^ 30).toNat
  let i := t / 2 ^ 26
  let a := prof.getD i 0
  if i ≥ 32 then prof.getD 32 0
  else rndEven (a * 2 ^ 26 + (prof.getD (i + 1) 0 - a) * ((t % 2 ^ 26 : Nat) : Int)) 26

/-- λ of the wavefront law, without its participant flag (R117). -/
def lamWavefront (d : Dev) (p : Plan) (x y z : Int) (rm j : Nat) : Int :=
  let u := planOut p j
  let rq := distQ x y z u.x u.y u.z
  let near := max rq rm
  let s := min 0x7FFFFF (isqrt (2 ^ 42 * 256 * rdN d 0x50018 / max 1 near))
  satI 24 (rndEven (profileGain (p.profiles.getD u.profile []) (cosTheta u x y z rq) * (s : Int)) 21)

/-- Total delay, gain before fades, air coefficient of a direct voice at a position (R113, R114, R118). -/
def evalDirect (d : Dev) (p : Plan) (o : Nat) (x y z : Int) (j : Nat) : Nat × Int × Nat :=
  let ob := obj d o
  let u := planOut p j
  let rm := rminQ d ob
  let law := ob.law % 4
  let rx := coordReg d 0x50020
  let ry := coordReg d 0x50024
  let rz := coordReg d 0x50028
  let r := if law = 2 then distQ x y z u.x u.y u.z else distQ x y z rx ry rz
  let lam : Int :=
    if law = 2 then (if u.flags.testBit 1 then lamWavefront d p x y z rm j else 0)
    else if u.flags.testBit 0 = false then 0
    else if law = 0 then lamPanning p (x - rx) (y - ry) (z - rz) j
    else lamDistance d p x y z rm j
  (targetDelay d r u.align, gainMul (gainMul ob.gain u.trim) lam, airCoef d (max r rm))

/-- n · p − δ in mm, Q30 (R120). -/
def reflSide (f : Reflector) (x y z : Int) : Int := f.nx * x + f.ny * y + f.nz * z - f.offset * 2 ^ 30

/-- Total delay, gain before fades, air coefficient of a reflection voice (R120). -/
def evalRefl (d : Dev) (p : Plan) (o fi j : Nat) : Nat × Int × Nat :=
  let ob := obj d o
  let f := p.reflectors.getD fi {}
  let u := planOut p j
  let e := reflSide f ob.px ob.py ob.pz
  let im (c n : Int) : Int := satI 24 (rndEven (c * 2 ^ 60 - 2 * e * n) 60)
  let x := im ob.px f.nx
  let y := im ob.py f.ny
  let z := im ob.pz f.nz
  let rm := rminQ d ob
  let r := distQ x y z u.x u.y u.z
  let g := if ob.law.testBit 2 = false ∨ e ≤ 0 ∨ reflSide f u.x u.y u.z ≤ 0 ∨ u.flags.testBit 2 = false then 0
    else gainMul (gainMul (gainMul ob.gain u.trim) (lamWavefront d p x y z rm j)) f.gain
  (targetDelay d r u.align, g, airCoef d (max r rm))

/-! ### Voices of a quantum -/

/-- The identity of a voice: kind, source, reflector, output (R150, R173). -/
def voiceKey (v : VoiceEnt) : Nat := ((v.kind * 1024 + v.source) * 64 + v.reflector) * 512 + v.output

/-- Key of a shed unit (R156). -/
def unitKey (o f : Nat) : Nat := 64 * o + f

/-- Is a reflection unit shed and its fade over, so that it is neither evaluated nor rendered (R157, R158)? -/
def unitSettled (d : Dev) (o f : Nat) : Bool :=
  fget false d.voice.shed (unitKey o f) && decide (fget 0 d.voice.shedDn (unitKey o f) > fadeN d)

/-- The new evaluation of a reflection voice when its phase comes (R121). -/
def reflStep (p : Plan) (q : Nat) (v : VoiceEnt) (d : Dev) : Dev :=
  if v.kind ≠ 2 ∨ unitSettled d v.source v.reflector = true ∨ q % p.reflDiv ≠ v.source % p.reflDiv then d else
  let key := voiceKey v
  let x := evalRefl d p v.source v.reflector v.output
  let e : ReflEval := match fget? d.geom.refl key with
    | none => ⟨x.1, x.2.1, x.2.2, x.1, x.2.1, x.2.2, q⟩
    | some r => ⟨r.d1, r.g1, r.a1, x.1, x.2.1, x.2.2, q⟩
  { d with geom := { d.geom with refl := fins d.geom.refl key e } }

/-- X_{e−div} + (((X_e − X_{e−div}) × (i + 1)) >> log₂ div) (R121). -/
def reflBlend (div i : Nat) (a b : Int) : Int := a + ((b - a) * ((i + 1 : Nat) : Int)) / (div : Int)

/-- One fade factor: (gain × f) / N, truncated (R114). -/
def fadeGain (n : Nat) (g : Int) (dn : Nat) : Int := tdiv (g * ((n - dn : Nat) : Int)) (n : Int)

/-- The fades of an object in the order of R114. -/
def objFades (n : Nat) (x : Obj) (g : Int) : Int :=
  [x.muteDn, x.freezeDn, x.audioDn, x.dipDn].foldl (fadeGain n) g

/-- Total delay, gain after the fades and before availability, air coefficient of a voice at quantum q, with the
object whose base delay it uses; none: the idle voice of R121 (R104, R114, R121). -/
def voiceEval (d : Dev) (p : Plan) (q : Nat) (v : VoiceEnt) : Option (Nat × Nat × Int × Nat) :=
  let n := fadeN d
  match v.kind with
  | 0 =>
    let x := obj d v.source
    if x.inPlan = false then none else
    let e := evalDirect d p v.source x.px x.py x.pz v.output
    let g := objFades n x e.2.1
    let g := match x.move with
      | .slot _ s _ _ _ => fadeGain n g (min n (q + 1 - s))
      | _ => g
    some (v.source, e.1, g, e.2.2)
  | 1 =>
    match slotOwner d v.source with
    | none => none
    | some o =>
      let x := obj d o
      match x.move with
      | .slot _ s tx ty tz =>
        let e := evalDirect d p o tx ty tz v.output
        some (o, e.1, fadeGain n (objFades n x e.2.1) (n - min n (q + 1 - s)), e.2.2)
      | _ => none
  | _ =>
    let x := obj d v.source
    if x.inPlan = false then none else
    match fget? d.geom.refl (voiceKey v) with
    | none => none
    | some r =>
      let i := min (q - r.qn) (p.reflDiv - 1)
      let dd := reflBlend p.reflDiv i r.d0 r.d1
      let g := reflBlend p.reflDiv i r.g0 r.g1
      let a := reflBlend p.reflDiv i r.a0 r.a1
      let g := fadeGain n (objFades n x g) x.reflDn
      let g := fadeGain n g (min n (fget 0 d.voice.shedDn (unitKey v.source v.reflector)))
      some (v.source, dd.toNat, g, a.toNat)

/-! ### Availability (R123, R124) -/

/-- N − φ of an output. -/
def phiDn (d : Dev) (j : Nat) : Nat := fget 0 d.geom.phiDn j

/-- m_j: neighbours at full φ (R124). -/
def settledNeighbours (d : Dev) (p : Plan) (j : Nat) : Nat :=
  ((planOut p j).neighbours.filter (fun k => phiDn d k = 0)).length

/-- The share that output k receives from fading output j of the same object (R124). -/
def shareFrom (d : Dev) (p : Plan) (q : Nat) (v : VoiceEnt) (j : Nat) : Int :=
  let m := settledNeighbours d p j
  if m = 0 ∨ (planOut p j).neighbours.contains v.output = false then 0
  else match voiceEval d p q { v with output := j } with
    | some e => tdiv (e.2.2.1 * (phiDn d j : Int)) ((fadeN d : Int) * (m : Int))
    | none => 0

/-- The posted gain of a voice: availability scaling, then the shares (R114, R123, R124). `vs` are the voices of the whole
plan: a lost output of another device gives its shares to the neighbours that this device renders. -/
def availGain (d : Dev) (p : Plan) (q : Nat) (vs : List VoiceEnt) (v : VoiceEnt) (g : Int) : Int :=
  let own := if phiDn d v.output = 0 then g else fadeGain (fadeN d) g (phiDn d v.output)
  if phiDn d v.output ≠ 0 then own else
  let shares := d.geom.phiDn.foldl (fun s e =>
    if e.1 ≠ v.output && vs.contains { v with output := e.1 } then s + shareFrom d p q v e.1 else s) 0
  satI 24 (own + shares)

/-- φ of every output moves one step (R123). -/
def phiStep (d : Dev) : Dev :=
  forN 512 (fun j d =>
    let dn := fadeStep (fadeN d) (fget false d.geom.lost j) (phiDn d j)
    { d with geom := { d.geom with phiDn := fput 0 d.geom.phiDn j dn } }) d

/-- Dropped shares: out_isolated each quantum, OUT_ISOLATED once per interval (R124). -/
def isolatedStep (p : Plan) (vs : List VoiceEnt) (d : Dev) : Dev :=
  forN 512 (fun j d =>
    let iso := decide (phiDn d j ≠ 0) && decide (settledNeighbours d p j = 0) && vs.any (fun v => v.output = j)
    let was := fget false d.geom.isolated j
    let d := if iso then setFlag 0x50004 10 d else d
    let d := if iso && !was then raiseEvent evOutIsolated (leBytes 2 j) d else d
    { d with geom := { d.geom with isolated := fput false d.geom.isolated j iso } }) d

/-- The mask bit of an output changes (R123). -/
def setLost (j : Nat) (lost : Bool) (d : Dev) : Dev :=
  { d with geom := { d.geom with lost := fput false d.geom.lost j lost } }

/-- Is an availability record newer than the last one applied (R126)? -/
def availNewer (d : Dev) (seq : Nat) : Bool :=
  match d.geom.lastAvailSeq with
  | some s => seqNewer 16 seq s
  | none => true

/-- A mask change takes effect at quantum q; a record that is not newer than the last applied is ignored (R123, R126). -/
def availApply (q : Nat) (r : AvailReq) (d : Dev) : Dev :=
  if r.mask.any (fun m => !availNewer d m.1) then d else
  let d := match r.mask with
    | some m =>
      let d := { d with geom := { d.geom with lastAvailSeq := some m.1 } }
      forN 512 (fun j d => setLost j (!m.2.testBit j) d) d
    | none => setLost r.output (!r.available) d
  let d := { d with geom := { d.geom with availQn := r.applyQn } }
  let d := if r.mask.isNone then
      mirrorLog q (beBytes 5 r.applyQn ++ beBytes 1 r.cause ++ beBytes 2 (r.output + 32768 * b2n r.available)) d
    else d
  completeOpt r.cid cDone r.applyQn d

/-- The mask changes due at quantum q (R123). -/
def availAt (q : Nat) (d : Dev) : Dev :=
  let due := d.geom.availReqs.filter (fun r => r.applyQn ≤ q)
  forL due (availApply q)
    { d with geom := { d.geom with availReqs := d.geom.availReqs.filter (fun r => r.applyQn > q) } }

/-- A change is scheduled; one whose apply QN has started is applied at the next activation and raises AVAIL_LATE
(R125). -/
def availSchedule (r : AvailReq) (d : Dev) : Dev :=
  let late := decide (r.applyQn < d.geom.nextAct)
  let d := if late then raiseEvent evAvailLate (leBytes 2 r.output ++ leBytes 5 r.applyQn) (setFlag 0x50004 9 d) else d
  { d with geom := { d.geom with availReqs := d.geom.availReqs ++ [r] } }

/-- The apply QN of a report: the first quantum that starts at least GEOM_AVAIL_LEAD from now (R125). -/
def availLeadQn (d : Dev) : Nat :=
  let t := d.time.pt + rdN d 0x50048 * 1000
  if t < d.time.epoch then 0
  else ceilDiv ((t - d.time.epoch) * fsHz d) (32 * secNs)

/-- The 512-bit availability mask. -/
def availMask (d : Dev) : Nat := forN 512 (fun j m => m + b2n (!fget false d.geom.lost j) * 2 ^ j) 0

/-- The mask as it stands when every scheduled change has applied. A record announces one change and carries a whole mask: that
this mask holds the other scheduled changes too, whatever their apply QN, is the model's choice (log 107). -/
def availMaskAhead (d : Dev) : Nat :=
  d.geom.availReqs.foldl (fun m r =>
    match r.mask with
    | some k => k.2
    | none => setBits m r.output r.output (b2n r.available)) (availMask d)

/-- The 80 bytes of the availability record (R126). -/
def availRecord (applyQn : Nat) (d : Dev) : Bytes :=
  beBytes 2 0x41 ++ beBytes 2 d.geom.availSeq ++ beBytes 5 applyQn ++ beBytes 1 d.geom.lastCause
    ++ beBytes 2 d.geom.lastOutput ++ zeros 4 ++ leBytes 64 (availMaskAhead d)

/-- Sends a payload on a queue of each active port (R40, R125). -/
def multicast (queue udp : Nat) (bs : Bytes) (d : Dev) : Dev :=
  forN 4 (fun p d => if bitAt d (0x100000 + 0x10000 * p) 0 && bitAt d (0x100004 + 0x10000 * p) 0 then
    txPush p queue udp bs d else d) d

/-- An availability record arrives in a control stream: an edge device takes one that is newer than the last it applied,
unless it holds that record already (R125, R126). -/
def availRecordReceive (b : Bytes) (d : Dev) : Dev :=
  let seq := beAt b 2 2
  let held := d.geom.availReqs.any (fun r => r.mask.any (fun m => decide (m.1 = seq)))
  if b.length ≠ 80 ∨ beAt b 0 2 ≠ 0x41 ∨ role d = 1 ∨ availNewer d seq = false ∨ held = true then d else
  availSchedule ⟨beAt b 4 5, beAt b 10 2 % 512, (leAt b 16 64).testBit (beAt b 10 2 % 512), beAt b 9 1, none,
    some (seq, leAt b 16 64)⟩ d

/-! ### Objects of a plan -/

/-- An object as its plan record starts it (R162, R177). -/
def objFromRec (q : Nat) (r : ObjRec) : Obj where
  inPlan := r.flags.testBit 0
  px := r.x
  py := r.y
  pz := r.z
  qx := r.x
  qy := r.y
  qz := r.z
  gain := r.gain
  law := r.law
  priority := r.priority
  rmin := r.rmin
  live := r.flags.testBit 1
  baseAuto := r.flags.testBit 2
  base := if r.flags.testBit 2 then 0 else r.base
  lastRecQn := q

/-- The smallest D over an object's direct and move-slot voices on this device, or over its reflection voices when it has no
other (R137). A reflection voice that has not been evaluated yet counts with the D of an evaluation now (DEDUCED, log 107). -/
def minDelay (d : Dev) (p : Plan) (q : Nat) (vs : List VoiceEnt) (o : Nat) : Option Nat :=
  let delayOf (v : VoiceEnt) : Option Nat :=
    match voiceEval d p q v with
    | some e => some e.2.1
    | none => if v.kind = 2 then some (evalRefl d p v.source v.reflector v.output).1 else none
  let pick (l : List VoiceEnt) : Option Nat := l.foldl (fun (acc : Option Nat) v =>
    match delayOf v, acc with
    | some e, some m => some (min e m)
    | some e, none => some e
    | none, a => a) none
  let direct := vs.filter (fun v => (v.kind = 0 && v.source = o)
    || (v.kind = 1 && decide (slotOwner d v.source = some o)))
  if direct ≠ [] then pick direct
  else pick (vs.filter (fun v => v.kind = 2 && v.source = o))

/-- B_o in auto mode (R137). -/
def autoBase (d : Dev) (dmin : Nat) : Nat := min 262144 (dmin / 256 - rdN d 0x60018)

/-- Assigns the base delay of an object (R137). -/
def assignBase (p : Plan) (q : Nat) (vs : List VoiceEnt) (o : Nat) (d : Dev) : Dev :=
  let x := obj d o
  if x.baseAuto = false then putObj o { x with base := (planObj p o).base } d
  else match minDelay d p q vs o with
    | some m => putObj o { x with base := autoBase d m } d
    | none => d

end Sys2Proof.Machine
end

