-- ==== Sys2Proof/Machine/Voice.lean ====
section
/-!
DEFINITION. Peony, staging and the delay store: kernel, lanes, fills, rebases, shedding and the posting of operands
(04_peony_voices.md, R129 to R158; R173 to R176 for the values posted during a swap).
-/

namespace Sys2Proof.Machine

/-! ### The interpolation kernel (R143) -/

/-- The rounded tap m of phase F before step 5 of R143. -/
def kernelRaw (f m : Nat) : Int :=
  let t := fixRat (256 * (3 - (m : Int)) + (f : Int)) 256
  let u := fdiv t (4 * fixOne)
  let win := fdiv (fbesselI0 (36 * (fixOne - fmul u u))) (fbesselI0 (36 * fixOne))
  let pt := fmul fpi t
  let sinc := if t = 0 then fixOne else fdiv (fsin pt) pt
  fround 22 (fmul sinc win)

/-- h_F[m] in Q2.22 (R143). -/
def kernelTap (f m : Nat) : Int :=
  if f = 0 then (if m = 3 then 2 ^ 22 else 0)
  else if m = 3 then 2 ^ 22 - sumN 8 (fun k => if k = 3 then 0 else kernelRaw f k)
  else kernelRaw f m

/-! ### Stores -/

/-- Window sample of object o at position n; a line with an uncorrectable error reads zero (R129, R133). -/
def windowAt (d : Dev) (o : Nat) (n : Int) : Int :=
  let p := (n % 16384).toNat
  if fget false d.voice.badLine (1024 * o + p / 16) then 0 else fget 0 d.voice.window (16384 * o + p)

/-- The index of object o's staging position for sample index n, over all lines (R134). -/
def stagingKey (o : Nat) (n : Int) : Nat := 278528 * o + (n % 278528).toNat

/-- The address of a staging position: the lines fill the Staging region in object order, 4 bytes a sample (R134, R449). -/
def stagingAddr (key : Nat) : Nat := 0x90000000 + 4 * key

/-- The staging sample of object o for sample index n, when its presence bit is set (R134). -/
def stagingAt (d : Dev) (o : Nat) (n : Int) : Option Int :=
  if fget false d.voice.present (stagingKey o n) then some (memInt d (stagingAddr (stagingKey o n)) 4) else none

/-- Writes an arriving sample to its staging position and sets its presence bit (R134). -/
def stagingWrite (o n : Nat) (x : Int) (d : Dev) : Dev :=
  let key := stagingKey o (n : Int)
  memWrite (stagingAddr key) (leInt 4 x)
    { d with voice := { d.voice with
      present := fput false d.voice.present key true, stagedUnset := fput false d.voice.stagedUnset key false } }

/-- The unsettled bit of a staged sample is set (R8). -/
def stagingUnset (o n : Nat) (d : Dev) : Dev :=
  let key := stagingKey o (n : Int)
  if fget false d.voice.present key then
    { d with voice := { d.voice with stagedUnset := fput false d.voice.stagedUnset key true } }
  else d

/-- The clearing step at the start of quantum q: the presence bits of the positions of quantum q + 8 (R134). -/
def stagingClear (q : Nat) (d : Dev) : Dev :=
  let lo := 32 * (q + 8) % 278528
  let keep (e : Nat × Bool) : Bool :=
    let p := e.1 % 278528
    !(decide (lo ≤ p) && decide (p < lo + 32))
  { d with voice := { d.voice with
    present := d.voice.present.filter keep, stagedUnset := d.voice.stagedUnset.filter keep } }

/-- Clears every presence bit (R134). -/
def stagingReset (d : Dev) : Dev := { d with voice := { d.voice with present := [], stagedUnset := [] } }

/-- Zeroes the delay-store windows, with good check bits. -/
def windowsReset (d : Dev) : Dev :=
  { d with voice := { d.voice with window := [], badLine := [], badRaised := [] } }

/-- Writes one window position; its line has good check bits again (R133, R135). -/
def windowWrite (o : Nat) (n : Nat) (x : Int) (d : Dev) : Dev :=
  let p := n % 16384
  let v := { d.voice with
    window := fput 0 d.voice.window (16384 * o + p) x
    badLine := fput false d.voice.badLine (1024 * o + p / 16) false
    badRaised := fput false d.voice.badRaised (1024 * o + p / 16) false }
  { d with voice := v }

/-- The staging unit rewrites every window position once in 512 quanta: in quantum q the 32 positions that quantum q takes in each
window. A line that has gone bad holds zeros with good check bits from then on (R133; DEDUCED, log 113). -/
def scrubStep (q : Nat) (d : Dev) : Dev :=
  forL (d.voice.badLine.filter (fun e => decide (e.1 % 1024 / 2 = q % 512))) (fun e d =>
    forN 16 (fun k d => windowWrite (e.1 / 1024) (16 * (e.1 % 1024) + k) 0 d) d) d

/-- Is an object's missing position counted: it has a source, and a stream source has a receive context (R135)? -/
def fillCounts (hasCtx : Nat → Bool) (r : ObjRec) : Bool :=
  if r.srcKind = 0 then false else if r.srcKind = 1 then hasCtx r.srcIndex else true

/-- The base delay under which an object is filled for quantum q: before the quantum of its refill the old one (R139). -/
def fillBase (d : Dev) (q o : Nat) : Nat :=
  match fget? d.geom.refillDue o with
  | some (rq, old) => if q < rq then old else (obj d o).base
  | none => (obj d o).base

/-- The fill of one object for quantum q from its plan record: a position that is not held, here or by the partner of a
formed pair, is written as zero (R135, R388). -/
def fillObject (counts : Bool) (held : Nat → Bool) (q o : Nat) (d : Dev) : Dev :=
  let b := fillBase d q o
  forN 32 (fun k d =>
    let n := 32 * q + k
    match (if counts && held k then stagingAt d o ((n : Int) - (b : Int)) else none) with
    | some x => windowWrite o n x d
    | none =>
      let d := if counts then setFlag 0x60004 11 (incCnt 0x60028 d) else d
      windowWrite o n 0 d) d

/-- The window fill of quantum q over every object of the plans in force (R135, R177). -/
def fillAll (hasCtx : Nat → Bool) (recOf : Nat → ObjRec) (held : Nat → Nat → Bool) (q : Nat) (d : Dev) : Dev :=
  forN 1024 (fun o d =>
    if (obj d o).inPlan then fillObject (fillCounts hasCtx (recOf o)) (held o) q o d else d) d

/-- The refill of an object's whole window at quantum q with its new base (R139). -/
def refillWindow (q o : Nat) (d : Dev) : Dev :=
  let b := (obj d o).base
  let first : Int := 32 * (q : Int) - 16384
  forN 16384 (fun i d =>
    let n : Int := first + (i : Int)
    windowWrite o (n % 16384).toNat ((stagingAt d o (n - (b : Int))).getD 0) d) d

/-! ### Lanes (R141 to R147) -/

/-- The targets a lane uses: the snap, the slope limit, and whether the limit acted (R141). -/
def laneDelay (s : VoiceSt) (op : VOp) : Nat × Nat × Bool :=
  if s.g = 0 then (op.d, op.d, false)
  else if op.d > s.d + 10240 then (s.d, s.d + 10240, true)
  else if s.d > op.d + 10240 then (s.d, s.d - 10240, true)
  else (s.d, op.d, false)

/-- The interpolated sample u at delay dk for domain sample n, Q1.31 (R142). -/
def interpolate (d : Dev) (o n dk : Nat) : Int :=
  let i := dk / 256
  let f := dk % 256
  satI 32 (rndEven (sumN 8 (fun m =>
    kernelTap f m * windowAt d o ((n : Int) - (i : Int) + 3 - (m : Int)))) 22)

/-- d(k) of a ramp (R141). -/
def delayAt (d0 d1 k : Nat) : Nat := ((d0 : Int) + (((d1 : Int) - (d0 : Int)) * ((k + 1 : Nat) : Int)) / 32).toNat

/-- One sample of a voice: the new filter memory and the product in Q9.55 (R141, R142, R144, R145). -/
def laneSample (d : Dev) (o q k : Nat) (d0 d1 a : Nat) (g0 g1 y : Int) : Int × Int :=
  let u := interpolate d o (32 * q + k) (delayAt d0 d1 k)
  let y' := y + ((a : Int) * (u - y)) / 2 ^ 24
  let gk := g0 + ((g1 - g0) * ((k + 1 : Nat) : Int)) / 32
  (y', y' * gk * 8)

/-- The address of accumulator k of an output in set (q mod 2), in shared scratch (R148, R458). -/
def accAddr (q out k : Nat) : Nat := 0x1001000000 + (((q % 2) * 512 + out) * 32 + k) * 8

/-- Adds to an accumulator, modulo 2⁶⁴ (R148, R465). -/
def accAdd (q out k : Nat) (x : Int) (d : Dev) : Dev :=
  let a := accAddr q out k
  memWrite a (leInt 8 (memInt d a 8 + x)) d

/-- k − I(k) of the samples of a quantum (R147). -/
def laneIndices (d0 d1 : Nat) : List Int :=
  (List.range 32).map (fun (k : Nat) => (k : Int) - ((delayAt d0 d1 k / 256 : Nat) : Int))

/-- The bursts of a lane: each one's first position, of 40 (R147). The second starts where the first ends (DEDUCED, log 107). -/
def laneBursts (q d0 d1 : Nat) : List Int :=
  let xs := laneIndices d0 d1
  let lo := xs.foldl min (xs.headD 0)
  let hi := xs.foldl max (xs.headD 0)
  let start := 32 * (q : Int) + lo - 4
  if hi - lo + 8 ≤ 40 then [start] else [start, start + 40]

/-- The lines of the window that the bursts of a lane read: 3 of a burst that starts at offset 0 to 8 of a line, else 4 (R147). -/
def laneLines (q d0 d1 : Nat) : List Nat :=
  (laneBursts q d0 d1).flatMap (fun s =>
    (List.range (if s % 16 ≤ 8 then 3 else 4)).map (fun (i : Nat) => ((s / 16 + (i : Int)) % 1024).toNat))

/-- The place of that line in the delay store: the bank, then the object's slot in it (R129). -/
def delayOffset (o l : Nat) : Nat := o % 64 * 2 ^ 20 + o / 64 * 65536 + 64 * l

/-- The lines that a lane reads: uncorrectable ones raise VOICE_ECC once and record the fault (R133, R147). -/
def laneEcc (o q d0 d1 : Nat) (d : Dev) : Dev :=
  forL (laneLines q d0 d1) (fun line d =>
    let key := 1024 * o + line
    if fget false d.voice.badLine key && !fget false d.voice.badRaised key then
      let d := { d with voice := { d.voice with badRaised := fput false d.voice.badRaised key true } }
      faultCause 8 (raiseEvent evVoiceEcc (leBytes 2 o ++ leBytes 2 (16 * line)) (sramUe 0 (delayOffset o line) d))
    else d) d

/-- The 12 bytes of a voice-state record (R151). -/
def stateBytes (s : VoiceSt) : Bytes := leBytes 4 s.d ++ leInt 4 s.g ++ leInt 4 s.y

/-- A voice-state record of 12 bytes (R151). -/
def parseState (b : Bytes) : VoiceSt := ⟨leAt b 0 4, sext 32 (leAt b 4 4), sext 32 (leAt b 8 4)⟩

/-- The address of a record of the voice-state table in DRAM (R151, R449). -/
def stateAddr (i : Nat) : Nat := 0xD4000000 + 12 * i

/-- A voice-state record: of the table, or of the outgoing plan of an overlap swap. -/
def voiceState (d : Dev) (out : Bool) (i : Nat) : VoiceSt :=
  if out then fget {} d.voice.outStates i else parseState (memRead d (stateAddr i) 12)

/-- Writes a voice-state record. -/
def putVoiceState (out : Bool) (i : Nat) (s : VoiceSt) (d : Dev) : Dev :=
  if out then { d with voice := { d.voice with outStates := fput {} d.voice.outStates i s } }
  else memWrite (stateAddr i) (stateBytes s) d

/-- The state from which a voice runs: its record, or the initialised state (R153). -/
def laneState (d : Dev) (i : Nat) (op : VOp) : VoiceSt :=
  if op.tag.init then ⟨op.d, 0, 0⟩ else voiceState d op.tag.out i

/-- One voice over the quantum: silence, or ramps into its output, and the write-back to its record i; a skipped voice reads,
adds and writes back nothing (R141 to R146, R151, R158). -/
def laneVoice (q i : Nat) (v : VoiceEnt) (op : VOp) (d : Dev) : Dev :=
  let out := op.tag.out
  let s := laneState d i op
  if op.tag.skip then d
  else if s.g = 0 ∧ op.g = 0 then putVoiceState out i ⟨op.d, 0, 0⟩ d
  else
    let t := laneDelay s op
    let d := if t.2.2 then setFlag 0x60004 10 (incCnt 0x60024 d) else d
    let d := laneEcc op.tag.object q t.1 t.2.1 d
    let r := forN 32 (fun k (acc : Int × Dev) =>
      let x := laneSample d op.tag.object q k t.1 t.2.1 op.a s.g op.g acc.1
      (x.1, accAdd q v.output k x.2 acc.2)) (s.y, d)
    putVoiceState out i ⟨t.2.1, op.g, r.1⟩ r.2

/-- Q9.55 to Q1.31, convergent and saturated (R7, R148). -/
def accStore (x : Int) : Int := satI 32 (rndEven x 24)

/-- The fetch of an output's 32 accumulators: stored, saturations counted, accumulators cleared (R148). -/
def accFetch (q out : Nat) (d : Dev) : List Int × Dev :=
  let xs := (List.range 32).map (fun k => memInt d (accAddr q out k) 8)
  let sats := (xs.filter (fun x => satOvf 32 (rndEven x 24))).length
  let d := memClear (accAddr q out 0) 256 d
  (xs.map accStore, if sats = 0 then d else addCnt 0x60034 sats d)

/-! ### Shedding (R156, R157) -/

/-- The reflection units of a list of voices: (object, reflector), each once. -/
def reflUnits (vs : List VoiceEnt) : List (Nat × Nat) :=
  ((vs.filter (fun v => v.kind = 2)).map (fun v => (v.source, v.reflector))).eraseDups

/-- Does unit a go before unit b in the walk: lower priority, higher object, higher reflector (R156)? -/
def unitBefore (d : Dev) (a b : Nat × Nat) : Bool :=
  let pa := (obj d a.1).priority
  let pb := (obj d b.1).priority
  decide (pa > pb) || (decide (pa = pb) && (decide (a.1 > b.1) || (decide (a.1 = b.1) && decide (a.2 ≥ b.2))))

/-- Do the voices fit the pool and the geometry capacity of an operating point (R156)? -/
def voicesFit (d : Dev) (point div : Nat) (vs : List VoiceEnt) : Bool :=
  decide (vs.length ≤ voicePool d point) && decide (loadOf div vs ≤ geomCapacity d point)

/-- The voices without a unit. -/
def dropUnit (u : Nat × Nat) (vs : List VoiceEnt) : List VoiceEnt :=
  vs.filter (fun v => !(v.kind = 2 && v.source = u.1 && v.reflector = u.2))

/-- The walk: units shed until the rest fits (R156). -/
def shedWalk (d : Dev) (point div : Nat) (units : List (Nat × Nat)) (vs : List VoiceEnt) : List (Nat × Nat) :=
  match units with
  | [] => []
  | u :: rest => if voicesFit d point div vs then [] else u :: shedWalk d point div rest (dropUnit u vs)

/-- The shed set of a plan at an operating point (R156). -/
def shedSet (d : Dev) (p : Plan) (point : Nat) : List (Nat × Nat) :=
  let vs := runVoices d p
  shedWalk d point p.reflDiv ((reflUnits vs).mergeSort (unitBefore d)) vs

/-- The shed set is computed anew: without a fade at an activation or in CONFIG, with fades at an operating-point
change; VOICE_SHED_CHANGE when it differs (R157). On a pair the values of both devices as they stand come into use (R383). -/
def shedCompute (p : Plan) (q : Nat) (fade : Bool) (d : Dev) : Dev :=
  let d := pairCapTake d
  let new := shedSet d p d.pwr.capPoint
  let old := d.voice.shed
  let n := fadeN d
  let newMap := new.foldl (fun m u => fput false m (unitKey u.1 u.2) true) []
  let dn := if fade then
      (reflUnits (runVoices d p)).foldl (fun m u =>
        let k := unitKey u.1 u.2
        let isNew := fget false newMap k
        let was := fget false old k
        if isNew && !was then fput 0 m k (fget 0 d.voice.shedDn k)
        else if was && !isNew then fput 0 m k n
        else m) d.voice.shedDn
    else new.foldl (fun m u => fput 0 m (unitKey u.1 u.2) (n + 1)) []
  let left := (reflUnits (runVoices d p)).filter (fun u => fget false old (unitKey u.1 u.2) && !fget false newMap (unitKey u.1 u.2))
  let keep (key : Nat) : Bool := !left.any (fun u => decide (key / 512 = (2 * 1024 + u.1) * 64 + u.2))
  let d := { d with
    voice := { d.voice with
      shed := newMap, shedDn := dn, shedQn := q, shedDue := none
      restored := left.foldl (fun m u => fput false m (unitKey u.1 u.2) true) [] }
    geom := { d.geom with refl := d.geom.refl.filter (fun e => keep e.1) } }
  if newMap = old then d else raiseEvent evVoiceShedChange [] d

/-- The fades of the units move one step at each activation; one step after zero a shed unit is no longer evaluated (R157). -/
def shedFadeStep (p : Plan) (d : Dev) : Dev :=
  let n := fadeN d
  forL (reflUnits (runVoices d p)) (fun u d =>
    let k := unitKey u.1 u.2
    let dn := fadeStep (n + 1) (fget false d.voice.shed k) (fget 0 d.voice.shedDn k)
    { d with voice := { d.voice with shedDn := fput 0 d.voice.shedDn k dn } }) d

/-- The shed set that is due at an activation, with the priorities of the quantum's records, and the fades (R156, R157). -/
def shedStep (p : Plan) (q : Nat) (d : Dev) : Dev :=
  let d := { d with voice := { d.voice with restored := [] } }
  shedFadeStep p (match d.voice.shedDue with
    | some fade => shedCompute p q fade d
    | none => d)

/-- Reflection voices shed (R122, GEOM_REFL_SHED). -/
def shedVoices (d : Dev) (p : Plan) : Nat :=
  ((runVoices d p).filter (fun v => v.kind = 2 && fget false d.voice.shed (unitKey v.source v.reflector))).length

/-! ### Posting (R138, R139, R151, R174 to R176) -/

/-- The idle operand of R121. A voice of a free move slot and a shed voice post it too: the spec gives no operand for them (the
model's choice, log 107). -/
def idleOp : VOp := ⟨0x400, 0, 0x1000000, {}⟩

/-- The window delay of a total delay, and whether it was clamped (R136, R138). -/
def windowDelay (dd base : Nat) : Nat × Bool :=
  if dd < 256 * base + 0x400 then (0x400, true)
  else if dd > 256 * base + 0x3FDC00 then (0x3FDC00, true)
  else (dd - 256 * base, false)

/-- A counted clamp of a voice of object o in quantum q (R138, R139). -/
def clampCount (q o : Nat) (rebases : Bool) (d : Dev) : Dev :=
  let x := obj d o
  let gap := if rate96 d then 3000 else 1500
  let quiet := decide (x.clampEventQn ≠ 0) && decide (q + 1 < x.clampEventQn + gap)
  let d := setFlag 0x60004 9 (incCnt 0x60020 d)
  let d := putObj o { x with
    delayClamped := true, clampDue := x.clampDue || rebases
    clampEventQn := if quiet then x.clampEventQn else q + 1 } d
  if quiet then d else raiseEvent evVoiceDelayClamp (leBytes 2 o) d

/-- Is a move slot taken at quantum q by the voice's object, or its unit restored, so that its state is initialised (R153)? -/
def voiceStarts (d : Dev) (q : Nat) (v : VoiceEnt) : Bool :=
  if v.kind = 2 then fget false d.voice.restored (unitKey v.source v.reflector)
  else decide (v.kind = 1) && (match slotOwner d v.source with
    | some o => (match (obj d o).move with
      | .slot _ s _ _ _ => decide (s = q)
      | _ => false)
    | none => false)

/-- The operand that the geometry unit posts for a voice at quantum q, adapted to a swap in progress, with its clamp: it counts
by the gain posted (R138, R151, R158, R175). -/
def postVoice (p : Plan) (q : Nat) (vs : List VoiceEnt) (adapt : VoiceEnt → VOp → VOp) (v : VoiceEnt) (d : Dev) : VOp × Dev :=
  let start := voiceStarts d q v
  if v.kind = 2 ∧ unitSettled d v.source v.reflector = true then ({ idleOp with tag := { skip := true } }, d)
  else match voiceEval d p q v with
  | none => (adapt v { idleOp with tag := { init := start } }, d)
  | some (o, dd, g, a) =>
    let w := windowDelay dd (obj d o).base
    let x := adapt v ⟨w.1, availGain d p q vs v g, a, { object := o, init := start }⟩
    let prev := (fget idleOp d.geom.posted (voiceKey v)).g
    let counted := w.2 && !(decide (x.g = 0) && decide (prev = 0))
    (x, if counted then clampCount q o (v.kind ≠ 2) d else d)

/-- X_f + ((X_new − X_f) × i) / Xq, truncated (R175). -/
def blendStep (i xq : Nat) (old new : Int) : Int := old + tdiv ((new - old) * (i : Int)) (xq : Int)

/-- The operand of a voice of the incoming plan at step i of an overlap swap (R175). -/
def overlapIn (d : Dev) (i xq : Nat) (v : VoiceEnt) (x : VOp) : VOp :=
  match fget? d.geom.frozenPost (voiceKey v) with
  | some f =>
    ⟨(blendStep i xq f.d x.d).toNat, blendStep i xq f.g x.g, (blendStep i xq f.a x.a).toNat,
      if x.g = 0 ∧ x.tag.object = 0 then { x.tag with object := f.tag.object } else x.tag⟩
  | none => { x with g := tdiv (x.g * (i : Int)) (xq : Int) }

/-- Does the incoming plan hold a voice of the outgoing one (R173)? -/
def matchedIn (p : Plan) (v : VoiceEnt) : Bool := (allVoices p).any (fun u => voiceKey u = voiceKey v)

/-- The operand of a voice of the outgoing plan at step i: it fades, or is skipped where the incoming plan `inc` of an overlap
swap holds it (R175). -/
def outgoingOp (d : Dev) (inc : Option Plan) (i xq : Nat) (v : VoiceEnt) : VOp :=
  let f := fget idleOp d.geom.frozenPost (voiceKey v)
  { f with
    g := tdiv (f.g * ((xq - i : Nat) : Int)) (xq : Int)
    tag := { f.tag with skip := f.tag.skip || inc.any (fun p => matchedIn p v), init := false, out := inc.isSome } }

/-- Posts every voice of a group with a function, threading the device. -/
def postVoices (f : VoiceEnt → Dev → VOp × Dev) (vs : List VoiceEnt) (d : Dev) : List VOp × Dev :=
  vs.foldl (fun acc v => let r := f v acc.2; (acc.1 ++ [r.1], r.2)) ([], d)

/-- Queues a group's operand block for writing, and remembers the values posted; a matched voice's are those of the incoming
plan (R151, R174, R175). -/
def queueBlock (side q : Nat) (g : Group) (ops : List VOp) (outgoing : Bool) (d : Dev) : Dev :=
  let posted := (List.zip g.voices ops).foldl (fun m e =>
    if outgoing && e.2.tag.skip then m else fput idleOp m (voiceKey e.1) e.2) d.geom.posted
  { d with geom := { d.geom with toPost := d.geom.toPost ++ [(q, side, g.index, ops)], posted := posted } }

/-- The groups of a plan that this device runs. -/
def runGroups (d : Dev) (p : Plan) : List Group := p.groups.filter (runsGroup d p)

/-- The voices of a plan that this device runs, each as record and identity (R150). -/
def planRecords (d : Dev) (p : Plan) : List (Nat × Nat) :=
  (runGroups d p).flatMap (fun g => g.voices.zipIdx.map (fun e => (g.stateBase + e.2, voiceKey e.1)))

/-- From quantum q on the voice-state table is that of plan `new`: a voice matched in `old` continues from its record there, any
other is initialised (R153, R173, R176). -/
def turnAdd (old : Option Plan) (new : Plan) (q : Nat) (d : Dev) : Dev :=
  let olds := match old with
    | some p => planRecords d p
    | none => []
  let turn : VoiceTurn := ⟨q, olds.map (fun e => e.1),
    (planRecords d new).map (fun r => (r.1, (olds.find? (fun o => o.2 = r.2)).map (fun o => o.1)))⟩
  { d with voice := { d.voice with turns := d.voice.turns ++ [turn] } }

/-- The table passes over. The first target of an initialised delay is taken by the snap of R141, as its gain is 0. -/
def turnTake (t : VoiceTurn) (d : Dev) : Dev :=
  let outs := t.old.foldl (fun m i => fput {} m i (voiceState d false i)) ([] : FMap VoiceSt)
  forL t.new (fun e d => putVoiceState false e.1 (match e.2 with
    | some i => fget {} outs i
    | none => {}) d) { d with voice := { d.voice with outStates := outs } }

/-- Before the first voice group of quantum q runs, when all of the quanta before it are done, the table passes over. -/
def turnsAt (q : Nat) (d : Dev) : Dev :=
  forL (d.voice.turns.filter (fun t => decide (t.qn ≤ q))) turnTake
    { d with voice := { d.voice with turns := d.voice.turns.filter (fun t => decide (q < t.qn)) } }

/-! #### The operand buffer (R152, R458) -/

/-- The 12 bytes of an operand record (R151). -/
def opBytes (x : VOp) : Bytes := leBytes 4 x.d ++ leInt 4 x.g ++ leBytes 4 x.a

/-- The address of a record of the operand buffer (R458). -/
def opAddr (i : Nat) : Nat := 0x1001040000 + 12 * i

/-- The operands of a block: its records as they stand in shared scratch, with their tags. -/
def blockOps (d : Dev) (b : OpBlock) : List VOp :=
  b.tags.zipIdx.map (fun e =>
    let r := memRead d (opAddr (b.place + e.2)) 12
    ⟨leAt r 0 4, sext 32 (leAt r 4 4), leAt r 8 4 % 2 ^ 25, e.1⟩)

/-- Are `n` records from `at'` free? -/
def blockFree (d : Dev) (at' n : Nat) : Bool :=
  decide (at' + n ≤ 393216)
    && d.voice.blocks.all (fun e => decide (at' + n ≤ e.2.place) || decide (e.2.place + e.2.tags.length ≤ at'))

/-- Where a block of `n` records goes: the lowest free place. The spec gives no placement within the buffer (DESIGN CHOICE, log
107). -/
def blockPlace (d : Dev) (n : Nat) : Option Nat :=
  let ends := d.voice.blocks.map (fun e => e.2.place + e.2.tags.length)
  ((0 :: ends).filter (fun a => blockFree d a n)).foldl (fun (m : Option Nat) a => some (min (m.getD a) a)) none

/-- The operand blocks of quantum q for the evaluated plan (R151, R175, R176). -/
def postPlan (p : Plan) (side q : Nat) (adapt : VoiceEnt → VOp → VOp) (d : Dev) : Dev :=
  forL (runGroups d p) (fun g d =>
    let r := postVoices (postVoice p q (allVoices p) adapt) g.voices d
    queueBlock side q g r.1 false r.2) d

/-- The operand blocks of an outgoing plan (R175, R176). -/
def postOutgoing (p : Plan) (inc : Option Plan) (q i xq : Nat) (d : Dev) : Dev :=
  forL (runGroups d p) (fun g d => queueBlock 0 q g (g.voices.map (outgoingOp d inc i xq)) true d) d

/-- Every operand block of quantum q (R151, R174 to R176). -/
def postQuantum (q : Nat) (d : Dev) : Dev :=
  match d.plan.running with
  | none =>
    match d.plan.active with
    | some p => postPlan p 0 q (fun _ x => x) d
    | none => d
  | some r =>
    let i := q + 1 - r.applyQn
    if r.sequential then
      (if r.switched then
        let i2 := i - r.xq
        postPlan r.incoming 0 q (fun _ x => if i2 < r.xq then { x with g := tdiv (x.g * (i2 : Int)) (r.xq : Int) } else x) d
      else match d.plan.active with
        | some p => postOutgoing p none q i r.xq d
        | none => d)
    else if i ≤ r.xq then
      let d := match d.plan.outgoing with
        | some p => postOutgoing p (some r.incoming) q i r.xq d
        | none => d
      postPlan r.incoming 1 q (overlapIn d i r.xq) d
    else postPlan r.incoming 0 q (fun _ x => x) d

/-- Clears the clamp flags before the postings of a quantum (R159: the state at the latest activation). -/
def clampClear (d : Dev) : Dev :=
  forN 1024 (fun o d => let x := obj d o
    if x.delayClamped then putObj o { x with delayClamped := false } d else d) d

/-- The base delays that the activation of quantum q assigns, from the positions of that quantum (R137). -/
def basesStep (p : Plan) (q : Nat) (d : Dev) : Dev :=
  let vs := runVoices d p
  let due := d.geom.baseDue.map (fun e => e.1)
  forL due (assignBase p q vs) { d with geom := { d.geom with baseDue := [] } }

/-- The refills of quantum q: at most 8 objects, ascending. Their base delay is assigned now, and the staging unit rewrites
their windows in its task of quantum q, once the fills and voice groups before it are done (R135, R139). -/
def refills (p : Plan) (q : Nat) (d : Dev) : Dev :=
  let vs := runVoices d p
  let due := ((List.range 1024).filter (fun o => decide ((obj d o).rebase = .refillWait))).take 8
  forL due (fun o d =>
    let old := (obj d o).base
    let d := assignBase p q vs o d
    let x := obj d o
    let d := incCnt 0x6002C (putObj o { x with rebase := .fadeUp } d)
    let d := { d with geom := { d.geom with refillDue := fins d.geom.refillDue o (q, old) } }
    raiseEvent evVoiceRebase (leBytes 2 o ++ leBytes 4 old ++ leBytes 4 x.base ++ leBytes 5 q) d) d

end Sys2Proof.Machine
end

