-- ==== Sys2Proof/Machine/Disp.lean ====
section
/-!
DEFINITION. The task dispatcher: matching store, operands, placement, items, TAKE, lateness and trace
(06_dispatcher.md, R188 to R214).
-/

namespace Sys2Proof.Machine

/-! ### Which plan a task belongs to -/

/-- The plan whose tasks a side holds for a quantum (R175, R176, R189). -/
def planAt (d : Dev) (side q : Nat) : Option Plan :=
  match d.plan.running with
  | none => if side = 0 then d.plan.active else none
  | some r =>
    if q < r.applyQn then (if side = 0 then d.plan.outgoing else none)
    else if q < r.applyQn + r.xq then
      (if side = 0 then d.plan.outgoing else if r.sequential then none else some r.incoming)
    else if side = 0 then some r.incoming else none

/-- Does the device run a task of a plan (R170)? -/
def taskRuns (d : Dev) (p : Plan) (t : TaskRec) : Bool :=
  if t.kind = 1 then p.groups.any (fun g => g.index = t.ref && runsGroup d p g)
  else if t.kind = 2 ∨ t.kind = 3 then rendersOut d p t.ref
  else true

/-- The voice-group record with an index. -/
def groupOf (p : Plan) (i : Nat) : Group := (p.groups.find? (fun g => g.index = i)).getD {}

/-! ### Trace (R212, R213) -/

/-- The 16 bytes of a trace record (R212). -/
def traceBytes (seq type unit ct task cls qn : Nat) (gap late : Bool) : Bytes :=
  leBytes 2 seq ++ leBytes 1 type ++ leBytes 1 unit ++ leBytes 4 ct ++ leBytes 2 task ++ leBytes 1 cls
    ++ leBytes 1 (b2n gap + 2 * b2n late) ++ leBytes 4 qn

/-- Has the trace ring room (R213)? DISP_TRACE_WR and DISP_TRACE_RD are taken as free-running 32-bit indices, and the ring is full when
their difference modulo 2³² reaches DISP_TRACE_SIZE: the model's choice (log 114). -/
def traceRoom (d : Dev) : Bool :=
  if bitAt d 0x40000 2 then ringRunning d 73 && !ringFull d 73
  else decide (subMod 32 (rdN d 0x40050) (rdN d 0x40054) < rdN d 0x4004C)

/-- Writes a record at the producer index of the ring in use, the index modulo DISP_TRACE_SIZE (log 114). -/
def tracePut (bs : Bytes) (d : Dev) : Dev :=
  let d := emit (.trace bs) d
  if bitAt d 0x40000 2 then ringProduce 73 bs d
  else
    let w := rdN d 0x40050
    let d := memWrite (addr64 d 0x40044 + w % rdN d 0x4004C * 16) bs d
    wrN 0x40050 (w + 1) d

/-- A decision is traced when its type is enabled and its class selected; items ignore the class mask. A record that finds no room
is dropped, which the trace ring of the host shows when it is in use (R212, R213, R445). -/
def trace (type unit task cls qn : Nat) (late item : Bool) (d : Dev) : Dev :=
  if bitAt d 0x40000 1 && bitAt d 0x40040 (type - 1) && (item || bitAt d 0x40040 (16 + cls)) then
    let seq := rdN d 0x4005C
    let d := wrN 0x4005C ((seq + 1) % 65536) d
    if traceRoom d then
      let bs := traceBytes seq type unit (ct32 d) task cls qn d.disp.traceGap late
      tracePut bs { d with disp := { d.disp with traceGap := false } }
    else
      let d := if bitAt d 0x40000 2 then setFlag (ringA 73 + 0x20) 11 d else d
      incCnt 0x40058 { d with disp := { d.disp with traceGap := true } }
  else d

/-- The unit byte: kind in bits [7:5] (R212). -/
def unitByte (kind i : Nat) : Nat := 32 * kind + i

abbrev unitNone : Nat := 7 * 32

/-! ### The matching store (R189 to R193) -/

/-- The entry at a place. -/
def matchAt (d : Dev) (place : Nat) : Option MatchEnt := fget none d.disp.store place

/-- Replaces or frees the entry at a place; the peak follows the use (R214). -/
def putMatch (place : Nat) (e : Option MatchEnt) (d : Dev) : Dev :=
  let d := { d with disp := { d.disp with store := fput none d.disp.store place e } }
  if rdN d 0x4000C < d.disp.store.length then wrN 0x4000C d.disp.store.length d else d

/-- Entries not free. -/
def matchUsed (d : Dev) : Nat := d.disp.store.length

/-- The entries held, with their places. -/
def entries (d : Dev) : List (Nat × MatchEnt) :=
  d.disp.store.filterMap (fun e => match e.2 with
    | some x => some (e.1, x)
    | none => none)

/-- The entry with a key (R189). -/
def findEntry (d : Dev) (side task qn : Nat) : Option (Nat × MatchEnt) :=
  (entries d).find? (fun e => decide (e.2.side = side) && decide (e.2.task = task) && decide (e.2.qn = qn))

/-- Bits [15:0] of the task word of an entry (R197). -/
def task16 (e : MatchEnt) : Nat := e.task % 8192 + 8192 * (e.side % 2)

/-- The task word of an entry (R197). -/
def taskWord (e : MatchEnt) : Nat := task16 e + e.qn % 256 * 2 ^ 16 + e.cls % 16 * 2 ^ 24 + e.kind % 8 * 2 ^ 28

/-- One operand arrives at the entry of a place (R190). -/
def operandAt (place : Nat) (e : MatchEnt) (d : Dev) : Dev :=
  if e.arrived ≥ e.declared then pairFault 3 (setFlag 0x40004 11 (incCnt 0x40024 d))
  else
    let full := decide (e.arrived + 1 = e.declared)
    let d := putMatch place (some { e with
      arrived := e.arrived + 1, state := if full then 2 else e.state
      readyAt := if full then nowNs d else e.readyAt }) d
    if full then trace 1 unitNone (task16 e) e.cls e.qn e.late false d else d

/-- A post whose key has no entry (R190). -/
def orphanPost (d : Dev) : Dev := raiseEvent evDispOrphan [] (pairFault 3 (setFlag 0x40004 10 (incCnt 0x40020 d)))

/-- A post: counted at its entry, or dropped as an orphan (R190). -/
def postOperand (side task qn : Nat) (d : Dev) : Dev :=
  match findEntry d side task qn with
  | some e => operandAt e.1 e.2 d
  | none => orphanPost d

/-- Posts to every entry of a quantum that a test selects. -/
def postWhere (sel : MatchEnt → Bool) (d : Dev) : Dev :=
  forL ((entries d).filter (fun e => sel e.2)) (fun e d => match matchAt d e.1 with
    | some x => operandAt e.1 x d
    | none => d) d

/-- A post of a unit to the one task that a test selects: an orphan where it has no entry (R190), except that on a joiner the
tasks that it does not run yet take none (R405). -/
def postTo (sel : MatchEnt → Bool) (d : Dev) : Dev :=
  if (entries d).any (fun e => sel e.2) then postWhere sel d else if joinPartial d then d else orphanPost d

/-- The quantum boundary at the start of q posts to the window fill of q − 1; with no entry yet the post is latched
(R188, R190). -/
def boundaryPost (q : Nat) (d : Dev) : Dev :=
  if q = 0 then d
  else if (entries d).any (fun e => decide (e.2.kind = 0) && decide (e.2.qn = q - 1)) then
    postWhere (fun e => decide (e.kind = 0) && decide (e.qn = q - 1)) d
  else { d with disp := { d.disp with latched := fput false d.disp.latched (q - 1) true } }

/-- The lowest free place. -/
def freePlace (d : Dev) : Nat :=
  ((List.range 16384).find? (fun i => (fget? d.disp.store i).isNone)).getD 16384

/-- Allocates one entry; its late bit is set when its deadline passed while the activation waited (R191, R209). -/
def allocTask (side q : Nat) (t : TaskRec) (d : Dev) : Dev :=
  let late := d.disp.lateEarly.contains (side, t.task, q)
  putMatch (freePlace d)
    (some ⟨side, t.task, q, t.operands, 0, t.cls, t.kind, t.ref, t.affinity, late, 1, 0, 0⟩)
    { d with disp := { d.disp with lateEarly := d.disp.lateEarly.erase (side, t.task, q) } }

/-- The tasks that an activation allocates, with their side (R189). -/
def activationTasks (d : Dev) (q : Nat) : List (Nat × TaskRec) :=
  [0, 1].flatMap (fun side => match planAt d side q with
    | some p => (p.tasks.filter (fun t => taskRuns d p t && joinTask d t.kind t.ref)).map (fun t => (side, t))
    | none => [])

/-- Has the device an unfinished task of a kind for a quantum? -/
def hasTask (d : Dev) (kind q : Nat) : Bool :=
  (entries d).any (fun e => decide (e.2.kind = kind) && decide (e.2.qn = q))

/-- The entries of quantum q, with the posts that the allocation itself makes (R188, R189). A latched boundary
post is applied now. -/
def allocQuantum (q : Nat) (d : Dev) : Dev :=
  let d := forL (activationTasks d q) (fun t d => allocTask t.1 q t.2 d) d
  let fill (e : MatchEnt) : Bool := decide (e.kind = 0) && decide (e.qn = q)
  let d := if fget false d.disp.latched q then
      postWhere fill { d with disp := { d.disp with latched := fput false d.disp.latched q false } }
    else d
  let d := if q = 0 ∨ hasTask d 1 (q - 1) = false then postWhere fill d else d
  if q < 2 ∨ hasTask d 2 (q - 2) = false then postWhere fill d else d

/-- Are enough entries free for the activation of q (R191)? -/
def matchFits (d : Dev) (q : Nat) : Bool := decide ((activationTasks d q).length + matchUsed d ≤ 16384)

/-- CORE cycles in a span of local time at the operating point in force. -/
def coreCycles (d : Dev) (ns : Nat) : Nat := ns * (pointHz d d.pwr.point / 1000000) / 1000

/-- The activation of q starts waiting, once per episode (R191). Its WAIT record is exempt from the class mask (R212; the model's
choice, log 114). -/
def matchWait (q : Nat) (d : Dev) : Dev :=
  if d.disp.waitFrom ≠ 0 then d else
  let d := { d with disp := { d.disp with waitFrom := nowNs d + 1 } }
  let d := setFlag 0x40004 8 (setFlag 0x40004 0 d)
  let d := raiseEvent evMatchFull (leBytes 5 q) d
  trace 8 unitNone 0 0 q false true d

/-- The cycles for which an activation has waited so far are counted (R191). -/
def waitCount (d : Dev) : Dev :=
  if d.disp.waitFrom = 0 then d
  else addCnt 0x4002C (coreCycles d (nowNs d + 1 - d.disp.waitFrom)) { d with disp := { d.disp with waitFrom := nowNs d + 1 } }

/-- The waiting activation proceeds, or is no longer due (R191). -/
def matchProceed (d : Dev) : Dev :=
  if d.disp.waitFrom = 0 then d else
  let d := waitCount d
  clrFlag 0x40004 0 { d with disp := { d.disp with waitFrom := 0 } }

/-- The 16 bytes of an entry (R192). -/
def matchBytes (e : Option MatchEnt) : Bytes :=
  match e with
  | none => zeros 16
  | some e => leBytes 2 (task16 e) ++ leBytes 2 e.declared ++ leBytes 2 e.arrived
      ++ leBytes 1 (e.cls % 16 + e.kind % 8 * 16 + b2n e.late * 128) ++ leBytes 1 e.state ++ leBytes 5 e.qn ++ zeros 3

/-- A write of DISP_MATCH_SEL snapshots the entry (R193). -/
def matchSelect (v : Nat) (d : Dev) : Dev :=
  if v ≥ 16384 then setFlag 0x40004 14 d
  else
    let bs := matchBytes (matchAt d v)
    forN 4 (fun i d => wrN (0x40404 + 4 * i) (leAt bs (4 * i) 4) d) (wrN 0x40400 v d)

/-- A write of DISP_MATCH_PEAK: the hardware then raises it to the present use (R214). -/
def matchPeak (v : Nat) (d : Dev) : Dev := wrN 0x4000C (max v (matchUsed d)) d

/-! ### Mailboxes -/

/-- The mailbox of an Aster core. -/
def box (d : Dev) (c : Nat) : CoreBox := fget {} d.disp.cores c

/-- Replaces it. -/
def putBox (c : Nat) (b : CoreBox) (d : Dev) : Dev :=
  { d with disp := { d.disp with cores := fput {} d.disp.cores c b } }

/-- An Aster core. -/
def acore (d : Dev) (c : Nat) : AsterCore := fget {} d.aster.cores c

/-- Replaces it. -/
def putCore (c : Nat) (a : AsterCore) (d : Dev) : Dev :=
  { d with aster := { d.aster with cores := fput {} d.aster.cores c a } }

/-- The dispatcher signals a core: IDLE ends, or the signal stays pending (R246). -/
def signalCore (c : Nat) (d : Dev) : Dev :=
  let a := acore d c
  putCore c (if a.idle then { a with idle := false } else { a with sig := true }) d

/-- May the dispatcher place work on a core: it runs and has not left dispatch (R250)? -/
def coreUp (d : Dev) (c : Nat) : Bool := decide ((acore d c).status = 1)

/-- Is a core idle? -/
def coreIdle (d : Dev) (c : Nat) : Bool := coreUp d c && decide ((box d c).state = 0)

/-- Cores that an affinity allows, rising. -/
def allowed (affinity : Nat) : List Nat := setIdx 16 affinity

/-- DISP_MAX_LATENCY follows the latencies observed (R202). -/
def sawLatency (readyAt : Nat) (d : Dev) : Dev :=
  let l := coreCycles d (nowNs d - readyAt)
  if rdN d 0x40038 < l then wrN 0x40038 l d else d

/-! ### Placement (R194 to R201, R204) -/

/-- Where a ready task can go now. -/
inductive Placing
  | staging
  | peony (i : Nat)
  | core (c : Nat)
  | preempt (c : Nat)
  | lupin
  | service
deriving DecidableEq, Repr

/-- The further start condition of a fill on a formed pair: the partner's presence is here, or its wait has expired
(R388). -/
def presenceHere (d : Dev) (q : Nat) : Bool :=
  decide (d.pair.state ≠ 2) || fget false d.pair.presWhole q || fget false d.pair.presSolo q

/-- The place of a ready entry among its units, if one is free (R195, R199, R204). -/
def placing (d : Dev) (e : MatchEnt) : Option Placing :=
  if e.kind = 0 then
    (if d.disp.stagingBusy || !presenceHere d e.qn then none else some .staging)
  else if e.kind = 1 then ((List.range 16).find? (fun i => decide (fget 0 d.disp.peony i = 0))).map Placing.peony
  else if e.kind = 2 then
    match (allowed e.affinity).find? (coreIdle d) with
    | some c => some (.core c)
    | none => ((allowed e.affinity).find? (fun c => coreUp d c
        && (decide ((box d c).state = 2) || decide ((box d c).state = 3)) && (box d c).nextWord.isNone)).map Placing.preempt
  else if e.kind = 3 then some .lupin
  else if d.disp.serviceQ.length < 256 then some .service else none

/-- The order of R194. -/
def dispatchBefore (a b : Nat × MatchEnt) : Bool :=
  let x := a.2
  let y := b.2
  decide (x.cls < y.cls) || (decide (x.cls = y.cls) && (decide (x.qn < y.qn) || (decide (x.qn = y.qn)
    && (decide (x.side < y.side) || (decide (x.side = y.side) && decide (x.task ≤ y.task))))))

/-- The ready tasks that wait for a unit, in the order of R194. -/
def readyTasks (d : Dev) : List (Nat × MatchEnt) :=
  ((entries d).filter (fun e => decide (e.2.state = 2) && !d.disp.serviceQ.contains e.1)).mergeSort dispatchBefore

/-- The first task in order that has a free unit. -/
def firstPlacing (d : Dev) : List (Nat × MatchEnt) → Option (Nat × MatchEnt × Placing)
  | [] => none
  | e :: rest => match placing d e.2 with
    | some p => some (e.1, e.2, p)
    | none => firstPlacing d rest

/-- An entry starts to run on a unit. -/
def runEntry (place : Nat) (e : MatchEnt) (unitKind unit : Nat) (d : Dev) : Dev :=
  trace 2 (unitByte unitKind unit) (task16 e) e.cls e.qn e.late false
    (putMatch place (some { e with state := 3, unit := unit }) d)

/-- A task is given to the control core that waits longest (R203, R204). -/
def giveService (core place : Nat) (e : MatchEnt) (d : Dev) : Dev :=
  let d := runEntry place e 4 core d
  let d := { d with disp := { d.disp with
    serviceQ := d.disp.serviceQ.filter (· ≠ place), takers := d.disp.takers.filter (· ≠ core)
    ctl := fput {} d.disp.ctl core ⟨taskWord e, e.ref, e.qn, false⟩ } }
  emit (.control core (taskWord e)) d

/-- The first voice-group dispatch of a quantum starts its span (R159). -/
def spanStart (q : Nat) (d : Dev) : Dev :=
  if d.voice.spanFrom ≠ 0 ∧ d.voice.spanQn = q then d
  else { d with voice := { d.voice with spanQn := q, spanFrom := nowNs d + 1 } }

/-- The last completion of a quantum's voice groups ends it: VOICE_LAST_SPAN (R159). -/
def spanEnd (q : Nat) (d : Dev) : Dev :=
  if d.voice.spanFrom = 0 ∨ d.voice.spanQn ≠ q ∨ hasTask d 1 q = true then d
  else wrN 0x6003C (coreCycles d (nowNs d + 1 - d.voice.spanFrom)) d

/-- Places one task. -/
def placeTask (place : Nat) (e : MatchEnt) (w : Placing) (d : Dev) : Dev :=
  match w with
  | .staging => runEntry place e 0 0 { d with disp := { d.disp with stagingBusy := true } }
  | .peony i => spanStart e.qn <| runEntry place e 1 i { d with disp := { d.disp with peony := fput 0 d.disp.peony i (place + 1) } }
  | .core c =>
    let d := runEntry place e 2 c d
    signalCore c (putBox c { box d c with
      state := 1, word := taskWord e, qn := e.qn % 2 ^ 32, ref := e.ref, arg := 0, entered := false } d)
  | .preempt c =>
    let d := runEntry place e 2 c d
    signalCore c (putBox c { box d c with nextWord := some (taskWord e), nextQn := e.qn, nextRef := e.ref } d)
  | .lupin => runEntry place e 3 0 { d with disp := { d.disp with lupinQ := d.disp.lupinQ ++ [place] } }
  | .service =>
    match d.disp.takers with
    | core :: _ => giveService core place e d
    | [] => { d with disp := { d.disp with serviceQ := d.disp.serviceQ ++ [place] } }

/-- The task word of an item (R197). -/
def itemWord (it : Item) (background : Bool) : Nat := it.seq % 8192 + (if background then 2 ^ 15 else 2 ^ 14)

/-- Starts an item on a core (R207, R208). -/
def startItem (c : Nat) (it : Item) (background : Bool) (d : Dev) : Dev :=
  let w := itemWord it background
  let d := putBox c { box d c with state := if background then 3 else 2, word := w, qn := 0, ref := it.entry, arg := it.arg } d
  signalCore c (trace 2 (unitByte 2 c) (w % 65536) 0 0 false true d)

/-- Resumes the preempted item of a core through the restore path (R201). -/
def resumeItem (c : Nat) (d : Dev) : Dev :=
  let b := box d c
  let d := putBox c { b with state := 4, word := b.heldWord, qn := 0, ref := b.heldRef, arg := b.heldArg } d
  signalCore c (trace 6 (unitByte 2 c) (b.heldWord % 65536) 0 0 false true d)

/-- A core free of deadline work that holds a preempted item. -/
def resumable (d : Dev) : Option Nat :=
  (List.range 16).find? (fun c => coreIdle d c && decide ((box d c).heldState ≠ 0))

/-- A core free for items. -/
def freeForItems (d : Dev) (c : Nat) : Bool := coreIdle d c && decide ((box d c).heldState = 0)

/-- The compatibility queue that a core serves next: the highest whose head allows it (R208). -/
def compatFor (d : Dev) (c : Nat) : Option (Nat × Item) :=
  ((List.range 8).reverse).findSome? (fun q => match fget [] d.disp.cq q with
    | it :: _ => if it.affinity.testBit c then some (q, it) else none
    | [] => none)

/-- The next compatibility start: core, queue, item. -/
def nextCompat (d : Dev) : Option (Nat × Nat × Item) :=
  if bitAt d 0x40000 0 then
    (List.range 16).findSome? (fun c => if freeForItems d c then (compatFor d c).map (fun x => (c, x.1, x.2)) else none)
  else none

/-- The next background start: item and core (R207). -/
def nextBackground (d : Dev) : Option (Item × Nat) :=
  d.disp.bgQ.findSome? (fun it => ((allowed it.affinity).find? (freeForItems d)).map (fun c => (it, c)))

/-- One issue of the dispatcher: a deadline task, a resume, a compatibility item, a background item, in that order
(R194 to R196, R201). -/
def dispatchOne (d : Dev) : Dev :=
  match firstPlacing d (readyTasks d) with
  | some (place, e, w) => placeTask place e w d
  | none =>
    match resumable d with
    | some c => resumeItem c d
    | none =>
      match nextCompat d with
      | some (c, q, it) => startItem c it false { d with disp := { d.disp with cq := fupd [] d.disp.cq q (fun l => l.drop 1) } }
      | none =>
        match nextBackground d with
        | some (it, c) => startItem c it true { d with disp := { d.disp with bgQ := d.disp.bgQ.erase it } }
        | none => d

/-- The switch is entered: the item is held and the deadline task stands in the mailbox (R199, R201, R247). -/
def preemptTaken (c : Nat) (d : Dev) : Dev :=
  let b := box d c
  match b.nextWord with
  | none => d
  | some w =>
    let d := trace 3 (unitByte 2 c) (b.word % 65536) 0 0 false true (incCnt 0x40028 d)
    putBox c { state := 4, word := w, qn := b.nextQn % 2 ^ 32, ref := b.nextRef, arg := 0, heldState := b.state,
               heldWord := b.word, heldRef := b.ref, heldArg := b.arg } d

/-! ### Completion (R198) -/

/-- An entry completes: traced and freed. -/
def freeEntry (place : Nat) (e : MatchEnt) (unit : Nat) (d : Dev) : Dev :=
  putMatch place none (trace 4 unit (task16 e) e.cls e.qn e.late false d)

/-- After the last voice-group task of q: one operand to the fill of q + 1 (R188). With no entry yet, its allocation posts, and
that post is never an orphan (R188). -/
def lastVoiceGroup (q : Nat) (d : Dev) : Dev :=
  if hasTask d 1 q then d else postWhere (fun e => decide (e.kind = 0) && decide (e.qn = q + 1)) d

/-- After the last output task of q on either side: one operand to the fill of q + 2 (R188). -/
def lastOutput (q : Nat) (d : Dev) : Dev :=
  if hasTask d 2 q then d else postWhere (fun e => decide (e.kind = 0) && decide (e.qn = q + 2)) d

/-- Is an output named by a voice-group record of the plan of a side? -/
def outNamed (d : Dev) (side q j : Nat) : Bool :=
  match planAt d side q with
  | some p => p.groups.any (fun g => g.outs.contains j)
  | none => false

/-- The posts of a window fill's completion (R152, R168, R188). -/
def fillPosts (side q : Nat) (d : Dev) : Dev :=
  postWhere (fun e => decide (e.side = side) && decide (e.qn = q)
    && (decide (e.kind = 1) || (decide (e.kind = 2) && !outNamed d side q e.ref))) d

/-- The posts of a voice-group task's completion (R148, R188). -/
def groupPosts (side q : Nat) (outs : List Nat) (d : Dev) : Dev :=
  forL outs.eraseDups (fun j d => postTo (fun e => decide (e.side = side) && decide (e.qn = q) && decide (e.kind = 2)
    && decide (e.ref = j)) d) d

/-- The post of an output task's completion (R261). -/
def outputPosts (side q j : Nat) (d : Dev) : Dev :=
  postTo (fun e => decide (e.side = side) && decide (e.qn = q) && decide (e.kind = 3) && decide (e.ref = j)) d

/-- The running entry whose task word is `w`, on a unit. -/
def runningEntry (d : Dev) (kind unit w : Nat) : Option (Nat × MatchEnt) :=
  (entries d).find? (fun e => decide (e.2.state = 3) && decide (e.2.kind = kind) && decide (e.2.unit = unit)
    && decide (taskWord e.2 = w))

/-- A completion word that does not fit is discarded (R198). -/
def doneMismatch (unit : Nat) (d : Dev) : Dev :=
  raiseEvent evDispDoneMismatch (leBytes 1 unit) (pairFault 3 (setFlag 0x40004 12 d))

/-- The mailbox after a task or item of its core has ended: a task written with a preempt request starts without the
switch handler (R200, R202). -/
def coreFreed (c : Nat) (d : Dev) : Dev :=
  let b := box d c
  match b.nextWord with
  | some w =>
    putBox c { b with
      state := 1, word := w, qn := b.nextQn % 2 ^ 32, ref := b.nextRef, arg := 0, entered := false
      nextWord := none, nextQn := 0, nextRef := 0 } d
  | none => putBox c { b with state := 0, word := 0xFFFFFFFF, qn := 0, ref := 0, arg := 0 } d

/-! ### TAKE (R203 to R205) -/

/-- A read of DISP_TAKE by a control core. -/
def take (core : Nat) (d : Dev) : Dev :=
  match d.disp.serviceQ with
  | place :: _ =>
    match matchAt d place with
    | some e => giveService core place e d
    | none => d
  | [] =>
    if d.disp.takers.contains core then d
    else { d with disp := { d.disp with
      takers := d.disp.takers ++ [core], ctl := fupd {} d.disp.ctl core (fun x => { x with waiting := true }) } }

/-- A stalled TAKE reaches its timeout (R203). -/
def takeTimeout (core : Nat) (d : Dev) : Dev :=
  if d.disp.takers.contains core then
    let d := { d with disp := { d.disp with
      takers := d.disp.takers.filter (· ≠ core), ctl := fupd {} d.disp.ctl core (fun x => { x with waiting := false }) } }
    incCnt 0x4003C (emit (.control core 0xFFFFFFFF) d)
  else d

/-! ### Items (R206 to R208) -/

/-- DISP_POST commits a post (R206). -/
def dispPost (v : Nat) (d : Dev) : Dev :=
  postOperand (bits v 13 13) (bits v 12 0) (rdN d 0x40218 + rdN d 0x4021C % 256 * 2 ^ 32) d

/-- DISP_BG_SUBMIT (R207). -/
def bgSubmit (entry : Nat) (d : Dev) : Dev :=
  let aff := rdN d 0x40224 % 65536
  if aff = 0 then setFlag 0x40004 14 d
  else if d.disp.bgQ.length ≥ 256 then setFlag 0x40004 13 d
  else { d with disp := { d.disp with
    bgQ := d.disp.bgQ ++ [⟨entry, rdN d 0x40220, aff, d.disp.bgSeq⟩], bgSeq := d.disp.bgSeq + 1 } }

/-- DISP_CQ_PUSH[q] (R208). -/
def cqPush (q entry : Nat) (d : Dev) : Dev :=
  let aff := rdN d 0x40324 % 65536
  if bitAt d 0x40000 0 = false ∨ aff = 0 then setFlag 0x40004 14 d
  else if (fget [] d.disp.cq q).length ≥ 1024 then raiseEvent evCqOverflow [] (setFlag (0x40340 + 4 * q) 16 d)
  else { d with disp := { d.disp with
    cq := fupd [] d.disp.cq q (fun l => l ++ [⟨entry, rdN d 0x40320, aff, d.disp.cqSeq⟩]), cqSeq := d.disp.cqSeq + 1 } }

/-! ### Lateness (R209 to R211) -/

/-- Has quantum q started while its activation still waits (R191)? -/
def awaitsActivation (d : Dev) (q : Nat) : Bool :=
  decide (d.disp.waitFrom ≠ 0) && decide (d.geom.nextAct ≤ q) && decide (q ≤ d.time.qn)

/-- A task passes its class deadline: it is late when it has not completed, whether it has its entry or waits for it (R191,
R209). -/
def taskDeadline (side task qn : Nat) (d : Dev) : Dev :=
  match findEntry d side task qn with
  | some e =>
    if e.2.late then d
    else
      let d := putMatch e.1 (some { e.2 with late := true }) (incCnt 0x40018 d)
      trace 5 unitNone (task16 e.2) e.2.cls e.2.qn true false d
  | none =>
    match (activationTasks d qn).find? (fun t => decide (t.1 = side) && decide (t.2.task = task)) with
    | some t =>
      if awaitsActivation d qn = false ∨ d.disp.lateEarly.contains (side, task, qn) = true then d
      else
        let d := incCnt 0x40018 { d with disp := { d.disp with lateEarly := d.disp.lateEarly ++ [(side, task, qn)] } }
        trace 5 unitNone (task % 8192 + 8192 * (side % 2)) t.2.cls qn true false d
    | none => d

/-- Is quantum q late at its cutoff (R191, R210, R250)? -/
def quantumLate (d : Dev) (q : Nat) : Bool :=
  awaitsActivation d q || hasTask d 2 q || hasTask d 3 q || (match d.disp.lateFrom with
    | some f => decide (f ≤ q)
    | none => false)

/-- The departure cutoff of q (R210, R211). Its SUPPRESS record names no task and is written whatever the class mask, as is the WAIT
record of `matchWait`; and the run of late quanta goes on over a time in which nothing renders, until a quantum departs on time.
Both are the model's choice (log 114). -/
def departureCutoff (q : Nat) (d : Dev) : Dev :=
  if q < d.disp.cutoffQn then d else
  let d := { d with disp := { d.disp with cutoffQn := q + 1 } }
  if quantumLate d q then
    let d := { d with disp := { d.disp with
      suppressed := fput false d.disp.suppressed q true, lateRun := d.disp.lateRun + 1 } }
    let d := incCnt 0x4001C (setFlag 0x40004 9 d)
    let d := wrN 0x40030 (q % 2 ^ 32) (wrN 0x40034 (q / 2 ^ 32) d)
    let d := raiseEvent evDepartLate (leBytes 5 q) d
    trace 7 unitNone 0 0 q false true d
  else { d with disp := { d.disp with lateRun := 0 } }

/-- The eighth consecutive late quantum (R211, FAULT_DEADLINE of R25). -/
def deadlineFault (d : Dev) : Dev := if d.disp.lateRun ≥ 8 then faultCause 0xA d else d

end Sys2Proof.Machine
end

