-- ==== Sys2Proof/Machine/Chain.lean ====
section
/-!
DEFINITION. The output chain: mute and polarity, level, biquads and crossover, RMS limiter, look-ahead peak limiter
(08_correction_survey.md, R253 to R260), and the end of an output task (R261).
-/

namespace Sys2Proof.Machine

/-- Extraction of an exact sum: shift right convergent, saturate; with the number of saturated lanes (R232). -/
def extract (shift : Nat) (x : Int) : Int × Nat :=
  let r := rndEven x shift
  (satI 32 r, b2n (satOvf 32 r))

/-- Mute and polarity, with the saturations of the negation (R257). -/
def chainFlags (flags : Nat) (xs : List Int) : List Int × Nat :=
  if flags.testBit 1 then (xs.map (fun _ => 0), 0)
  else if flags.testBit 0 then (xs.map (fun x => satI 32 (-x)), (xs.filter (fun x => satOvf 32 (-x))).length) else (xs, 0)

/-- Level: x × level, extracted with a shift of 21 (R257). -/
def chainLevel (level : Int) (xs : List Int) : List Int × Nat :=
  let ys := xs.map (fun x => extract 21 (x * level))
  (ys.map (·.1), (ys.map (·.2)).sum)

/-- One sample of a section in direct form I (R257). -/
def sectionSample (co : List Int) (s : Section) (x : Int) : Int × Nat × Section :=
  let c (i : Nat) : Int := co.getD i 0
  let y := extract 30 (c 0 * x + c 1 * s.x1 + c 2 * s.x2 - c 3 * s.y1 - c 4 * s.y2)
  (y.1, y.2, ⟨x, s.x1, y.1, s.y1⟩)

/-- A section over a block: outputs, saturations, memory. -/
def sectionBlock (co : List Int) (s : Section) : List Int → List Int × Nat × Section
  | [] => ([], 0, s)
  | x :: rest =>
    let r := sectionSample co s x
    let t := sectionBlock co r.2.2 rest
    (r.1 :: t.1, r.2.1 + t.2.1, t.2.2)

/-- A cascade of sections, numbered from `i` (R253 steps 3 and 4). -/
def sectionsRun (i : Nat) (cos : List (List Int)) (mem : FMap Section) (xs : List Int) : List Int × Nat × FMap Section :=
  match cos with
  | [] => (xs, 0, mem)
  | co :: rest =>
    let r := sectionBlock co (fget {} mem i) xs
    let t := sectionsRun (i + 1) rest (fput {} mem i r.2.2) r.1
    (t.1, r.2.1 + t.2.1, t.2.2)

/-- The RMS limiter's samples: detector, gain, outputs (R258). -/
def rmsSamples (avg att rel gt : Int) (e g : Int) : List Int → Int × Int × List Int × Nat
  | [] => (e, g, [], 0)
  | x :: rest =>
    let s := x * x / 2 ^ 31
    let e := e + avg * (s - e) / 2 ^ 31
    let c := if gt < g then att else rel
    let g := g + c * (gt - g) / 2 ^ 31
    let y := extract 31 (x * g)
    let t := rmsSamples avg att rel gt e g rest
    (t.1, t.2.1, y.1 :: t.2.2.1, y.2 + t.2.2.2)

/-- The gain target at the end of a quantum (R258). -/
def rmsTarget (thr e : Int) : Int :=
  let r : Int := isqrt (e * 2 ^ 31).toNat
  if r > thr then thr * 2 ^ 31 / r else 0x7FFFFFFF

/-- The RMS limiter (R258). -/
def rmsRun (q : OutParam) (c : Chain) (xs : List Int) : List Int × Nat × Chain :=
  if q.ctrl.testBit 10 then
    let r := rmsSamples q.rmsAvg q.rmsAtt q.rmsRel c.rmsT c.rmsE c.rmsG xs
    (r.2.2.1, r.2.2.2, { c with rmsE := r.1, rmsG := r.2.1, rmsT := rmsTarget q.rmsThr r.1 })
  else (xs, 0, { c with rmsE := 0, rmsG := 0x7FFFFFFF, rmsT := 0x7FFFFFFF })

/-- The largest saturated magnitude of a block and its first index, from `i` (R259 step 1). -/
def blockPeak (i : Nat) (xs : List Int) : Int × Nat :=
  (xs.zipIdx i).foldl (fun (acc : Int × Nat) x =>
    let m := satI 32 (x.1.natAbs : Int)
    if m > acc.1 then (m, x.2) else acc) (0, i)

/-- The peak limiter's samples (R259 steps 4 to 6). -/
def peakSamples (thr rel dlt gmin g : Int) : List Int → Int × List Int × Nat
  | [] => (g, [], 0)
  | x :: rest =>
    let g := if dlt > 0 then max (g - dlt) gmin else g + rel * (0x7FFFFFFF - g) / 2 ^ 31
    let a : Int := x.natAbs
    let h := if a > thr then min g (thr * 2 ^ 31 / a) else g
    let y := extract 31 (x * h)
    let t := peakSamples thr rel dlt gmin g rest
    (t.1, y.1 :: t.2.1, y.2 + t.2.2)

/-- The look-ahead peak limiter: the FIFO always delays, the gain acts with peak_en (R259, R260). A block not yet in
the FIFO is zero. -/
def peakRun (q : OutParam) (c : Chain) (xs : List Int) : List Int × Nat × Chain :=
  let look := paramLook q
  let held := List.replicate (look - c.fifo.length) (List.replicate 32 (0 : Int)) ++ c.fifo.drop (c.fifo.length - look)
  let win := held ++ [xs]
  let x := win.headD []
  let c := { c with fifo := win.drop 1 }
  if q.ctrl.testBit 11 then
    let peaks := win.zipIdx.map (fun b => blockPeak (32 * b.2) b.1)
    let targets := peaks.map (fun p => ((if p.1 > q.peakThr then q.peakThr * 2 ^ 31 / p.1 else 0x7FFFFFFF : Int), p.2))
    let ceil (a b : Int) : Int := -((-a) / b)
    let dlt := targets.foldl (fun (m : Int) t => max m (ceil (c.peakG - t.1) ((t.2 : Int) + 1))) 0
    let gmin := targets.foldl (fun (m : Int) t => min m t.1) 0x7FFFFFFF
    let r := peakSamples q.peakThr q.peakRel dlt gmin c.peakG x
    (r.2.1, r.2.2, { c with peakG := r.1 })
  else (x, 0, c)

/-- Steps 2 to 6 of R253 over one block: the block, the saturations and the state kept. ctrl says how many biquads and how
many crossover sections run (R255). -/
def chainRun (t : OutTask) (q : OutParam) (c : Chain) (xs : List Int) : List Int × Nat × Chain :=
  let f := chainFlags t.flags xs
  let a := chainLevel q.level f.1
  let b := sectionsRun 0 (q.biquads.take (bits q.ctrl 5 0)) c.sections a.1
  let x := sectionsRun 32 (q.crossover.take (bits q.ctrl 9 6)) b.2.2 b.1
  let r := rmsRun q { c with sections := x.2.2 } x.1
  let p := peakRun q r.2.2 r.1
  (p.1, f.2 + a.2 + b.2.1 + x.2.1 + r.2.1 + p.2.1, p.2.2)

/-- Runs the chain of output j of a plan with the state of a side. -/
def chainOut (p : Plan) (side core j : Nat) (xs : List Int) (d : Dev) : List Int × Dev :=
  let r := chainRun (planTask p j) (planParam p j) (fget {} d.lupin.chains (512 * side + j)) xs
  let d := { d with lupin := { d.lupin with chains := fput {} d.lupin.chains (512 * side + j) r.2.2 } }
  (r.1, if r.2.1 = 0 then d else addCnt (0xC0030 + 0x1000 * core) r.2.1 d)

/-- Do the chains of an output differ between two plans (R174, R175)? -/
def chainDiffers (a b : Plan) (j : Nat) : Bool :=
  decide (planTask a j ≠ planTask b j) || decide (planParam a j ≠ planParam b j)

/-- y_old + floor((y_new − y_old) × (n + 1) / X) (R175, R263, R272). -/
def mixAt (old new : Int) (n x : Nat) : Int := old + (new - old) * ((n + 1 : Nat) : Int) / (x : Int)

/-- What other output code left for a side, if any; it is used up. -/
def takeHalf (side j : Nat) (d : Dev) : Option (Option (List Int)) × Dev :=
  (fget? d.lupin.half (512 * side + j),
   { d with lupin := { d.lupin with half := ferase d.lupin.half (512 * side + j) } })

/-- A side's block: what other output code left, which may be none, or the standard output program's (R254). -/
def sideBlock (p : Plan) (side chain core j : Nat) (xs : List Int) (d : Dev) : Option (List Int) × Dev :=
  let h := takeHalf side j d
  match h.1 with
  | some b => (b, h.2)
  | none => let r := chainOut p chain core j xs h.2; (some r.1, r.2)

/-- The accumulators of an output as its task fetches them: by XFER before, or now (R148, R244). -/
def fetchAccs (q j : Nat) (d : Dev) : List Int × Dev :=
  match fget? d.lupin.fetched (512 * (q % 2) + j) with
  | some xs => (xs, { d with lupin := { d.lupin with fetched := ferase d.lupin.fetched (512 * (q % 2) + j) } })
  | none => accFetch q j d

/-- Writes the Lupin input block of output j for quantum q, if there is one (R253 step 7, R254). -/
def putInput (q j : Nat) (block : Option (List Int)) (d : Dev) : Dev :=
  match block with
  | none => d
  | some xs => { d with lupin := { d.lupin with input := fput [] d.lupin.input (8192 * j + q % 8192) xs } }

/-- After the last block of a crossfade the incoming chain's state is the output's. -/
def chainMerge (j : Nat) (d : Dev) : Dev :=
  let c := fget {} d.lupin.chains (512 + j)
  { d with lupin := { d.lupin with chains := fput {} (ferase d.lupin.chains (512 + j)) j c } }

/-- Where a swap switches chains with no crossfade, a chain that differs starts empty (DEDUCED from R175: the incoming
chain is another chain). -/
def chainSwitch (p : Plan) (q j : Nat) (d : Dev) : Dev :=
  match d.plan.running, d.plan.outgoing with
  | some r, some o =>
    if q = r.applyQn + r.xq ∧ (r.sequential = true ∨ r.xq = 0) ∧ chainDiffers o p j = true then
      { d with lupin := { d.lupin with chains := ferase d.lupin.chains j } }
    else d
  | _, _ => d

/-- The block of output j for quantum q when every output task of it is done: one chain, or the crossfade of two
(R175, R257). In SURVEY an output task sends zero. -/
def outputBlock (q core j : Nat) (d : Dev) : Dev :=
  let f := fetchAccs q j d
  let d := f.2
  if d.sys.mode = .survey then putInput q j (some (List.replicate 32 0)) (takeHalf 1 j (takeHalf 0 j d).2).2 else
  let renders (side : Nat) : Option Plan := (planAt d side q).filter (fun p => rendersOut d p j)
  match renders 0, renders 1 with
  | some a, some b =>
    if chainDiffers a b j then
      let r0 := sideBlock a 0 0 core j f.1 d
      let r1 := sideBlock b 1 1 core j f.1 r0.2
      let a0 := match d.plan.running with
        | some r => r.applyQn
        | none => q
      let x := match d.plan.running with
        | some r => 32 * r.xq
        | none => 32
      let ys := r0.1.bind (fun u => r1.1.map (fun v =>
        (List.zip u v).zipIdx.map (fun e => mixAt e.1.1 e.1.2 (32 * (q - a0) + e.2) x)))
      putInput q j ys (if 32 * (q + 1 - a0) = x then chainMerge j r1.2 else r1.2)
    else
      let r := sideBlock b 1 0 core j f.1 (takeHalf 0 j d).2
      putInput q j r.1 r.2
  | some a, none => let r := sideBlock a 0 0 core j f.1 (chainSwitch a q j d); putInput q j r.1 r.2
  | none, some b => let r := sideBlock b 1 0 core j f.1 d; putInput q j r.1 r.2
  | none, none => d

/-- An output task completes: its entry is freed, its block formed when no other side's task of the output is open,
and its operands posted (R188, R198, R261). Other output code answers for its block and its posts itself (R254). -/
def outputDone (place : Nat) (e : MatchEnt) (code : OutCode) (d : Dev) : Dev :=
  let d := freeEntry place e (unitByte 2 e.unit) d
  let d := match code with
    | .other b _ => { d with lupin := { d.lupin with
        half := fins d.lupin.half (512 * e.side + e.ref) b } }
    | .standard => d
  let open' := (entries d).any (fun x => decide (x.2.kind = 2) && decide (x.2.qn = e.qn) && decide (x.2.ref = e.ref))
  let d := if open' then d else outputBlock e.qn e.unit e.ref d
  let posts := match code with
    | .other _ p => p
    | .standard => true
  lastOutput e.qn (onlyIf posts (outputPosts e.side e.qn e.ref) d)

/-- A write of a task word to DISP_CORE_DONE of core c (R198, R200). -/
def coreDone (c w : Nat) (code : OutCode) (d : Dev) : Dev :=
  let b := box d c
  if b.state = 0 ∨ w ≠ b.word then doneMismatch (unitByte 2 c) d
  else if w.testBit 14 ∨ w.testBit 15 then
    coreFreed c (trace 4 (unitByte 2 c) (w % 65536) 0 0 false true d)
  else match runningEntry d 2 c w with
    | some (place, e) => outputDone place e code (coreFreed c d)
    | none => doneMismatch (unitByte 2 c) d

/-- A write of a task word to the banked DISP_DONE of a control core (R198). -/
def controlDone (core w : Nat) (d : Dev) : Dev :=
  let x := fget {} d.disp.ctl core
  match (if w = x.word then runningEntry d 4 core w else none) with
  | some (place, e) =>
    let d := { d with disp := { d.disp with ctl := fput {} d.disp.ctl core { x with word := 0xFFFFFFFF } } }
    freeEntry place e (unitByte 4 core) d
  | none => doneMismatch (unitByte 4 core) d

/-- Does a completion word fit the task or item that core c holds? -/
def coreHolds (d : Dev) (c w : Nat) : Bool := decide ((box d c).state ≠ 0) && decide (w = (box d c).word)

end Sys2Proof.Machine
end

