-- ==== Sys2Proof/Machine/Aster.lean ====
section
/-!
DEFINITION. The Aster cores: issue of a bundle on the exposed pipeline, loops, tile transfers, the switch, faults and
debug (07_aster_cores.md, R215 to R252).
-/

namespace Sys2Proof.Machine

/-! ### Registers as a bundle reads them -/

/-- Device address of tile byte `a` of core c (R446). -/
def tileAddr (c a : Nat) : Nat := 0x1000000000 + c * 0x100000 + a

/-- g(r): g0 reads 0 (R215). -/
def rg (a : AsterCore) (r : Nat) : Nat := if r % 32 = 0 then 0 else fget 0 a.g (r % 32)

/-- Lane i of v(r), signed. -/
def rv (a : AsterCore) (r i : Nat) : Int := sext 32 (fget 0 a.v (4 * (r % 16) + i))

/-- The accumulator that MAC operations read. -/
def racc (a : AsterCore) (n : Nat) : Int := fget 0 a.acc (n % 8)

/-- The accumulator that extraction reads (R223). -/
def raccExt (a : AsterCore) (n : Nat) : Int := fget 0 a.accExt (n % 8)

/-- Bits of sr that exist (R216). -/
def srMask (v : Nat) : Nat := bits v 2 0 + bits v 9 4 * 16 + bits v 18 16 * 2 ^ 16

/-- sr.lp. -/
def srLp (a : AsterCore) : Nat := bits a.sr 1 0

/-- sr.ash. -/
def srAsh (a : AsterCore) : Nat := bits a.sr 9 4

/-- 72-bit wrap. -/
def wrap72 (x : Int) : Int := sext 72 (wrapN 72 x)

/-- Writes one result (R215: g0 ignores writes). -/
def landOne (r : Res) (a : AsterCore) : AsterCore :=
  match r.tgt with
  | .g i => if i % 32 = 0 then a else { a with g := fput 0 a.g (i % 32) (wrapN 32 r.val) }
  | .v i l => { a with v := fput 0 a.v (4 * (i % 16) + l) (wrapN 32 r.val) }
  | .acc i => { a with acc := fput 0 a.acc (i % 8) (wrap72 r.val) }
  | .accExt i => { a with accExt := fput 0 a.accExt (i % 8) (wrap72 r.val) }
  | .p i => { a with p := fput 0 a.p (i % 16) (wrapN 32 r.val) }
  | .m i => { a with m := fput 0 a.m (i % 16) (wrapN 32 r.val) }
  | .srFromEsr =>
    let w := wrapN 32 r.val
    let s := srMask a.esr ||| bits w 18 16 * 2 ^ 16
    { a with sr := if w.testBit 3 then setBits s 1 0 (w % 4) else s }
  | .sys i =>
    let v := wrapN 32 r.val
    if i = 0 then { a with sr := srMask v }
    else if i = 1 then { a with esr := v }
    else if i = 2 then { a with epc := v }
    else if i ≤ 5 then { a with lc := fput 0 a.lc (i - 3) v }
    else if i ≤ 8 then { a with la := fput 0 a.la (i - 6) (v % 2 ^ 20) }
    else if i ≤ 11 then { a with ls := fput 0 a.ls (i - 9) (v % 2 ^ 20) }
    else if i = 12 then { a with xi := v % 65536 }
    else a

/-- The results due by bundle n land, oldest first: the later-issued wins (R223, R224). -/
def landTo (n : Nat) (a : AsterCore) : AsterCore :=
  let due := a.inflight.filter (fun r => r.due ≤ n)
  forL due landOne { a with inflight := a.inflight.filter (fun r => r.due > n) }

/-- The drain: every result in flight lands (R199). -/
def drain (a : AsterCore) : AsterCore :=
  let byDue := a.inflight.mergeSort (fun x y => decide (x.due ≤ y.due))
  forL byDue landOne { a with inflight := [], fwd := none }

/-! ### Queues (R245) -/

/-- Is the present queue D: a deadline task or the switch handler? -/
def onQueueD (d : Dev) (c : Nat) : Bool := decide ((box d c).state = 1) || decide ((box d c).state = 4)

/-- The present queue. -/
def presentQueue (d : Dev) (c : Nat) : List Xfer := if onQueueD d c then (acore d c).queueD else (acore d c).queueB

/-- sr as it reads: pe is 1 while the core runs an item (R247). -/
def srNow (d : Dev) (c : Nat) : Nat :=
  let b := box d c
  let a := acore d c
  if b.state = 2 ∨ b.state = 3 then a.sr ||| 4 else a.sr

/-- The system registers as MFS reads them (R217). -/
def sysRead (d : Dev) (c i : Nat) : Nat :=
  let a := acore d c
  let b := box d c
  match i with
  | 0 => srNow d c
  | 1 => a.esr
  | 2 => a.epc
  | 3 => fget 0 a.lc 0
  | 4 => fget 0 a.lc 1
  | 5 => fget 0 a.lc 2
  | 6 => fget 0 a.la 0
  | 7 => fget 0 a.la 1
  | 8 => fget 0 a.la 2
  | 9 => fget 0 a.ls 0
  | 10 => fget 0 a.ls 1
  | 11 => fget 0 a.ls 2
  | 12 => a.xi
  | 13 => b.nextWord.getD b.word
  | 14 => if b.nextWord.isSome then b.nextQn % 2 ^ 32 else b.qn
  | 15 => if b.nextWord.isSome then b.nextRef else b.ref
  | 16 => b.arg
  | 17 => c
  | 18 => ct32 d
  | 19 => b2n d.aster.bankB + 2 * b2n d.aster.side1
  | 20 => (presentQueue d c).length
  | _ => 0

/-! ### Faults (R249, R250) -/

abbrev fIllegal : Nat := 1
abbrev fMisalign : Nat := 2
abbrev fRange : Nat := 3
abbrev fEcc : Nat := 4
abbrev fSlot : Nat := 5
abbrev fXfer : Nat := 6
abbrev fBreak : Nat := 7

/-- Base of the registers of core c (R252). -/
def asterA (c : Nat) : Nat := 0xC0000 + 0x1000 * c

/-- A core as run going from 0 to 1 leaves it (R215). Words with an uncorrectable error stay. -/
def coreReset (a : AsterCore) : AsterCore := { status := 1, badWord := a.badWord }

/-- A fault stops the core; an item is abandoned and the core restarts, a deadline task leaves the core faulted
(R249, R250). A core that holds neither a task nor an item, as in the runtime's own code, stays faulted with no internal fault: the
spec lists no such case, and this is the model's choice (log 109). -/
def asterFault (c cause addr : Nat) (d : Dev) : Dev :=
  let a := acore d c
  let b := box d c
  let deadline := onQueueD d c
  let w := b.word % 65536
  let d := wrN (asterA c + 0xC) (cause + 256 * b2n deadline + 65536 * w) d
  let d := wrN (asterA c + 0x10) a.pc (wrN (asterA c + 0x14) addr d)
  let d := setFlag (asterA c + 4) 8 d
  let d := raiseEvent evAsterFault (leBytes 1 c ++ leBytes 1 cause ++ leBytes 4 b.word) d
  if deadline then
    let d := putCore c { a with status := 2, left := true } (pairFault 2 d)
    let q := match runningEntry d 2 c b.word with
      | some e => e.2.qn
      | none => qnNow d
    if cause = fEcc then faultCause 8 d
    else
      let from' := match d.disp.lateFrom with
        | some f => min f q
        | none => q
      { d with disp := { d.disp with lateFrom := some from' } }
  else if (b.state = 2 ∨ b.state = 3) ∧ bitAt d (asterA c) 1 = true then
    -- A task that waits in the mailbox with its signal starts once the runtime reaches IDLE (R200, R246).
    coreFreed c (putCore c { coreReset a with sig := b.nextWord.isSome } d)
  else putCore c { a with status := 2 } d

/-! ### Checks at issue -/

/-- Is an ALU operation one of the long slot (R222)? -/
def aluLong : AluKind → Bool
  | .addi | .andi | .ori | .xori | .slli | .srli | .srai | .beq | .bne | .blt | .bge | .bltu | .bgeu | .jmp | .jmpr
  | .call | .rep | .repr | .loopDo | .dor | .leave | .setxi | .xfer | .xwait | .done | .idle | .rti | .brk => true
  | _ => false

/-- Is it a branch, JMP, JMPR, CALL or RTI (R226)? -/
def aluBranch : AluKind → Bool
  | .beq | .bne | .blt | .bge | .bltu | .bgeu | .jmp | .jmpr | .call | .rti => true
  | _ => false

/-- May a repeated bundle not hold it (R235)? -/
def aluNoRepeat : AluKind → Bool
  | .beq | .bne | .blt | .bge | .bltu | .bgeu | .jmp | .jmpr | .call | .rep | .repr | .loopDo | .dor | .leave | .xfer
  | .xwait | .done | .idle | .rti | .brk | .mts => true
  | _ => false

/-- Quad operations (R220). -/
def macQuad : MacKind → Bool
  | .vmul | .vmac | .vmsu | .vmacb | .vclr | .vlda | .vext | .vextT => true
  | _ => false

/-- The extreme operations (R238). -/
def macExtreme : MacKind → Bool
  | .vmaxIdx | .vminIdx | .vmaxaIdx => true
  | _ => false

/-- Is a sub-operation's addressing mode legal: bit-reversed needs a length (R230)? -/
def lsLegal (a : AsterCore) (s : Ls) : Bool :=
  match s.kind with
  | .none => true
  | _ => decide (s.mode < 4) && decide (s.k < 16) && decide (s.r < 32)
      && !(decide (s.mode = 3) && decide (fget 0 a.m (s.k % 16) / 65536 = 0))
      && (match s.kind with
          | .ldV | .stV | .ldB => decide (s.r < 16)
          | _ => true)

/-- Has a MAC slot an encoding (R220)? -/
def macEncodes (x : Mac) : Bool :=
  decide (x.a < 8) && decide (x.va < 16) && decide (x.vb < 16) && (decide (x.kind ≠ .none) || decide (x = {}))

/-- Has an ALU slot an encoding: each field that its operation uses in range, every other field zero (R218, R221,
R222)? -/
def aluEncodes (u : Alu) : Bool :=
  let regs := decide (u.rd < 32) && decide (u.ra < 32) && decide (u.cnt = 0)
  let onlyRa := decide (u.rd = 0) && decide (u.ra < 32) && decide (u.imm = 0) && decide (u.cnt = 0)
  let nothing := decide (u.rd = 0) && decide (u.ra = 0) && decide (u.imm = 0) && decide (u.cnt = 0)
  let immOnly (n : Nat) := decide (u.rd = 0) && decide (u.ra = 0) && decide (u.imm < n) && decide (u.cnt = 0)
  match u.kind with
  | .nop | .leave | .idle | .rti | .brk => nothing
  | .vlane | .vins => regs && decide (u.imm < 4)
  | .addi | .andi | .ori | .xori | .beq | .bne | .blt | .bge | .bltu | .bgeu => regs && decide (u.imm < 2 ^ 18)
  | .slli | .srli | .srai => regs && decide (u.imm < 32)
  | .jmp | .call => immOnly (2 ^ 28)
  | .jmpr | .repr | .xfer | .done => onlyRa
  | .rep => decide (u.rd = 0) && decide (u.ra = 0) && decide (u.imm = 0) && decide (1 ≤ u.cnt) && decide (u.cnt ≤ 4096)
  | .loopDo => decide (u.rd = 0) && decide (u.ra = 0) && decide (u.imm < 4096) && decide (u.cnt < 65536)
  | .dor => decide (u.rd < 32) && decide (u.ra = 0) && decide (u.imm < 4096) && decide (u.cnt = 0)
  | .setxi => immOnly 65536
  | .xwait => immOnly 16
  | .li => decide (u.rd < 32) && decide (u.ra = 0) && decide (u.imm < 2 ^ 32) && decide (u.cnt = 0)
  | _ => regs && decide (u.imm = 0)

/-- Is a MAC slot legal (R220, R238)? -/
def macLegal (m : Mac) : Bool :=
  macEncodes m
    && (!macQuad m.kind || decide (m.a = 0) || decide (m.a = 4))
    && (!macExtreme m.kind || decide (m.vb % 2 = 0))
    && (match m.kind with
        | .vext1 | .vext1T => decide (m.va < 4)
        | _ => true)

/-- Is an ALU slot legal: each field that its operation uses in range, every other field zero (R217, R221, R222, R236,
R239, R245)? -/
def aluLegal (u : Alu) : Bool :=
  aluEncodes u
    && (match u.kind with
        | .movp | .movm | .vins | .vsplat => decide (u.rd < 16)
        | .rdp | .rdm | .vlane => decide (u.ra < 16)
        | .vadds | .vsubs | .vabs | .vmaxv | .vminv => decide (u.rd < 16) && decide (u.ra < 16)
        | .vredmax | .vredmin =>
          decide (u.ra < 16) && decide (u.ra % 2 = 0) && decide (u.rd % 2 = 0) && decide (2 ≤ u.rd) && decide (u.rd ≤ 30)
        | .mfs => decide (u.ra ≤ 20)
        | .mts => decide (u.rd ≤ 12)
        | .loopDo | .dor => decide (1 ≤ u.imm)
        | .xwait => decide (u.imm ≤ 8)
        | _ => true)

/-- Is a bundle one that a format of R218 encodes, with every field legal? -/
def bundleLegal (a : AsterCore) (b : Bundle) : Bool :=
  lsLegal a b.x && lsLegal a b.y && macLegal b.mac && aluLegal b.alu
    && (!aluLong b.alu.kind || decide (b.mac.kind = .none))
    && (!decide (b.alu.kind = .li) || (decide (b.x.kind = .none) && decide (b.y.kind = .none)))

/-- The end of the innermost body, when a level is active. -/
def loopEnd (a : AsterCore) : Option Nat := if srLp a = 0 then none else some (fget 0 a.la (srLp a - 1))

/-- SLOT: branches in delay slots and at the end of a body, repeated operations, nesting (R226, R235 to R237). -/
def slotBroken (a : AsterCore) (k : AluKind) : Bool :=
  let nearEnd (n : Nat) : Bool := match loopEnd a with
    | some e => decide (a.pc ≤ e) && decide (e < a.pc + 8 * n)
    | none => false
  (aluBranch k && (decide (a.delay > 0) || nearEnd 3))
    || (decide (a.rep > 0) && aluNoRepeat k)
    || ((decide (k = .rep) || decide (k = .repr)) && nearEnd 1)
    || ((decide (k = .loopDo) || decide (k = .dor)) && decide (srLp a = 3))

/-- Access size of a sub-operation; 0 for none. -/
def lsSize : LsKind → Nat
  | .none => 0
  | .ldV | .stV => 16
  | _ => 4

/-- The fault of an access, if any (R228). -/
def accessFault (a : AsterCore) (s : Ls) : Option (Nat × Nat) :=
  let p := fget 0 a.p (s.k % 16)
  if s.kind = .none then none
  else if p + lsSize s.kind > 2 ^ 20 then some (fRange, p)
  else if p % lsSize s.kind ≠ 0 then some (fMisalign, p)
  else none

/-- The fields of a transfer descriptor at tile address `t` of core c (R244). -/
def xferAt (d : Dev) (c t : Nat) : Xfer :=
  let b := memRead d (tileAddr c t) 16
  ⟨t, leAt b 9 1, leAt b 0 4, leAt b 4 5, leAt b 12 4, 0⟩

/-- Is a descriptor well-formed (R244)? -/
def xferOk (d : Dev) (c t : Nat) : Bool :=
  let x := xferAt d c t
  decide (x.tile % 16 = 0) && (decide (x.kind = 4) || decide (x.remote % 16 = 0)) && decide (x.kind ≤ 4) && decide (x.length % 16 = 0)
    && decide (16 ≤ x.length) && decide (x.length ≤ 65536) && decide (x.tile + x.length ≤ 2 ^ 20)
    && decide (leVal (memRead d (tileAddr c t + 10) 2) = 0)

/-- Does a sub-operation load? -/
def lsLoads (s : Ls) : Bool :=
  match s.kind with
  | .ldV | .ldW | .ldB => true
  | _ => false

/-- Is tile byte t in a word with an uncorrectable error (R241)? -/
def tileBad (a : AsterCore) (t : Nat) : Bool := fget false a.badWord (t / 8)

/-- Does a load meet an uncorrectable error: one that the tile holds, or one that the bundle reports (R241)? -/
def loadBad (a : AsterCore) (s : Ls) (seen : Bool) : Bool :=
  let p := fget 0 a.p (s.k % 16)
  lsLoads s && (seen || tileBad a p || tileBad a (p + lsSize s.kind - 1))

/-- Does the fetch of a bundle meet an uncorrectable error (R241)? -/
def fetchBad (a : AsterCore) (b : Bundle) : Bool := b.eccFetch || tileBad a a.pc

/-- The fault of a bundle at issue: cause, and the data or descriptor address, or 0 (R249). Where one bundle breaks several rules the
first in this order counts: ECC of the fetch, ILLEGAL, SLOT, the X then the Y access (RANGE before MISALIGN), ECC of a load, then the
checks of the ALU operation. The spec gives no order: this is the model's choice (log 109). -/
def bundleFault (d : Dev) (c : Nat) (a : AsterCore) (b : Bundle) : Option (Nat × Nat) :=
  let t := rg a b.alu.ra
  if fetchBad a b then some (fEcc, 0)
  else if bundleLegal a b = false then some (fIllegal, 0)
  else if slotBroken a b.alu.kind then some (fSlot, 0)
  else if (accessFault a b.x).isSome then accessFault a b.x
  else if (accessFault a b.y).isSome then accessFault a b.y
  else if loadBad a b.x b.eccLoad then some (fEcc, fget 0 a.p (b.x.k % 16))
  else if loadBad a b.y b.eccLoadY then some (fEcc, fget 0 a.p (b.y.k % 16))
  else match b.alu.kind with
    | .jmpr => if t ≥ 2 ^ 20 then some (fRange, 0) else if t % 8 ≠ 0 then some (fMisalign, 0) else none
    | .xfer =>
      if t + 16 > 2 ^ 20 then some (fRange, t)
      else if t % 16 ≠ 0 then some (fMisalign, t)
      else if tileBad a t || tileBad a (t + 8) then some (fEcc, t)
      else if xferOk d c t then none else some (fXfer, t)
    | .xwait => a.failed.map (fun x => (fXfer, x))
    | .brk => if d.sys.mode = .boot ∨ d.sys.mode = .config then none else some (fBreak, 0)
    | _ => none

/-- Does a bundle wait at issue: XFER on a full queue, XWAIT on too many transfers (R244, R245)? -/
def bundleWaits (d : Dev) (c : Nat) (b : Bundle) : Bool :=
  match b.alu.kind with
  | .xfer => decide ((presentQueue d c).length ≥ 8)
  | .xwait => decide ((presentQueue d c).length > b.alu.imm)
  | _ => false

/-! ### The slots' results -/

/-- What a slot does: results by latency, sticky bits of sr, saturated lanes. -/
structure SlotOut where
  res : List (Nat × Tgt × Int) := []
  sticky : Nat := 0
  sats : Nat := 0

/-- The new pointer after an access (R229, R230). -/
def newPointer (a : AsterCore) (s : Ls) : Option Nat :=
  let p := fget 0 a.p (s.k % 16)
  let m := fget 0 a.m (s.k % 16)
  let step := sext 16 m
  let len := 4 * (m / 65536)
  -- 2^q is the smallest power of two at or above Len.
  let q := if len ≤ 1 then 0 else (len - 1).log2 + 1
  let b := p - p % 2 ^ q
  if s.mode = 0 then none
  else if s.mode = 1 then some (p + lsSize s.kind)
  else if s.mode = 2 then
    (if len = 0 then some (wrapN 32 ((p : Int) + step))
     else some (b + ((((p - b : Nat) : Int) + step) % (len : Int)).toNat))
  else some (b + bitRev q ((bitRev q (p - b) + bitRev q (wrapN q step)) % 2 ^ q))

/-- A sub-operation's loads, at issue (R219, R225). -/
def lsLoad (d : Dev) (c : Nat) (a : AsterCore) (s : Ls) : List (Nat × Tgt × Int) :=
  let p := fget 0 a.p (s.k % 16)
  let w (i : Nat) : Int := leVal (memRead d (tileAddr c (p + 4 * i)) 4)
  match s.kind with
  | .ldV => (List.range 4).map (fun i => (4, Tgt.v s.r i, w i))
  | .ldW => [(4, Tgt.g s.r, w 0)]
  | .ldB => (List.range 4).map (fun i => (4, Tgt.v s.r i, w 0))
  | _ => []

/-- A sub-operation's store: tile address and bytes. -/
def lsStore (a : AsterCore) (s : Ls) : Option (Nat × Bytes) :=
  let p := fget 0 a.p (s.k % 16)
  match s.kind with
  | .stV => some (p, (List.range 4).flatMap (fun i => leBytes 4 (fget 0 a.v (4 * (s.r % 16) + i))))
  | .stW => some (p, leBytes 4 (rg a s.r))
  | _ => none

/-- The load/store slot: X's results, then Y's; of one pointer only Y's modification is written (R219, R224). -/
def lsSlot (d : Dev) (c : Nat) (a : AsterCore) (b : Bundle) : SlotOut :=
  let mod (s : Ls) : List (Nat × Tgt × Int) := match s.kind, newPointer a s with
    | .none, _ => []
    | _, some p => [(1, Tgt.p s.k, (p : Int))]
    | _, none => []
  let same := decide (b.x.kind ≠ .none) && decide (b.y.kind ≠ .none) && decide (b.x.k = b.y.k)
  { res := lsLoad d c a b.x ++ (if same then [] else mod b.x) ++ lsLoad d c a b.y ++ mod b.y }

/-- An accumulator result: read by MAC operations after 1 bundle, by extraction after 3 (R223). -/
def accOut (n : Nat) (x : Int) : List (Nat × Tgt × Int) := [(1, Tgt.acc n, x), (3, Tgt.accExt n, x)]

/-- A sum leaves the 72-bit range (R231): sticky bit aov. -/
def aovBit (x : Int) : Nat := if satOvf 72 x then 2 ^ 17 else 0

/-- An extraction (R232): value and saturation. -/
def extractLane (a : AsterCore) (conv : Bool) (x : Int) : Int × Bool :=
  let r := if conv then rndEven x (srAsh a) else x / ((2 ^ srAsh a : Nat) : Int)
  (satI 32 r, satOvf 32 r)

/-- The four lanes of a quad operation. -/
def quadOut (n : Nat) (f : Nat → Int) : SlotOut :=
  { res := (List.range 4).flatMap (fun i => accOut (n + i) (f i))
    sticky := (List.range 4).foldl (fun s i => s ||| aovBit (f i)) 0 }

/-- Extraction into lanes, with sat and the count of lanes. -/
def extOut (vb : Nat) (xs : List (Nat × Int × Bool)) : SlotOut :=
  let n := (xs.filter (fun x => x.2.2)).length
  { res := xs.map (fun x => (2, Tgt.v vb x.1, x.2.1)), sticky := if n = 0 then 0 else 2 ^ 16, sats := n }

/-- The MAC operation as a number, for forwarding to the same operation (R223). -/
def macCode : MacKind → Nat
  | .vmaxIdx => 15
  | .vminIdx => 16
  | .vmaxaIdx => 17
  | _ => 0

/-- Lane i of v(r) as an extreme operation reads it: what the same operation wrote one bundle before, if that named r as
its vb or its vb + 1 (R223). -/
def extremeRead (a : AsterCore) (k : MacKind) (r i : Nat) : Int :=
  match a.fwd with
  | some f =>
    if f.due ≠ a.n ∨ f.op ≠ macCode k then rv a r i
    else if f.vb = r % 16 then ((f.val.getD i none).getD (rv a r i))
    else if f.vb + 1 = r % 16 then ((f.idx.getD i none).getD (rv a r i))
    else rv a r i
  | none => rv a r i

/-- One lane of an extreme operation: compared value, saturation, and whether it takes (R238). -/
def extremeTest (k : MacKind) (x best : Int) : Int × Bool × Bool :=
  match k with
  | .vminIdx => (x, false, decide (x < best))
  | .vmaxaIdx => (satI 32 (x.natAbs : Int), satOvf 32 (x.natAbs : Int), decide (satI 32 (x.natAbs : Int) > best))
  | _ => (x, false, decide (x > best))

/-- The result of an extreme operation: of each lane whose test holds, the value and its index; and whether a magnitude
saturated (R238). -/
def extremeRun (a : AsterCore) (m : Mac) : List (Option (Int × Int)) × Bool :=
  let t (i : Nat) := extremeTest m.kind (extremeRead a m.kind m.va i) (extremeRead a m.kind m.vb i)
  ((List.range 4).map (fun i => if (t i).2.2 then some ((t i).1, ((4 * a.xi + i : Nat) : Int)) else none),
    (List.range 4).any (fun i => (t i).2.1))

/-- The MAC slot (R220, R231, R232, R238). -/
def macSlot (a : AsterCore) (m : Mac) : SlotOut :=
  let prod (i : Nat) : Int := rv a m.va i * rv a m.vb i
  let dot : Int := prod 0 + prod 1 + prod 2 + prod 3
  match m.kind with
  | .none => {}
  | .vmul => quadOut m.a prod
  | .vmac => quadOut m.a (fun i => racc a (m.a + i) + prod i)
  | .vmsu => quadOut m.a (fun i => racc a (m.a + i) - prod i)
  | .vmacb => quadOut m.a (fun i => racc a (m.a + i) + rv a m.va i * rv a m.vb 0)
  | .vdot => { res := accOut m.a dot }
  | .vdota => { res := accOut m.a (racc a m.a + dot), sticky := aovBit (racc a m.a + dot) }
  | .vclr => { res := (List.range 4).flatMap (fun i => accOut (m.a + i) 0) }
  | .vlda => { res := (List.range 4).flatMap (fun i => accOut (m.a + i) (wrap72 (rv a m.va i * ((2 ^ srAsh a : Nat) : Int)))) }
  | .vext => extOut m.vb ((List.range 4).map (fun i => (i, extractLane a true (raccExt a (m.a + i)))))
  | .vextT => extOut m.vb ((List.range 4).map (fun i => (i, extractLane a false (raccExt a (m.a + i)))))
  | .vext1 => extOut m.vb [(m.va % 4, extractLane a true (raccExt a m.a))]
  | .vext1T => extOut m.vb [(m.va % 4, extractLane a false (raccExt a m.a))]
  | .vrda =>
    let w := wrapN 72 (raccExt a m.a)
    { res := [(2, Tgt.v m.vb 0, ((w % 2 ^ 32 : Nat) : Int)), (2, Tgt.v m.vb 1, ((w / 2 ^ 32 % 2 ^ 32 : Nat) : Int)),
              (2, Tgt.v m.vb 2, sext 8 (w / 2 ^ 64)), (2, Tgt.v m.vb 3, 0)] }
  | .vwra =>
    let u (i : Nat) : Nat := wrapN 32 (rv a m.va i)
    { res := accOut m.a (sext 72 (u 2 % 256 * 2 ^ 64 + u 1 * 2 ^ 32 + u 0)) }
  | .vmaxIdx | .vminIdx | .vmaxaIdx =>
    let r := extremeRun a m
    { res := (List.range 4).flatMap (fun i => match r.1.getD i none with
          | some x => [(2, Tgt.v m.vb i, x.1), (2, Tgt.v (m.vb + 1) i, x.2)]
          | none => [])
        ++ [(1, Tgt.sys 12, (((a.xi + 1) % 65536 : Nat) : Int))]
      sticky := if r.2 then 2 ^ 16 else 0 }

/-- A saturating scalar or lane result with sr.sat (R233). -/
def satOut (lat : Nat) (xs : List (Tgt × Int)) : SlotOut :=
  { res := xs.map (fun x => (lat, x.1, satI 32 x.2))
    sticky := if xs.any (fun x => satOvf 32 x.2) then 2 ^ 16 else 0 }

/-- A lane-wise vector result. -/
def lanesOut (rd : Nat) (f : Nat → Int) : SlotOut := { res := (List.range 4).map (fun i => (2, Tgt.v rd i, f i)) }

/-- The reduction of R239: the value and the lowest index among equals. -/
def reduceLanes (a : AsterCore) (ra : Nat) (larger : Bool) : Int × Int :=
  (List.range 3).foldl (fun (acc : Int × Int) i =>
    let x := rv a ra (i + 1)
    let ix := rv a (ra + 1) (i + 1)
    let better := if larger then decide (x > acc.1) else decide (x < acc.1)
    if better || (decide (x = acc.1) && decide (wrapN 32 ix < wrapN 32 acc.2)) then (x, ix) else acc)
    (rv a ra 0, rv a (ra + 1) 0)

/-- The ALU slot's register results (R221, R222). Control flow and transfers follow in `issueFlow`. -/
def aluSlot (d : Dev) (c : Nat) (a : AsterCore) (u : Alu) : SlotOut :=
  let x : Int := sext 32 (rg a u.rd)
  let y : Int := sext 32 (rg a u.ra)
  let ux := rg a u.rd
  let uy := rg a u.ra
  let g1 (v : Int) : SlotOut := { res := [(1, Tgt.g u.rd, v)] }
  match u.kind with
  | .mov => g1 y
  | .add => g1 (x + y)
  | .sub => g1 (x - y)
  | .adds => satOut 1 [(Tgt.g u.rd, x + y)]
  | .and => g1 ((ux &&& uy : Nat) : Int)
  | .or => g1 ((ux ||| uy : Nat) : Int)
  | .xor => g1 ((ux ^^^ uy : Nat) : Int)
  | .sll => g1 ((ux <<< (uy % 32) : Nat) : Int)
  | .srl => g1 ((ux >>> (uy % 32) : Nat) : Int)
  | .sra => g1 (x / ((2 ^ (uy % 32) : Nat) : Int))
  | .min => g1 (min x y)
  | .max => g1 (max x y)
  | .mul => { res := [(3, Tgt.g u.rd, x * y)] }
  | .movp => { res := [(2, Tgt.p u.rd, y)] }
  | .movm => { res := [(2, Tgt.m u.rd, y)] }
  | .rdp => g1 ((fget 0 a.p (u.ra % 16) : Nat) : Int)
  | .rdm => g1 ((fget 0 a.m (u.ra % 16) : Nat) : Int)
  | .vlane => g1 (rv a u.ra u.imm)
  | .vins => { res := [(2, Tgt.v u.rd u.imm, y)] }
  | .vsplat => lanesOut u.rd (fun _ => y)
  | .vadds => satOut 2 ((List.range 4).map (fun i => (Tgt.v u.rd i, rv a u.rd i + rv a u.ra i)))
  | .vsubs => satOut 2 ((List.range 4).map (fun i => (Tgt.v u.rd i, rv a u.rd i - rv a u.ra i)))
  | .vabs => satOut 2 ((List.range 4).map (fun i => (Tgt.v u.rd i, ((rv a u.ra i).natAbs : Int))))
  | .vmaxv => lanesOut u.rd (fun i => max (rv a u.rd i) (rv a u.ra i))
  | .vminv => lanesOut u.rd (fun i => min (rv a u.rd i) (rv a u.ra i))
  | .vredmax => let r := reduceLanes a u.ra true; { res := [(2, Tgt.g u.rd, r.1), (2, Tgt.g (u.rd + 1), r.2)] }
  | .vredmin => let r := reduceLanes a u.ra false; { res := [(2, Tgt.g u.rd, r.1), (2, Tgt.g (u.rd + 1), r.2)] }
  | .mfs => g1 ((sysRead d c u.ra : Nat) : Int)
  | .mts =>
    -- While an item runs, sr.pe stays 1 (R247).
    let v := if u.rd = 0 ∧ ((box d c).state = 2 ∨ (box d c).state = 3) then uy ||| 4 else uy
    { res := [(2, Tgt.sys u.rd, (v : Int))] }
  | .addi => g1 (y + sext 18 u.imm)
  | .andi => g1 ((uy &&& u.imm : Nat) : Int)
  | .ori => g1 ((uy ||| u.imm : Nat) : Int)
  | .xori => g1 ((uy ^^^ u.imm : Nat) : Int)
  | .slli => g1 ((uy <<< (u.imm % 32) : Nat) : Int)
  | .srli => g1 ((uy >>> (u.imm % 32) : Nat) : Int)
  | .srai => g1 (y / ((2 ^ (u.imm % 32) : Nat) : Int))
  | .call => { res := [(1, Tgt.g 31, ((a.pc + 24 : Nat) : Int))] }
  | .setxi => { res := [(1, Tgt.sys 12, (u.imm : Int))] }
  | .li => g1 (u.imm : Int)
  | .rti => { res := [(3, Tgt.srFromEsr, 0)] }
  | .repr => { sticky := if uy % 8192 > 4096 then 2 ^ 18 else 0 }
  | _ => {}

/-! ### Control flow (R226, R234 to R237) -/

/-- Is the branch of an ALU slot taken, and to which address? -/
def branchTo (a : AsterCore) (u : Alu) : Option Nat :=
  let x : Int := sext 32 (rg a u.rd)
  let y : Int := sext 32 (rg a u.ra)
  let rel (w : Nat) : Nat := wrapN 20 ((a.pc : Int) + 8 * sext w u.imm)
  let cond (b : Bool) : Option Nat := if b then some (rel 18) else none
  match u.kind with
  | .beq => cond (decide (x = y))
  | .bne => cond (decide (x ≠ y))
  | .blt => cond (decide (x < y))
  | .bge => cond (decide (y ≤ x))
  | .bltu => cond (decide (rg a u.rd < rg a u.ra))
  | .bgeu => cond (decide (rg a u.ra ≤ rg a u.rd))
  | .jmp => some (rel 28)
  | .call => some (rel 28)
  | .jmpr => some (rg a u.ra)
  | .rti => some (a.epc % 2 ^ 20 / 8 * 8)
  | _ => none

/-- What the loop hardware writes into loop register i (MTS index 3 to 11) is the result of the later bundle: an MTS due
for the same bundle no longer lands (R224). -/
def overLoop (i : Nat) (a : AsterCore) : AsterCore :=
  { a with inflight := a.inflight.filter (fun r => !(decide (r.tgt = .sys i) && decide (r.due ≤ a.n + 1))) }

/-- The loop hardware sets lp for the next bundle, over what an MTS or RTI has due for that bundle (R224, R236). -/
def setLp (lp : Nat) (a : AsterCore) : AsterCore :=
  { a with
    sr := setBits a.sr 1 0 lp
    inflight := a.inflight.map (fun r =>
      if r.due > a.n + 1 then r
      else if r.tgt = .sys 0 then { r with val := ((setBits (wrapN 32 r.val) 1 0 lp : Nat) : Int) }
      else if r.tgt = .srFromEsr then { r with val := ((setBits (wrapN 32 r.val) 3 0 (8 + lp) : Nat) : Int) }
      else r) }

/-- The loop-end rule after the bundle at pc: new state and the next address (R237). -/
def loopRule (a : AsterCore) : AsterCore × Nat :=
  let seq := (a.pc + 8) % 2 ^ 20
  match loopEnd a with
  | none => (a, seq)
  | some e =>
    if a.pc ≠ e then (a, seq) else
    let n := srLp a - 1
    let c := fget 0 a.lc n
    if c > 1 then (overLoop (3 + n) { a with lc := fput 0 a.lc n (c - 1) }, fget 0 a.ls n)
    else (setLp n a, seq)

/-- Opens a loop level, or skips the body at a count of 0 (R236). -/
def openLoop (a : AsterCore) (count stop : Nat) : AsterCore × Option Nat :=
  let lp := srLp a
  let e := (a.pc + 8 * stop) % 2 ^ 20
  if count = 0 then (a, some ((e + 8) % 2 ^ 20))
  else (overLoop (3 + lp) <| overLoop (6 + lp) <| overLoop (9 + lp) <| setLp (lp + 1) { a with
    ls := fput 0 a.ls lp ((a.pc + 8) % 2 ^ 20), la := fput 0 a.la lp e, lc := fput 0 a.lc lp count }, none)

/-- The next address after a bundle, with the branch and its delay slots, the repetition and the loop levels. A repeated
bundle is one delay slot. -/
def issueFlow (a : AsterCore) (u : Alu) : AsterCore :=
  if a.rep > 1 then { a with rep := a.rep - 1 }
  else
    let r := loopRule { a with rep := 0, delay := if aluBranch u.kind then 2 else a.delay - 1 }
    let b := r.1
    let o : AsterCore × Option Nat := match u.kind with
      | .loopDo => openLoop { b with pc := a.pc } u.cnt u.imm
      | .dor => openLoop { b with pc := a.pc } (rg a u.rd) u.imm
      | .rep => ({ b with rep := u.cnt }, none)
      | .repr =>
        let n := min (rg a u.ra % 8192) 4096
        if n = 0 then (b, some ((a.pc + 16) % 2 ^ 20)) else ({ b with rep := n }, none)
      | .leave => (if srLp a = 0 then b else setLp (srLp a - 1) b, none)
      | _ => (b, none)
    let next := o.2.getD r.2
    match a.br with
    | some (t, k) => if k ≤ 1 then { o.1 with pc := t, br := none } else { o.1 with pc := next, br := some (t, k - 1) }
    | none =>
      match branchTo a u with
      | some t => { o.1 with pc := next, br := some (t, 2) }
      | none => { o.1 with pc := next }

/-! ### Issue -/

/-- Sticky bits are set at once, and survive an MTS to sr, or an RTI's copy, of the same or an earlier bundle (R217,
R224). -/
def setSticky (s : Nat) (a : AsterCore) : AsterCore :=
  { a with
    sr := a.sr ||| s
    inflight := a.inflight.map (fun r =>
      if r.tgt = .sys 0 ∨ r.tgt = .srFromEsr then { r with val := ((wrapN 32 r.val ||| s : Nat) : Int) } else r) }

/-- Cycle counters: one CORE cycle in the state that the mailbox shows (R252). -/
def countCycle (c : Nat) (d : Dev) : Dev :=
  let lo := rdN d (asterA c + 0x18) + 1
  let d := wrN (asterA c + 0x18) lo d
  let d := if lo ≥ 2 ^ 32 then wrN (asterA c + 0x1C) (rdN d (asterA c + 0x1C) + 1) d else d
  if onQueueD d c then incCnt (asterA c + 0x20) d
  else if (box d c).state = 2 ∨ (box d c).state = 3 then incCnt (asterA c + 0x24) d
  else d

/-- Queues a transfer, by its checked descriptor, in the present queue (R244, R245). -/
def queueXfer (c : Nat) (x : Xfer) (d : Dev) : Dev :=
  let a := acore d c
  putCore c (if onQueueD d c then { a with queueD := a.queueD ++ [x] } else { a with queueB := a.queueB ++ [x] }) d

/-- The runtime jumps to the code of the deadline task in the mailbox: dispatch latency ends with the first bundle of the task's own
code, taken here at that jump (R202; DEDUCED, log 95). -/
def taskEntered (c : Nat) (d : Dev) : Dev :=
  let b := box d c
  let ready := match runningEntry d 2 c b.word with
    | some e => e.2.readyAt
    | none => nowNs d
  sawLatency ready (putBox c { b with state := 1, entered := true } d)

/-- The mailbox after RTI or JMPR of the switch handler: a restored item runs on; a deadline task has been entered
(R201, R247, R248). -/
def handlerLeaves (c : Nat) (k : AluKind) (d : Dev) : Dev :=
  let b := box d c
  if b.state = 1 ∧ b.entered = false ∧ k = .jmpr then taskEntered c d
  else if b.state ≠ 4 then d
  else if k = .rti ∧ b.heldState ≠ 0 ∧ b.word = b.heldWord then
    putBox c { b with state := b.heldState, heldState := 0, heldWord := 0, heldRef := 0, heldArg := 0 } d
  else if k = .jmpr ∧ b.word ≠ b.heldWord then
    taskEntered c d
  else d

/-- The side of an issued bundle outside its core's registers: stores, transfers, completion, halting. -/
def issueEffects (c : Nat) (a : AsterCore) (b : Bundle) (d : Dev) : Dev :=
  let store (s : Ls) (d : Dev) : Dev := match lsStore a s with
    | some (p, bs) =>
      -- A whole 64-bit word that is written anew has no error any more.
      let a := acore d c
      let whole := bs.length / 8
      let d := if whole = 0 then d else putCore c { a with
        badWord := a.badWord.filter (fun e => !(decide (p / 8 ≤ e.1) && decide (e.1 < p / 8 + whole))) } d
      memWrite (tileAddr c p) bs d
    | none => d
  -- The descriptor queued is the one the bundle was judged on, before its own stores (R244; DESIGN CHOICE, log 57).
  let x := xferAt d c (rg a b.alu.ra)
  let d := store b.y (store b.x d)
  match b.alu.kind with
  | .xfer => queueXfer c x d
  | .done => coreDone c (rg a b.alu.ra) b.code d
  | .idle =>
    let n := acore d c
    putCore c (if n.sig then { n with sig := false } else { n with idle := true }) d
  | .brk => putCore c { acore d c with status := 3 } d
  | .rti => handlerLeaves c .rti d
  | .jmpr => handlerLeaves c .jmpr d
  | _ => d

/-- A fault at issue; an uncorrectable tile error is recorded at the word of the fetch or of the load (R241, R249). -/
def issueFault (c : Nat) (a : AsterCore) (b : Bundle) (cause addr : Nat) (d : Dev) : Dev :=
  asterFault c cause addr
    (if cause = fEcc then sramUe 2 (c * 0x100000 + (if fetchBad a b then a.pc else addr)) d else d)

/-- Issues a bundle of a core whose results due have landed: fault, wait, or every slot's effect (R223 to R225). Its fetch
counts the single-bit errors that it corrects (R241). -/
def issueNow (b : Bundle) (d : Dev) : Dev :=
  let c := b.core
  let a := landTo (acore d c).n (acore d c)
  let d := forN b.ce (fun _ => sramCe 2) (putCore c a d)
  match bundleFault d c a b with
  | some (cause, addr) => issueFault c a b cause addr d
  | none =>
    if bundleWaits d c b then incCnt (asterA c + 0x28) (countCycle c d)
    else
      let ls := lsSlot d c a b
      let mac := macSlot a b.mac
      let alu := aluSlot d c a b.alu
      let fwd := if macExtreme b.mac.kind then
          let r := extremeRun a b.mac
          some ⟨a.n + 1, macCode b.mac.kind, b.mac.vb, r.1.map (·.map (·.1)), r.1.map (·.map (·.2))⟩
        else none
      let res := (ls.res ++ mac.res ++ alu.res).map (fun r => (⟨a.n + r.1, r.2.1, r.2.2⟩ : Res))
      let next := issueFlow a b.alu
      let next := setSticky (mac.sticky ||| alu.sticky) { next with inflight := next.inflight ++ res, n := a.n + 1, fwd := fwd }
      let d := putCore c next (countCycle c d)
      let d := wrN (asterA c + 8) a.pc d
      let d := if mac.sats = 0 then d else addCnt (asterA c + 0x30) mac.sats d
      let d := if alu.sticky.testBit 18 then incCnt (asterA c + 0x2C) d else d
      issueEffects c a b d

/-- A core issues a bundle: only while it runs and IDLE has not stopped issue (R246, R251). -/
def issue (b : Bundle) (d : Dev) : Dev :=
  let a := acore d b.core
  if b.core < 16 ∧ a.status = 1 ∧ a.idle = false then issueNow b d else d

/-! ### Events of a core -/

/-- ASTER_CTRL is written: run going from 0 to 1 resets and starts the core, 1 to 0 holds it in reset (R215, R252).
A core that left dispatch returns in CONFIG (R250). -/
def asterRun (c v : Nat) (d : Dev) : Dev :=
  if d.sys.mode ≠ .boot ∧ d.sys.mode ≠ .config then lockedWrite (asterA c) d
  else if bits v 7 4 > 13 then setFlag (asterA c + 4) 9 d
  else
    let was := bitAt d (asterA c) 0
    let now := v.testBit 0
    let a := acore d c
    let d := wrN (asterA c) (bits v 7 4 * 16 + bits v 1 0) d
    if now && !was then
      let d := wrN (asterA c + 0x18) 0 (wrN (asterA c + 0x1C) 0 d)
      let d := putCore c { coreReset a with sig := decide ((box d c).state ≠ 0) } d
      if (List.range 16).any (fun i => (acore d i).left) then d
      else { d with disp := { d.disp with lateFrom := none } }
    else if was && !now then
      let d := if a.queueD = [] ∧ a.queueB = [] then d else setFlag 0x1C0004 3 d
      coreFreed c (putCore c { a with status := 0, idle := false, sig := false, queueD := [], queueB := [], inflight := [], br := none, delay := 0, rep := 0, left := false } d)
    else d

/-- The switch: at an eligible boundary, after the drain, the core enters the handler (R199, R247). -/
def switchEntry (c : Nat) (d : Dev) : Dev :=
  let a := acore d c
  let b := box d c
  if b.nextWord.isNone ∨ a.status ≠ 1 ∨ a.rep > 0 ∨ a.delay > 0 ∨ (b.state ≠ 2 ∧ b.state ≠ 3) then d
  else
    -- An item reads sr with pe at 1, and so does esr.
    let a := drain a
    preemptTaken c (putCore c { a with
      epc := a.pc, esr := a.sr ||| 4, sr := setBits (setBits a.sr 1 0 0) 2 2 0, pc := 0x100, idle := false, sig := false } d)

/-- The head transfer of queue D, else of queue B. -/
def headXfer (a : AsterCore) : Option Xfer := match a.queueD with
  | x :: _ => some x
  | [] => a.queueB.head?

/-- Replaces or removes the head transfer. -/
def setHead (a : AsterCore) (x : Option Xfer) : AsterCore :=
  match a.queueD with
  | _ :: rest => { a with queueD := x.toList ++ rest }
  | [] => { a with queueB := x.toList ++ a.queueB.drop 1 }

/-! ### Debug (R251) -/

/-- Does a write of ASTER_DBG_CMD take effect: in BOOT or CONFIG, and in the state the command needs? Otherwise it is
discarded, locked or refused. -/
def dbgCommand (c : Nat) (needHalted : Bool) (act : Dev → Dev) (d : Dev) : Dev :=
  if d.sys.mode ≠ .boot ∧ d.sys.mode ≠ .config then lockedWrite (asterA c + 0x48) d
  else if needHalted ∧ (acore d c).status ≠ 3 then setFlag (asterA c + 4) 9 d
  else act d

/-- ASTER_DBG_CMD bit 0: halt. A core that is halted stays so; one in reset or faulted refuses. -/
def dbgHalt (c : Nat) (d : Dev) : Dev :=
  dbgCommand c false (fun d =>
    if (acore d c).status = 1 ∨ (acore d c).status = 3 then putCore c { acore d c with status := 3 } d
    else setFlag (asterA c + 4) 9 d) d

/-- ASTER_DBG_CMD bit 1: resume. -/
def dbgResume (c : Nat) (d : Dev) : Dev :=
  dbgCommand c true (fun d => putCore c { acore d c with status := 1 } d) d

/-- ASTER_DBG_CMD bit 2: one bundle issues and the core halts again. -/
def dbgStep (b : Bundle) (d : Dev) : Dev :=
  dbgCommand b.core true (fun d =>
    let d := issueNow b (putCore b.core { acore d b.core with status := 1, idle := false } d)
    let a := acore d b.core
    if a.status = 1 then putCore b.core { a with status := 3 } d else d) d

/-- The debug view of a core: results in flight of issued bundles that have landed by its next bundle. -/
def dbgView (d : Dev) (c : Nat) : AsterCore := landTo (acore d c).n (acore d c)

/-- The word that a selector reads (R252). -/
def dbgRead (d : Dev) (c sel : Nat) : Nat :=
  let a := dbgView d c
  if sel < 0x20 then rg a sel
  else if sel < 0x60 then fget 0 a.v (sel - 0x20)
  else if sel < 0x78 then
    let w := wrapN 72 (racc a ((sel - 0x60) / 3))
    if (sel - 0x60) % 3 = 0 then w % 2 ^ 32
    else if (sel - 0x60) % 3 = 1 then w / 2 ^ 32 % 2 ^ 32
    else wrapN 32 (sext 8 (w / 2 ^ 64))
  else if sel < 0x80 then 0
  else if sel < 0x90 then fget 0 a.p (sel - 0x80)
  else if sel < 0xA0 then fget 0 a.m (sel - 0x90)
  else if sel < 0xB5 then sysRead (putCore c a d) c (sel - 0xA0)
  else 0

/-- The core with a debug word written (R252). System registers that are RO stay. -/
def dbgPut (a : AsterCore) (sel v : Nat) : AsterCore :=
  if sel < 0x20 then landOne ⟨0, .g sel, (v : Int)⟩ a
  else if sel < 0x60 then { a with v := fput 0 a.v (sel - 0x20) v }
  else if sel < 0x78 then
    let n := (sel - 0x60) / 3
    let w := wrapN 72 (racc a n)
    let w := if (sel - 0x60) % 3 = 0 then setBits w 31 0 v
      else if (sel - 0x60) % 3 = 1 then setBits w 63 32 v
      else setBits w 71 64 (v % 256)
    { a with acc := fput 0 a.acc n (sext 72 w), accExt := fput 0 a.accExt n (sext 72 w) }
  else if sel < 0x80 then a
  else if sel < 0x90 then { a with p := fput 0 a.p (sel - 0x80) v }
  else if sel < 0xA0 then { a with m := fput 0 a.m (sel - 0x90) v }
  else if sel ≤ 0xAC then landOne ⟨0, .sys (sel - 0xA0), (v : Int)⟩ a
  else a

/-- A write of ASTER_DBG_DATA sets the selected word while the core is halted, or is refused (R251). -/
def dbgDataWrite (c v : Nat) (d : Dev) : Dev :=
  if (acore d c).status = 3 then putCore c (dbgPut (dbgView d c) (fld d (asterA c + 0x40) 7 0) v) d
  else setFlag (asterA c + 4) 9 d

/-- ASTER_STATUS.state (R252). -/
def asterState (d : Dev) (c : Nat) : Nat :=
  match (acore d c).status with
  | 0 => 0
  | 2 => 5
  | 3 => 6
  | _ => match (box d c).state with
    | 1 => 2
    | 2 => 3
    | 3 => 3
    | 4 => 4
    | _ => 1

end Sys2Proof.Machine
end

