-- ==== Sys2Proof/Machine/Rings.lean ====
section
/-!
DEFINITION. Rings and interrupts as the host works them: doorbells, RING_CFG, halts, host-produced entries, MSI-X and
the IRQ_N balls, the holding queue and the reset of the host link (R412 to R423, R430).
-/

namespace Sys2Proof.Machine

/-! ### The endpoint (R411) -/

/-- A word of the header of configuration space (R411): the identifiers, the class code, BAR0 and BAR2 as 64-bit and
non-prefetchable, no other BAR. -/
def pcieHeader (d : Dev) (off : Nat) : Option Nat :=
  let c := d.host.pcie
  if off = 0 then some (0x5120 * 2 ^ 16 + Config.vendorId.toNat)
  else if off = 8 then some (0x040100 * 2 ^ 8)
  else if off = 0x10 then some (c.bar0 % 2 ^ 32 / 2 ^ 24 * 2 ^ 24 + 4)
  else if off = 0x14 then some (c.bar0 / 2 ^ 32 % 2 ^ 32)
  else if off = 0x18 then some (c.bar2 % 2 ^ 32 / 2 ^ 16 * 2 ^ 16 + 4)
  else if off = 0x1C then some (c.bar2 / 2 ^ 32 % 2 ^ 32)
  else if off = 0x20 ∨ off = 0x24 then some 0
  else none

/-! ### Halts (R417) -/

/-- A capture or port-receive ring begins its next entry afresh: what a begun one holds is given up (R418, R420, R421). -/
def entryAnew (r : Nat) (d : Dev) : Dev :=
  if 65 ≤ r ∧ r ≤ 72 then
    { d with dec := { d.dec with caps := fupd {} d.dec.caps (r - 65) (fun x => { x with placed := 0, partly := false }) } }
  else if 33 ≤ r ∧ r ≤ 64 then { d with aport := { d.aport with placed := fput 0 d.aport.placed r 0 } }
  else d

/-- A ring halts with a flag of RING_STATUS and HOST_RING_ERR with r and a value (R417). -/
def ringHalt (r flag value : Nat) (d : Dev) : Dev :=
  let d := entryAnew r d
  raiseEvent evHostRingErr (leBytes 1 r ++ leBytes 4 value) (setFlag (ringA r + 0x20) flag (setFlag (ringA r + 0x20) 1 d))

/-- A PCI Express error on an entry or buffer of a ring (R417). -/
def ringPcieErr (r : Nat) (d : Dev) : Dev := ringHalt r 9 (ringDev d r) d

/-! ### IRQ_N (R423) -/

/-- Does a ring mapped to a pin hold it low: it has signalled and its doorbell has not caught up? -/
def ringHoldsPin (d : Dev) (pin r : Nat) : Bool :=
  decide (fld d (ringA r) 24 16 % 16 = pin) && (ringSt d r).signalled && decide (ringHost d r ≠ ringDev d r)

/-- The level of IRQ_N[pin]. -/
def irqLevel (d : Dev) (pin : Nat) : Nat := b2n (!(List.range 74).any (ringHoldsPin d pin))

/-- Drives the pin of a ring's vector when it changes in pin mode. -/
def irqUpdate (r : Nat) (before : Nat) (d : Dev) : Dev :=
  let pin := fld d (ringA r) 24 16 % 16
  if bitAt d 0x30000 0 && decide (irqLevel d pin ≠ before) then emit (.ball "IRQ_N" pin (irqLevel d pin)) d else d

/-! ### Doorbells (R415, R417) -/

/-- Is a doorbell value in order: no more than N held, no index moved backwards (R417)? -/
def doorbellOk (d : Dev) (r v : Nat) : Bool :=
  let step := subMod 32 v (ringHost d r)
  if ringDevProduces r then decide (step ≤ ringHeld d r) else decide (ringHeld d r + step ≤ ringSize d r)

/-- A doorbell write to a ring (R415, R417). A port-receive ring that held no entry starts at the next quantum (R420). -/
def doorbell (r v : Nat) (d : Dev) : Dev :=
  if ringRunning d r = false then wrN (ringA r + 0x1C) v d
  else if doorbellOk d r v then
    let before := irqLevel d (fld d (ringA r) 24 16 % 16)
    let d := if decide (33 ≤ r) && decide (r ≤ 64) && decide (ringHeld d r = 0) then
        { d with aport := { d.aport with rxNext := fput 0 d.aport.rxNext r (qnNow d + 1) } }
      else d
    let d := wrN (ringA r + 0x1C) v d
    let d := if v = ringDev d r then putRing r { ringSt d r with signalled := false } d else d
    irqUpdate r before d
  else ringHalt r 8 v d

/-- A write at a BAR2 offset (R415): one that is not of 32 bits, not aligned or above the last ring is discarded. -/
def doorbellWrite (off : Nat) (v : BarWrite) (d : Dev) : Dev :=
  if v.bytes = 4 ∧ off % 4 = 0 ∧ off / 4 < 74 then doorbell (off / 4) (v.value % 2 ^ 32) d else d

/-! ### RING_CFG (R418, R445) -/

/-- Are the fields of a RING_CFG value in range for ring r? -/
def ringCfgOk (r v : Nat) : Bool :=
  let events := v.testBit 9
  let kind := bits v 11 10
  let audio := decide (33 ≤ r) && decide (r ≤ 64)
  decide (4 ≤ bits v 4 0) && decide (bits v 4 0 ≤ 16)
    && (!events || (decide (1 ≤ r) && decide (r ≤ 16)))
    && decide (kind ≠ 3) && (audio || decide (kind = 0))

/-- A write of RING_CFG (R418). -/
def ringCfgWrite (r v : Nat) (d : Dev) : Dev :=
  let v := bits v 4 0 + bits v 24 8 * 2 ^ 8
  if !ringCfgOk r v || (ringEnabled d r && v.testBit 8) then setFlag 0x30004 9 d
  else
    let d := wrN (ringA r) v d
    if v.testBit 8 then
      let d := wrN (ringA r + 0x18) (ringHost d r) d
      putRing r { gap := (ringSt d r).gap } (entryAnew r (clrFlag (ringA r + 0x20) 1 d))
    else d

/-- RING_STATUS as read: running is enabled and not halted (R445). -/
def ringStatus (d : Dev) (r : Nat) : Nat := setBits (rdN d (ringA r + 0x20)) 0 0 (b2n (ringRunning d r))

/-! ### Moderation and MSI-X (R422) -/

/-- RING_MOD.time_us has passed since the first entry that no signal announced. -/
def moderationExpiry (r : Nat) (d : Dev) : Dev :=
  let us := fld d (ringA r + 4) 31 16
  if us = 0 ∨ (ringSt d r).count = 0 ∨ nowNs d < (ringSt d r).since + 1000 * us then d else ringSignal r d

/-- A write of an MSI-X table word; a vector that is pending and becomes unmasked sends, but with pin_mode at 1 none does (R422,
R423). -/
def msixWrite (a v : Nat) (d : Dev) : Dev :=
  let d := wrN a v d
  let vec := (a - 0x38000) / 16
  if a % 16 = 12 && !v.testBit 0 && !bitAt d 0x30000 0 && bitAt d (0x3A000 + 4 * (vec / 32)) (vec % 32) then
    msixSend vec (clrFlag (0x3A000 + 4 * (vec / 32)) (vec % 32) d)
  else d

/-! ### The holding queue (R430) -/

/-- The completion at the head of the holding queue is judged again and leaves it when its ring has room, or none
runs (R429, R430). -/
def completionRelease (d : Dev) : Dev :=
  match d.host.holding with
  | [] => d
  | c :: rest =>
    let go := { d with host := { d.host with holding := rest } }
    match complRing d c.cring with
    | none => incCnt 0x30010 go
    | some r => if ringFull d r then d else ringProduce r (complBytes c) go

/-! ### Host-produced entries (R419) -/

/-- Marks the entry at the device's index with a status and the time, and consumes it (R416, R419). -/
def entryFinish (r status : Nat) (d : Dev) : Dev :=
  let a := addr64 d (ringA r + 8) + (ringDev d r % ringSize d r) * 32
  let d := emit (.hostWrite (a + 15) (leBytes 1 status)) d
  ringAdvance r (emit (.hostWrite (a + 24) (leBytes 4 (ct32 d))) d)

/-- Are the reserved fields of an audio or capture entry zero (R417, R419)? `object` says that channels is used and
`qn` that the entry names a quantum. -/
def entryReserved (object qn : Bool) (e : Bytes) : Bool :=
  zeroAt e 21 3 && zeroAt e 28 4 && (object || zeroAt e 12 2) && (qn || zeroAt e 16 5)

/-- Is an entry well formed, with a buffer of at least `need` bytes (R419)? -/
def entryOk (object : Bool) (need : Nat) (e : Bytes) : Bool :=
  decide (leAt e 0 8 % 64 = 0) && decide (leAt e 8 4 % 64 = 0) && decide (1 ≤ leAt e 14 1) && decide (leAt e 14 1 ≤ 32)
    && (!object || (decide (1 ≤ leAt e 12 2) && decide (leAt e 12 2 ≤ 1024))) && decide (need ≤ leAt e 8 4)

/-- An entry that cannot be used: marked 0x03, consumed, and counted when a reserved field is not zero. -/
def entryBad (r : Nat) (reserved : Bool) (d : Dev) : Dev :=
  entryFinish r 3 (if reserved then d else setFlag (ringA r + 0x20) 10 d)

/-! ### The host link (R412) -/

/-- A Function Level Reset, hot reset or link-down: every ring is disabled and the ring registers of HOSTIF return to
their reset values, and so does configuration space; completions of commands in flight from the host are dropped (R412). -/
def hostLinkReset (linkDown : Bool) (d : Dev) : Dev :=
  let keep (a : Nat) : Bool := !(decide (0x31000 ≤ a) && decide (a < 0x31000 + 0x40 * 74))
  let d := { d with
    regs := d.regs.filter (fun e => keep e.1)
    aport := { d.aport with placed := [] }
    dec := { d.dec with caps := d.dec.caps.map (fun e => (e.1, { e.2 with placed := 0, partly := false })) }
    host := { d.host with
      rings := [], pcie := {}
      waitQ := d.host.waitQ.filter (fun w => decide (w.hdr.src ≠ .host))
      inflight := d.host.inflight.map (fun f => if f.src = .host then { f with dropped := true } else f) } }
  let d := if linkDown then wrN 0x30008 0 (clrFlag 0x30004 0 d) else d
  setFlag 0x30004 8 d

/-- The link trains up at a generation and a width (R412, R445). -/
def linkUp (gen width : Nat) (d : Dev) : Dev := setFlag 0x30004 0 (wrN 0x30008 (gen + 16 * width) d)

end Sys2Proof.Machine
end

