-- ==== Sys2Proof/Machine/Dec.lean ====
section
/-!
DEFINITION. Decimators: sources, the channel chain, start and switch, DEC_CONFIG and DEC_COMP_SWAP, capture streams
(09_capture_decimation.md, R289 to R303).
-/

namespace Sys2Proof.Machine

/-! ### Configuration words -/

/-- Address of DEC_CH_CFG of a channel; RATE, PHASE, DELAY, STATE and LATEST follow (R303). -/
def decA (c : Nat) : Nat := 0x161000 + 0x20 * c

/-- f_mod of a source in Hz (R289). -/
def fMod (d : Dev) (s : Nat) : Nat :=
  if s < 0x40 then (if bitAt d 0x160000 1 then 6144000 else 3072000)
  else if s < 0x48 then 6144000 else if s < 0x68 then 12288000 else 3072000

/-- The output rate of a code (R292); 0 for the code not used. -/
def fOut (code : Nat) : Nat :=
  match code with
  | 0 => 8000 | 1 => 16000 | 2 => 24000 | 3 => 32000 | 4 => 48000 | 5 => 96000 | 6 => 192000 | _ => 0

/-- Fields of a DEC_CH_CFG word (R303). -/
def cfgSource (w : Nat) : Nat := bits w 6 0
def cfgOn (w : Nat) : Bool := w.testBit 7
def cfgN (w : Nat) : Nat := bits w 10 8
def cfgR (w : Nat) : Nat := bits w 19 11
def cfgD (w : Nat) : Nat := if w.testBit 20 then 2 else 1
def cfgT (w : Nat) : Nat := bits w 27 21
def cfgMin (w : Nat) : Bool := w.testBit 28
def cfgAuto (w : Nat) : Bool := w.testBit 29

/-- P = R × D (R292). -/
def cfgP (w : Nat) : Nat := cfgR w * cfgD w

/-- Are the ranges of a word kept; they are checked when enable is 1 (R303)? -/
def cfgRanges (w : Nat) : Bool :=
  !cfgOn w || (decide (cfgSource w < 0x70) && decide (3 ≤ cfgN w) && decide (cfgN w ≤ 5) && decide (8 ≤ cfgR w)
    && decide (cfgR w ≤ 256) && decide (1 ≤ cfgT w) && decide (cfgT w ≤ 64))

/-- Q is an integer and P ≤ Q < 2P (R292). -/
def rateFits (d : Dev) (w code : Nat) : Bool :=
  let fm := fMod d (cfgSource w)
  let fo := fOut code
  decide (fo ≠ 0) && decide (fm % fo = 0) && decide (cfgP w ≤ fm / fo) && decide (fm / fo < 2 * cfgP w)

/-- The sum of two fractions, in lowest terms. -/
def addFrac (x y : Nat × Nat) : Nat × Nat :=
  let n := x.1 * y.2 + y.1 * x.2
  let g := max 1 (Nat.gcd n (x.2 * y.2))
  (n / g, x.2 * y.2 / g)

/-- Load of one channel in MAC/s as a fraction: T × f_in + 16 × f_out (R292). -/
def chanLoad (d : Dev) (w code : Nat) : Nat × Nat :=
  if cfgOn w then addFrac (cfgT w * fMod d (cfgSource w), max 1 (cfgP w)) (16 * fOut code, 1) else (0, 1)

/-- The load with the words of channel c replaced, as a fraction (R292). -/
def loadWith (d : Dev) (c w code : Nat) : Nat × Nat :=
  (List.range 128).foldl (fun t i => addFrac t
    (if i = c then chanLoad d w code else chanLoad d (rdN d (decA i)) (fld d (decA i + 4) 2 0))) (0, 1)

/-- Does a load stay within 2.0 × 10⁹ MAC/s (R292)? -/
def loadFits (t : Nat × Nat) : Bool := decide (t.1 ≤ 2000000000 * t.2)

/-- DEC_LOAD in MMAC/s. -/
def decLoad (d : Dev) : Nat := let t := loadWith d 128 0 0; t.1 / (1000000 * t.2)

/-- Do the words of a channel pass the ranges and R292? -/
def decWordsOk (d : Dev) (c w code phase : Nat) : Bool :=
  cfgRanges w && decide (bits w 31 30 = 0) && decide (code < 7) && decide (phase < 65536)
    && (!cfgOn w || (rateFits d w code && loadFits (loadWith d c w code)))

/-! ### Records -/

/-- A channel. -/
def decCh (d : Dev) (c : Nat) : DecCh := fget {} d.dec.chans c

/-- Replaces it. -/
def putDec (c : Nat) (x : DecCh) (d : Dev) : Dev := { d with dec := { d.dec with chans := fput {} d.dec.chans c x } }

/-- Is a source stuck (R291)? -/
def srcHeld (d : Dev) (s : Nat) : Bool := decide (fget 0 d.dec.stuck s ≠ 0)

/-- A capture stream's record. -/
def capSt (d : Dev) (s : Nat) : Capture := fget {} d.dec.caps s

/-- Replaces it. -/
def putCap (s : Nat) (x : Capture) (d : Dev) : Dev := { d with dec := { d.dec with caps := fput {} d.dec.caps s x } }

/-- The configuration word of a channel. -/
def chCfg (d : Dev) (c : Nat) : Nat := rdN d (decA c)

/-- Q of a channel. -/
def chQ (d : Dev) (c : Nat) : Nat := fMod d (cfgSource (chCfg d c)) / max 1 (fOut (fld d (decA c + 4) 2 0))

/-- Do enabled channels run: the block is enabled, synthesiser A in lock, and the device out of Stop (R297)? -/
def decRuns (d : Dev) : Bool := bitAt d 0x160000 0 && d.time.lockA && decide (d.sys.mode ≠ .stop)

/-- Is a channel on? -/
def chOn (d : Dev) (c : Nat) : Bool := bitAt d 0x160000 0 && cfgOn (chCfg d c)

/-- Modulator clocks of a frequency up to presentation time `pt`: from the epoch, none before it, or while no epoch is
committed from the first lock of synthesiser A (R290, R296). -/
def modClockAt (d : Dev) (f pt : Nat) : Nat :=
  if d.time.epochSet then (pt - d.time.epoch) * f / secNs
  else (nowNs d + 1 + pt - d.dec.lockedAt - d.time.pt) * f / secNs

/-- Present modulator clock of a frequency. -/
def modClock (d : Dev) (f : Nat) : Nat := modClockAt d f d.time.pt

/-- The first modulator clock of quantum q (R298, R299). -/
def clockOfQn (d : Dev) (f q : Nat) : Nat :=
  if d.time.epochSet then q * 32 * f / fsHz d else modClockAt d f (edgeOfQn d q)

/-! ### Start and switch (R297) -/

/-- x_m in 1/256 clock (R295). -/
def placeOf (d : Dev) (c m : Nat) : Int := ((256 * m * chQ d c : Nat) : Int) - ((rdN d (decA c + 8) : Nat) : Int)

/-- I of output m: the compensation output at or before its place. -/
def baseOf (d : Dev) (c m : Nat) : Int := placeOf d c m / ((256 * cfgP (chCfg d c) : Nat) : Int)

/-- The clock at which output m can be computed: that of u[I + 8] (R295). -/
def clockOf (d : Dev) (c m : Nat) : Nat := ((baseOf d c m + 8) * ((cfgP (chCfg d c) : Nat) : Int)).toNat

/-- The first output that is computed after clock `k`. -/
def firstOut (d : Dev) (c k : Nat) : Nat :=
  -- φ is less than 256 clocks, and Q at least 8: at most 32 outputs more.
  let g := (k - 8 * cfgP (chCfg d c)) / max 1 (chQ d c)
  ((List.range 40).map (fun i => g + i - 2)).find? (fun m => decide (k < clockOf d c m)) |>.getD (g + 38)

/-- U of R297. -/
def settleLen (d : Dev) (c : Nat) : Nat :=
  let w := chCfg d c
  ceilDiv (cfgN w * cfgR w + cfgT w * cfgR w + 16 * cfgP w) (max 1 (chQ d c))

/-- Channels of a capture stream. -/
def capMember (d : Dev) (s c : Nat) : Bool := bitAt d (0x160104 + 0x40 * s + 4 * (c / 32)) (c % 32)

/-- A channel of which a stream has no other running member starts: the stream's blocks begin anew (R301). -/
def capBegin (c : Nat) (d : Dev) : Dev :=
  forN 8 (fun s d =>
    if capMember d s c && !((List.range 128).any (fun i => decide (i ≠ c) && capMember d s i && chOn d i && (decCh d i).started))
      && !(decCh d c).started then putCap s { capSt d s with next := 0 } d else d) d

/-- A start or a switch at modulator clock `k`: memory cleared, the first U samples flagged (R297). -/
def chStart (c k : Nat) (d : Dev) : Dev :=
  let d := if chOn d c then capBegin c d else d
  let x := decCh d c
  if chOn d c then
    putDec c { x with
      clk := k + 1, swapAt := 0
      ints := List.replicate (cfgN (chCfg d c)) 0
      combs := List.replicate (cfgN (chCfg d c)) 0
      yc := [], u := [], m := firstOut d c k, settle := settleLen d c, started := true, flagged := true
      delivered := false } d
  else
    let d := wrN (decA c + 0x14) 0 d
    let x' : DecCh := {
      bankA := x.bankA, bankB := x.bankB, activeB := x.activeB, written := x.written
      pending := x.pending, swap := x.swap, applied := x.applied }
    putDec c x' { d with route := { d.route with inputs := fput 0 d.route.inputs (0x200 + c) 0 } }

/-- A start or a switch now. -/
def chStartNow (c : Nat) (d : Dev) : Dev := chStart c (modClock d (fMod d (cfgSource (chCfg d c)))) d

/-- Sources found stuck stay so when their clocks are counted anew (R291, R296). -/
def stuckAgain (d : Dev) : Dev :=
  { d with dec := { d.dec with
    stuck := d.dec.stuck.map (fun e => (e.1, if e.2 = 0 then 0 else modClock d (fMod d e.1) + 1)) } }

/-- Every running channel restarts: epoch commit, lock of synthesiser A, wake. Output indices are counted anew, so samples
delivered before enter no later block (R296, R297). -/
def decRestart (d : Dev) : Dev :=
  let d := stuckAgain d
  let d := forN 8 (fun s d => putCap s { capSt d s with next := 0 } d) d
  forN 128 (fun c d => if chOn d c then chStartNow c (putDec c { decCh d c with recent := [] } d) else d) d

/-- The coefficient set of an automatic design stands in the bank that the configuration activates (R294). -/
def compAuto (c : Nat) (d : Dev) : Dev :=
  let w := chCfg d c
  if !cfgAuto w || !cfgOn w then d else
  let x := decCh d c
  let bank := (List.range (cfgT w)).foldl (fun m k =>
    fput 0 m k (satI 32 (Config.compDesign w (fld d (decA c + 4) 2 0) (fMod d (cfgSource w)) k))) []
  putDec c (if x.activeB then { x with bankA := bank, activeB := false, written := false }
    else { x with bankB := bank, activeB := true, written := false }) d

/-- New words of a channel take effect at modulator clock `k`; a change of φ alone keeps the memory, and words that change
nothing do nothing (R297). -/
def chApply (c cfg rate phase : Nat) (at' : Option Nat) (d : Dev) : Dev :=
  let same := decide (chCfg d c = cfg) && decide (rdN d (decA c + 4) = rate)
  if same && decide (rdN d (decA c + 8) = phase) then d else
  let d := wrN (decA c) cfg (wrN (decA c + 4) rate (wrN (decA c + 8) phase d))
  if same then
    let x := decCh d c
    if x.started then
      putDec c { x with m := max x.m (firstOut d c (x.clk - 1)), settle := max x.settle (ceilDiv (16 * cfgP (chCfg d c)) (max 1 (chQ d c))) } d
    else d
  else
    let d := compAuto c d
    match at' with
    | some k => chStart c k d
    | none => chStartNow c d

/-- DEC_CH_DELAY (R296). -/
def chDelay (d : Dev) (c : Nat) : Nat :=
  let w := chCfg d c
  if !cfgOn w then 0
  else if cfgMin w then Config.minPhaseDelay w (fld d (decA c + 4) 2 0) (fMod d (cfgSource w)) % 2 ^ 24
  else 128 * (cfgN w * (cfgR w - 1) + (cfgT w - 1) * cfgR w)

/-- A sense source whose direct-drive channel does not run (R291). `driveRuns` says which channels run. -/
def sourceIdle (driveRuns : Nat → Bool) (s : Nat) : Bool :=
  if 0x48 ≤ s ∧ s < 0x58 then !driveRuns (s - 0x48) else if 0x58 ≤ s ∧ s < 0x68 then !driveRuns (s - 0x58) else false

/-- DEC_CH_STATE (R303). -/
def chState (driveRuns : Nat → Bool) (d : Dev) (c : Nat) : Nat :=
  let x := decCh d c
  let st := if !chOn d c then 0 else if !decRuns d then 3 else if x.settle > 0 then 1 else 2
  let src := cfgSource (chCfg d c)
  st + 4 * b2n x.activeB + 8 * b2n (chOn d c && sourceIdle driveRuns src)
    + 16 * b2n (chOn d c && srcHeld d src) + 65536 * x.settle

/-! ### The chain (R293 to R295) -/

/-- b of R293: the smallest integer with 2ᵇ ≥ Rᴺ. -/
def cicBits (w : Nat) : Nat :=
  let g := cfgR w ^ cfgN w
  if 2 ^ g.log2 = g then g.log2 else g.log2 + 1

/-- A number in the CIC's modular arithmetic. One bit more than R293 names keeps the sum 2ᵇ apart from −2ᵇ. -/
def cicWrap (b : Nat) (x : Int) : Int := sext (b + 2) (wrapN (b + 2) x)

/-- The integrators take one modulator bit. -/
def integrate (b : Nat) (x : Int) : List Int → List Int
  | [] => []
  | i :: rest => let y := cicWrap b (i + x); y :: integrate b y rest

/-- The combs take one decimated value: the output and the new memory. -/
def combRun (b : Nat) (x : Int) : List Int → Int × List Int
  | [] => (x, [])
  | p :: rest => let r := combRun b (cicWrap b (x - p)) rest; (r.1, x :: r.2)

/-- One sum of products in Q2.30, rounded and saturated, with its saturation (R294, R295). -/
def firOut (x : Int) : Int × Nat := let r := rndEven x 30; (satI 32 r, b2n (satOvf 32 r))

/-- The coefficient of a tap at the present clock: of the active bank, or before a swap of the other (R299). -/
def compTap (x : DecCh) (k : Nat) : Int :=
  fget 0 (if x.activeB != decide (x.clk ≤ x.swapAt) then x.bankB else x.bankA) k

/-- A compensation output from the newest CIC outputs (R294). -/
def compOut (w : Nat) (x : DecCh) : Int × Nat :=
  firOut (sumN (cfgT w) (fun k => compTap x k * x.yc.getD k 0))

/-- One modulator clock of a channel: the state, CIC saturations, compensation saturations. -/
def chClock (w : Nat) (one : Bool) (x : DecCh) : DecCh × Nat × Nat :=
  let b := cicBits w
  let ints := integrate b (if one then 1 else -1) x.ints
  let x := { x with ints := ints, clk := x.clk + 1 }
  let at' := x.clk - 1
  if at' % cfgR w ≠ 0 then (x, 0, 0) else
  let r := combRun b (ints.getLastD 0) x.combs
  let y := r.1 * ((2 ^ (31 - b) : Nat) : Int)
  let y := if b ≤ 31 then y else rndEven r.1 (b - 31)
  let x := { x with combs := r.2, yc := (satI 32 y :: x.yc).take 64 }
  if at' % cfgP w ≠ 0 then (x, b2n (satOvf 32 y), 0) else
  let u := compOut w x
  ({ x with u := (u.1 :: x.u).take 16 }, b2n (satOvf 32 y), u.2)

/-- A run of modulator clocks. -/
def chClocks (w : Nat) : List Bool → DecCh → DecCh × Nat × Nat
  | [], x => (x, 0, 0)
  | one :: rest, x =>
    let r := chClock w one x
    let t := chClocks w rest r.1
    (t.1, r.2.1 + t.2.1, r.2.2 + t.2.2)

/-- The rounded tap k of phase F before step 3 of R295. -/
def resampleRaw (f k : Nat) : Int :=
  let t := fixRat (256 * (7 - (k : Int)) + (f : Int)) 256
  let u := fdiv t (8 * fixOne)
  let win := fdiv (fbesselI0 (49 * (fixOne - fmul u u))) (fbesselI0 (49 * fixOne))
  let pt := fmul fpi t
  let sinc := if t = 0 then fixOne else fdiv (fsin pt) pt
  fround 30 (fmul sinc win)

/-- h_F[k] in Q2.30 (R295). -/
def resampleTap (f k : Nat) : Int :=
  if f = 0 then (if k = 7 then 2 ^ 30 else 0)
  else if k = 7 then 2 ^ 30 - sumN 16 (fun i => if i = 7 then 0 else resampleRaw f i)
  else resampleRaw f k

/-- Output m from u[I − 7] to u[I + 8], the newest (R295). -/
def resampleOut (d : Dev) (c m : Nat) (u : List Int) : Int × Nat :=
  let p : Int := ((cfgP (chCfg d c) : Nat) : Int)
  let f := (placeOf d c m % (256 * p) / p).toNat
  firOut (sumN 16 (fun k => resampleTap f k * u.getD (15 - k) 0))

/-- Is the PDM_CLK of a PDM source stopped, so that no edge latches a bit (R290)? -/
def pdmHalted (d : Dev) (s : Nat) : Bool := decide (s < 0x40) && !bitAt d 0x160000 (4 + s / 16)

/-- The bit of clock `clk + i`, the i-th since the last delivery: the source's own, or the alternating pattern 1, 0, 1, 0
from the clock at which the source was found stuck (`stuck` less one), or of an idle sense source (R291). `held` is the bit
latched last of a source whose clock is stopped (R290; DEDUCED, log 63). A clock that the row gives no bit takes the pattern
too. -/
def chBit (idle : Bool) (held : Option Bool) (stuck clk : Nat) (given : List Bool) (i : Nat) : Bool :=
  let k := clk + i
  if idle then k % 2 == 0
  else if stuck ≠ 0 ∧ stuck ≤ k + 1 then (k + 1 - stuck) % 2 == 0
  else held.getD (given.getD i (k % 2 == 0))

/-- The bits of the n clocks up to a delivery. -/
def chBits (idle : Bool) (held : Option Bool) (stuck clk n : Nat) (given : List Bool) : List Bool :=
  (List.range n).map (chBit idle held stuck clk given)

/-- The bit that a channel keeps taking from its source while the source's clock is stopped (R290). -/
def chHeld (d : Dev) (c : Nat) : Option Bool :=
  if pdmHalted d (cfgSource (chCfg d c)) then some (decCh d c).last else none

/-- A channel delivers its next output sample (R293 to R297). -/
def sampleDelivered (driveRuns : Nat → Bool) (c : Nat) (given : List Bool) (d : Dev) : Dev :=
  let x := decCh d c
  if !chOn d c || !decRuns d || !x.started then d else
  let w := chCfg d c
  let src := cfgSource w
  let idle := sourceIdle driveRuns src
  let n := clockOf d c x.m + 1 - x.clk
  let r := chClocks w (chBits idle (chHeld d c) (fget 0 d.dec.stuck src) x.clk n given) x
  let y := resampleOut d c x.m r.1.u
  let flag := idle || decide (x.settle > 0)
  let d := if r.2.1 = 0 then d else setFlag 0x160004 9 (addCnt 0x160020 r.2.1 d)
  let d := if r.2.2 + y.2 = 0 then d else setFlag 0x160004 9 (addCnt 0x160024 (r.2.2 + y.2) d)
  let d := wrN (decA c + 0x14) (wrapN 32 y.1) d
  let d := { d with route := { d.route with inputs := fput 0 d.route.inputs (0x200 + c) y.1 } }
  putDec c { r.1 with
    m := x.m + 1, settle := x.settle - 1, flagged := flag, delivered := true
    last := if pdmHalted d src then x.last else given.getLastD x.last
    recent := fput (0, 0, false) x.recent (x.m % 64) (x.m + 1, y.1, flag) } d

/-! ### Stuck sources (R291) -/

/-- DEC_SRC_STUCK[i] as read. -/
def stuckWord (d : Dev) (i : Nat) : Nat := forN 32 (fun b v => v + b2n (srcHeld d (32 * i + b)) * 2 ^ b) 0

/-- A source has held one value for 4,096 clocks. -/
def srcStuck (driveRuns : Nat → Bool) (s : Nat) (d : Dev) : Dev :=
  if s ≥ 0x70 ∨ srcHeld d s = true ∨ sourceIdle driveRuns s = true then d
  else raiseEvent evDecSrcStuck (leBytes 1 s)
    (setFlag 0x160004 10 { d with dec := { d.dec with stuck := fput 0 d.dec.stuck s (modClock d (fMod d s) + 1) } })

/-- Both values have been seen again: the channels of the source restart. -/
def srcOk (s : Nat) (d : Dev) : Dev :=
  if srcHeld d s = false then d else
  let d := { d with dec := { d.dec with stuck := fput 0 d.dec.stuck s 0 } }
  let d := raiseEvent evDecSrcOk [] d
  forN 128 (fun c d => if chOn d c && decide (cfgSource (chCfg d c) = s) then chStartNow c d else d) d

/-! ### Register writes (R292, R294, R303) -/

/-- A write was discarded. -/
def decRefused (d : Dev) : Dev := setFlag 0x160004 8 d

/-- A write of DEC_CH_CFG (0), DEC_CH_RATE (1) or DEC_CH_PHASE (2) of a channel. -/
def decChWrite (c which v : Nat) (d : Dev) : Dev :=
  if d.sys.mode ≠ .config then lockedWrite (decA c + 4 * which) d else
  let cfg := if which = 0 then bits v 29 0 else chCfg d c
  let rate := if which = 1 then bits v 2 0 else rdN d (decA c + 4)
  let phase := if which = 2 then bits v 15 0 else rdN d (decA c + 8)
  if decWordsOk d c cfg rate phase then
    (if cfg = chCfg d c ∧ rate = rdN d (decA c + 4) ∧ phase = rdN d (decA c + 8) then d
     else chApply c cfg rate phase none d)
  else decRefused d

/-- A write of DEC_COEF_DATA (R294). -/
def coefWrite (v : Nat) (d : Dev) : Dev :=
  let sel := rdN d 0x160040
  let c := bits sel 22 16
  let x := decCh d c
  if sel.testBit 8 == x.activeB then decRefused d
  else
    let i := sext 32 v
    let x := if sel.testBit 8 then { x with bankB := fput 0 x.bankB (bits sel 5 0) i, written := true }
      else { x with bankA := fput 0 x.bankA (bits sel 5 0) i, written := true }
    putDec c x (setFld 0x160040 5 0 (bits sel 5 0 + 1) d)

/-- A write of DEC_CTRL: the enabled channels must keep R292; the block's start starts its channels, and a change of the PDM
clock counts the clocks of the PDM sources anew (DEDUCED, log 63). -/
def decCtrlWrite (v : Nat) (d : Dev) : Dev :=
  if d.sys.mode ≠ .config then lockedWrite 0x160000 d else
  let v := bits v 1 0 + bits v 7 4 * 16
  let was := bitAt d 0x160000 0
  let d' := wrN 0x160000 v d
  let ok := (List.range 128).all (fun c => !cfgOn (chCfg d c) || rateFits d' (chCfg d c) (fld d (decA c + 4) 2 0))
  if !ok || !loadFits (loadWith d' 128 0 0) then decRefused d
  else
    let fast := decide (fMod d 0 ≠ fMod d' 0)
    forN 128 (fun c d =>
      if cfgOn (chCfg d c) && (was != v.testBit 0 || (fast && decide (cfgSource (chCfg d c) < 0x40))) then chStartNow c d
      else d) (if fast then stuckAgain d' else d')

/-! ### Commands (R298, R299) -/

/-- An apply QN: 0 selects the present QN + 8; below the present QN + 2 and above the last quantum there is none (R56,
R298, R426). -/
def applyQn (d : Dev) (q : Nat) : Option Nat :=
  let a := if q = 0 then qnNow d + 8 else q
  if a < qnNow d + 2 ∨ 2 ^ 40 - 4 < a then none else some a

/-- Is a capture stream enabled? -/
def capOn (d : Dev) (s : Nat) : Bool := bitAt d (0x160100 + 0x40 * s) 0

/-- Would a rate of channel c give an enabled stream's channels different rates (R298)? -/
def streamSplit (d : Dev) (c rate : Nat) : Bool :=
  (List.range 8).any (fun s => capOn d s && capMember d s c
    && (List.range 128).any (fun i => decide (i ≠ c) && capMember d s i && decide (fld d (decA i + 4) 2 0 ≠ rate)))

/-- The modes of DEC_CONFIG and DEC_COMP_SWAP (R298). -/
def decModes (d : Dev) : Bool :=
  match d.sys.mode with
  | .config => true
  | .central => true
  | .edge => true
  | .survey => true
  | .safe => true
  | _ => false

/-- DEC_CONFIG (R298). -/
def decConfig (cid c cfg rate phase qn : Nat) (d : Dev) : Dev :=
  if decModes d = false then complete cid cState 0 0 d else
  match applyQn d qn with
  | none => complete cid cRange 0 0 d
  | some q =>
    if c ≥ 128 ∨ decWordsOk d c cfg rate phase = false then complete cid cRange 0 0 d
    else if streamSplit d c rate then complete cid cState 0 0 d
    else
      let x := decCh d c
      let d := match x.pending with
        | some r => complete r.cid cSuperseded 0 0 d
        | none => d
      putDec c { decCh d c with pending := some ⟨q, cfg, rate, phase, cid⟩ } d

/-- DEC_COMP_SWAP (R299). -/
def decCompSwap (cid c qn : Nat) (d : Dev) : Dev :=
  if decModes d = false then complete cid cState 0 0 d else
  match applyQn d qn with
  | none => complete cid cRange 0 0 d
  | some q =>
    if c ≥ 128 then complete cid cRange 0 0 d
    else if (decCh d c).written = false then complete cid cState 0 0 d
    else
      let d := match (decCh d c).swap with
        | some r => complete r.cid cSuperseded 0 0 d
        | none => d
      putDec c { decCh d c with swap := some ⟨q, cid⟩ } d

/-- One DEC_CONFIG applies at the first modulator clock of quantum q, which is its own unless QN jumped past it (R297 to R299). An earlier one whose first sample has
not been delivered is superseded (DEDUCED, log 63). -/
def decApply (c q : Nat) (r : DecReq) (d : Dev) : Dev :=
  let d := putDec c { decCh d c with pending := none } d
  let f := fMod d (cfgSource r.cfg)
  let d := chApply c r.cfg r.rate r.phase (some (clockOfQn d f q)) d
  let d := match (decCh d c).applied with
    | some a => complete a.1 cSuperseded 0 0 (putDec c { decCh d c with applied := none } d)
    | none => d
  let d := if cfgOn r.cfg then putDec c { decCh d c with applied := some (r.cid, r.applyQn), delivered := false } d
    else complete r.cid cDone 0 r.applyQn d
  match (decCh d c).swap with
  | some s =>
    if cfgAuto r.cfg && decide (s.applyQn = r.applyQn) then
      complete s.cid cSuperseded 0 0 (putDec c { decCh d c with swap := none } d)
    else d
  | none => d

/-- The DEC_CONFIG commands whose apply QN starts (R298, R536). -/
def decAt (q : Nat) (d : Dev) : Dev :=
  forL (d.dec.chans.map (·.1)) (fun c d =>
    match (decCh d c).pending with
    | some r => if r.applyQn ≤ q then decApply c q r d else d
    | none => d) d

/-- The first sample of a new configuration has been delivered (R298). -/
def decConfigComplete (c : Nat) (d : Dev) : Dev :=
  let x := decCh d c
  match x.applied with
  | some (cid, q) =>
    if x.delivered then complete cid cDone 0 q (putDec c { x with applied := none } d) else d
  | none => d

/-- The banks of a channel swap at the first compensation output of the apply QN (R299). -/
def decSwapped (c : Nat) (d : Dev) : Dev :=
  let x := decCh d c
  match x.swap with
  | some r =>
    if r.applyQn ≤ qnNow d ∧ d.time.counting ∧ chOn d c ∧ decRuns d then
      let k := clockOfQn d (fMod d (cfgSource (chCfg d c))) r.applyQn
      let d := putDec c { x with activeB := !x.activeB, swapAt := k, written := false, swap := none } d
      let d := raiseEvent evDecSwapped [] (incCnt 0x16000C d)
      complete r.cid cDone 0 r.applyQn d
    else d
  | none => d

/-! ### Capture streams (R301, R302, R421) -/

/-- Member channels of a stream, ascending. -/
def capMembers (d : Dev) (s : Nat) : List Nat := (List.range 128).filter (capMember d s)

/-- Bytes of a sample of a format (R301). -/
def fmtSize (fmt : Nat) : Nat := if fmt = 2 then 2 else 4

/-- Bytes of a stream's block; 0 for a stream without members (R301, R303). -/
def capBlockBytes (d : Dev) (s : Nat) : Nat :=
  let n := (capMembers d s).length
  if n = 0 then 0 else ceilDiv (32 + ceilDiv (4 * n) 16 * 16 + 32 * n * fmtSize (fld d (0x160100 + 0x40 * s) 3 2)) 64 * 64

/-- A delivered sample of a channel: value and flag; a sample the channel did not deliver is zero and flagged. -/
def capSample (d : Dev) (c m : Nat) : Int × Bool :=
  let e := fget (0, 0, false) (decCh d c).recent (m % 64)
  if chOn d c && decide (e.1 = m + 1) then (e.2.1, e.2.2) else (0, true)

/-- One sample in a stream's format: bytes and saturation (R301). -/
def capFormat (fmt : Nat) (x : Int) : Bytes × Nat :=
  match fmt with
  | 1 => let r := rndEven x 8; (leInt 4 (satI 24 r), b2n (satOvf 24 r))
  | 2 => let r := rndEven x 16; (leInt 2 (satI 16 r), b2n (satOvf 16 r))
  | _ => (leInt 4 x, 0)

/-- The block of a stream that starts at sample m0, with its saturations (R301). -/
def capBlock (d : Dev) (s m0 : Nat) : Bytes × Nat :=
  let fmt := fld d (0x160100 + 0x40 * s) 3 2
  let cs := capMembers d s
  let rate := fOut (fld d (decA (cs.headD 0) + 4) 2 0)
  let base := if d.time.epochSet then d.time.epoch else d.time.pt - (nowNs d + 1 - d.dec.lockedAt)
  let flags := b2n (capSt d s).gap + 2 * b2n (!d.time.epochSet)
  let head := leBytes 2 (capSt d s).seq ++ leBytes 1 cs.length ++ leBytes 1 fmt ++ leBytes 1 flags ++ zeros 3
    ++ leBytes 8 m0 ++ leBytes 4 (base + m0 * secNs / max 1 rate) ++ zeros 12
  let masks := cs.flatMap (fun c => leBytes 4 (forN 32 (fun k v => v + b2n (capSample d c (m0 + k)).2 * 2 ^ k) 0))
  let data := (List.range 32).flatMap (fun k => cs.map (fun c => capFormat fmt (capSample d c (m0 + k)).1))
  (padTo (capBlockBytes d s) (head ++ padTo (ceilDiv masks.length 16 * 16) masks ++ data.flatMap (·.1)), (data.map (·.2)).sum)

/-- A block is dropped: its seq is consumed (R302). -/
def capDrop (s : Nat) (d : Dev) : Dev :=
  let x := capSt d s
  let quiet := decide (x.dropAt ≠ 0) && decide (nowNs d + 1 < x.dropAt + secNs)
  let d := setFlag 0x160004 11 (incCnt (0x160128 + 0x40 * s) d)
  let d := putCap s { x with
    seq := (x.seq + 1) % 65536, gap := true, partly := true, dropAt := if quiet then x.dropAt else nowNs d + 1 } d
  if quiet then d else raiseEvent evDecCapDrop [] d

/-- A block of a host stream goes to the first posted entry that can take it (R419, R421). `entries` are the posted
entries as the device reads them, the oldest first. -/
def capToHost (s : Nat) (bytes : Bytes) (pcieErr : Bool) : List Bytes → Dev → Dev
  | [], d => capDrop s d
  | e :: rest, d =>
    let r := 65 + s
    let begun := decide (0 < (capSt d s).placed) && !ringHalted d r
    if (ringRunning d r = false ∧ begun = false) ∨ ringHeld d r = 0 then capDrop s d
    else if pcieErr then capDrop s (ringPcieErr r (entryFinish r 4 d))
    else
      let x := capSt d s
      let reserved := entryReserved false false e
      if x.placed = 0 ∧ (reserved = false ∨ entryOk false (leAt e 14 1 * bytes.length) e = false) then
        capToHost s bytes pcieErr rest (entryBad r reserved d)
      else
        let d := emit (.hostWrite (leAt e 0 8 + x.placed * bytes.length) bytes) d
        let full := decide (x.placed + 1 ≥ leAt e 14 1)
        let d := putCap s { x with
          seq := (x.seq + 1) % 65536, gap := false, placed := if full then 0 else x.placed + 1, partly := x.partly && !full } d
        if full then entryFinish r (if x.partly then 2 else 1) d else d

/-- Members of a stream that run. -/
def capLive (d : Dev) (s : Nat) : List Nat := (capMembers d s).filter (fun c => chOn d c && (decCh d c).started)

/-- Has every running member delivered the last sample of the block at m0, and still hold it? -/
def capFresh (d : Dev) (s m0 : Nat) : Bool :=
  (capLive d s).all (fun c => decide ((fget (0, 0, false) (decCh d c).recent ((m0 + 31) % 64)).1 = m0 + 32))

/-- The first sample of the block that is due, when every running member has passed its last sample: the one after the last
block, or after a restart the older of the two that the channels may still hold (R301). -/
def capDue (d : Dev) (s : Nat) : Option Nat :=
  let done := (capLive d s).foldl (fun n c => min n (decCh d c).m) ((decCh d ((capLive d s).headD 0)).m) / 32
  let next := (capSt d s).next
  if next ≠ 0 then (if next + 32 ≤ 32 * done then some next else none)
  else if 2 ≤ done ∧ capFresh d s (32 * (done - 2)) = true then some (32 * (done - 2))
  else if 1 ≤ done ∧ capFresh d s (32 * (done - 1)) = true then some (32 * (done - 1))
  else none

/-- A stream writes the block that is due (R301, R302). A block of which a member no longer holds every sample is dropped. -/
def captureWrite (s : Nat) (entries : List Bytes) (pcieErr : Bool) (d : Dev) : Dev :=
  if capOn d s = false ∨ capLive d s = [] then d else
  match capDue d s with
  | none => d
  | some m0 =>
  if (capLive d s).any (fun c => decide (m0 + 64 < (decCh d c).m)) then
    capDrop s (putCap s { capSt d s with next := m0 + 32 } d)
  else
  let b := capBlock d s m0
  let d := if b.2 = 0 then d else setFlag 0x160004 9 (addCnt 0x160024 b.2 d)
  let d := putCap s { capSt d s with next := m0 + 32 } d
  if bitAt d (0x160100 + 0x40 * s) 1 then capToHost s b.1 pcieErr entries d
  else
    let a := 0x160100 + 0x40 * s
    let wr := rdN d (a + 0x20)
    if rdN d (a + 0x1C) ≤ subMod 32 wr (rdN d (a + 0x24)) then capDrop s d
    else
      let d := memWrite (addr64 d (a + 0x14) + wr % rdN d (a + 0x1C) * b.1.length) b.1 d
      let x := capSt d s
      wrN (a + 0x20) (wr + 1) (putCap s { x with seq := (x.seq + 1) % 65536, gap := false } d)

end Sys2Proof.Machine
end

