-- ==== Sys2Proof/Machine/Lupin.lean ====
section
/-!
DEFINITION. Lupin: transforms, the partitioned convolution, coefficient banks and their swaps (R264 to R273).
-/

namespace Sys2Proof.Machine

/-! ### The twiddle ROM and the transforms (R266) -/

/-- Entry k of LUPIN_TWIDDLE: cos(2πk / 32,768) × 2³⁰, ties to even (R266). -/
def twiddle (k : Nat) : Int := fround 30 (fcos (2 * fpi * (k : Int) / 32768))

/-- The quarter-wave extended to 8,192, where the cosine is 0. -/
def quarter (k : Nat) : Int := if k = 8192 then 0 else twiddle k

/-- cos(2πi / 32,768) in Q2.30 through the symmetries of the cosine (R266). -/
def cosTab (i : Nat) : Int :=
  let i := i % 32768
  let r := i % 8192
  match i / 8192 with
  | 0 => quarter r
  | 1 => -(quarter (8192 - r))
  | 2 => -(quarter r)
  | _ => quarter (8192 - r)

/-- sin(2πi / 32,768) in Q2.30. -/
def sinTab (i : Nat) : Int := cosTab (i % 32768 + 24576)

/-- A complex number: real and imaginary part. -/
abbrev Cpx := Int × Int

/-- The entries at even places. -/
def evens {α : Type} : List α → List α
  | [] => []
  | [a] => [a]
  | a :: _ :: rest => a :: evens rest

/-- The entries at odd places. -/
def odds {α : Type} : List α → List α
  | [] => []
  | [_] => []
  | _ :: b :: rest => b :: odds rest

/-- w × b rounded convergent by 30 bits (R266). -/
def twMul (wr wi : Int) (b : Cpx) : Cpx := (rndEven (b.1 * wr - b.2 * wi) 30, rndEven (b.1 * wi + b.2 * wr) 30)

/-- Forward transform of 2ᵏ points: every butterfly halves, so it scales by 1/N (R266). -/
def fftFwd : Nat → List Cpx → List Cpx
  | 0, xs => xs
  | k + 1, xs =>
    let e := fftFwd k (evens xs)
    let o := fftFwd k (odds xs)
    let ts := o.zipIdx.map (fun b => twMul (cosTab (b.2 * 2 ^ (14 - k))) (-(sinTab (b.2 * 2 ^ (14 - k)))) b.1)
    let half (x : Cpx) : Cpx := (rndEven x.1 1, rndEven x.2 1)
    let lo := List.zipWith (fun (a t : Cpx) => half (a.1 + t.1, a.2 + t.2)) e ts
    let hi := List.zipWith (fun (a t : Cpx) => half (a.1 - t.1, a.2 - t.2)) e ts
    lo ++ hi

/-- Saturation of a complex number with the number of saturations. -/
def satCpx (x : Cpx) : Cpx × Nat := ((satI 32 x.1, satI 32 x.2), b2n (satOvf 32 x.1) + b2n (satOvf 32 x.2))

/-- Inverse transform of 2ᵏ points: butterflies do not halve and saturate (R266). -/
def fftInv : Nat → List Cpx → List Cpx × Nat
  | 0, xs => (xs, 0)
  | k + 1, xs =>
    let e := fftInv k (evens xs)
    let o := fftInv k (odds xs)
    let ts := o.1.zipIdx.map (fun b => twMul (cosTab (b.2 * 2 ^ (14 - k))) (sinTab (b.2 * 2 ^ (14 - k))) b.1)
    let lo := List.zipWith (fun (a t : Cpx) => satCpx (a.1 + t.1, a.2 + t.2)) e.1 ts
    let hi := List.zipWith (fun (a t : Cpx) => satCpx (a.1 - t.1, a.2 - t.2)) e.1 ts
    (lo.map (·.1) ++ hi.map (·.1), e.2 + o.2 + (lo.map (·.2)).sum + (hi.map (·.2)).sum)

/-! ### Partitions (R264) -/

/-- B of a level. -/
def levelB (k : Nat) : Nat := 32 * 8 ^ k

/-- log₂ of the transform length 2B of a level. -/
def levelLog (k : Nat) : Nat := 6 + 3 * k

/-- First tap offset of a level. -/
def levelFirst (k : Nat) : Nat := if k = 0 then 0 else 2 * levelB k

/-- Partitions of a level. -/
def levelParts (k : Nat) : Nat := if k = 0 then 16 else if k = 3 then 6 else 14

/-- Partitions of a level that an allotment uses (R264). -/
def usedParts (units k : Nat) : Nat :=
  ((List.range (levelParts k)).filter (fun i => decide (levelFirst k + i * levelB k < 2048 * units))).length

/-- The taps of a bank: the image, or the identity when it was never loaded (R273). -/
def bankTap (b : Bank) (i : Nat) : Int :=
  match b.taps with
  | some l => l.getD i 0
  | none => if i = 0 then 0x40000000 else 0

/-- Domain sample n of the Lupin input of output j. -/
def lupinIn (d : Dev) (j : Nat) (n : Int) : Int :=
  if n < 0 then 0
  else (fget [] d.lupin.input (8192 * j + n.toNat / 32 % 8192)).getD (n.toNat % 32) 0

/-- Spectrum of the input at block t of a level: the block before and the block itself (R264). -/
def inputSpec (d : Dev) (j k : Nat) (t : Int) : List Cpx :=
  let b := levelB k
  fftFwd (levelLog k) ((List.range (2 * b)).map (fun (i : Nat) => (lupinIn d j ((t - 1) * (b : Int) + (i : Int)), 0)))

/-- Spectrum of partition i of a level (R266). -/
def coefSpec (bank : Bank) (k i : Nat) : List Cpx :=
  let b := levelB k
  fftFwd (levelLog k) ((List.range (2 * b)).map (fun m =>
    (if m < b then bankTap bank (levelFirst k + i * b + m) else 0, 0)))

/-- Complex product. -/
def cmul (a b : Cpx) : Cpx := (a.1 * b.1 - a.2 * b.2, a.1 * b.2 + a.2 * b.1)

/-- Sum of two spectra. -/
def cadd (a b : List Cpx) : List Cpx := List.zipWith (fun (x y : Cpx) => (x.1 + y.1, x.2 + y.2)) a b

/-- Output block t of a level: B samples and the saturations (R264, R266). -/
def levelBlock (d : Dev) (j k : Nat) (bank : Bank) (t : Int) : List Int × Nat :=
  let n := levelLog k
  let skip : Int := if k = 0 then 0 else 2
  let zero : List Cpx := List.replicate (2 ^ n) (0, 0)
  let sum := (List.range (usedParts bank.units k)).foldl (fun acc (i : Nat) =>
    cadd acc (List.zipWith cmul (inputSpec d j k (t - skip - (i : Int))) (coefSpec bank k i))) zero
  let r (x : Int) : Int := satI 32 (rndEven (x * 2 ^ n) 30)
  let y := fftInv n (sum.map (fun x => (r x.1, r x.2)))
  ((y.1.drop (levelB k)).map (·.1), y.2)

/-- The corrected block of output j for quantum q with a bank: 32 samples and the saturations (R265, R266). -/
def convolve (d : Dev) (j q : Nat) (bank : Bank) : List Int × Nat :=
  if bank.units = 0 then ((List.range 32).map (fun k => lupinIn d j ((32 * q + k : Nat) : Int)), 0) else
  let lev (k : Nat) : List Int × Nat :=
    if usedParts bank.units k = 0 then (List.replicate 32 0, 0) else
    let b := levelB k
    let r := levelBlock d j k bank ((32 * q / b : Nat) : Int)
    ((r.1.drop (32 * q % b)).take 32, if 32 * q % b = 0 then r.2 else 0)
  let ls := [0, 1, 2, 3].map lev
  let sums := (List.range 32).map (fun i => (ls.map (fun l => l.1.getD i 0)).sum)
  (sums.map (satI 32), (ls.map (·.2)).sum + (sums.filter (satOvf 32)).length)

/-! ### Banks -/

/-- Correction of an output. -/
def corr (d : Dev) (j : Nat) : OutCorr := fget {} d.lupin.corr j

/-- Replaces it. -/
def putCorr (j : Nat) (c : OutCorr) (d : Dev) : Dev :=
  { d with lupin := { d.lupin with corr := fput {} d.lupin.corr j c } }

/-- The active bank. -/
def activeBank (c : OutCorr) : Bank := if c.activeB then c.bankB else c.bankA

/-- The inactive bank. -/
def otherBank (c : OutCorr) : Bank := if c.activeB then c.bankA else c.bankB

/-- Replaces the inactive bank. -/
def setOther (b : Bank) (c : OutCorr) : OutCorr := if c.activeB then { c with bankA := b } else { c with bankB := b }

/-- The crossfade that a scheduled swap makes (R272). -/
def fadeOf (r : BankSwap) : BankFade := ⟨32 * r.applyQn + r.s, r.xfade, r.cid⟩

/-- The crossfade that concerns quantum q: the one that runs, or that of a swap whose apply QN has come. -/
def fadeAt (c : OutCorr) (q : Nat) : Option BankFade :=
  match c.fade, c.pending with
  | some f, _ => some f
  | none, some r => if r.applyQn ≤ q then some (fadeOf r) else none
  | none, none => none

/-- A swap held during a crossfade, moved to the sample after it when it would start earlier (R273). -/
def heldMoved (f : BankFade) (h : BankSwap) : BankSwap :=
  let n := max (32 * h.applyQn + h.s) (f.n0 + f.xfade)
  { h with applyQn := n / 32, s := n % 32 }

/-- Sample n of a crossfade between two values. -/
def fadeSample (f : BankFade) (old new : Int) (n : Nat) : Int :=
  if n < f.n0 then old else if n < f.n0 + f.xfade then mixAt old new (n - f.n0) f.xfade else new

/-- The corrected block with the bank crossfade, and that of a swap held behind it, which leads back to the bank before
(R272, R273): samples, saturations. -/
def correctBlock (d : Dev) (j q : Nat) : List Int × Nat :=
  let c := corr d j
  let a := convolve d j q (activeBank c)
  match fadeAt c q with
  | none => a
  | some f =>
    if 32 * q + 32 ≤ f.n0 then a else
    let b := convolve d j q (otherBank c)
    let second (x y : Int) (n : Nat) : Int := match c.held with
      | some h => fadeSample (fadeOf (heldMoved f h)) x y n
      | none => x
    let ys := (List.zip a.1 b.1).zipIdx.map (fun e =>
      let n := 32 * q + e.2
      second (fadeSample f e.1.1 e.1.2 n) e.1.1 n)
    (ys, a.2 + b.2)

/-- The taps of the identity over an allotment, as image bytes (R269, R273). -/
def identityTaps (units : Nat) : Bytes :=
  if units = 0 then [] else leBytes 4 0x40000000 ++ zeros (8192 * units - 4)

/-- A bank made from another for a new allotment: truncated or zero-extended (R273). -/
def retap (units : Nat) (b : Bank) : Bank :=
  match b.taps with
  | none => { b with units := units, source := 3, crc := crc32c (identityTaps units) }
  | some l =>
    let t := (l ++ List.replicate (2048 * units - l.length) 0).take (2048 * units)
    { taps := some t, units := units, crc := crc32c (t.flatMap (leInt 4)), source := b.source }

/-- A filter image's header and taps under check 1 of R270: magic, reserved fields and crc. -/
def imageOk (img : Bytes) : Bool :=
  decide (64 ≤ img.length) && decide (leAt img 0 4 = 0x43464C52) && decide (leAt img 4 2 < 512)
    && zeroAt img 24 40
    && decide (img.length = 64 + 8192 * leAt img 6 1) && decide (crc32c (img.drop 64) = leAt img 8 4)

/-- The bank of an image (R269). -/
def bankOf (img : Bytes) : Bank where
  taps := some ((List.range (2048 * leAt img 6 1)).map (fun i => sext 32 (leAt img (64 + 4 * i) 4)))
  units := leAt img 6 1
  crc := leAt img 8 4
  source := leAt img 7 1

/-- The modes in which CORR_LOAD and CORR_SWAP are legal (R270). -/
def corrModes (d : Dev) : Bool :=
  match d.sys.mode with
  | .config => true
  | .central => true
  | .edge => true
  | .safe => true
  | .survey => true
  | _ => false

/-- Is a swap pending or in progress on an output, or a load (R270)? A plan swap that changes its allotment is one. -/
def corrBusy (c : OutCorr) : Bool :=
  c.pending.isSome || c.fade.isSome || c.held.isSome || c.planUnits.isSome

/-- CORR_LOAD (R270). -/
def corrLoad (cid output : Nat) (img : Bytes) (d : Dev) : Dev :=
  if corrModes d = false then complete cid cState 0 0 d
  else if imageOk img = false then complete cid cFormat 0 0 d
  else
    let units := match d.plan.active with
      | some p => paramTaps (planParam p (output % 512))
      | none => 0
    let c := corr d (output % 512)
    if leAt img 4 2 ≠ output ∨ leAt img 6 1 ≠ units ∨ d.plan.active.isNone then complete cid cRange 0 0 d
    else if corrBusy c then complete cid cBusy 0 0 d
    else putCorr output { c with inactive := 1, loadCid := some cid, loading := bankOf img, autoSwap := false }
      (completeOpt c.loadCid cSuperseded 0 (setFlag 0xA0004 0 d))

/-- The load of a bank ends (R270); one for a plan swap is named in that swap (R273). -/
def corrLoaded (j : Nat) (d : Dev) : Dev :=
  let c := corr d j
  if c.inactive ≠ 1 then d else
  let d := putCorr j { setOther c.loading c with inactive := if c.planUnits.isSome then 3 else 2, loadCid := none, loading := {} } (incCnt 0xA001C d)
  let busy := (List.range 512).any (fun i => decide ((corr d i).inactive = 1))
  completeOpt c.loadCid cDone 0 (if busy then d else clrFlag 0xA0004 0 d)

/-- The banks change places at once (R271). -/
def bankSwapNow (j : Nat) (d : Dev) : Dev :=
  let c := corr d j
  let old := { setOther {} { c with activeB := !c.activeB } with inactive := 0, tapUnits := (otherBank c).units }
  putCorr j { old with swapQn := qnNow d } (incCnt 0xA0020 d)

/-- The outputs that a CORR_SWAP names: those whose inactive bank is loaded (R271). A bank named in a pending swap
counts as loaded, so that a second CORR_SWAP can replace the first; one loaded for a plan swap does not (R273). -/
def swapOutputs (d : Dev) (output : Nat) : List Nat :=
  let loaded (j : Nat) : Bool := decide ((corr d j).inactive ≥ 2) && (corr d j).planUnits.isNone
  let ready (j : Nat) : Bool := loaded j || ((corr d j).fade.isSome && (corr d j).planUnits.isNone)
  if output = 0xFFFF then (List.range 512).filter loaded
  else if output < 512 && ready output then [output] else []

/-- A swap is scheduled on an output; one that waits is superseded, one during a crossfade is held (R273). -/
def corrSchedule (r : BankSwap) (j : Nat) (d : Dev) : Dev :=
  let c := corr d j
  if c.fade.isSome then
    let d := match c.held with
      | some h => completeOpt h.cid cSuperseded 0 d
      | none => d
    putCorr j { corr d j with held := some r } d
  else
    let d := match c.pending with
      | some h => completeOpt h.cid cSuperseded 0 d
      | none => d
    putCorr j { corr d j with pending := some r, inactive := 3 } d

/-- The lead of R172 in quanta. -/
def leadQn (d : Dev) : Nat := if rate96 d then 600 else 300

/-- The load of the inactive bank for a plan swap: the active bank's image, truncated or zero-extended (R273). A load that
a command began gives way. -/
def planBankLoad (units j : Nat) (d : Dev) : Dev :=
  let c := corr d j
  let d := completeOpt c.loadCid cSuperseded 0 d
  putCorr j { corr d j with
    inactive := 1, loadCid := none, autoSwap := false, loading := retap units (activeBank c), planUnits := some units }
    (setFlag 0xA0004 0 d)

/-- The banks after a crossfade that has ended: the new one is active; the old one is empty, unless a held swap leads back
to it, which then waits for its start (R272, R273). The swap is counted and raised; its command completes when the last
sample departs. -/
def fadeEnd (j : Nat) (f : BankFade) (d : Dev) : Dev :=
  let c := corr d j
  let turned := { c with activeB := !c.activeB, fade := none, tapUnits := (otherBank c).units, planBank := false }
  let c' := match c.held with
    | some h => { turned with held := none, pending := some (heldMoved f h), inactive := 3 }
    | none => { setOther {} turned with inactive := 0 }
  let d := putCorr j c' (incCnt 0xA0020 d)
  let d := if c.planBank then d else raiseEvent evCorrSwapped (leBytes 2 j ++ leBytes 8 f.n0) d
  match f.cid with
  | some cid => { d with lupin := { d.lupin with
      finish := d.lupin.finish ++ [((f.n0 + f.xfade - 1) / 32 + 3, cid)] } }
  | none => d

/-- The end of a bank crossfade, once its last sample is corrected (R272). A plan swap that waits for the bank then loads
it (R273). -/
def corrSwapped (j : Nat) (d : Dev) : Dev :=
  let c := corr d j
  match c.fade with
  | none => d
  | some f =>
    if c.doneQn ≤ (f.n0 + f.xfade - 1) / 32 then d else
    match c.planUnits with
    | some u => planBankLoad u j (fadeEnd j f d)
    | none => fadeEnd j f d

/-- The swaps whose apply QN has come start their crossfade (R272). -/
def corrSwapsAt (q : Nat) (d : Dev) : Dev :=
  forL (d.lupin.corr.map (·.1)) (fun j d =>
    let c := corr d j
    match c.pending, c.fade with
    | some r, none =>
      if r.applyQn ≤ q then putCorr j { c with pending := none, fade := some (fadeOf r), swapQn := r.applyQn } d else d
    | _, _ => d) d

/-- CORR_SWAP commands complete at the start of the quantum in which their last sample departs (R272). -/
def corrFinishAt (q : Nat) (d : Dev) : Dev :=
  let due := d.lupin.finish.filter (fun e => e.1 ≤ q)
  forL due (fun e d => complete e.2 cDone 0 (e.1 - 3) d)
    { d with lupin := { d.lupin with finish := d.lupin.finish.filter (fun e => e.1 > q) } }

/-- The CORR_SWAP commands that wait on an output are superseded (R273). -/
def corrSupersede (j : Nat) (d : Dev) : Dev :=
  let c := corr d j
  let d := match c.pending with
    | some h => completeOpt h.cid cSuperseded 0 d
    | none => d
  let d := match c.held with
    | some h => completeOpt h.cid cSuperseded 0 d
    | none => d
  let c := corr d j
  putCorr j { c with pending := none, held := none, inactive := if c.inactive = 3 ∧ c.planUnits.isNone then 2 else c.inactive } d

/-- A scheduled plan swap that changes an output's tap_units: the inactive bank is loaded during the lead, or once a
crossfade that runs has ended (R273). -/
def corrPlanAhead (p : Plan) (j : Nat) (d : Dev) : Dev :=
  let units := paramTaps (planParam p j)
  if units = (corr d j).tapUnits then d else
  let d := corrSupersede j d
  let c := corr d j
  if c.fade.isSome then putCorr j { c with planUnits := some units } d else planBankLoad units j d

/-- A plan swap that waited is given up: the banks loaded for it are empty again (R273, R287). -/
def corrPlanDrop (d : Dev) : Dev :=
  { d with lupin := { d.lupin with corr := d.lupin.corr.map (fun e =>
    let c := e.2
    (e.1, if c.planUnits.isNone then c
      else if c.fade.isSome then { c with planUnits := none }
      else { setOther {} c with planUnits := none, inactive := 0, loading := {} })) } }

/-- A plan swap that changes an output's tap_units swaps its bank with the plan's crossfade; a pending CORR_SWAP is
superseded (R273). A crossfade that still runs is taken as ended. A bank not yet loaded is made now. -/
def corrPlanSwap (q xfade : Nat) (p : Plan) (j : Nat) (d : Dev) : Dev :=
  let units := paramTaps (planParam p j)
  if units = (corr d j).tapUnits then d else
  let d := corrSupersede j d
  let d := match (corr d j).fade with
    | some f => fadeEnd j f d
    | none => d
  let c := corr d j
  let d := completeOpt c.loadCid cSuperseded 0 d
  let c := corr d j
  let made := decide (c.planUnits = some units) && decide (c.inactive = 3)
  let b := if made then otherBank c else retap units (activeBank c)
  let d := onlyIf (!made) (incCnt 0xA001C) d
  let c := { c with planUnits := none, loadCid := none, loading := {}, autoSwap := false, swapQn := q, inactive := 0 }
  if xfade = 0 then
    putCorr j { setOther {} { setOther b c with activeB := !c.activeB } with tapUnits := units } (incCnt 0xA0020 d)
  else putCorr j { setOther b c with fade := some ⟨32 * q, xfade, none⟩, planBank := true } d

/-- The chains, input histories and bulk lines of every output start empty at an activation from CONFIG (R262). -/
def lupinReset (d : Dev) : Dev :=
  { d with lupin := { d.lupin with
    chains := [], input := [], half := [], fetched := [], bulk := [], probe := [], jobs := [], lateSeen := []
    corr := d.lupin.corr.map (fun e => (e.1, { e.2 with prevB := 0, doneQn := 0 })) } }

/-- Units allotted for the outputs rendered, and R of R268, after an activation (R287). -/
def lupinFigures (p : Plan) (d : Dev) : Dev :=
  let us := ((List.range 512).filter (rendersOut d p)).map (fun j => paramTaps (planParam p j))
  let t (k : Nat) : Nat := (us.map (fun u => if k = 3 then usedParts u 3 * 16384
    else min (2048 * u - min (2048 * u) (levelFirst k)) (levelParts k * levelB k))).sum
  let r := fsHz d * (8 * t 1 / 256 + 16 * t 2 / 2048 + 16 * t 3 / 16384)
  wrN 0xA0008 us.sum (wrN 0xA0010 (r / 1000000) d)

/-! ### Level block jobs (R265) -/

/-- A level block job becomes due when its input block closes; one not complete stays due beside it. -/
def levelJob (j k block : Nat) (d : Dev) : Dev :=
  if k = 0 ∨ k > 3 ∨ usedParts (corr d j).tapUnits k = 0 then d
  else { d with lupin := { d.lupin with jobs := fput [] d.lupin.jobs (4 * j + k) (fget [] d.lupin.jobs (4 * j + k) ++ [block]) } }

/-- An uncorrectable error of the convolution store: LUPIN_ECC, the fault recorded, FAULT_ECC (R267, R457). The spec
gives no offset for the error, so it is an open value. -/
def lupinEcc (d : Dev) : Dev :=
  let o := takeFree (2 ^ 24) d
  faultCause 8 (raiseEvent evLupinEcc [] (sramUe 1 o.1 o.2))

/-- The oldest level block job due of an output and level finishes; an uncorrectable error raises LUPIN_ECC (R265, R267). -/
def levelJobDone (j k : Nat) (ecc : Bool) (d : Dev) : Dev :=
  let d := { d with lupin := { d.lupin with jobs := fput [] d.lupin.jobs (4 * j + k) ((fget [] d.lupin.jobs (4 * j + k)).drop 1) } }
  if ecc then lupinEcc d else d

/-- Does the correction of quantum q wait for a level result (R265)? Block t of a level is first used two blocks on
(R264). -/
def levelWait (d : Dev) (j q : Nat) : Bool :=
  [1, 2, 3].any (fun k => (fget [] d.lupin.jobs (4 * j + k)).any (fun t => decide (t + 2 ≤ 32 * q / levelB k)))

/-- Saturations of Lupin are counted; LUPIN_SAT is raised at most once per second (R266, R287). -/
def lupinSats (n : Nat) (d : Dev) : Dev :=
  if n = 0 then d else
  let d := setFlag 0xA0004 8 (addCnt 0xA0014 n d)
  if bitAt d 0xA0000 0 && (decide (d.lupin.satAt = 0) || decide (d.lupin.satAt + secNs ≤ nowNs d + 1)) then
    raiseEvent evLupinSat [] { d with lupin := { d.lupin with satAt := nowNs d + 1 } }
  else d

end Sys2Proof.Machine
end

