-- ==== Sys2Proof/Machine/Survey.lean ====
section
/-!
DEFINITION. The probe sum point, SURVEY programmes, live identification, air temperature and design jobs
(R274 to R286), and the end of a correction task (R261).
-/

namespace Sys2Proof.Machine

/-! ### Probe chips (R277) -/

/-- Product of two polynomials over GF(2) modulo x³¹ + x²⁸ + 1. -/
def chipMul (a b : Nat) : Nat :=
  forN 31 (fun i acc =>
    let acc := acc * 2
    let acc := if acc.testBit 31 then acc ^^^ (2 ^ 31 + 2 ^ 28 + 1) else acc
    if b.testBit (30 - i) then acc ^^^ a else acc) 0

/-- xⁿ modulo the polynomial of R277, for n below 2³¹. -/
def chipPow (n : Nat) : Nat :=
  forN 31 (fun i acc =>
    let acc := chipMul acc acc
    if n.testBit (30 - i) then chipMul acc 2 else acc) 1

/-- Chip n of the sequence, ±1: the register's lowest bit after n steps from 0x0000_0001 (R277). -/
def chip (n : Nat) : Int := if (chipPow (n % (2 ^ 31 - 1))).testBit 0 then 1 else -1

/-- The chip of output j at domain sample n (R277). -/
def outputChip (j : Nat) (n : Int) : Int := chip ((n + (j * 4194303 : Nat)) % (2 ^ 31 - 1)).toNat

/-! ### The live probe (R278) -/

/-- E_b of the level-0 input spectrum. -/
def bandEnergy (spec : List Cpx) (b : Nat) : Nat :=
  let e (i : Nat) : Nat := let x := spec.getD i (0, 0); (x.1 * x.1 + x.2 * x.2).toNat
  e (2 * b) + e (2 * b + 1) + (if b = 15 then e 32 else 0)

/-- e_b: eight times the place of the highest 1, plus the next three bits. -/
def bandLevel (e : Nat) : Int :=
  if e = 0 then 0 else ((8 * e.log2 + e * 8 / 2 ^ e.log2 % 8 : Nat) : Int)

/-- M_b. -/
def bandMask (lv : List Int) (b : Nat) : Int :=
  (lv.zipIdx.map (fun e => e.1 - 27 * ((((b : Int) - (e.2 : Int)).natAbs : Nat) : Int))).foldl max (-1000000)

/-- The shaping filter of band gains in Q1.31, exact in Q3.61. -/
def shapeTap (gains : List Int) (m : Nat) : Int := (gains.zipIdx.map (fun g => g.1 * Config.znBasis g.2 m)).sum

/-- A shaped noise sample, Q1.31. -/
def shapedSample (gains : List Int) (j : Nat) (n : Int) : Int :=
  rndEven (sumN 33 (fun m => shapeTap gains m * outputChip j (n - (m : Int)))) 30

/-- The live probe of output j in quantum q (R278). A silent programme gives a zero probe. -/
def liveProbe (d : Dev) (j q : Nat) : List Int :=
  let spec := inputSpec d j 0 (q : Int)
  let es := (List.range 16).map (bandEnergy spec)
  if es.all (fun e => e = 0) then List.replicate 32 0 else
  let lv := es.map bandLevel
  let off := divEven ((rdN d 0xB0008 : Int) * 625) 60206
  let gains := (List.range 16).map (fun b => Config.znGain (min (bandMask lv b - off) Config.znLimit))
  (List.range 32).map (fun k => shapedSample gains j ((32 * q + k : Nat) : Int))

/-! ### SURVEY excitation (R275, R276) -/

/-- 10^(level/20) in binary64, rounded to Q1.31, limited to peak_thr (R276). -/
def stepAmplitude (d : Dev) (s : SurveyStep) : Int :=
  let a := fround 31 (b64Fix (fexp (fln (10 * fixOne) * s.level / 5120)) |> fixB64)
  let a := min a 0x7FFFFFFF
  match d.plan.active with
  | some p => let q := planParam p s.output; if q.ctrl.testBit 11 then min a q.peakThr else a
  | none => a

/-- Initial ι, Q32.32 (R276). -/
def sweepStart (d : Dev) (s : SurveyStep) : Nat :=
  (fround 64 (fixB64 (b64Rat (s.fLo : Int) (fsHz d)))).toNat

/-- ρ, Q1.63 (R276). -/
def sweepRatio (s : SurveyStep) : Nat :=
  (fround 63 (fixB64 (b64Fix (fexp (fln (fixRat (s.fHi : Int) s.fLo) / (s.length : Int)))))).toNat

/-- φ of sample i of a sweep, with its fraction: ι is added and multiplied each sample (R276). -/
def sweepPhase (start ratio i : Nat) : Nat :=
  (forN i (fun _ (x : Nat × Nat) => ((x.1 + x.2) % 2 ^ 64, x.2 * ratio / 2 ^ 63 % 2 ^ 64)) (0, start)).1

/-- sin(2πφ / 2³²) in Q2.30 from LUPIN_TWIDDLE with linear interpolation (R276). -/
def phaseSine (phi : Nat) : Int :=
  let i := phi / 2 ^ 17 % 32768
  let f : Int := phi % 2 ^ 17
  let a := sinTab i
  a + (sinTab (i + 1) - a) * f / 2 ^ 17

/-- Does a band lie inside f_lo to f_hi? Its bins 2b and 2b + 1 of 64 points. -/
def bandInside (d : Dev) (s : SurveyStep) (b : Nat) : Bool :=
  decide (64 * s.fLo ≤ 2 * b * fsHz d) && decide ((2 * b + 1) * fsHz d ≤ 64 * s.fHi)

/-- One excitation sample at sample t of a step (R276). -/
def stepSample (d : Dev) (s : SurveyStep) (n : Int) (t : Nat) : Int :=
  let i := t % (s.length + s.gap)
  if t / (s.length + s.gap) ≥ s.reps ∨ i ≥ s.length then 0
  else
    let a := stepAmplitude d s
    if s.kind = 1 then a * phaseSine (sweepPhase (sweepStart d s) (sweepRatio s) i / 2 ^ 32) / 2 ^ 30
    else if s.kind = 2 then
      let gains := (List.range 16).map (fun b => if bandInside d s b then (2 ^ 31 : Int) else 0)
      rndEven (a * shapedSample gains s.output n) 31
    else 0

/-- The steps of the group that starts at a step (R275, R276). -/
def stepGroup : List SurveyStep → List SurveyStep
  | [] => []
  | s :: rest => if s.flags.testBit 0 then s :: stepGroup rest else [s]

/-- The group that runs. -/
def presentGroup (d : Dev) : List SurveyStep := stepGroup (d.survey.program.drop d.survey.step)

/-- Quanta of a group: the longest of its steps, rounded up (R276). -/
def groupQuanta (g : List SurveyStep) : Nat := (g.map (fun s => ceilDiv (s.reps * (s.length + s.gap)) 32)).foldl max 0

/-- The excitation of output j in quantum q. -/
def excitation (d : Dev) (j q : Nat) : List Int :=
  if d.survey.stepQn = 0 then List.replicate 32 0 else
  let q0 := d.survey.stepQn - 1
  match (presentGroup d).find? (fun s => s.output = j) with
  | some s => (List.range 32).map (fun k =>
      if q < q0 then 0 else stepSample d s ((32 * q + k : Nat) : Int) (32 * (q - q0) + k))
  | none => List.replicate 32 0

/-- What Lupin adds at the sum point (R274). -/
def sumPoint (d : Dev) (j q : Nat) : List Int :=
  if d.sys.mode = .survey then excitation d j q
  else if rendering d && bitAt d 0xB0000 0 then liveProbe d j q
  else List.replicate 32 0

/-! ### The end of a correction task (R253 steps 8 to 10, R261) -/

/-- Writes one block into the bulk line of output j (R262). -/
def bulkWrite (j q : Nat) (ys : List Int) (d : Dev) : Dev :=
  { d with lupin := { d.lupin with
    bulk := ys.zipIdx.foldl (fun m e => fput 0 m (264192 * j + (32 * q + e.2) % 264192) e.1) d.lupin.bulk } }

/-- 32 open values: what a correction gives whose store holds an uncorrectable error. -/
def freeBlock (d : Dev) : List Int × Dev :=
  forN 32 (fun _ (acc : List Int × Dev) =>
    let r := takeFree (2 ^ 32) acc.2
    (acc.1 ++ [sext 32 r.1], r.2)) ([], d)

/-- Steps 8 to 10 for output j and quantum q: correction, sum point, bulk line, recorded probe. -/
def correctOutput (j q : Nat) (ecc : Bool) (d : Dev) : Dev :=
  let r := correctBlock d j q
  let d := lupinSats r.2 d
  let x := if ecc then freeBlock d else (r.1, d)
  let d := x.2
  let added := sumPoint d j q
  let sums := List.zipWith (fun (a b : Int) => a + b) x.1 added
  let d := lupinSats (sums.filter (satOvf 32)).length d
  let d := bulkWrite j q (sums.map (satI 32)) d
  let c := corr d j
  let d := putCorr j { c with doneQn := q + 1 } d
  { d with lupin := { d.lupin with probe := fput [] d.lupin.probe (8192 * j + q % 8192) added } }

/-- A correction task ends, unless it waits for a level result (R261, R265, R267). The block is made when the last
correction task of the output and quantum ends. -/
def correctionDone (side j q : Nat) (ecc : Bool) (d : Dev) : Dev :=
  match (entries d).find? (fun e => decide (e.2.side = side) && decide (e.2.kind = 3) && decide (e.2.ref = j)
      && decide (e.2.qn = q) && decide (e.2.state = 3)) with
  | none => d
  | some e =>
    if levelWait d j q then
      if fget false d.lupin.lateSeen (512 * q + j) then d
      else
        let d := setFlag 0xA0004 9 (incCnt 0xA0018 d)
        { d with lupin := { d.lupin with lateSeen := fput false d.lupin.lateSeen (512 * q + j) true } }
    else
      let d := { d with
        lupin := { d.lupin with lateSeen := fput false d.lupin.lateSeen (512 * q + j) false }
        disp := { d.disp with lupinQ := d.disp.lupinQ.filter (· ≠ e.1) } }
      let d := freeEntry e.1 e.2 (unitByte 3 0) d
      let d := if ecc then lupinEcc d else d
      let more := (entries d).any (fun x => decide (x.2.kind = 3) && decide (x.2.qn = q) && decide (x.2.ref = j))
      if more then d else correctOutput j q ecc d

/-! ### Bulk delay and departure (R262, R263) -/

/-- B_eff of an output for a quantum, before the clamp (R262). -/
def bulkDelay (d : Dev) (p : Plan) (j q : Nat) : Nat :=
  let prm := planParam p j
  let k := fget d.geom.k d.geom.kHist (q % 8)
  let bt := (256 * prm.trackMm * k + 2 ^ 31) / 2 ^ 32 / 256
  (planTask p j).bulk + bt - 32 * paramLook prm

/-- A sample of a bulk line at a domain sample; a position not written reads zero (R262). -/
def bulkAt (d : Dev) (j : Nat) (n : Int) : Int := fget 0 d.lupin.bulk (264192 * j + (n % 264192).toNat)

/-- The block that departs for output j and quantum q (R262, R263). -/
def departBlock (p : Plan) (j q : Nat) (d : Dev) : List Int × Dev :=
  let raw := bulkDelay d p j q
  let b := min raw 262144
  let d := if raw > 262144 then setFlag 0xA0004 10 d else d
  let c := corr d j
  let at' (x : Nat) (k : Nat) : Int := bulkAt d j (((32 * q + k : Nat) : Int) - (x : Int))
  let old := if c.prevB = 0 then b else c.prevB - 1
  let ys := (List.range 32).map (fun k => if old = b then at' b k else mixAt (at' old k) (at' b k) k 32)
  (ys, putCorr j { c with prevB := b + 1 } d)

/-! ### Programmes (R275, R276) -/

/-- A programme step from its 32 bytes. -/
def parseStep (b : Bytes) : SurveyStep :=
  ⟨leAt b 0 2, leAt b 2 1, leAt b 3 1, sext 16 (leAt b 4 2), leAt b 6 2, leAt b 8 4, leAt b 12 4, leAt b 16 4, leAt b 20 4⟩

/-- Is a step within its ranges (R275)? -/
def stepOk (d : Dev) (b : Bytes) : Bool :=
  let s := parseStep b
  decide (s.output < 512) && decide (1 ≤ s.kind) && decide (s.kind ≤ 3) && decide (s.flags < 2)
    && decide (-24576 ≤ s.level) && decide (s.level ≤ 0) && decide (1 ≤ s.reps) && decide (s.reps ≤ 64)
    && decide (16384 ≤ s.length) && decide (s.length ≤ 2097152) && decide (10 ≤ s.fLo) && decide (s.fLo < s.fHi)
    && decide (2 * s.fHi ≤ fsHz d) && decide (s.gap ≤ 2097152) && zeroAt b 24 8

/-- Does a group of more than one step hold a sweep (R275)? `inGroup` says that the step before joins this one. -/
def groupedSweep (inGroup : Bool) : List SurveyStep → Bool
  | [] => false
  | s :: rest => ((inGroup || s.flags.testBit 0) && decide (s.kind = 1)) || groupedSweep (s.flags.testBit 0) rest

/-- A group or step starts at the boundary of quantum q (R276). -/
def surveyStepStart (q : Nat) (d : Dev) : Dev :=
  if d.sys.mode ≠ .survey ∨ d.survey.stepQn ≠ 0 ∨ d.survey.tailQn ≠ 0 then d
  else if d.survey.step < d.survey.program.length then
    { d with survey := { d.survey with running := true, stepQn := q + 1 } }
  else d

/-! ### Identification (R279 to R282) -/

/-- The base of a DRAM region (R449). -/
def regionBase (d : Dev) (i : Nat) : Nat := addr64 d (0x1A0100 + 0x10 * i) % 2 ^ 40

/-- The render slot of output j (R449). -/
def renderSlot (d : Dev) (j : Nat) : Nat :=
  if bitAt d 0x1A0000 0 then
    match d.plan.active with
    | some p => ((List.range j).filter (rendersOut d p)).length
    | none => j
  else j

/-- Render slots per microphone. -/
def slotCount (d : Dev) : Nat := if bitAt d 0x1A0000 0 then 256 else 512

/-- DRAM address of the record of a pair (R449). -/
def irAddr (d : Dev) (m j : Nat) : Nat := regionBase d 5 + (slotCount d * m + renderSlot d j) * 65600

/-- Is microphone m enabled? -/
def micOn (d : Dev) (m : Nat) : Bool := bitAt d (0xB100C + 0x10 * m) 7

/-- Distance of output j to microphone m in 1/256 mm. -/
def micDistance (d : Dev) (p : Plan) (m j : Nat) : Nat :=
  let u := planOut p j
  distQ (sext 24 (rdN d (0xB1000 + 0x10 * m))) (sext 24 (rdN d (0xB1004 + 0x10 * m)))
    (sext 24 (rdN d (0xB1008 + 0x10 * m))) u.x u.y u.z

/-- The start w of a response (R279). -/
def irStart (d : Dev) (p : Plan) (m j q : Nat) : Int :=
  ((min (bulkDelay d p j q) 262144 + (planParam p j).extLatency
    + (micDistance d p m j * d.geom.k + 2 ^ 31) / 2 ^ 32 / 256 : Nat) : Int) - (rdN d 0xB0010 : Int)

/-- The band of an output: 20 Hz to fs/2, unless the descriptor of a design job for it names another (R281). -/
def outBand (d : Dev) (j : Nat) : Nat × Nat :=
  match d.survey.jobs.find? (fun x => decide (x.output = j)) with
  | some x => (leVal (memRead d (x.desc + 20) 4), leVal (memRead d (x.desc + 24) 4))
  | none => (20, fsHz d / 2)

/-- Quality: 255 × the mean coherence over the bins of the output's band, rounded down (R281; log 60). -/
def irQuality (d : Dev) (r : IrResult) : Nat :=
  let band := outBand d r.output
  let bins := (List.range 16385).filter (fun k =>
    decide (band.1 * 32768 ≤ k * fsHz d) && decide (k * fsHz d ≤ band.2 * 32768))
  255 * (bins.map (fun k => min 65536 (r.coherence.getD k 0))).sum / (65536 * max 1 bins.length)

/-- The response of a pair: one that the command gives, or an open one. The spec fixes neither the windows nor the
arithmetic of the estimate (R279, R282; log 60). -/
def irFor (results : List IrResult) (m j : Nat) (d : Dev) : IrResult × Dev :=
  match results.find? (fun r => decide (r.mic = m) && decide (r.output = j)) with
  | some r => (r, d)
  | none =>
    let s := takeFree 16 d
    (⟨j, m, s.1, (List.range 16384).map (fun i => (Config.openSample d.free i).toInt),
      (List.range 16385).map (Config.openCoherence d.free)⟩, s.2)

/-- The responses of pairs, in order. -/
def irAll (results : List IrResult) (pairs : List (Nat × Nat)) (d : Dev) : List IrResult × Dev :=
  forL pairs (fun x (acc : List IrResult × Dev) =>
    let r := irFor results x.1 x.2 acc.2
    (acc.1 ++ [r.1], r.2)) ([], d)

/-- Writes the record of a response (R281). -/
def irWrite (p : Plan) (source q : Nat) (r : IrResult) (d : Dev) : Dev :=
  let samples := (List.range 16384).flatMap (fun i => leInt 4 (r.samples.getD i 0))
  let head := leBytes 2 r.output ++ leBytes 1 r.mic ++ leBytes 1 source ++ leBytes 5 q ++ leBytes 1 (irQuality d r)
    ++ leBytes 2 (fld d 0x50050 15 0) ++ leInt 4 (irStart d p r.mic r.output q) ++ leBytes 1 r.scale ++ zeros 3
    ++ leBytes 4 (crc32c samples) ++ zeros 40
  let d := memWrite (irAddr d r.mic r.output) (head ++ samples) (incCnt 0xB0024 d)
  { d with survey := { d.survey with fresh := fput false d.survey.fresh (128 * r.output + r.mic) true } }

/-- The pairs that a group of steps identifies: its outputs at every enabled microphone, in order of (m, j) (R276). -/
def groupPairs (d : Dev) (p : Plan) (g : List SurveyStep) : List (Nat × Nat) :=
  ((List.range 72).filter (micOn d)).flatMap (fun m =>
    ((List.range 512).filter (fun j => rendersOut d p j && g.any (fun s => s.output = j))).map (fun j => (m, j)))

/-- The end of a programme step or group: the records of its outputs at every enabled microphone are written and the next
step may start (R276). -/
def surveyStepEnd (results : List IrResult) (d : Dev) : Dev :=
  if d.survey.stepQn = 0 then d else
  let g := presentGroup d
  let q0 := d.survey.stepQn - 1
  if qnNow d < q0 + groupQuanta g then d else
  let d := match d.plan.active with
    | some p =>
      let rs := irAll results (groupPairs d p g) d
      forL rs.1 (irWrite p 1 (q0 + groupQuanta g)) rs.2
    | none => d
  let next := d.survey.step + g.length
  { d with survey := { d.survey with
    step := next, stepQn := 0
    tailQn := if next < d.survey.program.length then 0 else q0 + groupQuanta g + 512 + 1 } }

/-- The pairs enabled, in ascending order of (m, j) (R280). -/
def surveyPairs (d : Dev) (p : Plan) : List (Nat × Nat) :=
  ((List.range 72).filter (micOn d)).flatMap (fun m => ((List.range 512).filter (rendersOut d p)).map (fun j => (m, j)))

/-- Groups of 4,096 pairs (R280). -/
def pairGroups (d : Dev) (p : Plan) : Nat := ceilDiv (surveyPairs d p).length 4096

/-! ### Microphones in a period (R282) -/

/-- Does live identification run: while rendering, out of SURVEY, with live_en (R279, R288)? -/
def identifies (d : Dev) : Bool :=
  rendering d && bitAt d 0xB0000 0 && decide (d.sys.mode ≠ .survey) && d.plan.active.isSome

/-- A microphone is excluded for the rest of the period (R282). -/
def micOut (m : Nat) (x : MicPeriod) (unsettled : Bool) (d : Dev) : Dev :=
  raiseEvent evSurveyMicFault (leBytes 1 m ++ [Config.micReason unsettled]) (setFlag 0xB0004 8 { d with survey := { d.survey with
    heard := fput {} d.survey.heard m { x with out := true }, micOk := fput false d.survey.micOk m false } })

/-- One sample of a microphone at a rate: more than 1 % of the period's samples at 0x7F00_0000 or more, or the unsettled
flag for more than 10 ms on end, excludes it (R282). -/
def micHear (m rate : Nat) (x : Int) (flag : Bool) (d : Dev) : Dev :=
  let h := fget {} d.survey.heard m
  if h.out then d else
  let h := { h with
    clipped := h.clipped + b2n (decide (x.natAbs ≥ 0x7F000000)), flagged := if flag then h.flagged + 1 else 0 }
  if h.clipped * 100 > rdN d 0xB000C * rate then micOut m h false d
  else if h.flagged * 100 > rate then micOut m h true d
  else { d with survey := { d.survey with heard := fput {} d.survey.heard m h } }

/-! ### Air temperature (R283) -/

/-- First sample of a response within 6 dB of its largest magnitude. -/
def firstArrival (xs : List Int) : Option Nat :=
  let peak := (xs.map Int.natAbs).foldl max 0
  -- 10^(−6/20) as a fixed-point ratio.
  let thr := fexp (-(fln (10 * fixOne) * 6 / 20))
  if peak = 0 then none
  else xs.findIdx? (fun x => decide ((x.natAbs : Int) * fixOne ≥ (peak : Int) * thr))

/-- T_p of output j at microphone m, in binary64 as a fixed-point number, from a response that starts at w (R283); none
when the arrival is not after the sum point. -/
def pairTemp (d : Dev) (p : Plan) (q m j : Nat) (w : Int) (samples : List Int) : Option Int :=
  match firstArrival samples with
  | none => none
  | some i =>
    let tau := w + (i : Int) - ((min (bulkDelay d p j q) 262144 + (planParam p j).extLatency : Nat) : Int)
    if tau ≤ 0 then none else
    let c := b64Div (b64Rat (micDistance d p m j : Int) 256) (b64Rat tau (fsHz d))
    let x := b64Div c (b64Rat 331300 1)
    some (fixB64 (b64Mul (b64Rat 27315 100) (b64Sub (b64Mul x x) (b64Rat 1 1))))

/-- The median of the estimates; of an even number, the mean of the middle two. -/
def median (xs : List Int) : Int :=
  let s := xs.mergeSort (fun a b => decide (a ≤ b))
  let n := s.length
  if n % 2 = 1 then s.getD (n / 2) 0 else (s.getD (n / 2 - 1) 0 + s.getD (n / 2) 0) / 2

/-- The estimates of the pairs that this device wrote in the period (R283). -/
def ownTemps (d : Dev) (p : Plan) (q : Nat) (results : List IrResult) : List Int :=
  (results.filter (fun r => decide (irQuality d r ≥ fld d 0xB0000 15 8))).filterMap
    (fun r => pairTemp d p q r.mic r.output (irStart d p r.mic r.output q) r.samples)

/-- The records that device 0 of a formed pair holds of its partner, by 512 × microphone + output (R286, R384). -/
def pairRecords (d : Dev) : FMap Bytes :=
  if d.pair.state = 2 ∧ fld d 0x210 5 0 = 0 then d.pair.partnerIr else []

/-- The estimates of the partner's records of the last SURVEY_PERIOD; the microphone stands where this device's registers
have it (R283, R384; log 60). -/
def partnerTemps (d : Dev) (p : Plan) (q : Nat) : List Int :=
  ((pairRecords d).filter (fun e => decide (leAt e.2 9 1 ≥ fld d 0xB0000 15 8)
      && decide (q < leAt e.2 4 5 + rdN d 0xB000C * fsHz d / 32))).filterMap
    (fun e => pairTemp d p q (e.1 / 512) (e.1 % 512) (sext 32 (leAt e.2 12 4))
      ((List.range 16384).map (fun i => sext 32 (leAt e.2 (64 + 4 * i) 4))))

/-- The temperature estimate T after a period is the median of the pairs' estimates: shown, then applied as SET_AIR or
rejected (R283, R288). Without a pair that qualifies there is no estimate to show. -/
def tempEstimate (ts : List Int) (d : Dev) : Dev :=
  if bitAt d 0xB0000 1 = false then d else
  let present := sext 16 (fld d 0x50050 15 0)
  let t := median ts
  let diff := t - present * fixOne / 256
  let d := { d with survey := { d.survey with
    temp := if ts = [] then d.survey.temp else fround 8 t, tempPairs := ts.length } }
  if ts.length < 8 ∨ diff.natAbs < (fixOne / 4).natAbs then setFlag 0xB0004 9 (incCnt 0xB002C d)
  else
    let t8 := clampI (-10240) 15360 (clampI (present - 512) (present + 512) (fround 8 t))
    { d with geom := { d.geom with
      airReqs := d.geom.airReqs ++ [⟨qnNow d + leadQn d, t8, fld d 0x50050 23 16, none⟩] } }

/-! ### Design jobs (R284 to R286) -/

/-- The allotment of output j in the active plan. -/
def tapAllot (d : Dev) (j : Nat) : Nat :=
  match d.plan.active with
  | some p => paramTaps (planParam p j)
  | none => 0

/-- The descriptor of a job that is submitted, with status 0x00, pending (R284). -/
def designDesc (j units : Nat) (f : DesignForm) : Bytes :=
  leBytes 2 j ++ leBytes 1 units ++ leBytes 1 f.smoothing ++ leBytes 9 f.micMask ++ zeros 1 ++ leBytes 2 f.maxBoost
    ++ leBytes 2 f.maxCut ++ zeros 2 ++ leBytes 4 f.fLo ++ leBytes 4 f.fHi ++ zeros 4 ++ leBytes 8 f.target
    ++ leBytes 8 f.result ++ zeros 16

/-- The firmware's choice of a job's fields where the command names none: open values of the fields' widths (log 60). -/
def designFree (d : Dev) : DesignForm × Dev :=
  let r := forL [8, 72, 16, 16, 32, 32, 64, 64] (fun w (acc : List Nat × Dev) =>
    let x := takeFree (2 ^ w) acc.2
    (acc.1 ++ [x.1], x.2)) ([], d)
  let v (i : Nat) : Nat := r.1.getD i 0
  (⟨v 0, v 1, v 2, v 3, v 4, v 5, v 6, v 7⟩, r.2)

/-- The firmware submits a design job for an output: it writes the descriptor and queues a background item (R284, R286).
The descriptor's address and fields and the entry point are the firmware's: what the command does not give is open. -/
def designSubmit (j : Nat) (desc : Option Nat) (form : Option DesignForm) (d : Dev) : Dev :=
  let a := match desc with
    | some x => (x, d)
    | none => takeFree (2 ^ 32) d
  let f := match form with
    | some x => (x, a.2)
    | none => designFree a.2
  let e := takeFree (2 ^ 20) f.2
  let d := memWrite a.1 (designDesc j (tapAllot d j) f.1) e.2
  { d with
    survey := { d.survey with
      jobs := d.survey.jobs ++ [⟨a.1, j, nowNs d, false⟩]
      fresh := d.survey.fresh.filter (fun x => decide (x.1 % 65536 / 128 ≠ j)) }
    disp := { d.disp with bgQ := d.disp.bgQ ++ [⟨e.1, a.1, 0xFFFF, d.disp.bgSeq⟩], bgSeq := d.disp.bgSeq + 1 } }

/-- Outputs whose records, the partner's among them, have all been refreshed since their last design (R286). -/
def allFresh (d : Dev) (p : Plan) : List Nat :=
  let mics := (List.range 72).filter (micOn d)
  let theirs (j : Nat) : List Nat := (pairRecords d).filterMap (fun e => if e.1 % 512 = j then some (e.1 / 512) else none)
  (List.range 512).filter (fun j => rendersOut d p j && !(mics.isEmpty && (theirs j).isEmpty)
    && mics.all (fun m => fget false d.survey.fresh (128 * j + m))
    && (theirs j).all (fun m => fget false d.survey.fresh (65536 + 128 * j + m)))

/-- Does this device estimate and design: it is not device 1 of a formed pair (R384)? -/
def designsHere (d : Dev) : Bool := decide (d.pair.state ≠ 2) || decide (fld d 0x210 5 0 = 0)

/-- The pairs of the group of the present period whose microphone is not excluded (R280, R282). -/
def periodPairs (d : Dev) (p : Plan) : List (Nat × Nat) :=
  (((surveyPairs d p).drop (4096 * d.survey.pairGroup)).take 4096).filter (fun x => !(fget {} d.survey.heard x.1).out)

/-- A live period ends: excluded microphones, records, temperature, designs (R279 to R283, R286). On a formed pair device
0 alone estimates and designs, from both devices' records (R384). `descs` and `designs` are the addresses and fields of the
descriptors that the firmware submits. -/
def periodEnd (results : List IrResult) (descs : List Nat) (designs : List DesignForm) (d : Dev) : Dev :=
  match d.plan.active with
  | none => d
  | some p =>
    if identifies d = false then d else
    let q := qnNow d
    let ok := (List.range 72).filter (fun m => micOn d m && !(fget {} d.survey.heard m).out)
    let pairs := periodPairs d p
    let d := { d with survey := { d.survey with micOk := ok.map (fun m => (m, true)), heard := [] } }
    let rs := irAll results pairs d
    let d := forL rs.1 (irWrite p 2 q) rs.2
    let next := d.survey.pairGroup + 1
    let d := { d with survey := { d.survey with pairGroup := if next < pairGroups d p then next else 0 } }
    let own := designsHere d
    let d := onlyIf own (tempEstimate (ownTemps d p q rs.1 ++ partnerTemps d p q)) d
    if bitAt d 0xB0000 2 && own then forL (allFresh d p).zipIdx (fun x => designSubmit x.1 descs[x.2]? designs[x.2]?) d else d

/-- A design job fails with a status: no image, counted, raised (R285). -/
def designFail (desc status : Nat) (d : Dev) : Dev :=
  let d := memWrite (desc + 48) (leBytes 1 status) d
  let d := memWrite (desc + 52) (leBytes 4 (ct32 d)) d
  let d := setFlag 0xB0004 10 (incCnt 0xB0028 d)
  let d := { d with survey := { d.survey with jobs := d.survey.jobs.filter (fun x => x.desc ≠ desc) } }
  raiseEvent evCorrDesignFail (leBytes 1 status) d

/-- The image of a design (R269, R285). -/
def designImage (d : Dev) (desc : Nat) (taps : List Int) (id : Nat) : Bytes :=
  let u := leVal (memRead d (desc + 2) 1)
  let body := (List.range (2048 * u)).flatMap (fun i => leInt 4 (taps.getD i 0))
  leBytes 4 0x43464C52 ++ memRead d desc 2 ++ leBytes 1 u ++ leBytes 1 1 ++ leBytes 4 (crc32c body)
    ++ leBytes 4 (ct32 d) ++ leBytes 8 id ++ zeros 40 ++ body

/-- Are the fields of a descriptor in range, and its tap_units the output's allotment (R284)? -/
def designInRange (d : Dev) (b : Bytes) : Bool :=
  let u := leAt b 2 1
  decide (leAt b 0 2 < 512) && decide (1 ≤ u) && decide (u ≤ 64) && decide (u = tapAllot d (leAt b 0 2))
    && decide (leAt b 3 1 ∈ [1, 3, 6, 12, 24]) && decide (leAt b 14 2 ≤ 0x0C00) && decide (leAt b 16 2 ≤ 0x2800)
    && decide (10 ≤ leAt b 20 4) && decide (leAt b 20 4 < leAt b 24 4) && decide (2 * leAt b 24 4 ≤ fsHz d)
    && decide (leAt b 40 8 % 64 = 0) && zeroAt b 13 1 && zeroAt b 18 2 && zeroAt b 28 4 && zeroAt b 50 2 && zeroAt b 56 8

/-- The microphones of the mask with a library record of output j, its own or the partner's, of at least min_quality
(R284, R285). -/
def designMics (d : Dev) (j mask : Nat) : List Nat :=
  let good (m : Nat) (b : Bytes) : Bool := decide (leAt b 0 2 = j) && decide (leAt b 2 1 = m)
    && decide (leAt b 3 1 ∈ [1, 2]) && decide (leAt b 9 1 ≥ fld d 0xB0000 15 8)
  (List.range 72).filter (fun m => mask.testBit m && (good m (memRead d (irAddr d m j) 64)
    || (pairRecords d).any (fun e => decide (e.1 = 512 * m + j) && good m e.2)))

/-- Why a job that runs to its end writes no image: a field out of range, or no record to design from (R284). -/
def designRefused (d : Dev) (desc : Nat) : Option Nat :=
  let b := memRead d desc 64
  if designInRange d b = false then some 3
  else if designMics d (leAt b 0 2) (leAt b 4 9) = [] then some 2
  else none

/-- A design job ends with an image, which is written and, with auto_apply at 0, reported (R285, R286). -/
def designDone (desc mics : Nat) (taps : List Int) (d : Dev) : Dev :=
  let id := takeFree (2 ^ 64) d
  let d := id.2
  let img := designImage d desc taps id.1
  let d := memWrite (leVal (memRead d (desc + 40) 8) % 2 ^ 40) img d
  let d := memWrite (desc + 48) (leBytes 1 1 ++ leBytes 1 mics) d
  let d := memWrite (desc + 52) (leBytes 4 (ct32 d)) d
  let d := { d with survey := { d.survey with jobs := d.survey.jobs.filter (fun x => x.desc ≠ desc) } }
  if bitAt d 0xB0000 2 then d else raiseEvent evCorrImageReady [] d

/-- A change of tap_units abandons the design jobs of the output (R273). -/
def designAbandon (j : Nat) (d : Dev) : Dev :=
  forL (d.survey.jobs.filter (fun x => x.output = j)) (fun x d => designFail x.desc 5 d) d

end Sys2Proof.Machine
end

