-- ==== Sys2Proof/Machine/PairTx.lean ====
section
/-!
DEFINITION. What a paired device sends (R392 to R394), and reports of outputs lost and restored (R125, R126, R385).
-/

namespace Sys2Proof.Machine

/-! ### Pair frames -/

/-- Does the device take part in pairing (R378)? -/
def pairOn (d : Dev) : Bool := bitAt d 0x140000 0 && bitAt d 0x210 8 && decide (role d = 1)

/-- Is the pair formed? -/
def pairFormed (d : Dev) : Bool := decide (d.pair.state = 2)

/-- A path's record: 0 Ethernet, 1 pair link. -/
def pathSt (d : Dev) (p : Nat) : PathSt := fget {} d.pair.paths p

/-- Replaces it. -/
def putPath (p : Nat) (x : PathSt) (d : Dev) : Dev :=
  { d with pair := { d.pair with paths := fput {} d.pair.paths p x } }

/-- Own dev_index. -/
def devIndex (d : Dev) : Nat := fld d 0x210 5 0

/-- The bytes of a pair frame over a path (R392). -/
def pairFrameBytes (d : Dev) (path : Nat) (records : Bytes) : Bytes :=
  let body := beBytes 2 0x5950 ++ [1] ++ beBytes 1 (devIndex d + 64 * path) ++ beBytes 2 (fld d 0x210 31 16)
    ++ beBytes 2 records.length ++ records
  body ++ beBytes 4 (crc32c body)

/-- The bytes of a record (R393). -/
def pairRecord (kind flags mseq : Nat) (body : Bytes) : Bytes :=
  beBytes 1 kind ++ beBytes 1 flags ++ beBytes 2 (body.length + 8) ++ beBytes 4 mseq ++ body

/-- Sends records in a frame on a path (R392). -/
def pairSendOn (path : Nat) (records : Bytes) (d : Dev) : Dev :=
  let bs := pairFrameBytes d path records
  if path = 0 then txPush (fld d 0x140000 5 4) 7 51232 bs d else emit (.pairFrame 1 bs) d

/-- Does a record kind travel on the pair link only (R393)? -/
def linkOnly (kind : Nat) : Bool :=
  decide (kind = 9) || decide (kind = 10) || decide (kind = 12) || decide (kind = 13) || decide (kind = 14)

/-- Sends one record on its paths; a pair-link fault stops the link-only ones (R393, R400). -/
def pairSend (kind flags mseq : Nat) (body : Bytes) (d : Dev) : Dev :=
  let r := pairRecord kind flags mseq body
  if linkOnly kind then (if (pathSt d 1).good then pairSendOn 1 r d else d)
  else pairSendOn 1 r (pairSendOn 0 r d)

/-- Sends a sequenced record and keeps it until it is acknowledged (R394). -/
def pairSendSeq (kind : Nat) (body : Bytes) (untilQn : Option Nat) (d : Dev) : Dev :=
  let m := d.pair.txSeq
  let d := pairSend kind 0 m body d
  { d with pair := { d.pair with
    txSeq := (m + 1) % 2 ^ 32
    unacked := d.pair.unacked ++ [⟨m, kind, body, untilQn, 0⟩] } }

/-! ### Received audio of a joining pair (R405) -/

/-- A record of the copied state: its region, the place in it and the bytes (R396, R405). -/
def bulkSend (region offset : Nat) (bs : Bytes) (d : Dev) : Dev :=
  pairSend 12 0 0 ([Config.bulkRegion region] ++ zeros 3 ++ beBytes 8 offset ++ bs) d

/-- Received audio is written to staging. During a join the device that renders forwards the write; the joiner writes its own
received audio only from the first position of J + 3 on (R405). -/
def inputWrite (o n : Nat) (x : Int) (d : Dev) : Dev :=
  match d.pair.join with
  | none => stagingWrite o n x d
  | some w =>
    if w.joiner then
      match w.j with
      | some j => if 32 * (j + 3) ≤ n then stagingWrite o n x d else d
      | none => d
    else bulkSend 1 (4 * stagingKey o n) (leInt 4 x) (stagingWrite o n x d)

/-! ### Reports of outputs (R125, R126, R385, R386) -/

/-- A scheduled change of the same output to the same state that a change at quantum q repeats, if one waits: no change to the
other state lies between the two (R386). -/
def availTwin (d : Dev) (output : Nat) (available : Bool) (q : Nat) : Option AvailReq :=
  let mine := d.geom.availReqs.filter (fun r => decide (r.output = output) && r.mask.isNone)
  mine.find? (fun r => (r.available == available)
    && mine.all (fun x => (x.available == available) || decide (x.applyQn < min r.applyQn q) || decide (max r.applyQn q < x.applyQn)))

/-- Would a report change the state that an output has when every scheduled change has been made (R125)? -/
def availNew (d : Dev) (output : Nat) (available : Bool) : Bool := (availMaskAhead d).testBit output != available

/-- One command of two merged copies is kept with the change; a second completes at once. -/
def availCid (a b : Option Nat) (q : Nat) (d : Dev) : Option Nat × Dev :=
  match a, b with
  | none, c => (c, d)
  | some c, none => (some c, d)
  | some c, some e => (some c, complete e cDone 0 q d)

/-- Schedules a reported change, on a pair merged with the same change when it waits already: the earlier apply QN stands
(R386). -/
def availMerge (r : AvailReq) (d : Dev) : Dev :=
  match (if mirrorsInputs d then availTwin d r.output r.available r.applyQn else none) with
  | none => availSchedule r d
  | some t =>
    let rest := d.geom.availReqs.filter (fun x => x ≠ t)
    if t.applyQn ≤ r.applyQn then
      let c := availCid t.cid r.cid t.applyQn d
      { c.2 with geom := { c.2.geom with availReqs := rest ++ [{ t with cid := c.1 }] } }
    else
      let c := availCid r.cid t.cid r.applyQn d
      availSchedule { r with cid := c.1 } { c.2 with geom := { c.2.geom with availReqs := rest } }

/-- The header of a control stream with one record (R355). -/
def controlHead (d : Dev) : Bytes := beBytes 2 0x5943 ++ [1, 1] ++ beBytes 2 (fld d 0x210 31 16) ++ zeros 2

/-- A central device's record of a change of an output, with the sequence advanced and kept for the repeats. Both devices of a
pair advance it with every change, whichever of them made it (R54, R125, R126). -/
def availNote (output cause q : Nat) (d : Dev) : Dev :=
  let d := { d with geom := { d.geom with
    availSeq := (d.geom.availSeq + 1) % 65536, availSent := true, lastCause := cause, lastOutput := output } }
  { d with geom := { d.geom with availLast := availRecord q d } }

/-- A central device multicasts its record of a change of an output (R125, R126). -/
def availMulticast (output cause q : Nat) (d : Dev) : Dev :=
  let d := availNote output cause q d
  multicast 6 51231 (controlHead d ++ d.geom.availLast) d

/-- AVAIL to the partner (R125, R385). -/
def availSend (output cause : Nat) (available : Bool) (q : Nat) (d : Dev) : Dev :=
  if mirrorsInputs d then
    pairSendSeq 3 (beBytes 5 q ++ beBytes 1 cause ++ beBytes 2 (output + 32768 * b2n available)) (some q) d
  else d

/-- A change of an output at an apply QN, as a central device sends it: AVAIL to the partner, and the record of R126 to
the domain (R125, R385). -/
def availTell (output cause : Nat) (available : Bool) (q : Nat) (d : Dev) : Dev :=
  availMulticast output cause q (availSend output cause available q d)

/-- A reported change that this device decides takes the apply QN q (R125). A report of a change that is counted already goes to the
partner, and the record of that change is sent again. -/
def availDecide (output cause : Nat) (available : Bool) (q : Nat) (cid : Option Nat) (d : Dev) : Dev :=
  let isNew := availNew d output available
  let d := availMerge ⟨q, output, available, cause, cid, none⟩ d
  if role d ≠ 1 then d
  else if isNew then availTell output cause available q d
  else
    let d := availSend output cause available q d
    if d.geom.availSent then multicast 6 51231 (controlHead d ++ d.geom.availLast) d else d

/-- The device reports an output lost or restored: an edge device to the central pair, another device to itself
(R125). -/
def availReport (output cause : Nat) (available : Bool) (d : Dev) : Dev :=
  if role d = 2 then emit (.availReport output cause available) d
  else availDecide output cause available (availLeadQn d) none d

/-- A central device receives a report (R125). -/
def availReportReceive (output cause : Nat) (available : Bool) (d : Dev) : Dev :=
  if role d ≠ 1 ∨ output ≥ 512 then d else availDecide output cause available (availLeadQn d) none d

/-- An AVAIL record of the partner: the change takes its apply QN, and its record is the one repeated from here on. A copy of a change
that has been applied is discarded (R125, R385, R386). -/
def availFromPartner (body : Bytes) (d : Dev) : Dev :=
  let w := beAt body 6 2
  let q := beAt body 0 5
  let cause := beAt body 5 1
  let up := w.testBit 15
  let isNew := availNew d (w % 512) up
  if isNew = false ∧ (availTwin d (w % 512) up q).isNone then d else
  let d := availMerge ⟨q, w % 512, up, cause, none, none⟩ d
  if isNew then availNote (w % 512) cause q d else d

end Sys2Proof.Machine
end

