-- ==== Sys2Proof/Machine/Drive.lean ====
section
/-!
DEFINITION. Direct drive: channels and bridges, common-mode ramps, the rail-sag limiter, load diagnostics, latches and
retries (10_direct_drive.md). The channel functions act on a bridge's leader and follower together.
-/

namespace Sys2Proof.Machine

/-! ### Channels, bridges, rails -/

/-- DRV_CH_CFG of a channel; its other registers follow (R323). -/
def drvA (c : Nat) : Nat := 0x171000 + 0x40 * c

/-- DRV_RAIL_CFG of a rail. -/
def railA (r : Nat) : Nat := 0x170040 + 0x10 * r

/-- Topology of a channel: 0 single-ended, 1 leader, 2 follower (R305). -/
def drvTopo (d : Dev) (c : Nat) : Nat := fld d (drvA c) 2 1

/-- The channel whose settings rule a channel: itself, or the leader of its bridge (R305). -/
def drvLead (d : Dev) (c : Nat) : Nat := if drvTopo d c = 2 ∧ c % 2 = 1 then c - 1 else c

/-- The channels that act together with channel c: itself, or both of its bridge. -/
def drvMembers (d : Dev) (c : Nat) : List Nat :=
  let l := drvLead d c
  if drvTopo d l = 1 ∧ l % 2 = 0 then [l, l + 1] else [c]

/-- A channel's record. -/
def drvCh (d : Dev) (c : Nat) : DrvCh := fget {} d.drv.chans c

/-- Replaces it. -/
def putDrv (c : Nat) (x : DrvCh) (d : Dev) : Dev := { d with drv := { d.drv with chans := fput {} d.drv.chans c x } }

/-- Changes the records of a channel and its bridge partner. -/
def updDrv (c : Nat) (f : DrvCh → DrvCh) (d : Dev) : Dev :=
  forL (drvMembers d c) (fun i d => putDrv i (f (drvCh d i)) d) d

/-- A rail's record. -/
def drvRail (d : Dev) (r : Nat) : Rail := fget {} d.drv.rails r

/-- Replaces it. -/
def putRail (r : Nat) (x : Rail) (d : Dev) : Dev := { d with drv := { d.drv with rails := fput {} d.drv.rails r x } }

/-- The rail of a channel. -/
def railOf (d : Dev) (c : Nat) : Nat := fld d (drvA (drvLead d c)) 9 7

/-- Is a channel enabled: direct drive runs and the enable of its leader is set (R305)? -/
def drvOn (d : Dev) (c : Nat) : Bool := bitAt d 0x170000 0 && bitAt d (drvA (drvLead d c)) 0

/-- Channels that rule themselves: every channel but bridge followers. -/
def drvHeads (d : Dev) : List Nat := (List.range 16).filter (fun c => decide (drvLead d c = c))

/-- Does a channel in a state switch its gates (R322)? -/
def stateSwitches (x : DrvCh) : Bool :=
  (decide (2 ≤ x.state) && decide (x.state ≤ 5)) || (decide (x.state = 1) && decide (2 ≤ x.step))

/-- Does a channel switch? -/
def drvSwitches (d : Dev) (c : Nat) : Bool := stateSwitches (drvCh d c)

/-- Is a channel latched, or awaiting its retry? -/
def drvLatched (d : Dev) (c : Nat) : Bool := decide ((drvCh d c).state = 6) || decide ((drvCh d c).state = 7)

/-- Changes a channel and its bridge partner and drives their gate balls when they start or stop switching (R322). A
start of switching clears the lock and arms DRV_UNLOCK (R308). -/
def drvGo (c : Nat) (f : DrvCh → DrvCh) (d : Dev) : Dev :=
  forL (drvMembers d c) (fun i d =>
    let x := drvCh d i
    let y := f x
    if stateSwitches x = stateSwitches y then putDrv i y d
    else emit (.ball "DRV" i (b2n (stateSwitches y))) (putDrv i { y with locked := false, unlockRaised := false } d)) d

/-- The outputs of the active plan that this device feeds to a channel (R163, R306). -/
def drvOutputs (d : Dev) (c : Nat) : List Nat :=
  match d.plan.active with
  | none => []
  | some p => (List.range p.outputs.length).filter (fun j =>
      decide ((planTask p j).sink = 2) && decide ((planTask p j).destIndex = drvLead d c) && rendersOut d p j)

/-- Reports every output that a channel feeds (R125). -/
def drvReport (c cause : Nat) (available : Bool) (d : Dev) : Dev :=
  forL (drvOutputs d c) (fun j d => availReport j cause available d) d

/-! ### Common-mode ramps (R309, R310) -/

/-- t_cm of a channel in ns. -/
def cmFull (d : Dev) (c : Nat) : Nat := fld d (drvA (drvLead d c)) 29 21 * 1000000

/-- Starts the up-ramp of a channel, or leaves it waiting for a settled rail (R309, R311). -/
def cmUp (c : Nat) (d : Dev) : Dev :=
  let r := drvRail d (railOf d c)
  let full := cmFull d c
  if r.settled then
    drvGo c (fun x => { x with state := 2, wantUp := false, ramp := some ⟨true, nowNs d, full, full, r.volts⟩ }) d
  else updDrv c (fun x => { x with wantUp := true }) d

/-- The common mode of a ramp t ns after its start, in 10 mV: between 0 V and PVDD/2 on a raised cosine; a down-ramp cut to
part of t_cm starts at that part of PVDD/2, the level it found (R309, R310). -/
def cmLevel (m : CmRamp) (t : Nat) : Int :=
  let c := fcos (fdiv (fpi * ((min t m.len : Nat) : Int)) (fixOne * ((max 1 m.len : Nat) : Int)))
  fround 0 ((if m.up then fixOne - c else fixOne + c) * ((m.rail * m.len : Nat) : Int) / ((4 * max 1 m.full : Nat) : Int))

/-- The length of the down-ramp from the present level: the level's share of t_cm (R310). -/
def cmDownLen (d : Dev) (x : DrvCh) (full : Nat) : Nat :=
  match x.ramp with
  | some m =>
    if m.up ∧ m.full ≠ 0 then
      let t := min (nowNs d - m.start) m.full
      let level := (fixOne - fcos (fdiv (fpi * (t : Int)) (fixOne * (m.full : Int)))) / 2
      (fround 0 (level * (m.full : Int))).toNat
    else m.len
  | none => full

/-- A switching channel runs its common mode down; one that waits for an up-ramp waits no more (R310). -/
def cmDown (c : Nat) (d : Dev) : Dev :=
  let x := drvCh d c
  let d := updDrv c (fun x => { x with wantUp := false, retrying := false }) d
  if x.state = 2 ∨ x.state = 3 ∨ x.state = 4 then
    let len := cmDownLen d x (cmFull d c)
    let volts := match x.ramp with
      | some m => m.rail
      | none => (drvRail d (railOf d c)).volts
    drvGo c (fun y => { y with state := 5, ramp := some ⟨false, nowNs d, len, cmFull d c, volts⟩ }) d
  else d

/-- Does a common-mode ramp run, or wait for its rail? -/
def cmBusy (d : Dev) : Bool :=
  (List.range 16).any (fun c => (drvCh d c).ramp.isSome || (drvCh d c).wantUp)

/-- Every switching channel runs down (R36, R310). -/
def drvAllDown (d : Dev) : Dev := forL (drvHeads d) cmDown d

/-- Entry into SAFE: playing channels go idle (R36, R320). -/
def drvIdle (d : Dev) : Dev :=
  forL (drvHeads d) (fun c d => if (drvCh d c).state = 4 then drvGo c (fun x => { x with state := 3 }) d else d) d

/-- The unmute of a rendering mode: idle channels play. -/
def drvPlay (d : Dev) : Dev :=
  forL (drvHeads d) (fun c d => if (drvCh d c).state = 3 then drvGo c (fun x => { x with state := 4 }) d else d) d

/-- Every enabled channel that passed its diagnostics and is off runs an up-ramp (R310). -/
def drvAllUp (d : Dev) : Dev :=
  forL (drvHeads d) (fun c d =>
    let x := drvCh d c
    if drvOn d c && decide (x.state = 0) && x.ran && decide (x.code = 0) then cmUp c d else d) d

/-- A common-mode ramp of a channel reaches its end (R309, R310, R321). `muted` says that no rendering mode plays. -/
def cmEnd (muted : Bool) (c : Nat) (d : Dev) : Dev :=
  match (drvCh d c).ramp with
  | none => d
  | some m =>
    if m.up then
      let back := (drvCh d c).retrying
      let d := drvGo c (fun x => { x with state := if back ∧ muted = false then 4 else 3, ramp := none, retrying := false }) d
      if back then drvReport (drvLead d c) 6 true d else d
    else drvGo c (fun x => { x with state := 0, ramp := none }) d

/-! ### Latches (R316, R318 to R320) -/

/-- What a latch does to the records: state, cause, flags, count (R319). -/
def latchMark (c code : Nat) (d : Dev) : Dev :=
  let d := drvGo c (fun x => { x with
    state := 6, fault := code, latchedAt := nowNs d + 1, step := 0, ramp := none, wantUp := false
    retrying := false }) d
  let d := forL (drvMembers d c) (fun i d => setFlag (drvA i + 0x10) 16 d) d
  setFlag 0x170004 9 d

/-- The end of the run of a channel for the DRV_DIAG commands that named it (R315). -/
def diagTell (c code : Nat) (d : Dev) : Dev :=
  let ms := drvMembers d c
  let cmds := d.drv.cmds.map (fun q => { q with
    open' := q.open'.filter (fun i => !ms.contains i)
    codes := ms.foldl (fun w i => if q.open'.contains i then setBits w (4 * i + 3) (4 * i) code else w) q.codes })
  let d := { d with drv := { d.drv with cmds := cmds.filter (fun q => !q.open'.isEmpty) } }
  forL (cmds.filter (fun q => q.open'.isEmpty)) (fun q d => complete q.cid cDone 0 q.codes d) d

/-- Gate commands go low at once with no ramp: a reset, or the loss of a supply (R310). Channels that switched or ran
diagnostics are off, a latch stays (R320), and a run that is cut ends with no code (log 66). -/
def drvLow (d : Dev) : Dev :=
  forL (drvHeads d) (fun c d =>
    let x := drvCh d c
    if 1 ≤ x.state ∧ x.state ≤ 5 then
      let d := drvGo c (fun y => { y with
        state := if x.state = 1 ∧ (x.was = 6 ∨ x.was = 7) then x.was else 0
        step := 0, ramp := none, wantUp := false, retrying := false }) d
      if x.state = 1 then diagTell c 0 d else d
    else updDrv c (fun y => { y with wantUp := false }) d) d

/-- DRV_CH_Z of a channel: |Z| in mΩ, or 0xFFFF_FFFF when no current was measured (R314). -/
def diagZ (c : Nat) (z : Option Nat) (d : Dev) : Dev :=
  forL (drvMembers d c) (fun i d => wrN (drvA i + 0x14) (min (z.getD 0xFFFFFFFF) 0xFFFFFFFF) d) d

/-- Is the device on its way into CONFIG or STOP, or in CONFIG, so that a passed retry leaves the gates low (R310, R321)? -/
def gatesStayLow (d : Dev) : Bool :=
  decide (d.sys.mode = .config) || (match d.sys.running with
    | some t => decide (t.target = .config) || decide (t.target = .stop)
    | none => false)

/-- A failed retry is counted; the last one the limit allows raises DRV_RETRY_EXHAUSTED (R321). -/
def retryFailed (c : Nat) (d : Dev) : Dev :=
  let d := updDrv c (fun x => { x with retries := min (x.retries + 1) 15 }) d
  if fld d 0x17000C 11 8 ≤ (drvCh d c).retries then raiseEvent evDrvRetryExhausted (leBytes 1 (drvLead d c)) d else d

/-- The run of a channel ends with a code (R314 to R316, R320, R321). -/
def diagEnd (c code : Nat) (d : Dev) : Dev :=
  let x := drvCh d c
  let d := incCnt 0x170018 d
  let d := updDrv c (fun x => { x with code := code, ran := true }) d
  let d :=
    if code ≠ 0 then
      let d := latchMark c code d
      match x.why with
      | .preroll => drvReport c 3 false d
      | .retry => retryFailed c d
      | .command => d
    else
      match x.why with
      | .preroll => drvGo c (fun y => { y with state := 0, step := 0 }) d
      | .command => drvGo c (fun y => { y with state := if x.was = 6 ∨ x.was = 7 then x.was else 0, step := 0 }) d
      | .retry =>
        let d := drvGo c (fun y => { y with state := 0, step := 0, retries := 0 }) d
        if gatesStayLow d then d else cmUp c (updDrv c (fun y => { y with retrying := true }) d)
  diagTell c code d

/-- A cause of R318 arises on a channel: it latches, or a second cause of the same instant raises its event and the
lowest code stays (R319, R320). -/
def drvLatch (c code : Nat) (d : Dev) : Dev :=
  let l := drvLead d c
  let x := drvCh d l
  if x.state = 6 ∨ x.state = 7 then
    if x.latchedAt = nowNs d + 1 then
      raiseEvent evDrvFault (leBytes 1 l ++ leBytes 1 code) (updDrv l (fun y => { y with fault := min y.fault code }) d)
    else d
  else
    let inRun := decide (x.state = 1)
    let d := if inRun then diagEnd l code (if x.step ≤ 3 then diagZ l none d else d)
      else latchMark l code (updDrv l (fun y => { y with feedLeft := if x.state = 4 then rampLen d else 0 }) d)
    let d := raiseEvent evDrvFault (leBytes 1 l ++ leBytes 1 code) (incCnt 0x170014 d)
    if inRun then d else drvReport l 1 false d

/-! ### Diagnostics and retries (R314, R315, R321) -/

/-- A diagnostics run starts on a channel. -/
def diagStart (why : DiagFor) (c : Nat) (d : Dev) : Dev :=
  drvGo c (fun x => { x with
    was := x.state, state := 1, step := 1, why := why, ran := false
    ramp := none }) d

/-- The runs of a pre-roll: every enabled channel that is off (R315, R320). -/
def drvPreroll (d : Dev) : Dev :=
  forL (drvHeads d) (fun c d =>
    if drvOn d c && decide ((drvCh d c).state = 0) then diagStart .preroll c d
    else updDrv c (fun x => { x with ran := false }) d) d

/-- The code with which a step fails, 0 none (R314). `node` is the node in 10 mV, `limit` says that the limit acted,
`z` is |Z| in mΩ. -/
def diagJudge (d : Dev) (c step node : Nat) (limit : Bool) (z : Option Nat) : Nat :=
  match step with
  | 1 => if 2 * node > (drvRail d (railOf d c)).volts then 2 else 0
  | 2 => if limit ∨ node < 200 then 1 else 0
  | 3 =>
    let short := match z with
      | some v => decide (v < fld d 0x170010 31 16)
      | none => false
    let opened := match z with
      | some v => decide (v > 1000 * fld d 0x170010 15 0)
      | none => true
    if limit ∨ short = true then 4 else if opened then 3 else 0
  | _ => 0

/-- Is the voltage-sense or current-sense source of a channel or its bridge partner stuck (R291, R318)? -/
def senseStuck (d : Dev) (c : Nat) : Bool := (drvMembers d c).any (fun i => srcHeld d (0x48 + i) || srcHeld d (0x58 + i))

/-- A timed step of a run ends (R314). A run that fails before its measurement has measured no current. A channel that
starts to switch with a stuck sense source latches (R318). -/
def diagStepEnd (c node : Nat) (limit : Bool) (z : Option Nat) (d : Dev) : Dev :=
  let c := drvLead d c
  let x := drvCh d c
  if x.state ≠ 1 then d else
  let code := diagJudge d c x.step node limit z
  let d := if x.step = 3 then diagZ c z d else if x.step < 3 ∧ code ≠ 0 then diagZ c none d else d
  if code ≠ 0 then diagEnd c code d
  else if x.step ≥ 4 then diagEnd c 0 d
  else
    let d := drvGo c (fun y => { y with step := y.step + 1 }) d
    if x.step = 1 ∧ senseStuck d c = true then drvLatch c 8 d else d

/-- DRV_DIAG (R315). -/
def drvDiag (cid mask : Nat) (d : Dev) : Dev :=
  let named := setIdx 16 mask
  let heads := (named.map (drvLead d)).eraseDups
  let bad := heads.any (fun c =>
    let st := (drvCh d c).state
    decide (st ≠ 0) && !drvLatched d c)
  if bad then complete cid cState 0 0 d
  else if heads.isEmpty then complete cid cDone 0 0 d
  else
    let d := { d with drv := { d.drv with cmds := d.drv.cmds ++ [⟨cid, named, 0⟩] } }
    forL heads (diagStart .command) d

/-- DRV_CLEAR: named latched channels start a retry at once; the others are left unchanged (R321). -/
def drvClear (cid mask : Nat) (d : Dev) : Dev :=
  let named := setIdx 16 mask
  let left := named.filter (fun c => !drvLatched d c)
  let heads := ((named.filter (drvLatched d)).map (drvLead d)).eraseDups
  let d := forL heads (fun c d => diagStart .retry c (updDrv c (fun x => { x with retries := 0 }) d)) d
  complete cid (if left.isEmpty then cDone else cPartial) 0 (left.foldl (fun m c => m + 2 ^ c) 0) d

/-- Does an automatic retry of a channel wait for its rail (R321)? -/
def railHolds (d : Dev) (c : Nat) : Bool :=
  let f := (drvCh d c).fault
  (decide (f = 6) || decide (f = 7)) && (drvRail d (railOf d c)).blocked

/-- The retry delay after a latch passes (R321). -/
def retryExpiry (c : Nat) (d : Dev) : Dev :=
  let c := drvLead d c
  let x := drvCh d c
  if x.state ≠ 6 ∨ bitAt d 0x170000 2 = false ∨ fld d 0x17000C 11 8 ≤ x.retries ∨ d.sys.mode = .boot ∨ d.sys.mode = .stop then d
  else if railHolds d c then drvGo c (fun y => { y with state := 7 }) d
  else diagStart .retry c d

/-- A rail has read above its threshold, with its fault input high, for 100 ms (R321). -/
def railRecovered (r : Nat) (d : Dev) : Dev :=
  let x := drvRail d r
  let thr := fld d (railA r + 4) 15 0
  if x.blocked = false ∨ (thr ≠ 0 ∧ x.volts ≤ thr) then d else
  forL ((drvHeads d).filter (fun c => decide (railOf d c = r)))
    (fun c d => if (drvCh d c).state = 7 then diagStart .retry c d else d) (putRail r { x with blocked := false } d)

/-! ### Faults in play (R313, R317, R318) -/

/-- The channels that name a rail, each bridge once. -/
def railChans (d : Dev) (r : Nat) : List Nat := (drvHeads d).filter (fun c => decide (railOf d c = r) && drvOn d c)

/-- Has a channel latched at this instant, so that a further cause still raises its event (R320)? -/
def latchedNow (d : Dev) (c : Nat) : Bool :=
  drvLatched d c && decide ((drvCh d (drvLead d c)).latchedAt = nowNs d + 1)

/-- A rail has been below its threshold for 10 ms (R313). -/
def railUv (r : Nat) (d : Dev) : Dev :=
  let thr := fld d (railA r + 4) 15 0
  if thr = 0 ∨ bitAt d (railA r) 7 = false ∨ thr ≤ (drvRail d r).volts then d
  else
    forL ((railChans d r).filter (fun c => decide ((drvCh d c).state = 4) || latchedNow d c)) (fun c d => drvLatch c 6 d)
      (putRail r { drvRail d r with blocked := true } d)

/-- DRV_PSFAULT_N of a rail has been low for 1 µs (R313). -/
def stageFault (r : Nat) (d : Dev) : Dev :=
  forL (railChans d r) (fun c d => drvLatch c 7 d) (putRail r { drvRail d r with blocked := true } d)

/-- Does a current-sense magnitude in mV reach the limit of a channel: DRV_CH_ILIM, or a quarter of it in diagnostics
(R314, R317)? -/
def overLimit (d : Dev) (c mv : Nat) : Bool :=
  decide (fld d (drvA c + 8) 11 0 ≤ (if (drvCh d c).state = 1 then 4 * mv else mv))

/-- The dead time of a channel in ns: its own, or that of the leader of its bridge (R305, R307). -/
def deadNs (d : Dev) (c : Nat) : Nat := fld d (drvA (drvLead d c)) 20 14

/-- The current-sense input of a channel reaches `mv`: where the limit acts, the conducting phase ends and the cycle is
counted (R317). -/
def limitCrossing (c mv : Nat) (d : Dev) : Dev :=
  if drvSwitches d c && overLimit d c mv then incCnt (drvA c + 0x1C) (emit (.turn c (deadNs d c)) d) else d

/-- The limit has acted in 64 consecutive cycles (R318). In steps 2 and 3 of a run the first of them has failed the step
(R314); in step 4 the run ends with this cause (R320). -/
def overcurrent (c : Nat) (d : Dev) : Dev :=
  let x := drvCh d c
  if x.state = 1 ∧ (x.step = 2 ∨ x.step = 3) then
    diagEnd (drvLead d c) (if x.step = 2 then 1 else 4) (diagZ (drvLead d c) none d)
  else if drvSwitches d c || latchedNow d c then drvLatch c 5 d else d

/-- A sense source of a switching channel is stuck (R318, R291). -/
def senseFault (s : Nat) (d : Dev) : Dev :=
  if 0x48 ≤ s ∧ s < 0x68 then
    let c := (s - 0x48) % 16
    if drvSwitches d c || latchedNow d c then drvLatch c 8 d else d
  else d

/-! ### Stagger (R308) -/

/-- The stagger slot of a channel: its own, or for a follower that of its leader plus 8 (R305, R308). -/
def drvSlot (d : Dev) (c : Nat) : Nat :=
  if drvLead d c = c then fld d (drvA c) 6 3 else (fld d (drvA (drvLead d c)) 6 3 + 8) % 16

/-- Where in the period of the stagger clock the lock pulse of a channel lies, in cycles of synthesiser A times 16: a slot
is 22.5°, a sixteenth of DRV_STAGGER.div cycles; none while stagger_en is 0 (R308). -/
def lockPulse (d : Dev) (c : Nat) : Option Nat :=
  if bitAt d 0x170000 1 then some (drvSlot d c * fld d 0x170008 7 0) else none

/-- Does a reference drive a channel above a modulation depth of 0.2: its level against the half of the rail (R308)? -/
def deepReference (d : Dev) (c : Nat) (y : Int) : Bool :=
  let l := drvLead d c
  let m : Nat := if drvTopo d l = 1 then 2 else 1
  decide (m * (drvRail d (railOf d c)).volts * 2 ^ 31 < 10 * (y.natAbs * fld d (drvA l + 4) 15 0))

/-- A channel's phase has stayed in its slot for 1 ms. -/
def staggerLock (c : Nat) (d : Dev) : Dev :=
  if drvSwitches d c && bitAt d 0x170000 1 then putDrv c { drvCh d c with locked := true } d else d

/-- A channel has idled 100 ms without lock. -/
def drvUnlock (c : Nat) (d : Dev) : Dev :=
  let x := drvCh d c
  if drvSwitches d c && bitAt d 0x170000 1 && decide (x.ref = 0) && !x.locked && !x.unlockRaised then
    let d := setFlag 0x170004 11 (setFlag (drvA c + 0x10) 17 (putDrv c { x with unlockRaised := true } d))
    raiseEvent evDrvUnlock (leBytes 1 c) d
  else d

/-! ### Registers (R323 to R325) -/

/-- Is a value of DRV_CH_CFG in its ranges and pairings (R305, R311, R324)? A leader is even and a follower odd beside its
leader, on one rail, whatever enable is; the rest is asked of an enabled channel. -/
def drvCfgOk (d : Dev) (c v : Nat) : Bool :=
  let on := v.testBit 0
  let topo := bits v 2 1
  let rail := bits v 9 7
  let other := if c % 2 = 0 then c + 1 else c - 1
  let o := rdN d (drvA other)
  let ranges := decide (bits v 13 10 ≤ 8) && decide (5 ≤ bits v 20 14) && decide (bits v 20 14 ≤ 80)
    && decide (20 ≤ bits v 29 21) && decide (bits v 29 21 ≤ 500) && decide (topo ≠ 3)
  let fits :=
    if topo = 1 then decide (c % 2 = 0) && !(decide (bits o 2 1 = 2) && decide (bits o 9 7 ≠ rail))
    else if topo = 2 then decide (c % 2 = 1) && decide (bits o 2 1 = 1) && decide (bits o 9 7 = rail)
    else true
  let pairing :=
    if topo = 1 then decide (c % 2 = 0) && (!o.testBit 0 || (decide (bits o 2 1 = 2) && decide (bits o 9 7 = rail)))
    else if topo = 2 then decide (c % 2 = 1) && o.testBit 0 && decide (bits o 2 1 = 1) && decide (bits o 9 7 = rail)
    else c % 2 = 1 && !(o.testBit 0 && decide (bits o 2 1 = 1)) || c % 2 = 0
  let leaves := c % 2 = 0 && o.testBit 0 && decide (bits o 2 1 = 2)
    && !(on && decide (topo = 1) && decide (bits o 9 7 = rail))
  fits && (!on || (ranges && pairing && bitAt d (railA rail) 7)) && !leaves

/-- A write of DRV_CH_CFG (R325). -/
def drvCfgWrite (c v : Nat) (d : Dev) : Dev :=
  let v := v % 2 ^ 30
  if d.sys.mode ≠ .config then lockedWrite (drvA c) d
  else if drvCfgOk d c v then wrN (drvA c) v d else setFlag 0x170004 8 d

/-- A write of DRV_RAIL_CFG (R311, R325). -/
def railCfgWrite (r v : Nat) (d : Dev) : Dev :=
  let v := bits v 7 0 + bits v 31 16 * 2 ^ 16
  let used := (List.range 16).any (fun c => bitAt d (drvA c) 0 && decide (fld d (drvA c) 9 7 = r))
  let ok := decide (100 ≤ bits v 31 16) && decide (cfgSource (chCfg d (bits v 6 0)) = 0x68 + r) && (v.testBit 7 || !used)
  if d.sys.mode ≠ .config then lockedWrite (railA r) d
  else if ok then wrN (railA r) v d else setFlag 0x170004 8 d

/-- DRV_CH_STATUS as read. -/
def drvChStatus (d : Dev) (c : Nat) : Nat :=
  let x := drvCh d c
  x.state + 16 * x.fault + 256 * x.retries + 4096 * b2n x.locked + 8192 * b2n (decide (x.applied < 0x7FFFFFFF))
    + fld d (drvA c + 0x10) 17 16 * 65536

/-- DRV_STATUS as read. -/
def drvStatus (d : Dev) : Nat :=
  b2n ((List.range 16).any (drvSwitches d)) + 2 * b2n ((List.range 16).any (fun c => (drvCh d c).ramp.isSome))
    + fld d 0x170004 12 8 * 256

/-- DRV_RAIL_NOW as read. -/
def railNow (d : Dev) (r : Nat) : Nat := (drvRail d r).volts % 65536 + 65536 * b2n (drvRail d r).settled

/-! ### One domain sample (R306, R311, R312) -/

/-- The rail takes the latest settled sample of its decimator channel (R311). -/
def railSample (r : Nat) (d : Dev) : Dev :=
  if bitAt d (railA r) 7 = false then putRail r { drvRail d r with settled := false } d else
  let ch := fld d (railA r) 6 0
  let x := decCh d ch
  if chOn d ch = false ∨ x.delivered = false then putRail r { drvRail d r with settled := false } d
  else if x.flagged then d
  else
    let v := sext 32 (rdN d (decA ch + 0x14)) * (fld d (railA r) 31 16 : Int) / 2147483648
    putRail r { drvRail d r with volts := v.toNat, settled := true } d

/-- The gain g of a channel after one more sample (R312, steps 1 to 4). -/
def railGain (d : Dev) (c : Nat) (g : Int) : Int :=
  let m : Int := if drvTopo d c = 1 then 2 else 1
  let vfs : Int := (fld d (drvA c + 4) 15 0 : Int)
  let use2 : Int := m * ((drvRail d (railOf d c)).volts : Int) - 2 * (fld d (drvA c + 4) 31 16 : Int)
  let gt : Int := if use2 ≥ 2 * vfs then 0x7FFFFFFF else if use2 ≤ 0 then 0 else use2 * 2147483648 / (2 * vfs)
  if gt < g then gt else g + (rdN d (drvA c + 0xC) : Int) * (gt - g) / 2147483648

/-- The gain step of every enabled channel; a follower shows its leader's. -/
def gainsOfRails (d : Dev) : Dev :=
  forL ((drvHeads d).filter (drvOn d)) (fun c d =>
    let g := railGain d c (drvCh d c).g
    forL (drvMembers d c) (fun i d => putDrv i { drvCh d i with g := g } d) d) d

/-- The applied gain of a channel: the smallest g of its link group, latched channels left out (R312, R319). -/
def appliedGain (d : Dev) (c : Nat) : Int :=
  let link := fld d (drvA c) 13 10
  let own := (drvCh d c).g
  if link = 0 then own else
  ((drvHeads d).filter (fun i => drvOn d i && decide (fld d (drvA i) 13 10 = link) && !drvLatched d i)).foldl
    (fun m i => min m (drvCh d i).g) own

/-- The sample that an output departs to a channel in this period. -/
def drvFeed (d : Dev) (c : Nat) : Int :=
  match drvOutputs d c with
  | j :: _ => fget 0 d.route.departing (32 * j + d.route.sample)
  | [] => 0

/-- A channel takes a reference sample; a deep one takes it out of lock (R306, R308). -/
def drvRef (c : Nat) (y : Int) (d : Dev) : Dev :=
  let x := drvCh d c
  emit (.sample 2 c y) (putDrv c { x with ref := y, locked := x.locked && !deepReference d c y } d)

/-- A reference sample of a channel and, negated with saturation, of its follower (R305). -/
def drvRefs (c : Nat) (y : Int) (d : Dev) : Dev :=
  let d := drvRef c y d
  if drvTopo d c = 1 then drvRef (c + 1) (satI 32 (-y)) d else d

/-- One domain sample of a channel: its applied gain and its reference (R306, R311, R312). -/
def drvChSample (c : Nat) (d : Dev) : Dev :=
  let a := appliedGain d c
  let starts := decide (a < 0x7FFFFFFF) && decide (¬ (drvCh d c).applied < 0x7FFFFFFF)
  let d := if starts then setFlag 0x170004 10 d else d
  let d := updDrv c (fun x => { x with applied := a }) d
  let d := if (drvCh d c).wantUp && (drvRail d (railOf d c)).settled then cmUp c d else d
  if drvSwitches d c && decide ((drvCh d c).state ≠ 1) then
    let feed := if (drvCh d c).state = 4 ∧ (drvRail d (railOf d c)).settled = true then drvFeed d c else 0
    drvRefs c (satI 32 (rndEven (feed * a) 31)) d
  else if drvLatched d c && decide (0 < (drvCh d c).feedLeft) then
    -- The feed of a channel that latched in play goes to zero over 10 ms (R319).
    let left := (drvCh d c).feedLeft - 1
    let feed := if (drvRail d (railOf d c)).settled then drvFeed d c * Config.rampGain left (rampLen d) / 2147483648 else 0
    drvRefs c (satI 32 (rndEven (feed * a) 31)) (updDrv c (fun x => { x with feedLeft := left }) d)
  else d

/-- One domain sample of direct drive. -/
def driveSample (d : Dev) : Dev :=
  let d := forN 8 railSample d
  let d := gainsOfRails d
  forL ((drvHeads d).filter (drvOn d)) drvChSample d

/-- Samples that depart to a disabled channel or a follower are discarded (R306). -/
def drvNoSink (p : Plan) (j : Nat) (d : Dev) : Dev :=
  let c := (planTask p j).destIndex
  if (planTask p j).sink = 2 ∧ c ≠ 0xFFFF ∧ (c ≥ 16 ∨ drvOn d c = false ∨ drvLead d c ≠ c) then setFlag 0x170004 12 d else d

end Sys2Proof.Machine
end

