-- ==== Sys2Proof/Machine/Route.lean ====
section
/-!
DEFINITION. The routing engine: programs, indirect slots, zero-crossing gain steps (05_render_plans.md, R179 to R185).
-/

namespace Sys2Proof.Machine

/-- Samples of a crossfade or of a zero-crossing wait: 10 ms (R184). -/
def routeT (d : Dev) : Nat := if rate96 d then 960 else 480

/-- The routing record of the active plan. -/
def activeRouting (d : Dev) : Routing := match d.plan.active with
  | some p => p.routing
  | none => {}

/-- The gain in force of a table entry (R185). -/
def routeGain (d : Dev) (g : Nat) : Int := match fget? d.route.gains g with
  | some v => v
  | none => (activeRouting d).gains.getD g 0

/-- An indirect slot. -/
def indSlot (d : Dev) (k : Nat) : IndSlot := fget {} d.route.slots k

/-- The value of a direct source code in this period (R181). -/
def directSource (d : Dev) (c : Nat) : Int :=
  if 0x400 ≤ c ∧ c < 0x600 then fget 0 d.route.departing (32 * (c - 0x400) + d.route.sample)
  else fget 0 d.route.inputs c

/-- The value of an indirect slot in this period: its source, or step m of its crossfade, truncated (R184). A slot may follow
another slot; where slots follow each other in a circle, `fuel` ends it with a slot's value of the period before (DESIGN CHOICE, log
107). -/
def slotValueIn (fuel : Nat) (d : Dev) (k : Nat) : Int :=
  match fuel with
  | 0 => (indSlot d k).value
  | f + 1 =>
    let s := indSlot d k
    let src (c : Nat) : Int := if 0xFF0 ≤ c ∧ c < 0xFF8 then slotValueIn f d (c - 0xFF0) else directSource d c
    if s.step = 0 then src s.source
    else
      let old := if s.fromValue then s.held else src s.oldSource
      old + ((src s.source - old) * (s.step : Int)).tdiv (s.total : Int)

/-- The value of indirect slot k in this period. -/
def slotValue (d : Dev) (k : Nat) : Int := slotValueIn 8 d k

/-- The value of any source code (R181). -/
def routeSource (d : Dev) (c : Nat) : Int :=
  if 0xFF0 ≤ c ∧ c < 0xFF8 then slotValue d (c - 0xFF0) else directSource d c

/-- A slot after a period in which it gave `v`: a crossfade moves one step, and is over after step T. -/
def slotNext (s : IndSlot) (v : Int) : IndSlot :=
  if s.step = 0 then { s with value := v }
  else if s.step ≥ s.total then { s with step := 0, fromValue := false, value := v }
  else { s with step := s.step + 1, value := v }

/-- The slots after a period. -/
def slotsStep (d : Dev) : Dev :=
  { d with route := { d.route with
    slots := (List.range 8).foldl (fun m k => fput {} m k (slotNext (indSlot d k) (slotValue d k))) d.route.slots } }

/-- A source change of a slot starts its crossfade; a second one starts from the present value (R184). -/
def slotStart (k source : Nat) (d : Dev) : Dev :=
  let s := indSlot d k
  let s' : IndSlot := if s.step = 0 then { s with oldSource := s.source, source := source, step := 1, total := routeT d, fromValue := false }
    else { s with source := source, step := 1, total := routeT d, fromValue := true, held := s.value }
  { d with route := { d.route with slots := fput {} d.route.slots k s' } }

/-- The source changes whose apply QN starts (R184). -/
def sourcesAt (q : Nat) (d : Dev) : Dev :=
  let due := d.route.sourceWaits.filter (fun w => w.applyQn ≤ q)
  forL due (fun w d => complete w.cid cDone 0 w.applyQn (slotStart w.slot w.source d))
    { d with route := { d.route with sourceWaits := d.route.sourceWaits.filter (fun w => w.applyQn > q) } }

/-! ### Programs -/

/-- One instruction: accumulators, stores by destination, saturations (R180). -/
def routeInstr (d : Dev) (gain : Nat → Int) (w : Nat) (s : FMap Int × FMap Int × Nat) : FMap Int × FMap Int × Nat :=
  let acc := bits w 27 25
  let loc := bits w 24 13
  match bits w 31 28 with
  | 1 => (fput 0 s.1 acc 0, s.2.1, s.2.2)
  | 2 => (fput 0 s.1 acc (fget 0 s.1 acc + routeSource d loc * gain (bits w 12 5) * 8), s.2.1, s.2.2)
  | 3 =>
    let r := rndEven (fget 0 s.1 acc) 24
    (s.1, fput 0 s.2.1 loc (satI 32 r), s.2.2 + b2n (satOvf 32 r))
  | _ => s

/-- One period of a program: destinations and saturated stores (R180). -/
def routeProgram (d : Dev) (gain : Nat → Int) (prog : List Nat) : FMap Int × Nat :=
  (prog.foldl (fun s w => routeInstr d gain w s) (([] : FMap Int), ([] : FMap Int), 0)).2

/-- The sources that a program's MACs read. -/
def macSources (prog : List Nat) : List Nat := (prog.filter (fun w => bits w 31 28 = 2)).map (fun w => bits w 24 13)

/-- The watched source of a gain entry: the first MAC that names it (R185). -/
def watched (prog : List Nat) (entry : Nat) : Option Nat :=
  (prog.find? (fun w => decide (bits w 31 28 = 2) && decide (bits w 12 5 = entry))).map (fun w => bits w 24 13)

/-! ### Gain steps (R185) -/

/-- The new value of an entry applies; the command completes with QN and sample. -/
def gainStep (w : GainWait) (d : Dev) : Dev :=
  let d := { d with route := { d.route with
    gains := fins d.route.gains w.entry w.value
    gainWaits := d.route.gainWaits.filter (fun x => x.cid ≠ w.cid) } }
  complete w.cid cDone 0 (qnNow d + d.route.sample * 2 ^ 40) d

/-- Is there a zero crossing of a source at this sample: zero, or a sign that differs from the sample before? -/
def crossing (d : Dev) (c : Nat) : Bool :=
  let x := routeSource d c
  decide (x = 0) || (decide (x < 0) != decide (fget 0 d.route.prev c < 0))

/-- One waiting gain at this sample: it steps at a crossing, or when no MAC names its entry; else it waits on. -/
def gainSample (w : GainWait) (d : Dev) : Dev :=
  match w.waited with
  | none => d
  | some n =>
    let step := match watched (activeRouting d).program w.entry with
      | some c => crossing d c
      | none => true
    if step then gainStep w d
    else { d with route := { d.route with gainWaits := d.route.gainWaits.map (fun x =>
      if x.cid = w.cid then { x with waited := some (n + 1) } else x) } }

/-- A command whose apply QN starts begins its wait at the first sample of that quantum; where a wait on its entry is open, it takes
that over (R185). -/
def gainBegin (w : GainWait) (d : Dev) : Dev :=
  match d.route.gainWaits.find? (fun x => decide (x.entry = w.entry) && x.waited.isSome) with
  | some x =>
    let waits := (d.route.gainWaits.filter (fun y => y.cid ≠ w.cid)).map (fun y =>
      if y.cid = x.cid then { x with value := w.value, cid := w.cid } else y)
    complete x.cid cSuperseded 0 0 { d with route := { d.route with gainWaits := waits } }
  | none =>
    { d with route := { d.route with gainWaits := d.route.gainWaits.map (fun y =>
      if y.cid = w.cid then { y with waited := some 0 } else y) } }

/-- The commands whose apply QN starts. -/
def gainsAt (q : Nat) (d : Dev) : Dev :=
  forL (d.route.gainWaits.filter (fun w => w.waited.isNone && decide (w.applyQn ≤ q))) gainBegin d

/-- No crossing within T samples: the value applies at sample T (R185). -/
def gainTimeout (entry : Nat) (d : Dev) : Dev :=
  match d.route.gainWaits.find? (fun w => decide (w.entry = entry) && w.waited.isSome) with
  | some w =>
    if w.waited.getD 0 < routeT d then d
    else
      let d := setFlag 0x80004 25 (incCnt 0x8002C d)
      gainStep w (raiseEvent evGainZcTimeout (leBytes 1 entry) d)
  | none => d

/-- The apply QN q of a swap cancels the waits still open from before it (R185). -/
def gainsCancel (q : Nat) (d : Dev) : Dev :=
  let cut (w : GainWait) : Bool := w.waited.isSome && decide (w.applyQn < q)
  forL (d.route.gainWaits.filter cut) (fun w d => complete w.cid cSuperseded 0 0 d)
    { d with route := { d.route with gainWaits := d.route.gainWaits.filter (fun w => !cut w) } }

/-- SET_ROUTE_GAIN waits for its apply QN. One that finds an open wait on its entry there takes it over (R185), so that on a pair the
order of R391 decides between two. -/
def gainRequest (cid entry : Nat) (value : Int) (applyQn : Nat) (d : Dev) : Dev :=
  { d with route := { d.route with gainWaits := d.route.gainWaits ++ [⟨entry, value, applyQn, cid, none⟩] } }

/-! ### One routing period (R180) -/

/-- Destinations of both programs while their crossfade runs: y_old + floor((y_new − y_old) × (n + 1) / X) (R175). -/
def routeMix (d : Dev) (new : FMap Int) : FMap Int × Nat :=
  let old := routeProgram d (fun g => d.route.oldGains.getD g 0) d.route.oldProgram
  let keys := ((old.1.map (·.1)) ++ (new.map (·.1))).eraseDups
  (keys.foldl (fun m k => fput 0 m k (mixAt (fget 0 old.1 k) (fget 0 new k) (d.route.xfadeN - 1) d.route.xfadeLen)) [], old.2)

/-- A routing period: gain steps, slot crossfades, the program or the crossfade of two, stores (R180 to R185). Without a plan
only the domain sample is counted. -/
def routePeriod (d : Dev) : Dev :=
  let d := forL d.route.gainWaits gainSample d
  let prog := (activeRouting d).program
  let new := routeProgram d (routeGain d) prog
  let out := if d.route.xfadeN = 0 then new else
    let m := routeMix d new.1
    (m.1, new.2 + m.2)
  let d := if out.2 = 0 then d else setFlag 0x80004 27 (addCnt 0x80030 out.2 d)
  let prev := (macSources prog).foldl (fun m c => fput 0 m c (routeSource d c)) d.route.prev
  let n := d.route.xfadeN
  let done := decide (n ≥ d.route.xfadeLen)
  let d := { d with route := { d.route with
    outputs := out.1, prev := prev
    xfadeN := if n = 0 ∨ done = true then 0 else n + 1
    oldProgram := if n = 0 ∨ done = true then [] else d.route.oldProgram
    oldGains := if n = 0 ∨ done = true then [] else d.route.oldGains } }
  slotsStep d

/-- The gain table in force (R185). -/
def gainTable (d : Dev) : List Int := (List.range 256).map (routeGain d)

/-- The program of a plan takes over: at once, or with a crossfade of X samples from the next period, through which the outgoing
program keeps the gain table `gains` that was in force (R175, R176). The indirect slots take the incoming plan's initial sources at
once, and the outgoing program reads them so through the crossfade: the spec does not say what they hold then, and this is the
model's choice (log 114). -/
def routeTake (old : Option Plan) (gains : List Int) (new : Plan) (xfade : Nat) (d : Dev) : Dev :=
  let prog := match old with
    | some p => p.routing.program
    | none => []
  { d with route := { d.route with
    gains := []
    slots := (List.range 8).foldl (fun m k => fput {} m k { source := new.routing.indirect.getD k 0 }) []
    xfadeN := if xfade = 0 then 0 else 1
    xfadeLen := xfade
    oldProgram := if xfade = 0 then [] else prog
    oldGains := if xfade = 0 then [] else gains } }

end Sys2Proof.Machine
end

