-- ==== Sys2Proof/Machine/Aport.lean ====
section
/-!
DEFINITION. Serial audio ports: configuration, frames, slots, converters, blocks and the host audio rings that carry
them (11_serial_ports_listen.md, R420).
-/

namespace Sys2Proof.Machine

/-! ### Fields -/

/-- APORT_CFG of a port; its other registers follow (R348). -/
def aportA (p : Nat) : Nat := 0x151000 + 0x80 * p

/-- A port's record. -/
def aport (d : Dev) (p : Nat) : APort := fget {} d.aport.ports p

/-- Replaces it. -/
def putAport (p : Nat) (x : APort) (d : Dev) : Dev :=
  { d with aport := { d.aport with ports := fput {} d.aport.ports p x } }

/-- Role of a port: 0 master A, 1 master B, 2 slave, 3 locked slave (R326). -/
def aportRole (d : Dev) (p : Nat) : Nat := fld d (aportA p) 3 2

/-- Is the converter in the path of a port? -/
def aportAsrc (d : Dev) (p : Nat) : Bool := bitAt d (aportA p) 7

/-- f_port of a rate code in Hz; 0 for the code not used. -/
def portHz (code : Nat) : Nat :=
  match code with
  | 0 => 48000 | 1 => 96000 | 2 => 192000 | 3 => 32000 | 4 => 44100 | 5 => 88200 | 6 => 176400 | _ => 0

/-- Is a rate code of the 48 kHz family? -/
def family48 (code : Nat) : Bool := decide (code ≤ 3)

/-- Bits of a data word by its code (R348). -/
def wordBits (code : Nat) : Nat := match code with
  | 0 => 16 | 1 => 24 | _ => 32

/-- Does a value of APORT_CFG keep R326 and R327? -/
def aportCfgOk (d : Dev) (v : Nat) : Bool :=
  let fmt := bits v 1 0
  let r := bits v 3 2
  let code := bits v 6 4
  let asrc := v.testBit 7
  let n := bits v 12 8 + 1
  let w := if v.testBit 13 then 32 else 16
  let f := portHz code
  let bclk := f * n * w
  let b441 := bitAt d 0x20060 1
  let syn := if r = 1 ∧ b441 = true then 45158400 else 49152000
  let roleOk := match r with
    | 0 => family48 code && (asrc == decide (f ≠ fsHz d))
    | 1 => bitAt d 0x20060 0 && (family48 code == !b441) && asrc
    | 2 => asrc
    | _ => decide (f = fsHz d) && !asrc
  decide (fmt ≠ 3) && decide (code ≠ 7) && decide (bits v 15 14 ≠ 3) && roleOk && decide (bclk ≤ 49152000)
    && (decide (r ≥ 2) || decide (syn % bclk = 0)) && (decide (fmt = 2) || decide (n = 2))
    && decide (wordBits (bits v 15 14) ≤ w)

/-- A write of APORT_CFG (R327, R348). -/
def aportCfgWrite (p v : Nat) (d : Dev) : Dev :=
  let v := v % 2 ^ 21
  if d.sys.mode ≠ .config then lockedWrite (aportA p) d
  else if aportCfgOk d v then wrN (aportA p) v d else setFlag (aportA p + 8) 12 d

/-- The masks in force: 0 receive, 1 transmit. -/
def maskNow (d : Dev) (p dir : Nat) : Nat := rdN d (aportA p + 0x14 + 4 * dir)

/-- A slot's record. -/
def slotOf (x : APort) (dir s : Nat) : Slot := fget {} x.slots (32 * dir + s)

/-- Replaces it. -/
def putSlot (dir s : Nat) (y : Slot) (x : APort) : APort := { x with slots := fput {} x.slots (32 * dir + s) y }

/-- The present domain sample index. -/
def sampleNow (d : Dev) : Nat := 32 * qnNow d + d.route.sample

/-- Is the clock of a port's frames good: its synthesiser for a master, its alignment for a locked slave (R330, R332)? -/
def aportClock (d : Dev) (p : Nat) : Bool :=
  match aportRole d p with
  | 0 => d.time.lockA
  | 1 => d.time.lockB
  | 2 => true
  | _ => (aport d p).aligned

/-- Is the converter of a port locked, at a ratio from 1:4 to 4:1 (R335)? -/
def asrcFlows (d : Dev) (p : Nat) : Bool :=
  (aport d p).locked && decide (2 ^ 22 ≤ rdN d (aportA p + 0x1C)) && decide (rdN d (aportA p + 0x1C) ≤ 2 ^ 26)

/-- Does a port deliver: its converter, if any, is locked, and no period fault stands (R333, R335)? -/
def aportFlows (d : Dev) (p : Nat) : Bool := (!aportAsrc d p || asrcFlows d p) && !(aport d p).periodBad

/-- The index of the frame that a master port may start now, counted from the epoch: at the domain rate it is the domain
sample; none before an epoch (R330). -/
def portFrame (d : Dev) (p : Nat) : Option Nat :=
  if d.time.epochSet = false ∨ d.time.pt < d.time.epoch then none
  else if aportAsrc d p then some ((d.time.pt - d.time.epoch) * portHz (fld d (aportA p) 6 4) / secNs)
  else some (sampleNow d)

/-- A new epoch counts the frames of every port anew (R330). -/
def framesAnew (d : Dev) : Dev := forN 16 (fun p d => putAport p { aport d p with frameNo := 0 } d) d

/-! ### Start and stop (R340 to R342) -/

/-- Changes every slot of a port's masks in force. -/
def eachSlot (d : Dev) (p : Nat) (f : Slot → Slot) (x : APort) : APort :=
  forN 2 (fun dir x => forL (setIdx 32 (maskNow d p dir)) (fun s x => putSlot dir s (f (slotOf x dir s)) x) x) x

/-- A slot begins its start, or carries on when it waited to stop (R340, R342). -/
def slotBegin (y : Slot) : Slot :=
  match y.phase with
  | .silent => { y with phase := .starting, waited := 0 }
  | .stopping => { y with phase := .running, waited := 0 }
  | _ => y

/-- A slot begins its stop, or during a start stops at once: an enable of 0 written while a slot still waits for its start
crossing silences every slot (R341, R342; DEDUCED, log 68). -/
def slotEnd (starting : Bool) (y : Slot) : Slot :=
  if starting then { y with phase := .silent, waited := 0 }
  else match y.phase with
    | .running => { y with phase := .stopping, waited := 0 }
    | _ => y

/-- Does a slot of a port await its start crossing? -/
def aportStarting (x : APort) : Bool := x.slots.any (fun e => decide (e.2.phase = .starting))

/-- A write of APORT_CTRL (R327, R340 to R342). -/
def aportCtrlWrite (p v : Nat) (d : Dev) : Dev :=
  let v := v % 4
  let was := bitAt d (aportA p + 4) 0
  if d.sys.mode = .boot ∨ d.sys.mode = .stop then lockedWrite (aportA p + 4) d
  else if v.testBit 0 && !aportCfgOk d (rdN d (aportA p)) then setFlag (aportA p + 8) 12 d
  else
    let d := wrN (aportA p + 4) v d
    if v.testBit 0 && !was then putAport p (eachSlot d p slotBegin (aport d p)) d
    else if !v.testBit 0 && was then putAport p (eachSlot d p (slotEnd (aportStarting (aport d p))) (aport d p)) d
    else d

/-- Are all slots of a port silent? -/
def aportSilent (x : APort) : Bool := x.slots.all (fun e => decide (e.2.phase = .silent))

/-- Every slot is silent and one further frame has passed: the clocks stop (R341). -/
def portClocksStop (p : Nat) (d : Dev) : Dev :=
  let x := aport d p
  if x.running && fld d (aportA p + 4) 1 0 = 0 && aportSilent x then
    putAport p { x with running := false, framed := false, aligned := false, run := 0, locked := false, frameNo := 0, lost := 0 } (wrN (aportA p + 0x1C) 0 d)
  else d

/-- Is a port stopped in the sense of R29 (R341)? -/
def aportStopped (d : Dev) (p : Nat) : Bool := decide (fld d (aportA p + 4) 1 0 = 0) && !(aport d p).running

/-! ### Masks (R338) -/

/-- A write of a mask: 0 receive, 1 transmit. -/
def maskWrite (p dir v : Nat) (d : Dev) : Dev :=
  if d.sys.mode = .boot ∨ d.sys.mode = .stop then lockedWrite (aportA p + 0xC + 4 * dir) d
  else wrN (aportA p + 0xC + 4 * dir) v d

/-- A mask comes into force: added transmit slots start, added receive slots carry data, or start too at the first frame of a
start, and removed slots go silent (R338, R340). -/
def maskLatchDir (p dir : Nat) (d : Dev) : Dev :=
  let new := rdN d (aportA p + 0xC + 4 * dir)
  let old := maskNow d p dir
  if new = old then d else
  let on := bitAt d (aportA p + 4) 0
  let x := forN 32 (fun s x =>
    if new.testBit s && !old.testBit s then
      putSlot dir s (if on then (if dir = 1 ∨ (aport d p).framed = false then slotBegin {} else { phase := .running }) else {}) x
    else if old.testBit s && !new.testBit s then putSlot dir s {} x
    else x) (aport d p)
  putAport p x (wrN (aportA p + 0x14 + 4 * dir) new d)

/-- Both masks of a port are latched at a frame start. -/
def maskLatch (p : Nat) (d : Dev) : Dev := maskLatchDir p 1 (maskLatchDir p 0 d)

/-! ### Blocks (R336) -/

/-- The block of a direction for quantum q and its masks. -/
def blockOf (d : Dev) (p dir q : Nat) : Block :=
  match fget? (aport d p).blocks dir with
  | some b => if b.qn = q then b else { qn := q, maskA := maskNow d p dir, maskB := maskNow d p dir }
  | none => { qn := q, maskA := maskNow d p dir, maskB := maskNow d p dir }

/-- The mask in force at a frame of a block. -/
def blockMask (b : Block) (f : Nat) : Nat := if f < b.switch then b.maskA else b.maskB

/-- The bytes of a block, padded to 64. -/
def blockBytes (b : Block) : Bytes :=
  let frames := (List.range 32).foldr (fun f acc =>
    (setIdx 32 (blockMask b f)).foldr (fun s acc => leInt 4 (fget 0 b.vals (32 * f + s)) ++ acc) acc) []
  let masks := (setIdx 32 (b.maskA ||| b.maskB)).foldr (fun s acc =>
    leBytes 4 ((List.range 32).foldl (fun m f =>
      m + b2n (!(blockMask b f).testBit s || fget false b.unset (32 * f + s)) * 2 ^ f) 0) ++ acc) []
  let bs := leBytes 4 b.maskA ++ leBytes 4 b.maskB ++ leBytes 1 b.switch ++ leBytes 1 b.flags ++ zeros 2
    ++ leBytes 4 b.qn ++ frames ++ masks
  padTo ((bs.length + 63) / 64 * 64) bs

/-- The values of a block's frames from its bytes: frame f starts at `off`. -/
def blockFrames (b : Block) (bs : Bytes) : List Nat → Nat → FMap Int → FMap Int
  | [], _, m => m
  | f :: rest, off, m =>
    let ss := setIdx 32 (blockMask b f)
    let m := (List.range ss.length).foldl (fun m i => fput 0 m (32 * f + ss.getD i 0) (sext 32 (leAt bs (off + 4 * i) 4))) m
    blockFrames b bs rest (off + 4 * ss.length) m

/-- A block that the host wrote. -/
def parseBlock (qn : Nat) (bs : Bytes) : Block :=
  let b : Block := { qn := qn, maskA := leAt bs 0 4, maskB := leAt bs 4 4, switch := leAt bs 8 1 }
  { b with vals := blockFrames b bs (List.range 32) 16 [] }

/-- Device address of the buffer of a direction of a port (R458). -/
def bufAddr (p dir : Nat) : Nat := 0x1001000000 + 0x4C0000 + 0x8600 * p + 0x4300 * dir

/-- A forwarded port sends its block to the partner: the owner, over the pair link (R389). -/
def aportForward (p : Nat) (b : Block) (d : Dev) : Dev :=
  let owner := if bitAt d 0x140030 (16 + p) then 1 else 0
  if mirrorsInputs d && bitAt d 0x140030 p && decide (devIndex d = owner) then
    let mask := b.maskA ||| b.maskB
    let frames := (List.range 32).foldr (fun f acc =>
      (setIdx 32 mask).foldr (fun s acc => beBytes 4 (wrapN 32 (fget 0 b.vals (32 * f + s))) ++ acc) acc) []
    pairSend 9 0 0 (beBytes 5 b.qn ++ beBytes 1 p ++ zeros 2 ++ beBytes 4 mask ++ frames) d
  else d

/-- One frame of a block: a slot's value and flag at domain sample n; the mask in force switches with it. -/
def blockPut (p dir n : Nat) (vals : List (Nat × Int × Bool)) (flags : Nat) (d : Dev) : Dev :=
  let b := blockOf d p dir (n / 32)
  let f := n % 32
  let m := maskNow d p dir
  let b := if m ≠ blockMask b f ∧ b.switch = 32 then { b with maskB := m, switch := f } else b
  let b := { b with flags := b.flags ||| flags }
  let b := vals.foldl (fun b e => { b with
    vals := fput 0 b.vals (32 * f + e.1) e.2.1, unset := fput false b.unset (32 * f + e.1) e.2.2 }) b
  let x := aport d p
  let d := putAport p { x with blocks := fins x.blocks dir b, done := if dir = 0 ∧ f = 31 then some b else x.done } d
  if f = 31 then
    let d := memWrite (bufAddr p dir + b.qn % 4 * 4288) (blockBytes b) d
    if dir = 0 then aportForward p b d else d
  else d

/-! ### Frames on the balls (R328, R329) -/

/-- Slot width W of a configuration word. -/
def slotWidth (cfg : Nat) : Nat := if cfg.testBit 13 then 32 else 16

/-- Slots N of a configuration word. -/
def slotsOf (cfg : Nat) : Nat := bits cfg 12 8 + 1

/-- Bit clocks from the frame start to the first bit of slot 0 (R328). -/
def dataDelay (cfg : Nat) : Nat :=
  match bits cfg 1 0 with
  | 0 => 1
  | 1 => 0
  | _ => b2n (cfg.testBit 16)

/-- The FS level in bit clock i of a frame (R328). -/
def fsLevel (cfg i : Nat) : Bool :=
  let level := match bits cfg 1 0 with
    | 0 => decide (slotWidth cfg ≤ i)
    | 1 => decide (i < slotWidth cfg)
    | _ => if cfg.testBit 17 then decide (i = 0) else decide (2 * i < slotsOf cfg * slotWidth cfg)
  level != cfg.testBit 18

/-- Does FS, sampled before and now, show the edge that opens slot 0 (R328)? -/
def frameOpens (cfg : Nat) (before now : Bool) : Bool :=
  let b := before != cfg.testBit 18
  let n := now != cfg.testBit 18
  if bits cfg 1 0 = 0 then b && !n else !b && n

/-- The word of slot s on a line sampled from a frame start: MSB first, left-justified in its slot (R328). -/
def lineWord (cfg : Nat) (line : List Bool) (s : Nat) : Nat :=
  (List.range (wordBits (bits cfg 15 14))).foldl (fun w k =>
    2 * w + b2n (line.getD (dataDelay cfg + s * slotWidth cfg + k) false)) 0

/-- The bits of a slot that carries a word, or of one outside the mask: zero, or high impedance with tx_hiz (R328,
R329). -/
def slotBits (cfg : Nat) (word : Option Int) : List (Option Bool) :=
  let b := wordBits (bits cfg 15 14)
  (List.range (slotWidth cfg)).map (fun k => match word with
    | some x => some (decide (k < b) && (wrapN b x).testBit (b - 1 - k))
    | none => if cfg.testBit 20 then none else some false)

/-- Shows a frame of words by slot on the balls of a port (R328). -/
def serialFrame (p : Nat) (words : List (Nat × Int)) (d : Dev) : Dev :=
  let cfg := rdN d (aportA p)
  let frame := (List.range (slotsOf cfg)).flatMap (fun s => slotBits cfg ((words.find? (fun w => w.1 = s)).map (·.2)))
  let x := aport d p
  let line := if dataDelay cfg = 0 then frame else x.lastBit :: frame.dropLast
  let fs := if aportRole d p < 2 then (List.range (slotsOf cfg * slotWidth cfg)).map (fsLevel cfg) else []
  emit (.serial p (!cfg.testBit 19) fs line) (putAport p { x with lastBit := frame.getLastD (some false) } d)

/-! ### Receive -/

/-- Has the window fill that reads a staging sample of an object run (R370, R420)? -/
def stagingLate (d : Dev) (o n : Nat) : Bool := decide ((n + (obj d o).base) / 32 < d.voice.filled)

/-- The objects of the active plan that a carrier feeds: kind, index and channel (R162). -/
def fedObjects (d : Dev) (kind index chan : Nat) : List Nat :=
  match d.plan.active with
  | none => []
  | some p => (List.range 1024).filter (fun o =>
      let r := planObj p o
      (obj d o).inPlan && decide (r.srcKind = kind) && decide (r.srcIndex = index) && decide (r.srcChan = chan))

/-- Does another device give the staging samples of a port (R389)? -/
def aportForeign (d : Dev) (p : Nat) : Bool :=
  pairFormed d && bitAt d 0x140030 p && decide (devIndex d ≠ b2n (bitAt d 0x140030 (16 + p)))

/-- A received sample of a slot of the frame of domain sample n: the routing source, and at position n + 1 the staging lines of
the objects it feeds, with its unsettled bit (R8, R331, R134). -/
def rxDeliver (p s n : Nat) (x : Int) (flagged : Bool) (d : Dev) : Dev :=
  let d := { d with route := { d.route with inputs := fput 0 d.route.inputs (32 * p + s) x } }
  if aportForeign d p then d
  else forL (fedObjects d 2 p s) (fun o d => onlyIf flagged (stagingUnset o (n + 1)) (inputWrite o (n + 1) x d)) d

/-- A crossing of x[n]: zero, or a sign that differs from that of x[n − 1] (R340). -/
def crosses (y : Slot) (x : Int) : Bool := decide (x = 0) || (decide (x < 0) != decide (y.prev < 0))

/-- A slot at a sample: its new record, and whether it carries data (R340, R341). -/
def slotSample (y : Slot) (x : Int) : Slot × Bool :=
  let c := crosses y x
  match y.phase with
  | .silent => ({ y with prev := x }, false)
  | .running => ({ y with prev := x }, true)
  | .starting => if c then ({ phase := .running, prev := x }, true) else ({ y with waited := y.waited + 1, prev := x }, false)
  | .stopping => if c then ({ phase := .silent, prev := x }, false) else ({ y with waited := y.waited + 1, prev := x }, true)

/-- A domain-rate sample of a slot: its phase moves, and the sample it carries. -/
def slotCarry (p dir s : Nat) (x : Int) (d : Dev) : Int × Dev :=
  let r := slotSample (slotOf (aport d p) dir s) x
  (if r.2 then x else 0, putAport p (putSlot dir s r.1 (aport d p)) d)

/-- No crossing within T samples: the slot starts or stops at sample T (R340, R341). -/
def aportZcTimeout (p dir s : Nat) (d : Dev) : Dev :=
  let y := slotOf (aport d p) dir s
  if y.waited < routeT d then d else
  let go (ph : SlotPhase) (d : Dev) : Dev :=
    let d := putAport p (putSlot dir s { y with phase := ph, waited := 0 } (aport d p)) d
    raiseEvent evAportZcTimeout (leBytes 1 p) (setFlag (aportA p + 8) 11 (incCnt (aportA p + 0x2C) d))
  match y.phase with
  | .starting => go .running d
  | .stopping => go .silent d
  | _ => d

/-- The objects that name a slot of a port outside its receive mask (R337). -/
def absentObjects (d : Dev) (p : Nat) : List Nat :=
  match d.plan.active with
  | none => []
  | some pl => (List.range 1024).filter (fun o => let r := planObj pl o
      (obj d o).inPlan && decide (r.srcKind = 2) && decide (r.srcIndex = p) && !(maskNow d p 0).testBit r.srcChan)

/-- Does an object name a slot outside the receive mask, or an output one outside the transmit mask (R337)? -/
def slotAbsent (d : Dev) (p : Nat) : Bool :=
  match d.plan.active with
  | none => false
  | some pl =>
    !(absentObjects d p).isEmpty
    || (List.range pl.outputs.length).any (fun j => let t := planTask pl j
      decide (t.sink = 1) && decide (t.destIndex = p) && rendersOut d pl j && !(maskNow d p 1).testBit t.destChan)

/-- The received samples of the frame of domain sample n, placed at the present position: values with flags by slot; a
missing frame gives zeros, and an object that names a slot outside the mask reads zero, unsettled (R331, R333, R337, R338). -/
def rxSamples (p n : Nat) (vals : Nat → Int) (flagged : Bool) (flags : Nat) (d : Dev) : Dev :=
  let ss := setIdx 32 (maskNow d p 0)
  let d := if slotAbsent d p then setFlag (aportA p + 8) 13 d else d
  let r := ss.foldl (fun (acc : List (Nat × Int × Bool) × Dev) s =>
    let c := slotCarry p 0 s (vals s) acc.2
    (acc.1 ++ [(s, c.1, flagged)], rxDeliver p s n c.1 flagged c.2)) ([], d)
  let d := if aportForeign r.2 p then r.2
    else forL (absentObjects r.2 p) (fun o d => stagingUnset o (n + 1) (inputWrite o (n + 1) 0 d)) r.2
  blockPut p 0 n r.1 flags d

/-! ### Transmit -/

/-- The host ring of kind port transmit that is bound to a port, if any (R420). -/
def txRing (d : Dev) (p : Nat) : Option Nat :=
  (List.range 32).map (· + 33) |>.find? (fun r =>
    ringEnabled d r && decide (fld d (ringA r) 11 10 = 2) && decide (fld d (ringA r) 15 12 = p))

/-- The output of the active plan that feeds a slot, if any (R331). -/
def slotOutput (d : Dev) (p s : Nat) : Option Nat :=
  match d.plan.active with
  | none => none
  | some pl => (List.range pl.outputs.length).find? (fun j =>
      let t := planTask pl j
      decide (t.sink = 1) && decide (t.destIndex = p) && decide (t.destChan = s) && rendersOut d pl j)

/-- Has the block of the outputs that is due in this quantum not departed yet (R331, R339)? -/
def departMissing (d : Dev) : Bool :=
  renderRuns d && !d.geom.fresh && d.time.counting && decide (d.net.departFirst + 3 ≤ d.time.qn)
    && decide (d.route.departQn ≠ d.time.qn + 1)

/-- The domain-rate sample for a slot: a host block, an output's departing sample, or the low-latency path (R183, R331,
R420). `none`: the block has not arrived (R339). -/
def txSource (d : Dev) (p s : Nat) : Option Int :=
  match txRing d p with
  | some _ =>
    match fget? (aport d p).host (qnNow d) with
    | some b => some (fget 0 b.vals (32 * (d.route.sample % 32) + s))
    | none => none
  | none =>
    match slotOutput d p s with
    | some j => if departMissing d then none else some (fget 0 d.route.departing (32 * j + d.route.sample))
    | none => some (fget 0 d.aport.low (512 * ((sampleNow d + 1) % 8) + 32 * p + s))

/-- A transmit underrun of a frame (R339). -/
def aportUnderrun (p : Nat) (d : Dev) : Dev :=
  let d := setFlag (aportA p + 8) 8 (incCnt (aportA p + 0x24) d)
  let x := aport d p
  if x.underAt = 0 ∨ x.underAt + 1000000000 ≤ nowNs d + 1 then
    raiseEvent evAportUnderrun (leBytes 1 p) (putAport p { x with underAt := nowNs d + 1 } d)
  else d

/-- A sent word: b bits, rounded and saturated (R329). -/
def sentWord (d : Dev) (p : Nat) (x : Int) : Int :=
  let b := wordBits (fld d (aportA p) 15 14)
  satI b (rndEven x (32 - b))

/-- A word is sent, its saturation counted (R329). -/
def txWord (p s : Nat) (x : Int) (d : Dev) : Dev :=
  let b := wordBits (fld d (aportA p) 15 14)
  let d := if satOvf b (rndEven x (32 - b)) then incCnt (aportA p + 0x30) d else d
  emit (.sample 1 (32 * p + s) (sentWord d p x)) d

/-- Is the sample that a slot sends now unsettled: its output says so, or its quantum was suppressed (R8, R210, R336)? -/
def txUnset (d : Dev) (p s : Nat) : Bool :=
  match txRing d p, slotOutput d p s with
  | none, some j => (fget 0 d.route.departUnset j).testBit (d.route.sample % 32)
  | _, _ => false

/-- Is every transmit slot silenced by the mode: CONFIG and SAFE send zero data (R342)? -/
def txMuted (d : Dev) : Bool := decide (d.sys.mode = .config) || decide (d.sys.mode = .safe)

/-- Do the rendered outputs still carry a ramp in CONFIG or SAFE: the ramp down into SAFE, or the ramp up at the end of a
transition out of these modes (R36, R37, R380)? -/
def rampShows (d : Dev) : Bool := renderRuns d && (d.sys.rampUp || decide (0 < rampIdx d (qnNow d) d.route.sample))

/-- Does the mode silence a slot now? A slot that a rendered output feeds carries its ramps; every other slot is silent at once
(R36, R37, R342; DEDUCED, log 19). -/
def slotMuted (d : Dev) (p s : Nat) : Bool :=
  txMuted d && !(rampShows d && (slotOutput d p s).isSome && (txRing d p).isNone)

/-- Is the data for a frame that starts now not in the transmit buffer: a master's clock or the converter is not in lock, or a
slot's block has not arrived (R335, R339)? -/
def txLate (d : Dev) (p : Nat) : Bool :=
  aportRole d p < 2 && !aportClock d p || !aportFlows d p || (setIdx 32 (maskNow d p 1)).any (fun s => (txSource d p s).isNone)

/-- The transmit side of a frame that starts now: domain samples without a converter, converted samples with one. A late
frame is an underrun in every mode (R335, R339, R342). -/
def txFrame (p : Nat) (d : Dev) : Dev :=
  let ss := setIdx 32 (maskNow d p 1)
  let late := txLate d p
  let d := if slotAbsent d p then setFlag (aportA p + 8) 13 d else d
  let d := if late then aportUnderrun p d else d
  let r := ss.foldl (fun (acc : List (Nat × Int × Bool) × Dev) s =>
    let d := acc.2
    let quiet := late || slotMuted d p s
    if aportAsrc d p then
      let ph := (slotOf (aport d p) 1 s).phase
      let f := takeFree (2 ^ 32) d
      if quiet || decide (ph = .silent) || decide (ph = .starting) then (acc.1 ++ [(s, 0, false)], txWord p s 0 d)
      else (acc.1 ++ [(s, sext 32 f.1, false)], txWord p s (sext 32 f.1) f.2)
    else
      let c := slotCarry p 1 s ((txSource d p s).getD 0) d
      let y := if quiet then 0 else c.1
      (acc.1 ++ [(s, y, txUnset d p s)], txWord p s y c.2)) ([], d)
  let d := serialFrame p (r.1.map (fun e => (e.1, sentWord r.2 p e.2.1))) r.2
  if aportAsrc d p then d else blockPut p 1 (sampleNow d) r.1 (b2n late) d

/-! ### Frames (R330 to R333) -/

/-- The Q1.31 value of a received word (R329). -/
def rxWord (d : Dev) (p w : Nat) : Int :=
  let b := wordBits (fld d (aportA p) 15 14)
  sext b w * ((2 ^ (32 - b) : Nat) : Int)

/-- The values of a received frame by slot (R328, R329). -/
def rxLine (d : Dev) (p : Nat) (line : List Bool) (s : Nat) : Int := rxWord d p (lineWord (rdN d (aportA p)) line s)

/-- A master port starts a frame; `line` is SDIN as sampled from the start of the frame that has just ended. Counted from the
epoch each frame starts once, so at the domain rate frame m is domain sample m on every port (R328, R330, R331). -/
def frameStart (p : Nat) (line : List Bool) (d : Dev) : Dev :=
  let on := bitAt d (aportA p + 4) 0
  if aportRole d p ≥ 2 ∨ (on = false ∧ (aport d p).running = false) ∨ d.sys.mode = .boot ∨ d.sys.mode = .stop
    ∨ portFrame d p = some ((aport d p).frameNo - 1) ∧ (aport d p).frameNo ≠ 0 then d else
  let first := !(aport d p).framed
  let d := if first || aportAsrc d p then d
    else rxSamples p (sampleNow d - 1) (rxLine d p line) (!aportClock d p) 0 d
  let d := maskLatch p d
  let no := match portFrame d p with
    | some m => m + 1
    | none => 0
  let d := putAport p { aport d p with running := true, framed := true, frameNo := no } d
  txFrame p d

/-- A missing or discarded frame: zeros with their unsettled bits in every active slot, counted; behind a converter the domain
samples of a frame's time are so, from the next one on. `flags` go to the block (R333, R336; DESIGN CHOICE, log 68). -/
def frameLost (p flags : Nat) (d : Dev) : Dev :=
  let d := incCnt (aportA p + 0x28) d
  if aportAsrc d p then putAport p { aport d p with lost := (aport d p).lost + fsHz d } d
  else rxSamples p (sampleNow d - 1) (fun _ => 0) true flags d

/-- No frame start within 1.5 periods: the run of aligned frames is broken (R332, R333). -/
def missingFrame (p : Nat) (d : Dev) : Dev :=
  if aportRole d p < 2 ∨ (aport d p).running = false then d
  else frameLost p 4 (putAport p { aport d p with run := 0 } d)

/-- The alignment of a received frame start of a locked slave, in bit clocks from the shared frame clock (R332). -/
def alignCheck (p : Nat) (offset : Int) (d : Dev) : Dev :=
  let x := aport d p
  if aportRole d p ≠ 3 then d
  else if -4 ≤ offset ∧ offset ≤ 4 then putAport p { x with run := x.run + 1 } d
  else
    let d := putAport p { x with run := 0, aligned := false } d
    raiseEvent evAportFrameErr (leBytes 1 p) (setFlag (aportA p + 8) 9 d)

/-- A converter loses lock (R335). -/
def asrcUnlock (p : Nat) (d : Dev) : Dev :=
  let x := aport d p
  if x.locked then raiseEvent evAportAsrcUnlock (leBytes 1 p) (wrN (aportA p + 0x1C) 0 (putAport p { x with locked := false } d))
  else d

/-- A frame's period is out of bounds: the port counts as unlocked (R333). -/
def periodFault (p : Nat) (d : Dev) : Dev :=
  asrcUnlock p (putAport p { aport d p with periodBad := true } (setFlag (aportA p + 8) 10 d))

/-- While it is locked, the converter of a slave follows the ratio f_port / fs that a frame's period shows (R334; DESIGN CHOICE,
log 68: the estimate is the last period). -/
def ratioTrack (p : Nat) (ppm : Int) (d : Dev) : Dev :=
  if (aport d p).locked then
    let den := (1000000 + ppm).toNat * fsHz d
    wrN (aportA p + 0x1C) (portHz (fld d (aportA p) 6 4) * 1000000 * 2 ^ 24 / max 1 den) d
  else d

/-- A slave or locked-slave port receives a frame start: SDIN as sampled from the start of the frame that has ended, FS
before and at the start, the place of the start, the frame's bit clocks, and the deviation of its period in ppm. A level of
FS that opens no frame is no frame start, and a port begins at a valid one (R328, R332, R333, R340). -/
def rxFrame (p : Nat) (seen : SerialSeen) (offset : Int) (bitClocks : Nat) (ppm : Int) (d : Dev) : Dev :=
  let on := bitAt d (aportA p + 4) 0
  if aportRole d p < 2 ∨ frameOpens (rdN d (aportA p)) seen.fsBefore seen.fsNow = false ∨ (on = false ∧ (aport d p).running = false) ∨ d.sys.mode = .boot ∨ d.sys.mode = .stop then d else
  let bad := decide (ppm > 1000) || decide (ppm < -1000)
  let d := if bad then periodFault p d else d
  let d := alignCheck p offset d
  let cfg := rdN d (aportA p)
  let short := decide (bitClocks ≠ slotsOf cfg * slotWidth cfg)
  let unlocked := 2 * b2n (aport d p).periodBad
  let d := if short then frameLost p 4 (setFlag (aportA p + 8) 9 d)
    else if aportAsrc d p then ratioTrack p ppm d
    else if (aport d p).aligned = false then frameLost p (12 + unlocked) d
    else if (aport d p).periodBad then rxSamples p (sampleNow d - 1) (fun _ => 0) true unlocked d
    else rxSamples p (sampleNow d - 1) (rxLine d p seen.line) false 0 d
  if (aport d p).running = false ∧ (bad || short) = true then d else
  let d := maskLatch p d
  let d := putAport p { aport d p with running := true, framed := true } d
  txFrame p d

/-- Sixteen consecutive aligned frames (R332). -/
def portAligned (p : Nat) (d : Dev) : Dev :=
  if (aport d p).run < 16 then d else putAport p { aport d p with aligned := true } d

/-- 100 ms of frames have passed the period check (R333). -/
def periodClear (p : Nat) (d : Dev) : Dev := putAport p { aport d p with periodBad := false } d

/-! ### Converters (R334, R335) -/

/-- A converter locks at a ratio f_port / fs in Q8.24 (R334, R335). -/
def asrcLock (p ratio : Nat) (d : Dev) : Dev :=
  let x := aport d p
  if aportAsrc d p && x.running && !x.locked && !x.periodBad && decide (2 ^ 22 ≤ ratio) && decide (ratio ≤ 2 ^ 26) then
    let d := putAport p { x with locked := true, settle := 32 } d
    raiseEvent evAportAsrcLock (leBytes 1 p) (wrN (aportA p + 0x20) 8192 (wrN (aportA p + 0x1C) ratio d))
  else d

/-- Synthesiser B has lost lock: the ports it clocks act as with a converter that lost lock (R87, R335). -/
def masterBUnlock (d : Dev) : Dev :=
  forN 16 (fun p d => if aportRole d p = 1 then asrcUnlock p d else d) d

/-- Synthesiser B has lost lock, or stops (R86, R87, R335). -/
def synthBLoss (d : Dev) : Dev :=
  if d.time.lockB then masterBUnlock { d with time := { d.time with lockB := false } } else d

/-- One domain sample of a port with a converter: the converted samples are values the spec does not give, but zero while the
converter does not deliver or a lost frame's time runs (R333, R335). -/
def asrcSample (p : Nat) (d : Dev) : Dev :=
  let x := aport d p
  if aportAsrc d p && x.running then
    let flows := asrcFlows d p
    let gap := decide (x.lost > 0)
    let ss := setIdx 32 (maskNow d p 0)
    let vs := if flows && !gap then
        ss.foldl (fun (acc : FMap Int × Dev) s => let f := takeFree (2 ^ 32) acc.2
          (fput 0 acc.1 s (sext 32 f.1), f.2)) (([] : FMap Int), d)
      else ([], d)
    let flagged := !flows || gap || decide (x.settle > 0)
    let d := rxSamples p (sampleNow d) (fun s => fget 0 vs.1 s) flagged (2 * b2n (!flows) + 4 * b2n gap) vs.2
    let d := putAport p { aport d p with
      settle := (aport d p).settle - 1, lost := (aport d p).lost - portHz (fld d (aportA p) 6 4) } d
    let late := txLate d p
    let r := (setIdx 32 (maskNow d p 1)).foldl (fun (acc : List (Nat × Int × Bool) × Dev) s =>
      let x := if slotMuted acc.2 p s then 0 else (txSource acc.2 p s).getD 0
      let c := slotCarry p 1 s x acc.2
      (acc.1 ++ [(s, c.1, txUnset acc.2 p s)], c.2)) ([], d)
    blockPut p 1 (sampleNow d) r.1 (2 * b2n (!flows) + b2n late) r.2
  else d

/-- The serial ports at a domain sample: converters, then the results of the routing period for the low-latency path
(R183, R334). -/
def aportSample (d : Dev) : Dev := forN 16 asrcSample d

/-- Keeps the routing results of this period (R183). -/
def lowKeep (sample : Nat) (d : Dev) : Dev :=
  { d with aport := { d.aport with low := forN 512 (fun c m => fput 0 m (512 * (sample % 8) + c) (fget 0 d.route.outputs c)) d.aport.low } }

/-! ### Registers as read (R348) -/

/-- APORT_STATUS. -/
def aportStatus (d : Dev) (p : Nat) : Nat :=
  let x := aport d p
  let al := match aportRole d p with
    | 3 => x.aligned
    | 2 => false
    | _ => x.running && aportClock d p && decide (x.frameNo ≠ 0)
  let st := aportStarting x
  let sp := x.slots.any (fun e => decide (e.2.phase = .stopping)) || (x.running && decide (fld d (aportA p + 4) 1 0 = 0))
  b2n x.running + 2 * b2n x.locked + 4 * b2n al + 8 * b2n st + 16 * b2n sp + fld d (aportA p + 8) 13 8 * 256

/-- APORT_ALIGNED. -/
def aportAlignedBits (d : Dev) : Nat :=
  forN 16 (fun p m => m + b2n ((aport d p).running && (aportStatus d p).testBit 2) * 2 ^ p) 0

/-- APORT_FLAGS. -/
def aportFlagBits (d : Dev) : Nat := forN 16 (fun p m => m + b2n (decide (fld d (aportA p + 8) 13 8 ≠ 0)) * 2 ^ p) 0

/-! ### Host audio rings (R420) -/

/-- Object input: the samples of an entry's buffer go to staging; late positions are dropped. Answers whether any was. -/
def hostObjects (ring qn chans : Nat) (n : Nat) (buf : Bytes) (d : Dev) : Bool × Dev :=
  forN chans (fun c acc =>
    forL (fedObjects acc.2 3 ring c) (fun o acc =>
      forN (32 * n) (fun k acc =>
        let pos := 32 * qn + k
        if stagingLate acc.2 o pos then (true, acc.2)
        else (acc.1, inputWrite o pos (sext 32 (leAt buf ((k * chans + c) * 4) 4)) acc.2)) acc) acc) (false, d)

/-- The device fetches the entry at its index of a host audio ring: `e` are its 32 bytes, `buf` the buffer that it
reads (R420). -/
def hostAudioFetch (r : Nat) (e buf : Bytes) (pcieErr : Bool) (d : Dev) : Dev :=
  let kind := fld d (ringA r) 11 10
  let begun := decide (kind = 1) && decide (0 < fget 0 d.aport.placed r) && !ringHalted d r
  if r < 33 ∨ r > 64 ∨ (ringRunning d r = false ∧ begun = false) ∨ ringHeld d r = 0 then d else
  let n := leAt e 14 1
  let chans := leAt e 12 2
  let qn := leAt e 16 5
  let port := fld d (ringA r) 15 12
  let reserved := entryReserved (decide (kind = 0)) (decide (kind ≠ 1)) e
  let need := if kind = 0 then n * 32 * chans * 4 else n * 4288
  if (reserved && entryOk (decide (kind = 0)) need e) = false then entryBad r reserved d
  else if pcieErr then ringPcieErr r (entryFinish r 4 d)
  else if kind = 0 then
    if qn > qnNow d + 2 then d
    else
      let x := hostObjects (r - 33) qn chans n buf d
      entryFinish r (if x.1 then 2 else 1) x.2
  else if kind = 1 then
    match (aport d port).done with
    | none => d
    | some b =>
      if b.qn < fget 0 d.aport.rxNext r then d else
      let i := fget 0 d.aport.placed r
      let d := emit (.hostWrite (leAt e 0 8 + 4288 * i) (blockBytes b)) d
      let d := { d with aport := { d.aport with rxNext := fput 0 d.aport.rxNext r (b.qn + 1) } }
      let fin := decide (i + 1 ≥ n)
      let d := { d with aport := { d.aport with placed := fput 0 d.aport.placed r (if fin then 0 else i + 1) } }
      if fin then entryFinish r 1 d else d
  else
    let hs := forN n (fun i m => fins m (qn + i) (parseBlock (qn + i) (buf.drop (4288 * i)))) (aport d port).host
    let keep := hs.filter (fun h => decide (qnNow d ≤ h.1))
    entryFinish r 1 (putAport port { aport d port with host := keep } d)

end Sys2Proof.Machine
end

