-- ==== Sys2Proof/Machine/Listen.lean ====
section
/-!
DEFINITION. The listen port: detection, buttons, gain and the headset microphone (R343 to R347, R349).
-/

namespace Sys2Proof.Machine

/-- Replaces the listen record. -/
def putListen (x : Listen) (d : Dev) : Dev := { d with aport := { d.aport with listen := x } }

/-- Is detection off: BOOT and STOP (R344)? -/
def listenOff (d : Dev) : Bool := decide (d.sys.mode = .boot) || decide (d.sys.mode = .stop)

/-- Is a headset reported and biased (R344, R346)? -/
def headsetBiased (d : Dev) : Bool :=
  (decide (d.aport.listen.accessory = 2) || decide (d.aport.listen.accessory = 3)) && bitAt d 0x180000 1

/-- An insertion edge starts, or restarts, detection (R344). -/
def listenInsertion (d : Dev) : Dev :=
  if listenOff d then d else putListen { d.aport.listen with step := 1, plugged := false, accessory := 0 } d

/-- The accessory is reported (R344, R347). -/
def listenReport (code : Nat) (d : Dev) : Dev :=
  let d := putListen { d.aport.listen with step := 0, accessory := code, muted := false, ramp := 0, button := 0, gate := false } d
  raiseEvent evListenPlug (leBytes 1 code) (setFlag 0x180004 16 d)

/-- A timed step of detection ends with its reading: Ω in the test-current step, mV in the bias steps (R344). -/
def listenDetectStep (reading : Nat) (d : Dev) : Dev :=
  let x := d.aport.listen
  let window := decide (300 ≤ reading) && decide (reading ≤ 2400)
  if listenOff d then d else
  match x.step with
  | 1 => putListen { x with step := 2, plugged := true } d
  | 2 => if reading < 50 then listenReport 1 d else putListen { x with step := 3 } d
  | 3 => if window then listenReport 2 d else putListen { x with step := 4 } d
  | 4 => listenReport (if window then 3 else 4) d
  | _ => d

/-- A removal edge (R345). -/
def listenUnplug (d : Dev) : Dev :=
  if listenOff d then d else
  let x := d.aport.listen
  let d := putListen { x with step := 0, plugged := false, accessory := 0, button := 0, gate := false, ramp := 0 } d
  raiseEvent evListenUnplug [] (setFlag 0x180004 16 (wrN 0x180010 0xFFFFFFFF d))

/-- The button whose window holds a line resistance (R346). -/
def buttonOf (d : Dev) (r : Nat) : Option Nat :=
  (List.range 4).find? (fun b => decide (fld d (0x180020 + 4 * b) 15 0 ≤ r) && decide (r ≤ fld d (0x180020 + 4 * b) 31 16))

/-- The upper bound of the highest window. -/
def buttonTop (d : Dev) : Nat := (List.range 4).foldl (fun m b => max m (fld d (0x180020 + 4 * b) 31 16)) 0

/-- A press or release: button_change and LISTEN_BUTTON with the button and its direction (R346). -/
def buttonMove (b : Nat) (press : Bool) (d : Dev) : Dev :=
  let d := putListen { d.aport.listen with button := if press then b + 1 else 0, gate := !press } d
  raiseEvent evListenButton (leBytes 1 b ++ leBytes 1 (b2n press)) (setFlag 0x180004 17 d)

/-- R_line in Ω for a DC level in mV: 2,200 × V / (2.7 − V), rounded down; at 2.7 V and above the largest value
(R346; DEDUCED, log 69). -/
def lineOhms (mv : Nat) : Nat := if mv < 2700 then 2200 * mv / (2700 - mv) else 0xFFFFFFFF

/-- An evaluation of the line; a level that has stayed in or out of a window for 20 ms moves a button (R346). -/
def listenButton (line : LineSeen) (d : Dev) : Dev :=
  if headsetBiased d = false then d else
  let r := lineOhms line.mv
  let d := wrN 0x180010 r d
  if line.stayed = false then d else
  let held := d.aport.listen.button
  match buttonOf d r with
  | some b =>
    if held = b + 1 then d
    else if held = 0 then buttonMove b true d
    else buttonMove b true (buttonMove (held - 1) false d)
  | none => if held ≠ 0 ∧ r > buttonTop d then buttonMove (held - 1) false d else d

/-- 50 ms after a release (R346). -/
def micGateEnd (d : Dev) : Dev := putListen { d.aport.listen with gate := false } d

/-- Do the listen outputs play (R345, R347)? -/
def listenPlays (d : Dev) : Bool :=
  rendering d && bitAt d 0x180000 0 && decide (d.aport.listen.accessory ≠ 0) && !d.aport.listen.muted

/-- More than 150 mA for 1 ms (R347). -/
def hpFault (d : Dev) : Dev :=
  if listenPlays d then
    raiseEvent evListenHpFault [] (setFlag 0x180004 18 (putListen { d.aport.listen with muted := true } d))
  else d

/-- A write of LISTEN_CTRL: a written enable ends the mute of a headphone fault; no bias, no line reading (R347, R349). -/
def listenCtrlWrite (v : Nat) (d : Dev) : Dev :=
  let v := bits v 1 0 + bits v 15 8 * 256
  if bits v 15 8 < 10 then setFlag 0x180004 19 d
  else
    let d := wrN 0x180000 v d
    let d := if v.testBit 0 then putListen { d.aport.listen with muted := false } d else d
    if v.testBit 1 then d else wrN 0x180010 0xFFFFFFFF d

/-- A write of LISTEN_HP_VOL: 0 to 191, or 255 (R349). -/
def hpVolWrite (v : Nat) (d : Dev) : Dev :=
  let v := v % 256
  if v ≤ 191 ∨ v = 255 then wrN 0x180008 v d else setFlag 0x180004 19 d

/-- A sample at an attenuation in 0.5 dB, Q1.31 rounded convergent; 255 mutes (R347, R349; DESIGN CHOICE, log 69). -/
def hpScale (code : Nat) (y : Int) : Int :=
  if code = 0 then y else if code = 255 then 0
  else rndEven (y * fround 31 (fexp (-(fln (10 * fixOne) * (code : Int) / 40)))) 31

/-- One domain sample of a channel: a new attenuation at its crossing or after T samples (R347), then the sample sent. -/
def listenChannel (ch : Nat) (d : Dev) : Dev :=
  let l := d.aport.listen
  let x := fget 0 d.route.outputs (0x200 + ch)
  let want := fld d 0x180008 7 0
  let have' := fget 255 l.vol ch
  let n := fget 0 l.waited ch
  let cross := decide (x = 0) || (decide (x < 0) != decide (fget 0 l.prev ch < 0))
  let take := decide (want ≠ have') && (cross || decide (n ≥ routeT d))
  let l := { l with
    prev := fput 0 l.prev ch x
    waited := fput 0 l.waited ch (if want = have' ∨ take = true then 0 else n + 1)
    vol := if take then fput 255 l.vol ch want else l.vol }
  let d := putListen l d
  let d := if take then emit (.ball "LSN_GAIN" ch want) d else d
  let y := hpScale (fget 255 l.vol ch) x
  let y := if l.ramp < routeT d then y * Config.rampGain l.ramp (routeT d) / 2147483648 else y
  emit (.sample 3 ch (if listenPlays d then y else 0)) d

/-- The listen port at a domain sample. -/
def listenSample (d : Dev) : Dev :=
  let d := listenChannel 1 (listenChannel 0 d)
  let l := d.aport.listen
  if listenPlays d then (if l.ramp < routeT d then putListen { l with ramp := l.ramp + 1 } d else d)
  else putListen { l with ramp := 0 } d

/-- Does the headset microphone reach routing source 0x280: a biased headset, no detection, no button held or just released
(R344, R346)? -/
def micOpen (d : Dev) : Bool :=
  let l := d.aport.listen
  headsetBiased d && decide (l.step = 0) && decide (l.button = 0) && !l.gate

/-- The microphone sample of routing source 0x280: zero while there is none, during detection, while a button is held
and 50 ms after (R344, R346). -/
def micSample (x : Int) (d : Dev) : Dev :=
  { d with route := { d.route with inputs := fput 0 d.route.inputs 0x280 (if micOpen d then x else 0) } }

/-- A domain sample of the microphone: no row carries it, so it is an open value (R346; DESIGN CHOICE, log 69). -/
def micStep (d : Dev) : Dev :=
  if micOpen d then
    let x := takeFree (2 ^ 32) d
    micSample (sext 32 x.1) x.2
  else micSample 0 d

/-- LISTEN_STATUS as read. -/
def listenStatus (d : Dev) : Nat :=
  let l := d.aport.listen
  l.accessory + 8 * b2n l.plugged + 16 * b2n (decide (l.step ≠ 0)) + (if l.button = 0 then 0 else 256 * 2 ^ (l.button - 1))
    + fld d 0x180004 19 16 * 65536

end Sys2Proof.Machine
end

