-- ==== Sys2Proof/Machine/Ptp.lean ====
section
/-!
DEFINITION. The PTP service (R68 to R72, R76): the messages it takes and sends, delay measurement, the best master clock
algorithm and the announce receipt timeout. IEEE 1588-2019 itself is not part of the spec: what the model takes from it is
PRESUMED (log 31).
-/

namespace Sys2Proof.Machine

/-! ### Ports of the clock -/

/-- Does a port take part: the ordinary port, or every port of a boundary clock (R65)? -/
def ptpPort (d : Dev) (p : Nat) : Bool := bitAt d 0x20000 1 || decide (p = fld d 0x20000 5 4)

/-- Is a message of a domain, at a port, taken by the service (R65, R68)? -/
def ptpTakes (d : Dev) (p domain : Nat) : Bool :=
  ptpRuns d && ptpPort d p && decide (domain = fld d 0x20000 15 8)

/-- Changes what the service remembers. -/
def putPtp (f : PtpSt → PtpSt) (d : Dev) : Dev := { d with time := { d.time with ptp := f d.time.ptp } }

/-! ### Offset and delay (R72) -/

/-- A complete Sync of the selected master: t2 − t1 is kept, an uncalibrated port becomes the slave, and the offset goes
to the servo. -/
def syncMeasure (p origin : Nat) (rx : Int) (d : Dev) : Dev :=
  if fget 1 d.time.portStates p < 8 then d else
  let d := setPortState p 9 (putPtp (fun x => { x with toSlave := fput 0 x.toSlave p (rx - origin) }) d)
  servo (rx - (origin : Int) - (rdN d 0x2002C : Int)) d

/-- TIME_PATH_DELAY takes a mean path delay, from 0 to what it can hold. -/
def delayTake (ns : Int) (d : Dev) : Dev := wrN 0x2002C (min ns.toNat 0xFFFFFFFF) d

/-- The own event message of a type that a response of a sequence answers: its transmit timestamp. -/
def sentTime (d : Dev) (p type seq : Nat) : Option Nat :=
  match fget? d.time.ptp.sent (16 * p + type) with
  | some (s, t) => if s = seq then some t else none
  | none => none

/-! ### The best master clock algorithm (R68) -/

/-- The default data set (R68); accuracy and variance are PRESUMED. -/
def defaultData : PtpData := ⟨128, 248, 0xFE, 0xFFFF, 128, Config.clockIdentity, 0⟩

/-- The order in which data sets are compared. -/
def ptpKey (x : PtpData) : List Nat :=
  [x.priority1, x.clockClass, x.accuracy, x.variance, x.priority2, x.identity, x.steps]

/-- Does a list of numbers come before another? -/
def listBefore : List Nat → List Nat → Bool
  | a :: as, b :: bs => decide (a < b) || (decide (a = b) && listBefore as bs)
  | [], _ :: _ => true
  | _, [] => false

/-- Is a data set better than another? -/
def ptpBetter (x y : PtpData) : Bool := listBefore (ptpKey x) (ptpKey y)

/-- The best data set that any port has heard, with its port. -/
def bestHeard (d : Dev) : Option (Nat × PtpData) :=
  d.time.ptp.best.foldl (fun m e =>
    match m with
    | some (_, y) => if ptpBetter e.2 y then some e else m
    | none => some e) none

/-- The portState that the algorithm gives a port: MASTER or LISTENING while no better clock is heard; UNCALIBRATED, then
SLAVE, for the port that hears the best clock; PASSIVE or MASTER for the others. -/
def bmcState (d : Dev) (p : Nat) : Nat :=
  let master := if bitAt d 0x20000 2 then 4 else 6
  let own := fget 1 d.time.portStates p
  match bestHeard d with
  | none => own
  | some (k, x) =>
    if ptpBetter defaultData x then master
    else if k = p then (if own = 9 ∧ d.time.ptp.master = some x.identity then 9 else 8)
    else match fget? d.time.ptp.best p with
      | some y => if y.identity = x.identity then 7 else master
      | none => master

/-- Is the device one of a formed pair (R76, R379)? -/
def pairedState (d : Dev) : Bool := decide (d.pair.state = 2)

/-- The state decision of every port of the clock; that the device of a pair selects another grandmaster than before begins
holdover (R76; a device of no formed pair has no such entry, DEDUCED, log 31). -/
def bmcDecide (d : Dev) : Dev :=
  let before := d
  let d := forN 4 (fun p d => if ptpPort before p then setPortState p (bmcState before p) d else d) d
  match bestHeard before with
  | none => d
  | some (_, x) =>
    let other := match before.time.ptp.master with
      | some m => decide (m ≠ x.identity)
      | none => false
    let d := putPtp (fun y => { y with master := some x.identity }) d
    if other && d.time.qualified && pairedState d then enterHoldover d else d

/-- The window in which a clock's Announce messages qualify it: four announce intervals of TIME_CTRL.log_announce, in ns
(R72; the number is PRESUMED, log 31). -/
def foreignWindow (d : Dev) : Nat := 4 * 2 ^ fld d 0x20000 23 20 * secNs

/-- Has a clock's Announce come at a port before, within the window? The second one qualifies it (R68, R72). -/
def foreignQualified (d : Dev) (p identity : Nat) : Bool :=
  (fget [] d.time.ptp.foreign p).any (fun e => decide (e.1 = identity) && decide (nowNs d ≤ e.2 + foreignWindow d))

/-- An Announce of a clock is noted at its port, and those that came before the window are forgotten. -/
def foreignNote (p identity : Nat) (d : Dev) : Dev :=
  let kept := (fget [] d.time.ptp.foreign p).filter (fun e =>
    decide (e.1 ≠ identity) && decide (nowNs d ≤ e.2 + foreignWindow d))
  putPtp (fun y => { y with foreign := fput [] y.foreign p (kept ++ [(identity, nowNs d)]) }) d

/-- An Announce: once its clock is qualified as a foreign master, a port keeps the best data set it hears, or the newest of the same
clock (R68, R72). -/
def announceTake (p : Nat) (x : PtpData) (d : Dev) : Dev :=
  let q := foreignQualified d p x.identity
  let d := foreignNote p x.identity d
  let keep := match fget? d.time.ptp.best p with
    | some y => decide (x.identity = y.identity) || (q && ptpBetter x y)
    | none => q
  if keep then bmcDecide (putPtp (fun y => { y with best := fins y.best p x }) d) else d

/-! ### Messages (R68 to R71) -/

/-- A PTP message that the service takes; the service runs while ptp_en is 1, outside BOOT and Stop (R65, R68, R72, R94).
The last three forms are decisions of the service itself. -/
def ptpReceive (port : Nat) (m : PtpMsg) (d : Dev) : Dev :=
  match m with
  | .sync domain seq twoStep origin =>
    if ptpTakes d port domain = false then d
    else if twoStep then putPtp (fun x => { x with syncRx := fins x.syncRx port (seq, rxStamp d port) }) d
    else syncMeasure port origin (rxStamp d port) d
  | .followUp domain seq origin =>
    if ptpTakes d port domain = false then d else
    match fget? d.time.ptp.syncRx port with
    | some (s, rx) =>
      if s = seq then syncMeasure port origin rx (putPtp (fun x => { x with syncRx := ferase x.syncRx port }) d) else d
    | none => d
  | .delayResp domain seq receive =>
    if ptpTakes d port domain = false ∨ bitAt d 0x20000 3 = true then d else
    match sentTime d port 1 seq with
    | some t3 => delayTake ((fget 0 d.time.ptp.toSlave port + ((receive : Int) - (t3 : Int))) / 2) d
    | none => d
  | .pdelayResp domain seq twoStep t =>
    if ptpTakes d port domain = false ∨ bitAt d 0x20000 3 = false then d
    else if twoStep then putPtp (fun x => { x with respRx := fins x.respRx port (seq, t, rxStamp d port) }) d
    else match sentTime d port 2 seq with
      | some t1 => delayTake ((rxStamp d port - (t1 : Int) - (t : Int)) / 2) d
      | none => d
  | .pdelayFollowUp domain seq origin =>
    if ptpTakes d port domain = false ∨ bitAt d 0x20000 3 = false then d else
    match fget? d.time.ptp.respRx port, sentTime d port 2 seq with
    | some (s, t2, t4), some t1 =>
      if s = seq then
        delayTake (((t4 - (t1 : Int)) - ((origin : Int) - (t2 : Int))) / 2)
          (putPtp (fun x => { x with respRx := ferase x.respRx port }) d)
      else d
    | _, _ => d
  | .announce domain x => if ptpTakes d port domain then announceTake port x d else d
  | .pathDelay ns => if ptpRuns d then wrN 0x2002C (min ns 0xFFFFFFFF) d else d
  | .portState st =>
    if ptpRuns d = false ∨ (st = 6 ∧ bitAt d 0x20000 2 = true) then d else setPortState port st d
  | .newMaster => if ptpRuns d && d.time.qualified && pairedState d then enterHoldover d else d

/-- The general message that follows an event message of two steps: its type, and the type it reports (R68). -/
def followUpOf (type : Nat) : Option Nat := if type = 8 then some 0 else if type = 10 then some 3 else none

/-- The service sends a message on queue 7; a Follow_Up carries the timestamp of the event message of its sequence. Event
messages take their timestamp as they cross the PCS (R69 to R71). -/
def ptpSend (port : Nat) (body : Bytes) (d : Dev) : Dev :=
  if ptpRuns d = false ∨ ptpPort d port = false then d else
  let type := beAt body 0 1 % 16
  let out := match followUpOf type with
    | some k =>
      match sentTime d port k (beAt body 30 2) with
      | some t => putStamp t body
      | none => body
    | none => body
  txPush port 7 (if type < 4 then 319 else 320) out d

/-- An event message crosses the PCS of a port: its timestamp is kept, and with one-step operation written into Sync and
Pdelay_Resp (R70, R71). -/
def ptpCross (port : Nat) (body : Bytes) (d : Dev) : Bytes × Dev :=
  let type := beAt body 0 1 % 16
  let t := txStamp d port
  let d := putPtp (fun x => { x with sent := fins x.sent (16 * port + type) (beAt body 30 2, t) }) d
  if bitAt d 0x20000 6 && (decide (type = 0) || decide (type = 3)) then (stampBody (bitAt d 0x20000 7) t body, d)
  else (body, d)

/-- Announce receipt timeout of the slave port (R76). `next` is the state that the best master clock algorithm gives it when
slave_only is 0. What the port has heard is forgotten and the other ports are decided anew: one that hears the best clock
becomes UNCALIBRATED and so reaches SLAVE. Holdover may begin only when the port leaves SLAVE. -/
def announceTimeout (port next : Nat) (d : Dev) : Dev :=
  let was := fget 1 d.time.portStates port
  if ptpRuns d = false ∨ was < 8 then d else
  let st := if bitAt d 0x20000 2 then 4 else if next = 4 ∨ next = 5 ∨ next = 6 ∨ next = 7 then next else 4
  let d := putPtp (fun x => { x with best := ferase x.best port, foreign := ferase x.foreign port }) d
  let d := setPortState port st (bmcDecide { d with time := { d.time with lastSlave := port } })
  let other := (List.range 4).any (fun p => decide (p ≠ port) && decide (8 ≤ fget 1 d.time.portStates p))
  if decide (was = 9) && d.time.qualified && !other then enterHoldover d else d

end Sys2Proof.Machine
end

