-- ==== Sys2Proof/Machine/Net.lean ====
section
/-!
DEFINITION. Ethernet ports and stream transmission: links, queues, PAUSE, preemption, stream descriptors and packets
(12_network.md).
-/

namespace Sys2Proof.Machine

/-! ### Ports -/

/-- NET_CTRL of a port; its other registers follow (R377). -/
def netA (p : Nat) : Nat := 0x100000 + 0x10000 * p

/-- A port's record. -/
def netPort (d : Dev) (p : Nat) : PortSt := fget {} d.net.ports p

/-- Replaces it. -/
def putNetPort (p : Nat) (x : PortSt) (d : Dev) : Dev :=
  { d with net := { d.net with ports := fput {} d.net.ports p x } }

/-- Does a value of NET_CTRL name options of R350: SGMII at 1 Gb/s, auto-negotiation with 1000BASE-X, FEC at 25 Gb/s? -/
def netCtrlOk (v : Nat) : Bool :=
  let speed := bits v 2 1
  (!v.testBit 3 || decide (speed = 3)) && (!v.testBit 4 || (decide (speed = 3) && !v.testBit 3))
    && (!v.testBit 5 || decide (speed = 0))

/-- Discards every queued frame of a port. -/
def txDiscard (p : Nat) (d : Dev) : Dev :=
  { d with net := { d.net with txq := d.net.txq.filter (fun e => decide (e.1 / 8 ≠ p)) } }

/-- A link goes down (R351). -/
def netLinkDown (p : Nat) (d : Dev) : Dev :=
  if p ≥ 4 ∨ linkIsUp d p = false then d else
  let d := txDiscard p (incCnt (netA p + 0x138) (setFlag (netA p + 4) 8 (clrFlag (netA p + 4) 0 d)))
  let d := putNetPort p { netPort d p with paused := false, pausing := false, verifies := 0 } (wrN (netA p + 0x38) 0 d)
  raiseEvent evNetLinkDown (leBytes 1 p) d

/-- A write of NET_CTRL; a port that is switched off loses its link, and with tx_pause_en at 0 it sends no PAUSE (R350, R351,
R358, R377). -/
def netCtrlWrite (p v : Nat) (d : Dev) : Dev :=
  let v := v % 256
  if d.sys.mode ≠ .config then lockedWrite (netA p) d
  else if netCtrlOk v then
    let d := if v.testBit 7 then d else putNetPort p { netPort d p with pausing := false } d
    wrN (netA p) v (if v.testBit 0 then d else netLinkDown p d)
  else setFlag (netA p + 4) 13 d

/-- A link comes up: the speed in force, the PCS latency, verification (R351, R354, R70). -/
def netLinkUp (p : Nat) (d : Dev) : Dev :=
  if p ≥ 4 ∨ bitAt d (netA p) 0 = false ∨ bitAt d (netA p + 4) 0 = true then d else
  let speed := fld d (netA p) 2 1
  let d := setFld (netA p + 4) 2 1 speed (setFlag (netA p + 4) 0 d)
  let d := setFld (0x20080 + 8 * p) 15 0 (Config.pcsLatency speed 0) d
  let d := setFld (0x20084 + 8 * p) 15 0 (Config.pcsLatency speed 1) d
  let d := wrN (netA p + 0x38) (b2n (bitAt d (netA p + 0x34) 0)) (putNetPort p { netPort d p with verifies := 0 } d)
  raiseEvent evNetLinkUp (leBytes 1 p) d

/-- An attempt to verify is answered, or its time ends (R354). -/
def preemptionVerify (p : Nat) (answered : Bool) (d : Dev) : Dev :=
  if fld d (netA p + 0x38) 1 0 ≠ 1 then d
  else if answered then wrN (netA p + 0x38) 2 d
  else
    let n := (netPort d p).verifies + 1
    let d := putNetPort p { netPort d p with verifies := n } d
    if n ≥ 3 then wrN (netA p + 0x38) 3 d else d

/-- The highest non-empty queue of a port with its head (R354). -/
def txHead (d : Dev) (p : Nat) : Option (Nat × TxFrame) :=
  ([7, 6, 5, 4, 3, 2, 1, 0].filterMap (fun q => ((fget [] d.net.txq (8 * p + q)).head?).map (fun f => (q, f)))).head?

/-- Removes the head of a queue. -/
def txPop (p q : Nat) (d : Dev) : Dev :=
  { d with net := { d.net with txq := fupd [] d.net.txq (8 * p + q) List.tail } }

/-! ### Frame assembly (R359) -/

/-- The Internet checksum of bytes. -/
def inetSum (bs : Bytes) : Nat := 0xFFFF - onesSum bs

/-- A MAC address held in two registers, in the order of sending. -/
def macBytes (d : Dev) (a : Nat) : Bytes := leBytes 4 (rdN d a) ++ leBytes 2 (rdN d (a + 4))

/-- The fields of a datagram that its sender names. -/
structure Datagram where
  /-- The transmit queue, which a tag carries as its PCP (R353). -/
  queue : Nat
  /-- The VLAN of a tagged frame. -/
  vlan : Option Nat
  mac : Bytes
  v6 : Bool
  ip : Bytes
  udpSrc : Nat
  udpDst : Nat
  dscp : Nat
  /-- IPv4 identification, flags and fragment offset. -/
  ident : Nat
  /-- Is the UDP checksum over IPv4 sent as 0 (R71)? -/
  noSum : Bool
  body : Bytes
deriving DecidableEq, Repr

/-- The Ethernet frame of a datagram of a port, without its FCS (R359). -/
def datagramFrame (d : Dev) (p : Nat) (g : Datagram) : Bytes :=
  let tag := match g.vlan with
    | some v => beBytes 2 0x8100 ++ beBytes 2 (g.queue * 8192 + v % 4096)
    | none => []
  let src := if g.v6 then (List.range 4).foldl (fun a i => a ++ beBytes 4 (rdN d (netA p + 0x14 + 4 * i))) []
    else beBytes 4 (rdN d (netA p + 0x10))
  let len := 8 + g.body.length
  let udp0 := beBytes 2 g.udpSrc ++ beBytes 2 g.udpDst ++ beBytes 2 len
  let pseudo := src ++ g.ip ++ (if g.v6 then beBytes 4 len ++ zeros 3 ++ [17] else [0, 17] ++ beBytes 2 len)
  let c := inetSum (pseudo ++ udp0 ++ zeros 2 ++ g.body)
  let c := if g.noSum && !g.v6 then 0 else if c = 0 then 0xFFFF else c
  let udp := udp0 ++ beBytes 2 c ++ g.body
  let ttl := fld d (netA p + 0x24) 7 0
  let ip4 (sum : Nat) : Bytes := [0x45] ++ beBytes 1 (4 * g.dscp) ++ beBytes 2 (20 + len) ++ beBytes 4 g.ident
    ++ beBytes 1 ttl ++ [17] ++ beBytes 2 sum ++ src ++ g.ip
  let ip := if g.v6 then beBytes 4 (6 * 2 ^ 28 + g.dscp * 2 ^ 22) ++ beBytes 2 len ++ [17] ++ beBytes 1 ttl ++ src ++ g.ip
    else ip4 (inetSum (ip4 0))
  g.mac ++ macBytes d (netA p + 8) ++ tag ++ beBytes 2 (if g.v6 then 0x86DD else 0x0800) ++ ip ++ udp

/-- The Ethernet address of an IP multicast group, as a number in network order; none for a unicast address. -/
def groupMac (v6 : Bool) (ip : Bytes) : Option Nat :=
  if v6 then (if leAt ip 0 1 = 0xFF then some (0x333300000000 + beAt ip 12 4) else none)
  else if leAt ip 0 1 / 16 = 14 then some (0x01005E000000 + beAt ip 0 4 % 2 ^ 23) else none

/-- The PTP group of a message type: PRESUMED those of IEEE 1588, with the peer delay messages in a group of their own
(log 70). -/
def ptpGroup (v6 : Bool) (type : Nat) : Bytes :=
  let peer := decide (type = 2) || decide (type = 3) || decide (type = 10)
  if v6 then
    (if peer then beBytes 2 0xFF02 else beBytes 2 0xFF0E) ++ zeros 12 ++ beBytes 2 (if peer then 0x6B else 0x181)
  else if peer then beBytes 4 0xE000006B else beBytes 4 0xE0000181

/-- Where a frame of the device's own traffic goes: MAC, IPv6, IP address, UDP port. PTP goes to its groups; pair traffic to
PAIR_PEER_MAC and PAIR_PEER_IP4, or PAIR_PEER_IP6 where PAIR_PEER_IP4 is 0 (R392); a session message to its client, an
address of more than 32 bits being IPv6; domain frames and control streams to groups that no rule gives (log 70). -/
def ownDest (d : Dev) (f : TxFrame) : Bytes × Bool × Bytes × Nat :=
  let grouped (v6 : Bool) (ip : Bytes) : Bytes × Bool × Bytes × Nat :=
    (beBytes 6 ((groupMac v6 ip).getD (2 ^ 48 - 1)), v6, ip, f.proto)
  if f.proto = 319 ∨ f.proto = 320 then grouped (bitAt d 0x20000 7) (ptpGroup (bitAt d 0x20000 7) (beAt f.bytes 0 1 % 16))
  else if f.proto = 51232 then
    let v6 := decide (rdN d 0x140008 = 0)
    (macBytes d 0x14001C, v6,
      if v6 then (List.range 4).foldl (fun a i => a ++ beBytes 4 (rdN d (0x14000C + 4 * i))) [] else beBytes 4 (rdN d 0x140008),
      51232)
  else if f.proto = 51233 then
    let v6 := decide (2 ^ 32 ≤ f.peer)
    (beBytes 6 (Config.peerMac f.peer), v6, beBytes (if v6 then 16 else 4) f.peer, Config.peerPort f.peer)
  else
    let v6 := Config.groupV6 f.proto
    grouped v6 (beBytes (if v6 then 16 else 4) (Config.groupIp f.proto))

/-- The Ethernet frame of a payload of the device's own traffic, without its FCS (R353, R359). -/
def ownFrame (d : Dev) (p queue : Nat) (f : TxFrame) (body : Bytes) : Bytes :=
  let t := ownDest d f
  let vid := Config.ownField f.proto 3
  datagramFrame d p {
    queue := queue, vlan := if vid = 0 then none else some (vid - 1), mac := t.1, v6 := t.2.1, ip := t.2.2.1
    udpSrc := Config.ownField f.proto 2, udpDst := t.2.2.2, dscp := Config.ownField f.proto 0 % 64
    ident := Config.ownField f.proto 1, noSum := decide (f.proto = 319), body := body }

/-- A frame with its padding to 64 bytes and its FCS (R350, R359). -/
def withFcs (bs : Bytes) : Bytes :=
  let bs := bs ++ zeros (60 - bs.length)
  bs ++ leBytes 4 (crc32 bs)

/-- A queued frame as it goes out: a stream packet is a frame already, the device's own traffic is assembled (R359). -/
def wireFrame (d : Dev) (p queue : Nat) (f : TxFrame) : Bytes :=
  withFcs (if f.ctx.isSome then f.bytes else ownFrame d p queue f f.bytes)

/-- A loaded context: `rx` says receive. -/
def ctx? (d : Dev) (rx : Bool) (c : Nat) : Option StreamCtx := fget? d.net.ctxs (c + 256 * b2n rx)

/-- Replaces a context. -/
def putCtx (rx : Bool) (c : Nat) (x : StreamCtx) (d : Dev) : Dev :=
  { d with net := { d.net with ctxs := fins d.net.ctxs (c + 256 * b2n rx) x } }

/-- A stream packet begins: the first of its legs counts it as sent (R365, R377). -/
def packetSent (f : TxFrame) (d : Dev) : Dev :=
  match f.ctx with
  | none => d
  | some c =>
    if f.counted then d else
    let mark (g : TxFrame) : TxFrame := if g.ctx = some c ∧ g.packet = f.packet then { g with counted := true } else g
    let d := { d with net := { d.net with txq := d.net.txq.map (fun e => (e.1, e.2.map mark)) } }
    match ctx? d false c with
    | some x => putCtx false c { x with packets := satInc x.packets 1 } d
    | none => d

/-- A frame boundary of a port: the head of the highest non-empty queue is sent (R354, R358). `preempts` says that an
express frame starts while a preemptible frame is held (R354). A PTP event message takes its timestamp as it crosses
(R69 to R71). In Stop the links carry wake activity only (R49). -/
def txBoundary (p : Nat) (preempts : Bool) (d : Dev) : Dev :=
  if p ≥ 4 ∨ linkIsUp d p = false ∨ (netPort d p).paused = true ∨ d.sys.mode = .stop then d else
  match txHead d p with
  | none => d
  | some (q, f) =>
    let d := if preempts && decide (q ≥ 6) && decide (fld d (netA p + 0x38) 1 0 = 2) then incCnt (netA p + 0x130) d else d
    if f.proto = 319 ∧ f.ctx = none then
      let out := ptpCross p f.bytes d
      let sum := if bitAt d 0x20000 7 then none else some 0
      emit (.eventFrame p q sum (withFcs (ownFrame d p q f out.1))) (incCnt (netA p + 0x128) (txPop p q out.2))
    else emit (.frame p q (wireFrame d p q f)) (incCnt (netA p + 0x128) (packetSent f (txPop p q d)))

/-! ### PAUSE (R358) -/

/-- Sends a PAUSE. -/
def pauseSend (p quanta : Nat) (d : Dev) : Dev := emit (.pauseFrame p quanta) (incCnt (netA p + 0x12C) d)

/-- Occupancy rises to NET_PAUSE_HI. -/
def pauseHigh (p : Nat) (d : Dev) : Dev :=
  if linkIsUp d p && bitAt d (netA p) 7 then
    pauseSend p (fld d (netA p + 0x28) 15 0) (putNetPort p { netPort d p with pausing := true } d)
  else d

/-- Half of pause_time has elapsed with occupancy above NET_PAUSE_LO. -/
def pauseRepeat (p : Nat) (d : Dev) : Dev :=
  if (netPort d p).pausing then pauseSend p (fld d (netA p + 0x28) 15 0) d else d

/-- Occupancy falls to NET_PAUSE_LO. -/
def pauseLow (p : Nat) (d : Dev) : Dev :=
  if (netPort d p).pausing then pauseSend p 0 (putNetPort p { netPort d p with pausing := false } d) else d

/-- A PAUSE arrives. -/
def pauseReceive (p quanta : Nat) (d : Dev) : Dev :=
  if linkIsUp d p then
    let d := incCnt (netA p + 0x120) d
    if bitAt d (netA p) 6 then putNetPort p { netPort d p with paused := decide (quanta ≠ 0) } d else d
  else d

/-- The time of a received PAUSE has elapsed. -/
def pauseExpiry (p : Nat) (d : Dev) : Dev := putNetPort p { netPort d p with paused := false } d

/-- NET_STATUS as read. -/
def netStatus (d : Dev) (p : Nat) : Nat :=
  setBits (setBits (rdN d (netA p + 4)) 3 3 (b2n (netPort d p).paused)) 4 4 (b2n (netPort d p).pausing)

/-! ### Stream descriptors (R361, R362) -/

/-- Fields of a descriptor. -/
def dStream (b : Bytes) : Nat := leAt b 0 2
/-- Direction: 0 transmit, 1 receive. -/
def dDir (b : Bytes) : Nat := leAt b 2 1
/-- Format code. -/
def dFormat (b : Bytes) : Nat := leAt b 3 1
/-- Is it a native stream? -/
def dNative (b : Bytes) : Bool := decide (dFormat b ≥ 2)
/-- Bytes of a sample. -/
def dSampleBytes (b : Bytes) : Nat := if dFormat b % 2 = 0 then 3 else 4
/-- Channels. -/
def dChannels (b : Bytes) : Nat := leAt b 5 1
/-- Offset of leg A or B. -/
def legOff (legB : Bool) : Nat := if legB then 80 else 32
/-- Is a leg enabled? -/
def legOn (b : Bytes) (legB : Bool) : Bool := (leAt b (legOff legB + 1) 1).testBit 0
/-- Does a leg use IPv6? -/
def legV6 (b : Bytes) (legB : Bool) : Bool := (leAt b (legOff legB + 1) 1).testBit 1
/-- The port of a leg. -/
def legPort (b : Bytes) (legB : Bool) : Nat := leAt b (legOff legB) 1

/-- Samples of a packet at the domain rate (R362). -/
def packetSamples (d : Dev) (b : Bytes) : Nat :=
  let s := match leAt b 4 1 with
    | 0 => 6 | 1 => 12 | 2 => 16 | _ => 48
  if rate96 d then 2 * s else s

/-- Bytes of the native extension with every channel flagged (R362). -/
def extMax (d : Dev) (b : Bytes) : Nat :=
  if dNative b then 24 + 4 * ((packetSamples d b + 31) / 32) * dChannels b else 0

/-- Bytes of the IP datagram of a leg (R362). -/
def datagramBytes (d : Dev) (b : Bytes) (legB : Bool) : Nat :=
  (if legV6 b legB then 40 else 20) + 8 + 12 + extMax d b + packetSamples d b * dChannels b * dSampleBytes b

/-- Are the reserved fields of a leg zero, and those of the other direction? -/
def legFormatOk (b : Bytes) (legB : Bool) : Bool :=
  let o := legOff legB
  let rx := decide (dDir b = 1)
  decide (leAt b (o + 1) 1 < 32) && decide (leAt b (o + 2) 2 < 32768) && zeroAt b (o + 15) 1 && decide (leAt b (o + 14) 1 < 64)
    && decide (bits (leAt b (o + 1) 1) 4 3 ≠ 3) && (legV6 b legB || zeroAt b (o + 20) 12)
    && (if rx then zeroAt b (o + 4) 6 && zeroAt b (o + 12) 2 else zeroAt b (o + 32) 16)

/-- The format checks of STREAM_SET (R361). -/
def descFormatOk (b : Bytes) : Bool :=
  zeroAt b 7 1 && zeroAt b 24 8 && (decide (dDir b ≠ 1) || zeroAt b 16 4) && legFormatOk b false && legFormatOk b true
    && (!legOn b true || legOn b false) && !(decide (dDir b = 1) && !dNative b && legOn b true)

/-- The range checks of STREAM_SET (R361, R362). -/
def descRangeOk (d : Dev) (b : Bytes) : Bool :=
  decide (dStream b ≤ 65534) && decide (dDir b ≤ 1) && decide (dFormat b ≤ 3) && decide (leAt b 4 1 ≤ 3)
    && decide (1 ≤ dChannels b) && decide (dChannels b ≤ 64) && decide (96 ≤ leAt b 6 1) && decide (leAt b 6 1 ≤ 127)
    && decide (leAt b 20 4 ≤ 255) && decide (legPort b false ≤ 3) && decide (legPort b true ≤ 3)
    && [false, true].all (fun l => !legOn b l || decide (datagramBytes d b l ≤ 1500))
    && d.net.ctxs.all (fun e => !(decide (e.1 / 256 = dDir b) && decide (dStream e.2.desc = dStream b)
      && decide (e.1 ≠ leAt b 20 4 + 256 * dDir b)))

/-- Does a plan name a stream in a direction (R58)? -/
def planNames (p : Plan) (rx : Bool) (stream : Nat) : Bool :=
  if rx then p.objects.any (fun o => decide (o.srcKind = 1) && decide (o.srcIndex = stream))
  else p.outTasks.any (fun t => decide (t.sink = 0) && decide (t.destIndex = stream))

/-- Is a loaded context bound to the active plan (R361)? -/
def ctxBound (d : Dev) (rx : Bool) (x : StreamCtx) : Bool :=
  match d.plan.active with
  | some p => planNames p rx (dStream x.desc)
  | none => false

/-- Is a loaded context bound to the active plan, a pending swap or one in progress (R361)? -/
def ctxHeld (d : Dev) (rx : Bool) (x : StreamCtx) : Bool :=
  let named (i : Nat) : Bool := match fget? d.plan.held i with
    | some img => planNames (parsePlan img) rx (dStream x.desc)
    | none => false
  ctxBound d rx x
    || d.plan.pending.any (fun r => named r.plan) || d.plan.heldSwap.any (fun r => named r.plan)
    || (match d.plan.running with
        | some r => planNames r.incoming rx (dStream x.desc)
        | none => false)

/-- Does the state refuse a change of a context (R361)? A number beyond 255 names none. -/
def ctxLocked (d : Dev) (rx : Bool) (c : Nat) : Bool :=
  match ctx? d rx c with
  | some x => decide (c < 256) && decide (d.sys.mode ≠ .config) && ctxHeld d rx x
  | none => false

/-- STREAM_SET (R361). -/
def streamSet (cid : Nat) (b : Bytes) (d : Dev) : Dev :=
  let rx := decide (dDir b = 1)
  if ctxLocked d rx (leAt b 20 4) then complete cid cState 0 0 d
  else if descFormatOk b = false then complete cid cFormat 0 0 d
  else if descRangeOk d b = false then complete cid cRange 0 0 d
  else complete cid cDone 0 0 (putCtx rx (leAt b 20 4) { desc := b } d)

/-- STREAM_CLEAR (R427, R428). -/
def streamClear (cid c dir : Nat) (d : Dev) : Dev :=
  let rx := decide (dir = 1)
  if ctxLocked d rx c then complete cid cState 0 0 d
  else complete cid cDone 0 0 { d with net := { d.net with ctxs := ferase d.net.ctxs (c + 256 * b2n rx) } }

/-- The receive context of a stream index, if one is loaded. -/
def rxCtxOf (d : Dev) (stream : Nat) : Option (Nat × StreamCtx) :=
  (d.net.ctxs.find? (fun e => decide (256 ≤ e.1) && decide (dStream e.2.desc = stream))).map (fun e => (e.1 - 256, e.2))

/-- The status word 7 of a context (R377). -/
def ctxState (d : Dev) (rx : Bool) (x : StreamCtx) : Nat :=
  let up (l : Bool) : Bool := legOn x.desc l && linkIsUp d (legPort x.desc l)
  1 + 2 * b2n (ctxBound d rx x) + 4 * b2n x.timedOut + 8 * b2n (up false) + 16 * b2n (up true)

/-- A write of NET_STREAM_SEL: the context is snapshot and its counters clear (R377). -/
def streamSelWrite (v : Nat) (d : Dev) : Dev :=
  let v := v % 512
  let rx := decide (v ≥ 256)
  let d := wrN 0x108000 v d
  match ctx? d rx (v % 256) with
  | none =>
    let d := forN 32 (fun i d => wrN (0x108004 + 4 * i) 0 d) d
    forN 8 (fun i d => wrN (0x108100 + 4 * i) 0 d) d
  | some x =>
    let d := forN 32 (fun i d => wrN (0x108004 + 4 * i) (leAt x.desc (4 * i) 4) d) d
    let ws := [x.packets, x.late, x.early, x.dups, x.dupMismatch, x.takenB, x.format, ctxState d rx x]
    let d := forN 8 (fun i d => wrN (0x108100 + 4 * i) (ws.getD i 0) d) d
    putCtx rx (v % 256) { x with packets := 0, late := 0, early := 0, dups := 0, dupMismatch := 0, takenB := 0, format := 0 } d

/-! ### Stream packets (R359, R363 to R368) -/

/-- What a channel of a stream carries: an output, of several the highest index (R374), else talkback bus b as 512 + b (R182). -/
def streamOutput (d : Dev) (p : Plan) (stream chan : Nat) : Option Nat :=
  let out := ((List.range p.outputs.length).filter (fun j =>
    let t := planTask p j
    decide (t.sink = 0) && decide (t.destIndex = stream) && decide (t.destChan = chan) && rendersOut d p j)).getLast?
  out.orElse (fun _ => ((List.range 8).find? (fun b => decide (stream ≠ 0xFFFF)
    && decide (p.routing.talkback.getD b (0xFFFF, 0) = (stream, chan)))).map (fun b => 512 + b))

/-- The sample of an output at a domain sample, as it departed, with its unsettled flag. -/
def sentAt (d : Dev) (j : Option Nat) (n : Nat) : Int × Bool :=
  match j with
  | none => (0, true)
  | some j => (fget 0 d.net.sent (256 * j + n % 256), fget false d.net.sentFlag (256 * j + n % 256))

/-- One sample in a payload, with its saturation (R363). -/
def payloadSample (bytes : Nat) (x : Int) : Bytes × Nat :=
  if bytes = 4 then (beBytes 4 (wrapN 32 x), 0)
  else (beBytes 3 (wrapN 24 (satI 24 (rndEven x 8))), b2n (satOvf 24 (rndEven x 8)))

/-- The payload of packet samples n0 on: sample by sample, channel by channel, with its saturations. -/
def payload (d : Dev) (b : Bytes) (outs : List (Option Nat)) (n0 s : Nat) : Bytes × Nat :=
  (List.range s).foldl (fun acc i =>
    outs.foldl (fun acc j =>
      let y := payloadSample (dSampleBytes b) (sentAt d j (n0 + i)).1
      (acc.1 ++ y.1, acc.2 + y.2)) acc) ([], 0)

/-- The native header extension (R368). -/
def nativeExt (d : Dev) (b : Bytes) (outs : List (Option Nat)) (seq n0 s : Nat) : Bytes :=
  let w := (s + 31) / 32
  let flag (j : Option Nat) (i : Nat) : Bool := decide (i < s) && (sentAt d j (n0 + i)).2
  let marked (j : Option Nat) : Bool := (List.range s).any (flag j)
  let hot := outs.filter marked
  let bitmap := (List.range outs.length).foldl (fun m c => m + b2n (marked (outs.getD c none)) * 2 ^ c) 0
  let masks := hot.foldl (fun acc j => acc ++ (List.range w).foldl (fun a k =>
    a ++ beBytes 4 ((List.range 32).foldl (fun m i => m + b2n (flag j (32 * k + i)) * 2 ^ i) 0)) []) []
  beBytes 2 0x5945 ++ beBytes 2 (5 + hot.length * w) ++ beBytes 4 (seq % 2 ^ 32) ++ beBytes 5 (n0 / 32)
    ++ beBytes 1 (dFormat b % 2) ++ beBytes 2 (fld d 0x210 31 16) ++ beBytes 8 bitmap ++ masks

/-- The RTP packet P of a transmit context, with its saturations (R363). -/
def rtpPacket (d : Dev) (p : Plan) (b : Bytes) (pk : Nat) : Bytes × Nat :=
  let s := packetSamples d b
  let n0 := pk * s
  let outs := (List.range (dChannels b)).map (streamOutput d p (dStream b))
  let seq := pk + leAt b 16 4
  let body := payload d b outs n0 s
  let head := beBytes 1 (if dNative b then 0x90 else 0x80) ++ beBytes 1 (leAt b 6 1) ++ beBytes 2 (seq % 65536)
    ++ beBytes 4 ((d.net.te + n0 + 96 + leAt b 12 4) % 2 ^ 32) ++ beBytes 4 (leAt b 8 4)
  (head ++ (if dNative b then nativeExt d b outs seq n0 s else []) ++ body.1, body.2)

/-- The Ethernet frame of an RTP packet on a leg, without its FCS (R359, R361). -/
def streamFrame (d : Dev) (b : Bytes) (legB : Bool) (rtp : Bytes) : Bytes :=
  let o := legOff legB
  let v6 := legV6 b legB
  datagramFrame d (legPort b legB) {
    queue := 5, vlan := if (leAt b (o + 1) 1).testBit 2 then some (leAt b (o + 2) 2) else none
    mac := slice b (o + 4) 6, v6 := v6, ip := slice b (o + 16) (if v6 then 16 else 4)
    udpSrc := leAt b (o + 12) 2, udpDst := leAt b (o + 10) 2, dscp := leAt b (o + 14) 1 % 64, ident := 0x4000
    noSum := false, body := rtp }

/-- Does this device send a leg: its sender field on a pair, else always (R361)? -/
def legSends (d : Dev) (b : Bytes) (legB : Bool) : Bool :=
  legOn b legB && (!pairFormed d || (match bits (leAt b (legOff legB + 1) 1) 4 3 with
    | 1 => decide (devIndex d = 0)
    | 2 => decide (devIndex d = 1)
    | _ => true))

/-- The quanta that a packet touches. -/
def packetQuanta (d : Dev) (b : Bytes) (pk : Nat) : Nat × Nat :=
  let s := packetSamples d b
  (pk * s / 32, (pk * s + s - 1) / 32)

/-- Are stream packets sent: while outputs depart, the pre-roll, the ramps and the muted output of SAFE included, unless the
device has left CENTRAL alone (R36, R37, R211, R364, R368, R380; DEDUCED, log 19)? -/
def streamsRun (d : Dev) : Bool := renderRuns d && !d.geom.fresh && !d.net.stopped

/-- Packet P of a transmit context comes to its send time (R364, R365). A packet goes once, when every quantum it
touches has departed. -/
def streamPacketSend (c pk : Nat) (d : Dev) : Dev :=
  match d.plan.active, ctx? d false c with
  | some p, some x =>
    let qs := packetQuanta d x.desc pk
    if streamsRun d = false ∨ pk < x.next ∨ qs.2 ≥ d.net.departNext ∨ qs.1 < d.net.departFirst then d
    else if (List.range (qs.2 - qs.1 + 1)).any (fun i => fget false d.disp.suppressed (qs.1 + i)) then
      putCtx false c { x with next := pk + 1, early := satInc x.early 1 } d
    else
      let y := rtpPacket d p x.desc pk
      let d := if y.2 = 0 then d else addCnt 0x108200 y.2 d
      let d := putCtx false c { x with next := pk + 1 } d
      forL [false, true] (fun l d =>
        if legSends d x.desc l then
          txFramePush (legPort x.desc l) 5 {
            proto := leAt x.desc (legOff l + 10) 2, bytes := streamFrame d x.desc l y.1, ctx := some c, at' := nowNs d
            packet := pk } d
        else d) d
  | _, _ => d

/-- The oldest stream packet of a port has not begun within NET_LAUNCH_LIMIT (R365). -/
def launchExpiry (p : Nat) (d : Dev) : Dev :=
  let l := fget [] d.net.txq (8 * p + 5)
  match l.find? (fun f => f.ctx.isSome) with
  | some f =>
    let d := { d with net := { d.net with txq := fput [] d.net.txq (8 * p + 5) (l.erase f) } }
    let d := incCnt (netA p + 0x134) d
    match ctx? d false (f.ctx.getD 0) with
    | some x => putCtx false (f.ctx.getD 0) { x with late := satInc x.late 1 } d
    | none => d
  | none => d

/-- Keeps the departed block of a network output for its packets, with its unsettled mask (R364, R368). -/
def netDepart (j q : Nat) (ys : List Int) (mask : Nat) (d : Dev) : Dev :=
  forN 32 (fun k d =>
    let key := 256 * j + (32 * q + k) % 256
    { d with net := { d.net with
      sent := fput 0 d.net.sent key (ys.getD k 0), sentFlag := fput false d.net.sentFlag key (mask.testBit k) } }) d

/-- The talkback buses of routing period k go into the samples of the quantum that departs next; no rendered output names their
channels, so they are unsettled (R182, R368). The spec gives no delay for them: that quantum is the model's choice (log 107). -/
def talkbackSample (k : Nat) (d : Dev) : Dev :=
  forN 8 (fun b d =>
    let key := 256 * (512 + b) + (32 * (d.time.qn + 6) + k) % 256
    { d with net := { d.net with
      sent := fput 0 d.net.sent key (fget 0 d.route.outputs (0x210 + b)), sentFlag := fput false d.net.sentFlag key true } }) d

/-- An output whose stream has no transmit context, or whose channel is beyond it, is discarded (R374). -/
def netUnbound (p : Plan) (j : Nat) (d : Dev) : Dev :=
  let t := planTask p j
  let ok := d.net.ctxs.any (fun e => decide (e.1 < 256) && decide (dStream e.2.desc = t.destIndex)
    && decide (t.destChan < dChannels e.2.desc))
  if t.sink = 0 ∧ t.destIndex ≠ 0xFFFF ∧ ok = false then setFlag (netA 0 + 4) 12 d else d

/-- T_e of the present epoch (R363). -/
def epochSamples (d : Dev) : Nat := d.time.epoch * fsHz d / 1000000000

end Sys2Proof.Machine
end

