-- ==== Sys2Proof/Machine/NetRx.lean ====
section
/-!
DEFINITION. Reception: the filter and buffer of a port, stream packets, stream timeouts, mirrored metadata
(R352, R356, R357, R360, R369 to R373, R385 to R387, R402).
-/

namespace Sys2Proof.Machine

/-! ### Frames (R352, R356, R357, R360) -/

/-- What the headers of a frame say: tags, EtherType, IP version, addresses, UDP port, and whether the checksums hold. -/
structure FrameHead where
  tags : Nat
  pcp : Nat
  etherType : Nat
  udp : Option Nat
  sumsOk : Bool
deriving DecidableEq, Repr

/-- The checks of an IPv4 datagram (R360): UDP destination port, checksums. -/
def ip4Head (bs : Bytes) : Option Nat × Bool :=
  let ihl := 4 * (leAt bs 0 1 % 16)
  let total := beAt bs 2 2
  let isUdp := decide (leAt bs 9 1 = 17)
  let hdrOk := decide (onesSum (bs.take ihl) = 0xFFFF)
  let seg := slice bs ihl (total - ihl)
  let pseudo := slice bs 12 8 ++ [0, 17] ++ beBytes 2 seg.length
  let sumOk := decide (beAt seg 6 2 = 0) || decide (onesSum (pseudo ++ seg) = 0xFFFF)
  (if isUdp then some (beAt seg 2 2) else none, hdrOk && (!isUdp || sumOk))

/-- The checks of an IPv6 datagram (R360). -/
def ip6Head (bs : Bytes) : Option Nat × Bool :=
  let isUdp := decide (leAt bs 6 1 = 17)
  let seg := slice bs 40 (beAt bs 4 2)
  let pseudo := slice bs 8 32 ++ beBytes 4 seg.length ++ zeros 3 ++ [17]
  (if isUdp then some (beAt seg 2 2) else none,
    !isUdp || (decide (beAt seg 6 2 ≠ 0) && decide (onesSum (pseudo ++ seg) = 0xFFFF)))

/-- Is an EtherType that of a VLAN tag? -/
def isTag (t : Nat) : Bool := decide (t = 0x8100) || decide (t = 0x88A8)

/-- The headers of a frame. -/
def frameHead (f : Bytes) : FrameHead :=
  let t0 := beAt f 12 2
  let t1 := beAt f 16 2
  let tags := if isTag t0 then (if isTag t1 then 2 else 1) else 0
  let et := if tags = 0 then t0 else t1
  let body := f.drop (if tags = 0 then 14 else 18)
  let h := if et = 0x0800 then ip4Head body else if et = 0x86DD then ip6Head body else (none, true)
  ⟨tags, if tags = 0 then 0 else beAt f 14 2 / 8192, et, h.1, h.2⟩

/-- The addresses of the PTP transport in use (R352). PRESUMED: the groups are those of IEEE 1588. -/
def ptpMacs (d : Dev) : List Nat :=
  if bitAt d 0x20000 7 then [0x333300000181, 0x33330000006B] else [0x01005E000181, 0x01005E00006B]

/-- A MAC address held in two registers, first byte in bits [7:0], as a number in network order. -/
def macReg (d : Dev) (a : Nat) : Nat := beVal (macBytes d a)

/-- Does the receive filter of a port accept a destination address (R352)? -/
def macAccepted (d : Dev) (p mac : Nat) : Bool :=
  decide (mac = macReg d (netA p + 8)) || decide (mac = 2 ^ 48 - 1) || (ptpMacs d).contains mac
    || d.net.ctxs.any (fun e => decide (256 ≤ e.1) && [false, true].any (fun l =>
        legOn e.2.desc l && decide (legPort e.2.desc l = p)
          && decide (groupMac (legV6 e.2.desc l) (slice e.2.desc (legOff l + 16) 16) = some mac)))
    || (List.range 32).any (fun i =>
        bitAt d (netA p + 0x404 + 8 * i) 31 && decide (macReg d (netA p + 0x400 + 8 * i) = mac))

/-- Is a UDP port one of the control ports (R356)? -/
def controlPort (udp : Option Nat) : Bool :=
  match udp with
  | some u => decide (u = 319) || decide (u = 320) || (decide (51230 ≤ u) && decide (u ≤ 51233))
  | none => false

/-- Is a frame express on receive (R357)? -/
def rxExpress (mPacket : Bool) (h : FrameHead) : Bool :=
  mPacket || decide (h.pcp ≥ 6) || (controlPort h.udp && decide (h.udp ≠ some 51233))

/-- The receive buffer takes a frame or drops it; `shared` and `reserved` are the bytes in use (R357). -/
def rxBuffer (p : Nat) (express : Bool) (len shared reserved : Nat) (d : Dev) : Dev :=
  if shared + len ≤ 245760 then incCnt (netA p + 0x100) d
  else if express then
    (if reserved + len ≤ 16384 then incCnt (netA p + 0x100) d
    else setFlag (netA p + 4) 10 (incCnt (netA p + 0x114) d))
  else setFlag (netA p + 4) 9 (incCnt (netA p + 0x110) d)

/-- Is a frame a wake frame: its EtherType, after one tag where it carries one, and its address (R376)? -/
def isWakeFrame (d : Dev) (p : Nat) (f : Bytes) : Bool :=
  decide ((frameHead f).etherType = 0x88B5) && decide ((frameHead f).tags < 2)
    && (decide (beAt f 0 6 = macReg d (netA p + 8)) || decide (beAt f 0 6 = 2 ^ 48 - 1))

/-- Is a frame a PAUSE, which PAUSE_RECEIVE takes (R358)? -/
def isPause (f : Bytes) : Bool :=
  decide ((frameHead f).etherType = 0x8808) && decide (beAt f (if (frameHead f).tags = 0 then 14 else 18) 2 = 1)

/-- An Ethernet frame arrives, given without its FCS (R352, R354, R356, R357, R360). -/
def frameReceive (p : Nat) (f : Bytes) (check : MacCheck) (mPacket : Bool) (shared reserved : Nat) (d : Dev) : Dev :=
  if p ≥ 4 ∨ linkIsUp d p = false ∨ d.sys.mode = .stop then d else
  let h := frameHead f
  let len := f.length + 4
  let drop (r : Nat) : Dev := incCnt (netA p + r) d
  if check.mmErr then drop 0x124
  else if check.fcsOk = false then drop 0x104
  else if len < 64 ∨ len > 1522 ∨ h.tags ≥ 2 then drop 0x108
  else if isPause f then d
  else if macAccepted d p (beAt f 0 6) = false ∨ isWakeFrame d p f = true then drop 0x10C
  else if h.sumsOk = false then drop 0x118
  else
    let ctl := controlPort h.udp
    let n := (netPort d p).ctrlCount
    if ctl && decide (n ≥ rdN d (netA p + 0x44) / 100) then setFlag (netA p + 4) 11 (drop 0x11C)
    else
      let d := if ctl then putNetPort p { netPort d p with ctrlCount := n + 1 } d else d
      rxBuffer p (rxExpress mPacket h) len shared reserved d

/-- Is a wake frame valid: its magic, version, crc and domain, and does it name this device (R376)? -/
def wakeFrameOk (d : Dev) (f : Bytes) : Bool :=
  let b := f.drop (if (frameHead f).tags = 0 then 14 else 18)
  decide (beAt b 0 4 = 0x5957414B) && decide (leAt b 6 1 = 1) && decide (beAt b 16 4 = crc32c (b.take 16))
    && decide (beAt b 4 2 = fld d 0x210 31 16)
    && ((leAt b 7 1).testBit 0 || (beAt b 8 8).testBit (fld d 0x210 5 0))

/-- Has a port evaluated a wake frame within the last millisecond (R376)? -/
def wakeQuiet (d : Dev) (p : Nat) : Bool :=
  decide ((netPort d p).wakeAt ≠ 0) && decide (nowNs d + 1 < (netPort d p).wakeAt + 1000000)

/-- Does a frame wake the device: a valid wake frame, or any frame to the port's own address (R375)? -/
def frameWakes (d : Dev) (p : Nat) (f : Bytes) : Bool :=
  (bitAt d (netA p + 0x3C) 1 && isWakeFrame d p f && !wakeQuiet d p && wakeFrameOk d f)
    || (bitAt d (netA p + 0x3C) 2 && decide (beAt f 0 6 = macReg d (netA p + 8)))

/-- The wake frame of a port has been evaluated. -/
def wakeSeen (p : Nat) (f : Bytes) (d : Dev) : Dev :=
  if bitAt d (netA p + 0x3C) 1 && isWakeFrame d p f && !wakeQuiet d p then
    putNetPort p { netPort d p with wakeAt := nowNs d + 1 } d
  else d

/-- The window of the control-frame allowance restarts (R356). -/
def controlWindow (p : Nat) (d : Dev) : Dev := putNetPort p { netPort d p with ctrlCount := 0 } d

/-! ### Metadata as a mirrored input (R385 to R387) -/

/-- A metadata record arrives at this device: on a pair it takes its apply QN and goes to the partner (R97, R385). -/
def metaInput (b : Bytes) (d : Dev) : Dev :=
  if mirrorsInputs d = false then metaReceive none b d else
  match metaAccept d b with
  | none => metaReceive none b d
  | some q0 =>
    let a := max q0 (d.geom.nextAct + rdN d 0x140024)
    metaReceive (some a) b (pairSendSeq 2 (beBytes 5 a ++ zeros 3 ++ padTo 32 b) (some a) d)

/-- A mirrored record arrived after the activation of its apply QN began (R387). -/
def mirrorLate (q : Nat) (d : Dev) : Dev :=
  if q < d.geom.nextAct then
    let d := setFlag 0x140004 10 (incCnt 0x14006C d)
    { d with pair := { d.pair with lateQn := fput false d.pair.lateQn d.geom.nextAct true } }
  else d

/-- A META record of the partner (R385, R387). -/
def metaFromPartner (body : Bytes) (d : Dev) : Dev :=
  let q := beAt body 0 5
  metaReceive (some q) (slice body 8 32) (mirrorLate q d)

/-! ### Stream packets (R369 to R372) -/

/-- Does a packet match a leg of a descriptor (R369)? -/
def legMatches (b : Bytes) (l : Bool) (k : RxPacket) : Bool :=
  let o := legOff l
  let n := if k.v6 then 16 else 4
  legOn b l && decide (legPort b l = k.port) && (legV6 b l == k.v6) && decide (slice b (o + 16) n = k.dst.take n)
    && decide (leAt b (o + 10) 2 = k.udp) && (zeroAt b (o + 32) 16 || decide (slice b (o + 32) n = k.src.take n))

/-- The receive context and leg that a packet matches, leg A before leg B. -/
def packetCtx (d : Dev) (k : RxPacket) : Option (Nat × Bool × StreamCtx) :=
  (d.net.ctxs.filter (fun e => decide (256 ≤ e.1))).findSome? (fun e =>
    if legMatches e.2.desc false k then some (e.1 - 256, false, e.2)
    else if legMatches e.2.desc true k then some (e.1 - 256, true, e.2) else none)

/-- The extended position of a packet's first sample, near the quantum now being activated, which is the present one: what
QN + 9 holds may not be written before QN + 1 starts (R134, R370). -/
def packetPos (d : Dev) (b rtp : Bytes) : Int :=
  let near := 32 * qnNow d
  (near : Int) + sext 32 (wrapN 32 (((beAt rtp 4 4 : Nat) : Int) - (d.net.te : Int) + sext 32 (leAt b 12 4) - (near : Int)))

/-- Bytes of the header and extension of a packet. -/
def rtpHead (rtp : Bytes) : Nat :=
  12 + 4 * (leAt rtp 0 1 % 16) + (if (leAt rtp 0 1).testBit 4 then 4 + 4 * beAt rtp (12 + 4 * (leAt rtp 0 1 % 16) + 2) 2 else 0)

/-- Is the extension of a native packet valid (R368, R369)? -/
def extOk (d : Dev) (s : Nat) (rtp : Bytes) (n : Int) : Bool :=
  let o := 12 + 4 * (leAt rtp 0 1 % 16)
  let u := popcount 64 (beAt rtp (o + 16) 8)
  (leAt rtp 0 1).testBit 4 && decide (beAt rtp o 2 = 0x5945) && decide (beAt rtp (o + 2) 2 = 5 + u * ((s + 31) / 32))
    && decide (beAt rtp (o + 14) 2 = fld d 0x210 31 16) && decide ((beAt rtp (o + 8) 5 : Int) = n / 32)

/-- The checks of R369 after the match. -/
def packetOk (d : Dev) (b rtp : Bytes) : Bool :=
  let s := packetSamples d b
  decide (leAt rtp 0 1 / 64 = 2) && decide (leAt rtp 1 1 % 128 = leAt b 6 1)
    && (decide (leAt b 8 4 = 0) || decide (beAt rtp 8 4 = leAt b 8 4))
    && decide (rtp.length = rtpHead rtp + s * dChannels b * dSampleBytes b)
    && (!dNative b || extOk d s rtp (packetPos d b rtp))

/-- The objects bound to a stream. -/
def streamObjects (d : Dev) (stream chan : Nat) : List Nat := fedObjects d 1 stream chan

/-- Has a window fill consumed a position of a packet: its first, for an object bound to the stream, whose base delay
counts; a stream with no bound object is judged with no base delay (R370; DEDUCED, log 72)? -/
def packetLate (d : Dev) (b : Bytes) (n : Int) : Bool :=
  let os := (List.range (dChannels b)).flatMap (streamObjects d (dStream b))
  decide (n < 0) || (if os.isEmpty then decide (n.toNat / 32 < d.voice.filled) else os.any (fun o => stagingLate d o n.toNat))

/-- Would a packet of s samples from n on repeat a position already written: one of an accepted packet of its context, or one
that an object of its stream holds (R371)? -/
def packetRepeats (d : Dev) (x : StreamCtx) (n s : Nat) : Bool :=
  let b := x.desc
  x.starts.any (fun m => decide (m < n + s) && decide (n < m + s)) || (List.range (dChannels b)).any (fun c => (streamObjects d (dStream b) c).any (fun o =>
    (List.range s).any (fun i => (stagingAt d o ((n + i : Nat) : Int)).isSome)))

/-- The judgement of the de-duplication window (R371): the new highest sequence, or whether it is a duplicate. -/
inductive Dedup
  | take (high : Nat)
  | duplicate (t : Taken)
  | stale
deriving DecidableEq, Repr

/-- De-duplication by seq32 (R371). -/
def dedup (x : StreamCtx) (s : Nat) : Dedup :=
  match x.high with
  | none => .take s
  | some h =>
    let fwd := subMod 32 s h
    let back := subMod 32 h s
    if 1 ≤ fwd ∧ fwd ≤ 2 ^ 31 - 1 then .take s
    else if back ≤ 1023 then (match fget? x.window s with
      | some t => .duplicate t
      | none => .take h)
    else .stale

/-- Writes the samples of an accepted packet to the staging lines of its objects (R370). -/
def packetStage (b rtp : Bytes) (n : Nat) (d : Dev) : Dev :=
  let s := packetSamples d b
  let w := dSampleBytes b
  let o := rtpHead rtp
  forN (dChannels b) (fun c d =>
    forL (streamObjects d (dStream b) c) (fun ob d =>
      forN s (fun i d =>
        let v := beAt rtp (o + (i * dChannels b + c) * w) w
        inputWrite ob (n + i) (if w = 3 then sext 24 v * 256 else sext 32 v) d) d) d) d

/-- An IP address as an item of an event: its words as NET_IP4 and NET_IP6 hold them, little-endian. Over IPv6 the items are
longer than the 16 bytes of args, which keep the first (R431; DESIGN CHOICE, log 72). -/
def ipWords (ip : Bytes) : Bytes := (List.range (ip.length / 4)).flatMap (fun i => leBytes 4 (beAt ip (4 * i) 4))

/-- PAIR_COPY_TAKEN: at most once per second per context while dup_mismatch rises on an edge device (R402). -/
def copyTaken (c : Nat) (d : Dev) : Dev :=
  match ctx? d true c with
  | some x =>
    match x.copyIp with
    | some ip =>
      if role d = 2 ∧ (x.copyAt = 0 ∨ x.copyAt + 1000000000 ≤ nowNs d + 1) then
        raiseEvent evPairCopyTaken (leBytes 2 (dStream x.desc) ++ ipWords ip ++ leBytes 4 x.takenB ++ leBytes 4 x.packets)
          (putCtx true c { x with copyIp := none, copyAt := nowNs d + 1 } d)
      else d
    | none => d
  | none => d

/-- A duplicate is dropped; one whose bytes differ from the accepted copy is counted and raised (R371, R372). -/
def packetDuplicate (c : Nat) (x : StreamCtx) (legB : Bool) (k : RxPacket) (t : Taken) (seq : Nat) (d : Dev) : Dev :=
  let x := { x with dups := satInc x.dups 1 }
  if t.crc = crc32c k.rtp then putCtx true c x d
  else
    let d := putCtx true c { x with dupMismatch := satInc x.dupMismatch 1, copyIp := some t.ip } d
    let d := raiseEvent evNetDupMismatch
      (leBytes 2 (dStream x.desc) ++ leBytes 4 seq ++ leBytes 1 (b2n t.legB) ++ leBytes 1 (b2n legB)) d
    copyTaken c d

/-- A stream packet arrives (R369 to R372). -/
def streamPacketReceive (k : RxPacket) (d : Dev) : Dev :=
  match packetCtx d k with
  | none => incCnt (netA k.port + 0x10C) d
  | some (c, legB, x) =>
    let b := x.desc
    if packetOk d b k.rtp = false then putCtx true c { x with format := satInc x.format 1 } d else
    let n := packetPos d b k.rtp
    let s := packetSamples d b
    if packetLate d b n then putCtx true c { x with late := satInc x.late 1 } d
    else if n + (s : Int) - 1 > ((32 * qnNow d + 31 + 256 : Nat) : Int) then
      putCtx true c { x with early := satInc x.early 1 } d
    else
      let seq := beAt k.rtp (12 + 4 * (leAt k.rtp 0 1 % 16) + 4) 4
      let verdict : Dedup := match (if dNative b then dedup x seq else .take 0) with
        | .take h => if packetRepeats d x n.toNat s then .duplicate ⟨crc32c k.rtp, legB, []⟩ else .take h
        | v => v
      match verdict with
      | .stale => putCtx true c { x with late := satInc x.late 1 } d
      | .duplicate t => packetDuplicate c x legB k t seq d
      | .take h =>
        let win := (fins x.window seq ⟨crc32c k.rtp, legB, k.src.take (if k.v6 then 16 else 4)⟩).filter
          (fun e => decide (subMod 32 h e.1 ≤ 1023))
        let q0 := n.toNat / 32
        let q1 := (n.toNat + s - 1) / 32
        let got := (List.range (q1 - q0 + 1)).foldl (fun m i => fput false m (q0 + i) true) x.delivered
        let x := { x with
          packets := satInc x.packets 1
          takenB := if legB then satInc x.takenB 1 else x.takenB
          high := if dNative b then some h else none
          window := if dNative b then win else []
          starts := n.toNat :: x.starts.filter (fun m => !packetLate d b (m : Int))
          delivered := got.filter (fun e => decide (e.1 + 8 ≥ d.geom.nextAct)) }
        packetStage b k.rtp n.toNat (putCtx true c x d)

/-! ### Timeouts (R373) -/

/-- Marks the objects of a stream. -/
def streamMark (stream : Nat) (lost : Bool) (d : Dev) : Dev :=
  match d.plan.active with
  | none => d
  | some p => forL ((List.range 1024).filter (fun o => (obj d o).inPlan && decide ((planObj p o).srcKind = 1)
      && decide ((planObj p o).srcIndex = stream))) (fun o d => putObj o { obj d o with audioLost := lost } d) d

/-- The judgement of one receive context at the window fill of q. -/
def ctxTimeout (q : Nat) (c : Nat) (x : StreamCtx) (d : Dev) : Dev :=
  let got (i : Nat) : Bool := decide (i ≤ q) && fget false x.delivered (q - i)
  if x.timedOut then
    (if got 0 && got 1 && got 2 then
      raiseEvent evNetStreamResumed (leBytes 2 (dStream x.desc))
        (streamMark (dStream x.desc) false (putCtx true c { x with timedOut := false } d))
    else d)
  else if got 0 || got 1 || got 2 then d
  else
    raiseEvent evNetStreamTimeout (leBytes 2 (dStream x.desc))
      (streamMark (dStream x.desc) true (putCtx true c { x with timedOut := true, high := none, window := [] } d))

/-- Every context at the window fill of q; an object of a stream with no receive context is treated as timed out. -/
def streamTimeouts (q : Nat) (d : Dev) : Dev :=
  let d := forL (d.net.ctxs.filter (fun e => decide (256 ≤ e.1))) (fun e d => ctxTimeout q (e.1 - 256) e.2 d) d
  match d.plan.active with
  | none => d
  | some p => forN 1024 (fun o d =>
      let r := planObj p o
      if (obj d o).inPlan && decide (r.srcKind = 1) then
        match rxCtxOf d r.srcIndex with
        | none => if (obj d o).audioLost then d else putObj o { obj d o with audioLost := true } d
        | some e => if (obj d o).audioLost = e.2.timedOut then d else putObj o { obj d o with audioLost := e.2.timedOut } d
      else d) d

/-- Has a stream a receive context (R135)? -/
def hasRxCtx (d : Dev) (stream : Nat) : Bool := (rxCtxOf d stream).isSome

end Sys2Proof.Machine
end

