-- ==== Sys2Proof/Machine/Mem.lean ====
section
/-!
DEFINITION. Device addresses, memory errors, the bus matrix, the vault wipe and the controls of DMA channels
(15_memory_interconnect.md).
-/

namespace Sys2Proof.Machine

/-! ### DRAM (R449 to R456) -/

/-- Bytes of DRAM that the present population addresses (R450). -/
def dramBytes (d : Dev) : Nat := d.memory.population * 2 ^ 32

/-- DRAMC_CFG.edge_half. -/
def edgeHalf (d : Dev) : Bool := bitAt d 0x1A0000 0

/-- Bytes that inline ECC protects (R451). -/
def protectedBytes (d : Dev) : Nat := (if edgeHalf d then 4768 else 6112) * 2 ^ 20

/-- The channel of an address (R450). -/
def dramChannel (d : Dev) (a : Nat) : Nat :=
  if d.memory.population = 4 then (bits a 9 8) ^^^ (bits a 19 18) ^^^ (bits a 29 28)
  else if d.memory.population = 2 then (bits a 8 8) ^^^ (bits a 18 18) ^^^ (bits a 28 28)
  else 0

/-- Registers of a channel: CE, UE, FWD, TRR, RETRAINS, TEMP (R480). -/
def dramA (ch : Nat) : Nat := 0x1A1000 + 0x40 * ch

/-- A corrected single-bit error: only regions with inline ECC have one (R451, R452). -/
def dramCe (a : Nat) (d : Dev) : Dev :=
  if protectedBytes d ≤ a then d else
  let ch := dramChannel d a
  let d := setFlag 0x1A0004 8 (incCnt (dramA ch) d)
  let at' := fget 0 d.memory.ceAt ch
  if at' = 0 ∨ at' + 1000000000 ≤ nowNs d + 1 then
    raiseEvent evDramEccCe (leBytes 1 ch ++ leBytes 5 a)
      { d with memory := { d.memory with ceAt := fput 0 d.memory.ceAt ch (nowNs d + 1) } }
  else d

/-- An uncorrectable error (R452). -/
def dramUe (a : Nat) (d : Dev) : Dev :=
  let ch := dramChannel d a
  let d := setFlag 0x1A0004 9 (incCnt (dramA ch + 4) d)
  let d := wrN 0x1A0014 (a / 2 ^ 32) (wrN 0x1A0010 (a % 2 ^ 32) d)
  let d := raiseEvent evDramEccUe (leBytes 1 ch ++ leBytes 5 a) d
  if a < protectedBytes d then faultCause 8 (pairFault 1 d) else d

/-- A retrain of a channel starts: one at a time (R456). -/
def dramRetrain (ch : Nat) (d : Dev) : Dev :=
  if ch ≥ d.memory.population ∨ d.memory.retraining.isSome then d else
  let d := setFlag 0x1A0004 10 (incCnt (dramA ch + 0x10) d)
  raiseEvent evDramRetrain (leBytes 1 ch) { d with memory := { d.memory with retraining := some ch } }

/-- A retrain ends (R456). -/
def dramRetrainEnd (ch : Nat) (d : Dev) : Dev :=
  if d.memory.retraining = some ch then { d with memory := { d.memory with retraining := none } } else d

/-- The smallest count of a table. -/
def rowMin (t : List (Nat × Nat)) : Nat :=
  match t with
  | [] => 0
  | e :: rest => rest.foldl (fun m x => min m x.2) e.2

/-- Replaces the first entry with a count by another entry. -/
def rowReplace (t : List (Nat × Nat)) (count : Nat) (e : Nat × Nat) : List (Nat × Nat) :=
  match t with
  | [] => []
  | h :: rest => if h.2 = count then e :: rest else h :: rowReplace rest count e

/-- An activate of a row in a bank's table (R455): the table, and whether its neighbours are refreshed. -/
def rowActivate (thr row : Nat) (t : List (Nat × Nat)) : List (Nat × Nat) × Bool :=
  let t := if t.any (fun e => decide (e.1 = row)) then t.map (fun e => if e.1 = row then (row, e.2 + 1) else e)
    else if t.length < 64 then t ++ [(row, 1)]
    else rowReplace t (rowMin t) (row, rowMin t + 1)
  let c := ((t.find? (fun e => decide (e.1 = row))).map (·.2)).getD 0
  if c ≥ thr then (t.map (fun e => if e.1 = row then (row, rowMin t) else e), true) else (t, false)

/-- One activate: channel, bank, row (R455). -/
def dramActivate (a : Nat × Nat × Nat) (d : Dev) : Dev :=
  let key := 4096 * a.1 + a.2.1
  let r := rowActivate (rdN d 0x1A0008) a.2.2 (fget [] d.memory.rows key)
  let d := { d with memory := { d.memory with rows := fput [] d.memory.rows key r.1 } }
  if r.2 then incCnt (dramA a.1 + 0xC) d else d

/-- The window of 32 ms ends: its activates have been counted in order, and every count clears (R455). -/
def rowWindowEnd (acts : List (Nat × Nat × Nat)) (d : Dev) : Dev :=
  let d := forL acts dramActivate d
  { d with memory := { d.memory with rows := [] } }

/-- The regions of R449 in MiB, in table order. -/
def regionSizes (half : Bool) : List Nat :=
  if half then [256, 2048, 1088, 32, 1344, 1280, 512, 512, 256, 704, 160]
  else [256, 2048, 1088, 32, 2688, 2560, 1024, 512, 256, 5728, 192]

/-- The layout of DRAM at the end of BOOT: population, bases and sizes (R449, R450). -/
def dramLayout (d : Dev) : Dev :=
  let half := edgeHalf d
  let sizes := regionSizes half
  let d := { d with memory := { d.memory with population := if half then 2 else 4 } }
  forN 11 (fun i d =>
    let base := (sizes.take i).foldl (· + ·) 0 * 2 ^ 20
    wrN (0x1A0108 + 0x10 * i) (sizes.getD i 0) (wrN (0x1A0104 + 0x10 * i) (base / 2 ^ 32) (wrN (0x1A0100 + 0x10 * i) (base % 2 ^ 32) d))) d

/-- DRAMC_STATUS as read. -/
def dramStatus (d : Dev) : Nat := setBits (rdN d 0x1A0004) 2 0 d.memory.population

/-! ### SRAM (R457 to R461, R463) -/

/-- An uncorrectable error of a region outside the paths of its own users (R133, R241, R267, R457). -/
def regionUe (region offset : Nat) (d : Dev) : Dev :=
  let d := sramUe region offset d
  match region with
  | 0 =>
    let o := 64 * (offset % 2 ^ 20 / 65536) + offset / 2 ^ 20
    { d with voice := { d.voice with badLine := fput false d.voice.badLine (1024 * o + offset % 65536 / 64) true } }
  | 1 => faultCause 8 (raiseEvent evLupinEcc [] d)
  | 2 =>
    let c := offset / 2 ^ 20
    putCore c { acore d c with badWord := fput false (acore d c).badWord (offset % 2 ^ 20 / 8) true } d
  | 3 => faultCause 8 d
  | _ => d

/-- A corrected word: counted and put into the table of 32; the 16th correction within 24 h is a hard error (R459). -/
def regionCe (region offset : Nat) (d : Dev) : Dev :=
  let d := sramCe region d
  let same (c : Corrected) : Bool := decide (c.region = region) && decide (c.offset = offset)
  let old := ((d.memory.corrected.find? same).map (·.times)).getD []
  let times := (nowNs d :: old).filter (fun t => decide (nowNs d < t + 86400 * 1000000000))
  let hard := decide (times.length ≥ 16)
  let table := (⟨region, offset, if hard then [] else times⟩ :: d.memory.corrected.filter (fun c => !same c)).take 32
  let d := { d with memory := { d.memory with corrected := table } }
  if hard then raiseEvent evSramHardErr (leBytes 1 region ++ leBytes 4 offset) (setFlag 0x1B0004 10 d) else d

/-- A scrub period: what the scrubber has found (R459). -/
def scrubPeriod (hits : List ScrubHit) (d : Dev) : Dev :=
  forL hits (fun h d =>
    if h.region = 0 ∨ h.region > 4 then d
    else if h.uncorrectable then regionUe h.region h.offset d else regionCe h.region h.offset d) d

/-- A wipe of the vault starts, or starts again, with a cause (R463). -/
def vaultWipe (cause : Nat) (d : Dev) : Dev :=
  { d with
    mem := d.mem.filter (fun e => !(decide (0x1002000000 ≤ e.1) && decide (e.1 < 0x1002200000)))
    host := { d.host with keys := [] }
    memory := { d.memory with wipes := d.memory.wipes ++ [cause] } }

/-- The wipe ends: VAULT_WIPED with each cause (R463). -/
def vaultWiped (d : Dev) : Dev :=
  forL d.memory.wipes (fun c d => raiseEvent evVaultWiped (leBytes 1 c) d) { d with memory := { d.memory with wipes := [] } }

/-- SRAMC_STATUS as read. -/
def sramStatus (d : Dev) : Nat := setBits (rdN d 0x1B0004) 0 0 (b2n (!d.memory.wipes.isEmpty))

/-! ### The matrix (R446 to R448, R469) -/

/-- The first error that arrives while both flags are clear is recorded (R469). -/
def matrixRecord (master target addr : Nat) (write : Bool) (d : Dev) : Dev :=
  if fld d 0x1C0004 1 0 = 0 then
    let d := setFld 0x1C0004 24 24 (b2n write) (setFld 0x1C0004 20 16 target (setFld 0x1C0004 12 8 master d))
    wrN 0x1C000C (addr / 2 ^ 32 % 256) (wrN 0x1C0008 (addr % 2 ^ 32) d)
  else d

/-- A decode error (R469). -/
def matrixDecode (master addr : Nat) (write : Bool) (d : Dev) : Dev :=
  let d := setFlag 0x1C0004 1 (matrixRecord master 0x1F addr write (incCnt 0x1C0014 d))
  raiseEvent evMatrixDecode (leBytes 1 master ++ leBytes 5 addr) d

/-- No answer within MATRIX_TIMEOUT; `late` says that a target answers after its timeout (R469). -/
def matrixTimeout (master target addr : Nat) (write late : Bool) (d : Dev) : Dev :=
  if late then setFlag 0x1C0004 2 (incCnt 0x1C0018 d)
  else
    let d := setFlag 0x1C0004 0 (matrixRecord master target addr write (incCnt 0x1C0010 d))
    raiseEvent evMatrixTimeout (leBytes 1 master ++ leBytes 1 target ++ leBytes 5 addr) d

/-- Does an access of `n` bytes lie inside a range? -/
def inRange (a n lo size : Nat) : Bool := decide (lo ≤ a) && decide (a + n ≤ lo + size)

/-- Does a device address answer an access other than the vault's own masters (R446, R448, R462)? -/
def addrAnswers (d : Dev) (write : Bool) (a n : Nat) : Bool :=
  inRange a n 0 (dramBytes d) || inRange a n 0x1000000000 0x1000000 || inRange a n 0x1001000000 0x600000
    || inRange a n 0x1800000000 0x1000000
    || (!write && inRange a n 0x1C00000000 (min 0x20000000 (rdN d 0x1F0014 * 2 ^ 20)))
    || (!write && decide (d.sys.mode = .boot) && inRange a n 0x1F00000000 0x20000)

/-- Bytes that a device address holds: memory, the flash window, the boot ROM. -/
def addrRead (d : Dev) (a n : Nat) : Bytes :=
  if 0x1F00000000 ≤ a then (List.range n).map (fun i => Config.bootRom (a + i - 0x1F00000000))
  else if 0x1C00000000 ≤ a then flashRead d (a - 0x1C00000000) n
  else memRead d a n

/-- What a corrected error counts where a read of a device address meets it (R452, R457). -/
def memCe (a : Nat) (d : Dev) : Dev :=
  if a < dramBytes d then dramCe a d
  else if inRange a 1 0x1001000000 0x600000 then sramCe 3 d
  else if inRange a 1 0x1000000000 0x1000000 then sramCe 2 d else d

/-- What an uncorrectable error records where a read of a device address meets it (R241, R452, R457). -/
def memUe (a : Nat) (d : Dev) : Dev :=
  if a < dramBytes d then dramUe a d
  else if inRange a 1 0x1001000000 0x600000 then regionUe 3 (a - 0x1001000000) d
  else if inRange a 1 0x1000000000 0x1000000 then sramUe 2 (a - 0x1000000000) d else d

/-! ### DMA channels (R471 to R478) -/

/-- DMA_CH_CFG of a channel; its other registers follow (R480). -/
def dmaA (c : Nat) : Nat := 0x191000 + 0x40 * c

/-- A channel's record. -/
def dmaCh (d : Dev) (c : Nat) : DmaCh := fget {} d.memory.dma c

/-- Replaces it. -/
def putDma (c : Nat) (x : DmaCh) (d : Dev) : Dev := { d with memory := { d.memory with dma := fput {} d.memory.dma c x } }

/-- Descriptors posted and not consumed. -/
def dmaHeld (d : Dev) (c : Nat) : Nat := subMod 32 (rdN d (dmaA c + 0x1C)) (rdN d (dmaA c + 0x20))

/-- Address of the ring's next entry (R473). -/
def dmaEntryAddr (d : Dev) (c : Nat) : Nat :=
  addr64 d (dmaA c + 0xC) + 32 * (rdN d (dmaA c + 0x20) % 2 ^ fld d (dmaA c) 4 0)

/-- Is a device address in the register window (R446)? -/
def inRegWindow (a : Nat) : Bool := inRange a 1 0x1800000000 0x1000000

/-- Writes bytes at an address of R447: device memory, or the host. Bytes that are no whole words of the register window have no
effect there (R12); whole words go the way of `burstWrite`. -/
def drefWrite (a : Nat) (bs : Bytes) (d : Dev) : Dev :=
  if a.testBit 63 && inRegWindow (a % 2 ^ 40) then d
  else if a.testBit 63 then (if addrAnswers d true (a % 2 ^ 40) bs.length then memWrite (a % 2 ^ 40) bs d else d)
  else emit (.hostWrite a bs) d

/-- Writes the status and the retries of the descriptor in progress (R472). -/
def dmaStatus (c status : Nat) (d : Dev) : Dev :=
  drefWrite ((dmaCh d c).cur + 22) (leBytes 1 status ++ leBytes 1 (min (dmaCh d c).used 255)) d

/-- A channel halts: state, cause, address, DMA_HALT; a stop request of the same boundary is dropped (R475, R478). -/
def dmaHalt (c cause addr : Nat) (d : Dev) : Dev :=
  let d := putDma c { dmaCh d c with state := .halted } d
  let d := setFlag (dmaA c + 8) 16 (setFld (dmaA c + 8) 15 8 cause d)
  let d := wrN (dmaA c + 0x34) (addr / 2 ^ 32 % 2 ^ 32) (wrN (dmaA c + 0x30) (addr % 2 ^ 32) (setFlag 0x190004 9 d))
  raiseEvent evDmaHalt (leBytes 1 c ++ leBytes 1 cause ++ leBytes 5 addr) d

/-- Is a register write to a channel refused for its master (R471)? -/
def dmaGuard (m : Master) (c : Nat) : Bool := decide (m = .host) && decide (c < 48)

/-- A refused write. -/
def dmaRefused (d : Dev) : Dev := setFlag 0x190004 8 d

/-- A write of DMA_CH_PROD (R471, R473). -/
def dmaProd (m : Master) (c v : Nat) (d : Dev) : Dev :=
  let x := dmaCh d c
  if dmaGuard m c then dmaRefused d
  else if x.state = .disabled ∨ x.state = .halted then wrN (dmaA c + 0x1C) v d
  else
    let step := subMod 32 v (rdN d (dmaA c + 0x1C))
    if dmaHeld d c + step ≤ 2 ^ fld d (dmaA c) 4 0 then wrN (dmaA c + 0x1C) v d
    else dmaHalt c 0 0 (setFlag (dmaA c + 8) 18 d)

/-- A write of DMA_CH_CFG: accepted while the channel is idle or stopped, in its ranges (R480). -/
def dmaCfg (m : Master) (c v : Nat) (d : Dev) : Dev :=
  let v := v % 2 ^ 22
  let st := (dmaCh d c).state
  let ok := decide (4 ≤ bits v 4 0) && decide (bits v 4 0 ≤ 16) && decide (1 ≤ bits v 21 16) && decide (bits v 21 16 ≤ 64)
    && (decide (c < 48) || decide (bits v 11 8 ≤ 13)) && (decide (st = .idle) || decide (st = .stopped))
  if dmaGuard m c || !ok then dmaRefused d else wrN (dmaA c) v d

/-- stop: at the next descriptor boundary; an idle channel stands at one (R478). -/
def dmaStop (c : Nat) (d : Dev) : Dev :=
  let x := dmaCh d c
  match x.state with
  | .running => putDma c { x with state := .stopping } d
  | .idle => putDma c { x with state := .stopped, cur := dmaEntryAddr d c, desc := none } d
  | _ => d

/-- abort: no further beat; the descriptor receives status 0x07 (R468, R478). -/
def dmaAbort (c : Nat) (d : Dev) : Dev :=
  let x := dmaCh d c
  if x.state = .running ∨ x.state = .stopping then
    let d := if x.desc.isSome then setFlag 0x1C0004 3 (dmaStatus c 7 d) else d
    putDma c { dmaCh d c with state := .stopped, desc := none, done := 0, tries := 0, used := 0, ended := false } d
  else d

/-- resume: a stopped channel continues; a halted one runs its descriptor again from its first byte (R478). -/
def dmaResume (c : Nat) (d : Dev) : Dev :=
  let x := dmaCh d c
  match x.state with
  | .stopped =>
    let st := if x.chained = false ∧ dmaHeld d c = 0 then DmaState.idle else .running
    putDma c { x with state := st, desc := none, done := 0, tries := 0, used := 0, ended := false } d
  | .halted => putDma c { x with state := .running, desc := none, done := 0, tries := 0, used := 0, ended := false } d
  | _ => d

/-- skip: a halted channel abandons its entry (R478). -/
def dmaSkip (c : Nat) (d : Dev) : Dev :=
  let x := dmaCh d c
  if x.state = .halted then
    putDma c { state := .idle } (wrN (dmaA c + 0x20) ((rdN d (dmaA c + 0x20) + 1) % 2 ^ 32) d)
  else d

/-- A write of DMA_CH_CTRL (R471, R478). -/
def dmaCtrl (m : Master) (c v : Nat) (d : Dev) : Dev :=
  if dmaGuard m c || (v.testBit 3 && v.testBit 4) then dmaRefused d else
  let was := bitAt d (dmaA c + 4) 0
  let d := wrN (dmaA c + 4) (v % 2) d
  let d := if v.testBit 0 && !was then putDma c { state := .idle } d
    else if !v.testBit 0 && was then putDma c {} d else d
  let d := onlyIf (v.testBit 1) (dmaStop c) d
  let d := onlyIf (v.testBit 2) (dmaAbort c) d
  let d := onlyIf (v.testBit 3) (dmaResume c) d
  onlyIf (v.testBit 4) (dmaSkip c) d

/-! ### The ports of the DMA engine (R474) -/

/-- Bytes of a descriptor's next burst: to the end of a block of 512 bytes at its source or destination (R467). -/
def burstSize (b : Bytes) (done : Nat) : Nat :=
  let left := leAt b 16 4 - done
  let toDst := 512 - (leAt b 8 8 + done) % 512
  let toSrc := 512 - (leAt b 0 8 + done) % 512
  if leAt b 20 2 % 4 = 1 then min left toDst else min left (min toDst toSrc)

/-- Has a channel bursts to issue? -/
def dmaBusy (d : Dev) (c : Nat) : Bool :=
  let x := dmaCh d c
  x.desc.isSome && !x.ended && (decide (x.state = .running) || decide (x.state = .stopping))

/-- Priority of a channel. -/
def dmaPrio (d : Dev) (c : Nat) : Nat := fld d (dmaA c) 7 5

/-- The channel that a port serves: a port whose channel has no bursts is free. -/
def portServes (d : Dev) (i : Nat) : Option Nat :=
  ((fget? d.memory.dmaPorts i).map (·.chan)).filter (dmaBusy d)

/-- The port that serves a channel. -/
def dmaBound (d : Dev) (c : Nat) : Option Nat := (List.range 4).find? (fun i => decide (portServes d i = some c))

/-- The channels that wait for a port: the highest priority first, equal ones in turn after the last served. -/
def dmaWaiting (d : Dev) : List Nat :=
  let l := ((List.range 64).map (fun i => (d.memory.dmaLast + 1 + i) % 64)).filter (fun c => dmaBusy d c && (dmaBound d c).isNone)
  (List.range 8).flatMap (fun k => l.filter (fun c => decide (dmaPrio d c = 7 - k)))

/-- The port that a waiting channel takes: a free one; else that of the lowest priority below its own; else one of its own
priority that stands at a boundary of 4 KiB. -/
def portFor (d : Dev) (c : Nat) : Option Nat :=
  let prio (i : Nat) : Nat := dmaPrio d ((portServes d i).getD 0)
  let low := (List.range 4).foldl (fun b i => if prio i < prio b then i else b) 0
  ((List.range 4).find? (fun i => (portServes d i).isNone)).orElse (fun _ =>
    if prio low < dmaPrio d c then some low
    else (List.range 4).find? (fun i => decide (prio i = dmaPrio d c) && ((fget? d.memory.dmaPorts i).map (·.edge)).getD false))

/-- Every waiting channel that can take a port takes it. -/
def dmaArbitrate (d : Dev) : Dev :=
  forL (dmaWaiting d) (fun c d => match portFor d c with
    | some i => { d with memory := { d.memory with dmaPorts := fins d.memory.dmaPorts i ⟨c, 0, false⟩, dmaLast := c } }
    | none => d) d

/-- A port has moved n bytes for its channel. -/
def portMoved (i n : Nat) (d : Dev) : Dev :=
  match fget? d.memory.dmaPorts i with
  | some x => { d with memory := { d.memory with
      dmaPorts := fins d.memory.dmaPorts i { x with share := x.share + n, edge := decide (x.share / 4096 < (x.share + n) / 4096) } } }
  | none => d

/-- Bursts of a descriptor still to move after `done` bytes, at most `max`. -/
def burstsLeft (b : Bytes) : Nat → Nat → Nat
  | 0, _ => 0
  | k + 1, done => if leAt b 16 4 ≤ done then 0 else 1 + burstsLeft b k (done + burstSize b done)

/-- DMA_OUTSTANDING: the bursts that the channels served have outstanding, at most max_out each and 256 in all. -/
def dmaOutstanding (d : Dev) : Nat :=
  let d := dmaArbitrate d
  min 256 (((List.range 4).filterMap (portServes d)).map (fun c =>
    burstsLeft ((dmaCh d c).desc.getD []) (fld d (dmaA c) 21 16) (dmaCh d c).done)).sum

/-- Is a descriptor well formed (R475)? -/
def dmaDescOk (b : Bytes) : Bool :=
  let ctrl := leAt b 20 2
  let len := leAt b 16 4
  decide (ctrl < 16) && decide (ctrl % 4 ≤ 1) && decide (1 ≤ len) && decide (len ≤ 2 ^ 24)
    && (decide (ctrl % 4 = 0) || decide (len % 4 = 0)) && decide (leAt b 24 8 % 32 = 0)
    && (ctrl.testBit 2 || zeroAt b 24 8)

/-- A retry of a burst or fetch, or the halt when the retries are spent (R475). -/
def dmaRetry (c cause addr : Nat) (status : Option Nat) (d : Dev) : Dev :=
  let x := dmaCh d c
  if x.tries < fld d (dmaA c) 15 12 then
    let d := setFlag (dmaA c + 8) 17 (incCnt (dmaA c + 0x3C) d)
    putDma c { x with tries := x.tries + 1, used := x.used + 1 } d
  else
    let d := match status with
      | some st => dmaStatus c st d
      | none => d
    dmaHalt c cause addr d

/-- Code of a channel state. -/
def DmaState.code : DmaState → Nat
  | .disabled => 0 | .idle => 1 | .running => 2 | .stopping => 3 | .stopped => 4 | .halted => 5

/-- DMA_CH_STATUS as read. -/
def dmaChStatus (d : Dev) (c : Nat) : Nat := setBits (rdN d (dmaA c + 8)) 2 0 (dmaCh d c).state.code

/-- Word `w` of DMA_HALTED. -/
def dmaHalted (d : Dev) (w : Nat) : Nat :=
  forN 32 (fun i m => m + b2n (decide ((dmaCh d (32 * w + i)).state = .halted)) * 2 ^ i) 0

end Sys2Proof.Machine
end

