-- ==== Sys2Proof/Machine/Periph.lean ====
section
/-!
DEFINITION. The PERIPH block: flash controller, I2C, UART and PMBus telemetry (R534).
-/

namespace Sys2Proof.Machine

/-- A write that the block refuses (R534). -/
def periphRefused (d : Dev) : Dev := setFlag 0x1F0000 8 d

/-- May a master write the registers marked firmware (R534)? -/
def isControl : Master → Bool
  | .control _ => true
  | _ => false

/-! ### Flash -/

/-- The byte address of the flash registers. -/
def flashAddr (d : Dev) : Nat := addr64 d 0x1F0020 % 2 ^ 40

/-- Starts an operation; one that finds another in progress is refused (R534). -/
def flashStart (m : Master) (ok : Bool) (op : FlashOp) (d : Dev) : Dev :=
  if isControl m && ok && d.periph.flash.isNone then { d with periph := { d.periph with flash := some op } }
  else periphRefused d

/-- Program: at most one page from the buffer in device memory (R534). -/
def flashProgramCmd (m : Master) (d : Dev) : Dev :=
  let n := rdN d 0x1F0030
  let a := flashAddr d
  flashStart m (decide (1 ≤ n) && decide (a % 256 + n ≤ 256)) (.program a (addrRead d (addr64 d 0x1F0028 % 2 ^ 40) n)) d

/-- Erase of the sector or block that holds the address (R534). -/
def flashEraseCmd (m : Master) (size : Nat) (d : Dev) : Dev :=
  flashStart m true (.erase (flashAddr d / size * size) size) d

/-- Read status: no register of the block shows what the part answers (R534). -/
def flashStatusCmd (m : Master) (d : Dev) : Dev := if isControl m then d else periphRefused d

/-- A program or erase ends; `verified` says whether its verify passed (R534). -/
def flashComplete (verified : Bool) (d : Dev) : Dev :=
  match d.periph.flash with
  | none => d
  | some op =>
    let d := { d with periph := { d.periph with flash := none } }
    let d := match op with
      | .program a bs => flashProgram a bs d
      | .erase a n => flashErase a n d
    if verified then d else setFlag 0x1F0000 9 d

/-- PERIPH_FLASH_CMD (R534). -/
def flashCmdWrite (m : Master) (v : Nat) (d : Dev) : Dev :=
  match v % 256 with
  | 1 => flashProgramCmd m d
  | 2 => flashEraseCmd m 4096 d
  | 3 => flashEraseCmd m 65536 d
  | 4 => flashStatusCmd m d
  | _ => periphRefused d

/-! ### I2C -/

/-- Base of the registers of a controller. -/
def i2cA (n : Nat) : Nat := 0x1F0100 + 0x40 * n

/-- The transfer of a controller. -/
def i2cOp (d : Dev) (n : Nat) : Option (Bool × Nat) := fget none d.periph.i2c n

/-- Replaces it. -/
def putI2c (n : Nat) (x : Option (Bool × Nat)) (d : Dev) : Dev :=
  { d with periph := { d.periph with i2c := fput none d.periph.i2c n x } }

/-- The data bytes of a controller, byte 0 in bits [7:0] of word 0. -/
def i2cData (d : Dev) (n len : Nat) : Bytes :=
  ((List.range 8).flatMap (fun i => leBytes 4 (rdN d (i2cA n + 8 + 4 * i)))).take len

/-- PERIPH_I2C_CMD starts a transfer: the address byte and, for a write, the data go onto the bus (R534). -/
def i2cStart (m : Master) (n v : Nat) (d : Dev) : Dev :=
  let len := bits v 15 8
  let rd := v.testBit 7
  if !isControl m || decide (len < 1) || decide (32 < len) || (i2cOp d n).isSome || !bitAt d (i2cA n) 8 then periphRefused d
  else
    let d := emit (.wire (1 + n) (2 * bits v 6 0 + b2n rd)) (putI2c n (some (rd, len)) d)
    if rd then d else forL (i2cData d n len) (fun b d => emit (.wire (1 + n) b.toNat) d) d

/-- A transfer ends: done, nack or arbitration lost; a read that is done stores what it has read (R534). -/
def i2cEnd (n : Nat) (flag : Nat) (data : Bytes) (d : Dev) : Dev :=
  match i2cOp d n with
  | none => d
  | some (rd, len) =>
    let d := setFlag (i2cA n + 0x28) flag (putI2c n none d)
    if rd ∧ flag = 8 then
      let bs := data.take len ++ (i2cData d n 32).drop (min len data.length)
      forN 8 (fun i d => wrN (i2cA n + 8 + 4 * i) (leAt bs (4 * i) 4) d) d
    else d

/-- PERIPH_I2C_STATUS as read. -/
def i2cStatus (d : Dev) (n : Nat) : Nat := setBits (rdN d (i2cA n + 0x28)) 0 0 (b2n (i2cOp d n).isSome)

/-! ### UART -/

/-- Bytes that still wait in the transmit FIFO. -/
def uartPending (d : Dev) : List Nat := d.periph.txEnds.filter (fun t => decide (nowNs d < t))

/-- PERIPH_UART_TX: a byte of ten bit times, or tx_full (R534). -/
def uartTx (m : Master) (v : Nat) (d : Dev) : Dev :=
  let waiting := uartPending d
  if isControl m = false then periphRefused d
  else if 64 ≤ waiting.length then setFlag 0x1F0210 8 d
  else
    let last := (waiting.getLast?).getD (nowNs d)
    let ends := last + 10 * secNs / max 1 (fld d 0x1F0200 23 0)
    emit (.wire 0 (v % 256)) { d with periph := { d.periph with txEnds := waiting ++ [ends] } }

/-- PERIPH_UART_RX_POP (R534). -/
def uartPop (m : Master) (d : Dev) : Dev :=
  if isControl m = false then periphRefused d
  else { d with periph := { d.periph with rxFifo := d.periph.rxFifo.drop 1 } }

/-- A byte arrives: into the FIFO, or rx_overrun, or framing_err (R534). -/
def uartRx (b : Byte) (stopOk : Bool) (d : Dev) : Dev :=
  if stopOk = false then setFlag 0x1F0210 10 d
  else if 64 ≤ d.periph.rxFifo.length then setFlag 0x1F0210 9 d
  else { d with periph := { d.periph with rxFifo := d.periph.rxFifo ++ [b] } }

/-- PERIPH_UART_RX as read. -/
def uartRxView (d : Dev) : Nat := match d.periph.rxFifo with
  | b :: _ => b.toNat + 256
  | [] => 0

/-- PERIPH_UART_STATUS as read. -/
def uartStatus (d : Dev) : Nat := setBits (rdN d 0x1F0210) 6 0 d.periph.rxFifo.length

/-! ### PMBus -/

/-- A telemetry poll of the core regulator; `nack` and `pec` say what went wrong, `alert` that PMB_ALERT_N is low
(R534). -/
def pmbPoll (vout iout temp : Nat) (nack pec alert : Bool) (d : Dev) : Dev :=
  let d := { d with periph := { d.periph with alert := alert } }
  if bitAt d 0x1F0300 8 = false then d
  else if nack then setFlag 0x1F0310 8 d
  else if pec then setFlag 0x1F0310 9 d
  else wrN 0x1F0304 vout (wrN 0x1F0308 iout (wrN 0x1F030C (temp % 65536) d))

/-- PERIPH_PMB_STATUS as read. -/
def pmbStatus (d : Dev) : Nat := setBits (rdN d 0x1F0310) 0 0 (b2n d.periph.alert)

/-- PERIPH_STATUS as read. -/
def periphStatus (d : Dev) : Nat := setBits (rdN d 0x1F0000) 0 0 (b2n d.periph.flash.isSome)

end Sys2Proof.Machine
end

