-- ==== Sys2Proof/Machine/Entry.lean ====
section
/-!
DEFINITION. Command entries and their data (R424, R427, R437).
-/

namespace Sys2Proof.Machine

/-! ### The layout of an entry (R424) -/

/-- The data reference of an entry; `host` holds what host memory holds there. -/
def entryRef (e host : Bytes) : DRef := ⟨leAt e 24 8, leAt e 32 4, host⟩

/-- The parameter bytes that a command uses, as (offset, size) (R427). -/
def usedParams (opcode : Nat) : List (Nat × Nat) :=
  let ref := [(24, 8), (32, 4)]
  match opcode with
  | 0x0002 => [(16, 4)]
  | 0x0003 => [(16, 4), (20, 4)]
  | 0x0010 => [(16, 1), (17, 1)]
  | 0x0011 => [(16, 1)]
  | 0x0012 => [(16, 8)]
  | 0x0013 => [(16, 2), (18, 1)]
  | 0x0014 => [(16, 2), (18, 1)]
  | 0x0020 => (16, 1) :: (17, 1) :: (20, 4) :: ref
  | 0x0021 => [(16, 1)]
  | 0x0022 => [(16, 1), (18, 2)]
  | 0x0023 => [(16, 1), (20, 4)]
  | 0x0024 => [(16, 1), (18, 2)]
  | 0x0030 => (16, 2) :: ref
  | 0x0031 => [(16, 2), (18, 1), (20, 2)]
  | 0x0032 => (16, 2) :: ref
  | 0x0040 => [(16, 1), (20, 4), (24, 4), (28, 4)]
  | 0x0041 => [(16, 1)]
  | 0x0050 => [(16, 2)]
  | 0x0051 => [(16, 2)]
  | 0x0060 => ref
  | 0x0061 => [(16, 1), (17, 1)]
  | 0x0070 => [(16, 1)]
  | 0x0080 => (16, 4) :: (20, 2) :: (22, 2) :: ref
  | 0x0081 => (16, 4) :: (20, 4) :: ref
  | 0x0082 => [(16, 4)]
  | 0x00A0 => (16, 1) :: (17, 1) :: ref
  | 0x00A1 => [(16, 4)]
  | _ => []

/-- Is a parameter byte that the command does not use other than zero (R424)? -/
def paramsRsvd (opcode : Nat) (e : Bytes) : Bool :=
  (List.range 48).any (fun i =>
    !(usedParams opcode).any (fun u => decide (u.1 ≤ i + 16) && decide (i + 16 < u.1 + u.2)) && decide (leAt e (i + 16) 1 ≠ 0))

/-- The command that an entry spells; none: an unknown opcode (R427). -/
def entryCmd (e host : Bytes) : Option Cmd :=
  let b (o : Nat) := leAt e o 1
  let h (o : Nat) := leAt e o 2
  let w (o : Nat) := leAt e o 4
  let ref := entryRef e host
  match leAt e 0 2 with
  | 0x0001 => some .nop
  | 0x0002 => some (.regRead (w 16))
  | 0x0003 => some (.regWrite (w 16) (w 20))
  | 0x0010 => some (.setMode (b 16) (b 17))
  | 0x0011 => some (.setOppoint (b 16))
  | 0x0012 => some (.reanchorTime (sext 64 (leAt e 16 8)))
  | 0x0013 => some (.setAir (sext 16 (h 16)) (b 18))
  | 0x0014 => some (.setOutputAvail (h 16) (b 18))
  | 0x0020 => some (.planLoad (b 16) (b 17) (w 20) ref)
  | 0x0021 => some (.planDrop (b 16))
  | 0x0022 => some (.planSwap (b 16) (h 18))
  | 0x0023 => some (.setRouteGain (b 16) (w 20))
  | 0x0024 => some (.setRouteSource (b 16) (h 18))
  | 0x0030 => some (.corrLoad (h 16) ref)
  | 0x0031 => some (.corrSwap (h 16) (b 18) (h 20))
  | 0x0032 => some (.surveyProgram (h 16) ref)
  | 0x0040 => some (.decConfig (b 16) (w 20) (w 24) (w 28))
  | 0x0041 => some (.decCompSwap (b 16))
  | 0x0050 => some (.drvDiag (h 16))
  | 0x0051 => some (.drvClear (h 16))
  | 0x0060 => some (.streamSet ref)
  | 0x0061 => some (.streamClear (b 16) (b 17))
  | 0x0070 => some (.pairResync (b 16))
  | 0x0080 => some (.sceneWrite (w 16) (h 20) (h 22) ref)
  | 0x0081 => some (.sceneRead (w 16) (w 20) ref)
  | 0x0082 => some (.sceneErase (w 16))
  | 0x0090 => some .ageMeasure
  | 0x00A0 => some (.sessionKeySet (b 16) (b 17) ref)
  | 0x00A1 => some (.eventMask (w 16))
  | _ => none

/-- The header that an entry spells (R424). -/
def entryHdr (src : Source) (e : Bytes) : CmdHdr where
  src := src
  flags := leAt e 2 1
  cring := leAt e 3 1
  tag := leAt e 4 4
  applyQn := leAt e 8 5
  hdrRsvd := decide (leAt e 2 1 / 2 ≠ 0) || decide (leAt e 13 3 ≠ 0) || decide (15 < leAt e 3 1)
  parRsvd := paramsRsvd (leAt e 0 2) e

/-- The opcode of a command (R427). -/
def cmdOpcode : Cmd → Nat
  | .nop => 0x0001
  | .regRead _ => 0x0002
  | .regWrite _ _ => 0x0003
  | .setMode _ _ => 0x0010
  | .setOppoint _ => 0x0011
  | .reanchorTime _ => 0x0012
  | .setAir _ _ => 0x0013
  | .setOutputAvail _ _ => 0x0014
  | .planLoad _ _ _ _ => 0x0020
  | .planDrop _ => 0x0021
  | .planSwap _ _ => 0x0022
  | .setRouteGain _ _ => 0x0023
  | .setRouteSource _ _ => 0x0024
  | .corrLoad _ _ => 0x0030
  | .corrSwap _ _ _ => 0x0031
  | .surveyProgram _ _ => 0x0032
  | .decConfig _ _ _ _ => 0x0040
  | .decCompSwap _ => 0x0041
  | .drvDiag _ => 0x0050
  | .drvClear _ => 0x0051
  | .streamSet _ => 0x0060
  | .streamClear _ _ => 0x0061
  | .pairResync _ => 0x0070
  | .sceneWrite _ _ _ _ => 0x0080
  | .sceneRead _ _ _ => 0x0081
  | .sceneErase _ => 0x0082
  | .ageMeasure => 0x0090
  | .sessionKeySet _ _ _ => 0x00A0
  | .eventMask _ => 0x00A1

/-- The 12 bytes of a data reference in an entry, at offsets 24 to 35 (R424). -/
def refEntry (r : DRef) : Bytes := leBytes 8 r.addr ++ leBytes 4 r.len

/-- The parameter bytes of a command, from offset 16 of its entry on (R424, R427); a shorter string goes on with zeros. -/
def cmdParams : Cmd → Bytes
  | .nop => []
  | .regRead a => leBytes 4 a
  | .regWrite a v => leBytes 4 a ++ leBytes 4 v
  | .setMode m s => leBytes 1 m ++ leBytes 1 s
  | .setOppoint p => leBytes 1 p
  | .reanchorTime s => leInt 8 s
  | .setAir t h => leInt 2 t ++ leBytes 1 h
  | .setOutputAvail o a => leBytes 2 o ++ leBytes 1 a
  | .planLoad p k r x => leBytes 1 p ++ leBytes 1 k ++ zeros 2 ++ leBytes 4 r ++ refEntry x
  | .planDrop p => leBytes 1 p
  | .planSwap p x => leBytes 1 p ++ zeros 1 ++ leBytes 2 x
  | .setRouteGain e g => leBytes 1 e ++ zeros 3 ++ leBytes 4 g
  | .setRouteSource s c => leBytes 1 s ++ zeros 1 ++ leBytes 2 c
  | .corrLoad o x => leBytes 2 o ++ zeros 6 ++ refEntry x
  | .corrSwap o s x => leBytes 2 o ++ leBytes 1 s ++ zeros 1 ++ leBytes 2 x
  | .surveyProgram n x => leBytes 2 n ++ zeros 6 ++ refEntry x
  | .decConfig c w r f => leBytes 1 c ++ zeros 3 ++ leBytes 4 w ++ leBytes 4 r ++ leBytes 4 f
  | .decCompSwap c => leBytes 1 c
  | .drvDiag m => leBytes 2 m
  | .drvClear m => leBytes 2 m
  | .streamSet x => zeros 8 ++ refEntry x
  | .streamClear c v => leBytes 1 c ++ leBytes 1 v
  | .pairResync v => leBytes 1 v
  | .sceneWrite r k f x => leBytes 4 r ++ leBytes 2 k ++ leBytes 2 f ++ refEntry x
  | .sceneRead r o x => leBytes 4 r ++ leBytes 4 o ++ refEntry x
  | .sceneErase r => leBytes 4 r
  | .ageMeasure => []
  | .sessionKeySet s r x => leBytes 1 s ++ leBytes 1 r ++ zeros 6 ++ refEntry x
  | .eventMask m => leBytes 4 m

/-- Is every parameter of a command one that its field of an entry holds (R424, R427)? -/
def cmdEncodes : Cmd → Bool
  | .nop | .ageMeasure => true
  | .regRead a => decide (a < 2 ^ 32)
  | .regWrite a v => decide (a < 2 ^ 32) && decide (v < 2 ^ 32)
  | .setMode m s => decide (m < 256) && decide (s < 256)
  | .setOppoint p => decide (p < 256)
  | .reanchorTime s => decide (-2 ^ 63 ≤ s) && decide (s < 2 ^ 63)
  | .setAir t h => decide (-2 ^ 15 ≤ t) && decide (t < 2 ^ 15) && decide (h < 256)
  | .setOutputAvail o a => decide (o < 65536) && decide (a < 256)
  | .planLoad p k r x => decide (p < 256) && decide (k < 256) && decide (r < 2 ^ 32) && refEncodes x
  | .planDrop p => decide (p < 256)
  | .planSwap p x => decide (p < 256) && decide (x < 65536)
  | .setRouteGain e g => decide (e < 256) && decide (g < 2 ^ 32)
  | .setRouteSource s c => decide (s < 256) && decide (c < 65536)
  | .corrLoad o x => decide (o < 65536) && refEncodes x
  | .corrSwap o s x => decide (o < 65536) && decide (s < 256) && decide (x < 65536)
  | .surveyProgram n x => decide (n < 65536) && refEncodes x
  | .decConfig c w r f => decide (c < 256) && decide (w < 2 ^ 32) && decide (r < 2 ^ 32) && decide (f < 2 ^ 32)
  | .decCompSwap c => decide (c < 256)
  | .drvDiag m => decide (m < 65536)
  | .drvClear m => decide (m < 65536)
  | .streamSet x => refEncodes x
  | .streamClear c v => decide (c < 256) && decide (v < 256)
  | .pairResync v => decide (v < 256)
  | .sceneWrite r k f x => decide (r < 2 ^ 32) && decide (k < 65536) && decide (f < 65536) && refEncodes x
  | .sceneRead r o x => decide (r < 2 ^ 32) && decide (o < 2 ^ 32) && refEncodes x
  | .sceneErase r => decide (r < 2 ^ 32)
  | .sessionKeySet s r x => decide (s < 256) && decide (r < 256) && refEncodes x
  | .eventMask m => decide (m < 2 ^ 32)
where
  refEncodes (x : DRef) : Bool := decide (x.addr < 2 ^ 64) && decide (x.len < 2 ^ 32)

/-- What host memory holds at the data reference of a command. -/
def cmdHost : Cmd → Bytes
  | .planLoad _ _ _ x | .corrLoad _ x | .surveyProgram _ x | .streamSet x | .sceneWrite _ _ _ x | .sceneRead _ _ x
  | .sessionKeySet _ _ x => x.host
  | _ => []

/-- Is a header one that the header fields of an entry hold, with no reserved bit set (R424)? -/
def hdrEncodes (h : CmdHdr) : Bool :=
  decide (h.flags < 2) && decide (h.cring < 16) && decide (h.tag < 2 ^ 32) && decide (h.applyQn < 2 ^ 40)
    && !h.hdrRsvd && !h.parRsvd

/-! ### Data references (R424, R437) -/

/-- Base of the staging area of a session (R437, R449). -/
def stagingBase (d : Dev) (k : Nat) : Nat := addr64 d (0x1A0100 + 0x10 * 7) + k * 2 ^ 26

/-- Does a reference of a source name bytes that exist for it: a device reference names bytes of DRAM (R424, R437, R450)? -/
def refFits (d : Dev) (src : Source) (addr len : Nat) : Bool :=
  if 2 ^ 63 ≤ addr then decide (addr % 2 ^ 40 + len ≤ dramBytes d)
  else match src with
    | .session _ => decide (addr + len ≤ 2 ^ 26)
    | _ => true

/-- The bytes that a reference names; none: outside DRAM, or outside the staging area (R424, R437). -/
def refBytes (d : Dev) (src : Source) (r : DRef) : Option Bytes :=
  if refFits d src r.addr r.len = false then none
  else if r.addr ≥ 2 ^ 63 then some (memRead d (r.addr % 2 ^ 40) r.len)
  else match src with
    | .session k => some (memRead d (stagingBase d k + r.addr) r.len)
    | _ => some (padTo r.len r.host)

/-- DATA messages to the client of a session (R433, R437). -/
def sendData (fuel k off : Nat) (bs : Bytes) (d : Dev) : Dev :=
  match fuel with
  | 0 => d
  | f + 1 =>
    if bs.isEmpty then d
    else sendData f k (off + 1432) (bs.drop 1432) (sendSession k 7 (beBytes 4 off ++ bs.take 1432) d)

/-- Bytes that a command returns go to its reference: host memory, device memory, or DATA messages (R424, R437). -/
def refPut (src : Source) (addr : Nat) (bs : Bytes) (d : Dev) : Dev :=
  if addr ≥ 2 ^ 63 then memWrite (addr % 2 ^ 40) bs d
  else match src with
    | .session k => sendData (bs.length / 1432 + 1) k addr bs d
    | _ => if bs.isEmpty then d else emit (.hostWrite addr bs) d

/-- Puts a command of a source at the end of the commands that wait (R425). -/
def enqueue (hdr : CmdHdr) (cmd : Option Cmd) (opcode : Nat) (d : Dev) : Dev :=
  { d with host := { d.host with waitQ := d.host.waitQ ++ [⟨hdr, cmd, opcode, nowNs d⟩] } }

/-- Puts the command that an entry spells at the end of the commands that wait. -/
def enqueueEntry (src : Source) (e host : Bytes) (d : Dev) : Dev :=
  enqueue (entryHdr src e) (entryCmd e host) (leAt e 0 2) d

end Sys2Proof.Machine
end

