-- ==== Sys2Proof/Machine/Session.lean ====
section
/-!
DEFINITION. Network control sessions and the client keys (R433 to R438).
-/

namespace Sys2Proof.Machine

/-- The eight sessions (R436). -/
def sessionIds : List Nat := List.range 8

/-- A key slot of the vault (R438). -/
def keySlot (d : Dev) (k : Nat) : KeySlot := fget {} d.host.keys k

/-- A session closes: SESSION_CLOSED; its commands in flight run on without a completion (R436). -/
def sessionShut (k : Nat) (d : Dev) : Dev :=
  if (sess d k).isOpen then
    let d := putSess k {} d
    let d := { d with host := { d.host with
      inflight := d.host.inflight.map (fun f => if f.src = .session k then { f with dropped := true } else f)
      waitQ := d.host.waitQ.filter (fun w => decide (w.hdr.src ≠ .session k)) } }
    raiseEvent evSessionClosed [] d
  else d

/-- Every session closes (R436, R483, R511). -/
def sessionsShut (d : Dev) : Dev := forL sessionIds sessionShut d

/-- A vault wipe with the sessions whose keys it takes (R463, R511). -/
def wipeAll (cause : Nat) (d : Dev) : Dev := sessionsShut (vaultWipe cause d)

/-- HOSTIF_SESSIONS as read. -/
def sessionsOpen (d : Dev) : Nat := forN 8 (fun k v => v + b2n (sess d k).isOpen * 2 ^ k) 0

/-! ### Messages (R433, R435) -/

/-- The body of a message whose header names a type and is well formed (R433). -/
def messageBody (type : Nat) (m : Bytes) : Option Bytes :=
  let n := beAt m 16 2
  if beAt m 0 2 = 0x5953 ∧ beAt m 2 1 = 1 ∧ beAt m 3 1 = type ∧ n ≤ 1436 ∧ beAt m 18 2 = 0 ∧ m.length = n + 36 then
    some (slice m 20 n)
  else none

/-- The counter of a message. -/
def messageCounter (m : Bytes) : Nat := beAt m 8 8

/-- The session slot that a message names. -/
def messageSlot (m : Bytes) : Option Nat := if 1 ≤ beAt m 4 4 ∧ beAt m 4 4 ≤ 8 then some (beAt m 4 4 - 1) else none

/-- Is the mac of a message right under a key (R433)? -/
def macOk (key m : Bytes) : Bool :=
  let n := beAt m 16 2
  decide (slice m (20 + n) 16 = (hmac384 key (m.take (20 + n))).take 16)

/-- A failure of authentication from an address: counted, raised, and after 8 within 60 s the address is ignored
(R434). -/
def authFail (ip : Nat) (d : Dev) : Dev :=
  let d := incCnt 0x30034 d
  let times := (nowNs d :: fget [] d.host.authFails ip).filter (fun t => decide (nowNs d < t + 60 * secNs))
  let ban := decide (8 ≤ times.length)
  let d := { d with host := { d.host with
    authFails := fput [] d.host.authFails ip (if ban then [] else times)
    banned := if ban then fput 0 d.host.banned ip (nowNs d + 1) else d.host.banned } }
  raiseEvent evSessionAuthFail [] d

/-- Is HELLO from an address ignored: sixty seconds have not passed since its eighth failure (R434)? -/
def helloBanned (d : Dev) (ip : Nat) : Bool :=
  let t := fget 0 d.host.banned ip
  decide (t ≠ 0) && decide (nowNs d + 1 < t + 60 * secNs)

/-- Sixty seconds after the eighth failure HELLO from an address is accepted again (R434). -/
def helloBanExpiry (ip : Nat) (d : Dev) : Dev :=
  if helloBanned d ip then d else { d with host := { d.host with banned := fput 0 d.host.banned ip 0 } }

/-- The session record that a HELLO takes: a free one, else one that has not opened (R436). -/
def helloRecord (d : Dev) : Option Nat :=
  match sessionIds.find? (fun k => !(sess d k).used) with
  | some k => some k
  | none => sessionIds.find? (fun k => !(sess d k).isOpen)

/-- HELLO: a CHALLENGE, or nothing (R433, R434, R436, R509). -/
def sessionHello (port ip : Nat) (m : Bytes) (d : Dev) : Dev :=
  match messageBody 1 m with
  | none => d
  | some body =>
    if body.length ≠ 114 ∨ beAt m 4 4 ≠ 0 ∨ helloBanned d ip = true ∨ d.sec.lifeCycle = 2
        ∨ d.sys.mode = .boot ∨ d.sys.mode = .stop then d
    else match helloRecord d with
    | none => d
    | some k =>
      let slot := beAt body 0 1
      if (keySlot d slot).role = 0 then authFail ip d
      else
        let (eph, d) := takeRandom 48 d
        let (nonce, d) := takeRandom 16 d
        let (secret, d) := takeRandom 48 d
        let priv := beVal eph % p384N
        let head := p384Bytes (p384Mul 385 priv p384G) ++ nonce
        let challenge := head ++ ecdsaSign Config.identityKey (beVal secret) (body ++ head)
        let msg := sessionMsgHead 2 (k + 1) 1 challenge ++ zeros 16
        let s : Session := {
          used := true, slot := slot, ip := ip, port := port, helloBody := body, challenge := challenge
          ephPriv := priv, rxCounter := messageCounter m, txCounter := 1 }
        sessionPush port ip msg (putSess k s d)

/-- PROVE: the session opens with its key, or the failure is counted (R433, R434). -/
def sessionProve (port ip : Nat) (m : Bytes) (d : Dev) : Dev :=
  match messageBody 3 m, messageSlot m with
  | some body, some k =>
    let s := sess d k
    if s.used = false ∨ s.isOpen = true ∨ messageCounter m ≤ s.rxCounter then d
    else if ecdsaVerify (keySlot d s.slot).key (s.helloBody ++ s.challenge) body && decide ((keySlot d s.slot).role ≠ 0) then
      let z := ecdhX s.ephPriv (slice s.helloBody 1 97)
      let key := sha384 (z ++ slice s.helloBody 98 16 ++ slice s.challenge 97 16)
      let d := putSess k { s with
        isOpen := true, port := port, ip := ip, key := key, rxCounter := messageCounter m, lastAt := nowNs d } d
      raiseEvent evSessionOpen (leBytes 4 (k + 1) ++ leBytes 1 s.slot) d
    else authFail ip d
  | _, _ => d

/-- What the acceptance of a message of an open session says (R433, R435). -/
inductive Accept
  /-- Dropped. -/
  | no
  /-- Its mac is bad. -/
  | bad
  /-- A COMMAND accepted before, with what its completion was. -/
  | again (k : Nat) (reply : Option Bytes)
  | yes (k : Nat) (body : Bytes)
deriving DecidableEq, Repr

/-- Judges a message of a type (R433, R435). -/
def sessionJudge (d : Dev) (type : Nat) (m : Bytes) : Accept :=
  match messageBody type m, messageSlot m with
  | some body, some k =>
    let s := sess d k
    if s.isOpen = false then .no
    else if !macOk s.key m then .bad
    else if s.rxCounter < messageCounter m then .yes k body
    else if type = 4 then
      match s.accepted.find? (fun a => decide (a.counter = messageCounter m) && decide (a.body = body)) with
      | some a => .again k a.reply
      | none => .no
    else .no
  | _, _ => .no

/-- The session record once a message is accepted. -/
def sessionHeard (k port ip : Nat) (m : Bytes) (d : Dev) : Dev :=
  putSess k { sess d k with rxCounter := messageCounter m, lastAt := nowNs d, port := port, ip := ip } d

/-- Carries out `act` on the body of an accepted message; a bad mac is counted (R434). -/
def sessionTake (type port ip : Nat) (m : Bytes) (act : Nat → Bytes → Dev → Dev) (d : Dev) : Dev :=
  match sessionJudge d type m with
  | .no => d
  | .bad => authFail ip d
  | .again k (some r) => sendSession k 5 r d
  | .again _ none => d
  | .yes k body => act k body (sessionHeard k port ip m d)

/-- COMMAND: kept for repetition and put behind the session's commands (R425, R435). -/
def sessionCommand (port ip : Nat) (m : Bytes) (d : Dev) : Dev :=
  sessionTake 4 port ip m (fun k body d =>
    if body.length ≠ 64 then d else
    let s := sess d k
    let kept := (⟨messageCounter m, body, leAt body 4 4, none⟩ :: s.accepted).take 32
    enqueueEntry (.session k) body [] (putSess k { s with accepted := kept } d)) d

/-- DATA: bytes for the staging area; what falls outside it is not stored (R437). -/
def sessionData (port ip : Nat) (m : Bytes) (d : Dev) : Dev :=
  sessionTake 7 port ip m (fun k body d =>
    let off := beAt body 0 4
    if body.length < 4 then d
    else memWrite (stagingBase d k + off) ((body.drop 4).take (2 ^ 26 - off)) d) d

/-- KEEPALIVE keeps the session open (R433, R436). -/
def sessionKeepalive (port ip : Nat) (m : Bytes) (d : Dev) : Dev := sessionTake 8 port ip m (fun _ _ d => d) d

/-- CLOSE (R436). -/
def sessionClose (port ip : Nat) (m : Bytes) (d : Dev) : Dev := sessionTake 9 port ip m (fun k _ d => sessionShut k d) d

/-! ### Keys (R438) -/

/-- Writes or empties a key slot and closes the sessions that use it. -/
def keySet (slot role : Nat) (key : Bytes) (d : Dev) : Dev :=
  let x : KeySlot := if role = 0 then {} else ⟨role, key⟩
  let d := { d with host := { d.host with keys := fput {} d.host.keys slot x } }
  forL sessionIds (fun k d => if (sess d k).slot = slot then sessionShut k d else d) d

/-- SESSION_KEY_SET (R427, R438). -/
def sessionKeySet (cid : Nat) (src : Source) (slot role : Nat) (r : DRef) (d : Dev) : Dev :=
  if 15 < slot ∨ 3 < role ∨ r.len ≠ (if role = 0 then 0 else 97) then complete cid cRange 0 0 d
  else match refBytes d src r with
    | none => complete cid cRange 0 0 d
    | some key => complete cid cDone 0 0 (keySet slot role key d)

/-- EVENT_MASK: a session selects its groups; from the host ring it is refused (R428, R431). -/
def eventMask (cid : Nat) (src : Source) (mask : Nat) (d : Dev) : Dev :=
  match src with
  | .session k => complete cid cDone 0 0 (putSess k { sess d k with evMask := mask } d)
  | _ => complete cid cState 0 0 d

/-- May a session with a role issue a command (R438)? -/
def roleAllows (role opcode : Nat) : Bool :=
  match role with
  | 1 => opcode = 0x0001 || opcode = 0x0002 || opcode = 0x0081 || opcode = 0x00A1
  | 2 => !(opcode = 0x0003 || opcode = 0x00A0 || opcode = 0x0082)
  | 3 => true
  | _ => false

end Sys2Proof.Machine
end

