-- ==== Sys2Proof/Machine/Power.lean ====
section
/-!
DEFINITION. Operating points, temperature, supply, clocks and ageing (R155, R487 to R496, R504 to R508).
-/

namespace Sys2Proof.Machine

/-! ### Faults -/

/-- FAULT_N is low: in reset, in SAFE, while a fault cause is held, after a boot that has stopped, and by a wake that
fails or waits (R34, R49, R485, R486, R500). -/
def faultLow (d : Dev) : Bool :=
  d.pwr.resetLow || d.pwr.supplyLost || decide (d.sys.mode = .safe) || faultHeld d || d.pwr.boot.stopped || d.pwr.wakeFault

/-- Writes a code with its detail to PWR_FAIL_CODE (R485, R486, R500). -/
def failCode (code detail : Nat) (d : Dev) : Dev := wrN 0x10028 (code + 256 * (detail % 256) + 2 ^ 16) d

/-! ### Voltages (R487) -/

/-- The offset of a point in 5 mV steps (R487, R505). -/
def offsetSteps (d : Dev) (p : Nat) : Nat := fld d 0x10008 (4 * p + 3) (4 * p)

/-- Nominal VDD_CORE in mV (R487). -/
def nominalMv (p : Nat) : Nat :=
  match p with
  | 0 => 800
  | 1 => 720
  | 2 => 650
  | _ => 580

/-- The voltage that the device requests at a point. -/
def targetMv (d : Dev) (p : Nat) : Nat := nominalMv p + 5 * offsetSteps d p

/-- VDD_CORE as read back. -/
def voltNow (d : Dev) : Nat := rdN d 0x10010

/-- Is a point withdrawn (R505)? -/
def withdrawn (d : Dev) (p : Nat) : Bool := bitAt d 0x10008 (16 + p)

/-- PWR_STATUS as read (R513). -/
def pwrStatus (d : Dev) : Nat :=
  let w := setBits (rdN d 0x10004) 1 0 d.pwr.point
  let w := match d.pwr.step with
    | some s => setBits (setBits w 3 2 s.target) 4 4 1
    | none => w
  match d.pwr.pend with
  | some r => setBits (setBits w 5 5 1) 7 6 r.point
  | none => w

/-! ### Capacity (R155) -/

/-- Do the fixed voices and the fixed geometry load of a plan fit an operating point? -/
def planFits (d : Dev) (p : Plan) (point : Nat) : Bool :=
  let n := fixedCount (runVoices d p)
  decide (n ≤ voicePool d point) && decide (n ≤ geomCapacity d point)

/-- May a plan be activated at an operating point: R155, and under edge_half at most 256 outputs and half of V (R450)? -/
def swapFits (d : Dev) (p : Plan) (point : Nat) : Bool :=
  let half := bitAt d 0x1A0000 0
  let outs := ((List.range p.outputs.length).filter (fun j => rendersOut d p j)).length
  planFits d p point && (!half || (decide (outs ≤ 256) && decide (2 * (runVoices d p).length ≤ voicePool d point)))

/-- A P0 frequency below a limit of R155 is held until CONFIG, which sets capacity_short. -/
def ageHeldShort (mhz : Nat) (d : Dev) : Dev :=
  match d.plan.active with
  | some p =>
    let n := fixedCount (runVoices d p)
    let hz := mhz * 1000000
    if d.sys.mode ≠ .config ∧ (poolOf d hz < n ∨ capacityOf d hz < n) then setFlag 0x60004 12 d else d
  | none => d

/-- The plans whose voices render: the active one, and both sides of a swap. -/
def plansUp (d : Dev) : List Plan :=
  d.plan.active.toList ++ d.plan.outgoing.toList ++ (d.plan.running.map (·.incoming)).toList

/-- V and C of a point apply: the shed set of the active plan is computed anew, in CONFIG at once, else at the activation of
the apply QN, with fades (R156, R157). The partner's V and C of another point are out of date (R383). -/
def capApply (p q : Nat) (fade : Bool) (d : Dev) : Dev :=
  let d := if p = d.pwr.capPoint then d else { d with pair := { d.pair with partnerV := 0, partnerC := 0 } }
  let d := { d with pwr := { d.pwr with capPoint := p } }
  if fade then { d with voice := { d.voice with shedDue := some true } }
  else match d.plan.active with
  | some pl => shedCompute pl q false d
  | none => d

/-! ### The sequencer (R489 to R493) -/

/-- Replaces the step in progress. -/
def putStep (s : OpStep) (d : Dev) : Dev := { d with pwr := { d.pwr with step := some s } }

/-- Is a transition to STOP in progress or pending (R488)? -/
def stopComing (d : Dev) : Bool :=
  let t (x : Option Trans) : Bool := match x with
    | some y => decide (y.target = .stop)
    | none => false
  t d.sys.sched || t d.sys.running || (match d.sys.pendReq with
    | some r => decide (r.target = .stop)
    | none => false)

/-- The frequency step of the step in progress; a raise completes with it, a lowering then writes its voltage and
completes when the readback is there (R489 to R491). -/
def freqStep (s : OpStep) (d : Dev) : Dev :=
  let d := { d with pwr := { d.pwr with point := s.target } }
  let d := if s.raising then d else emit (.avs (targetMv d s.target)) d
  putStep { s with stepped := true } d

/-- Has the voltage of the step arrived: for a raise at the target less 5 mV or above, for a lowering within 5 mV
(R489, R490)? -/
def voltThere (d : Dev) (s : OpStep) : Bool :=
  if s.raising then decide (targetMv d s.target ≤ voltNow d + 5)
  else decide (targetMv d s.target ≤ voltNow d + 5) && decide (voltNow d ≤ targetMv d s.target + 5)

/-- A step begins. At once in CONFIG its V and C apply now with no fade; otherwise from its apply QN. A raise whose
write is due writes its voltage (R157, R488 to R490). -/
def stepStart (p a cid : Nat) (atOnce : Bool) (d : Dev) : Dev :=
  let raising := decide (p < d.pwr.point)
  let sq := if raising || atOnce then a else a + fadeN d
  let write := raising && (atOnce || decide (a ≤ qnNow d + 3))
  let d := if write then emit (.avs (targetMv d p)) d else d
  let s : OpStep := ⟨p, a, sq, raising, cid, write, atOnce, false⟩
  let d := putStep s (if atOnce then capApply p a false d else d)
  if atOnce && (!raising || voltThere d s) then freqStep s d else d

/-- The step in progress completes with a code: OPPOINT_CHANGED, the command, an offset step that waited, then the
pending request begins (R489, R490, R493, R505). A request for the point in force completes at once. -/
def stepEndOnce (code : Nat) (d : Dev) : Dev :=
  match d.pwr.step with
  | none => d
  | some s =>
    let d := { d with pwr := { d.pwr with step := none } }
    let d := if s.stepped then raiseEvent evOppointChanged (leBytes 1 s.target ++ leBytes 5 s.stepQn) d else d
    let d := complete s.cid code 0 s.applyQn d
    let d := if d.pwr.offsetDue then
        emit (.avs (targetMv d d.pwr.point)) { d with pwr := { d.pwr with offsetDue := false } }
      else d
    match d.pwr.pend with
    | none => d
    | some r =>
      let d := { d with pwr := { d.pwr with pend := none } }
      let a := max r.applyQn (s.stepQn + 3)
      if r.point = d.pwr.point then complete r.cid cDone 0 a d
      else stepStart r.point a r.cid (decide (d.sys.mode = .config) && !pairFormed d) d

/-- Is the step in progress done: its frequency step taken and, for a lowering, its voltage reached? -/
def stepReached (d : Dev) : Bool :=
  match d.pwr.step with
  | some s => s.stepped && (s.raising || voltThere d s)
  | none => false

/-- Completes the step in progress, and a pending one that it starts, when they are done (R493). -/
def stepSettle (d : Dev) : Dev :=
  let d := if stepReached d then stepEndOnce cDone d else d
  if stepReached d then stepEndOnce cDone d else d

/-- What the start of a quantum does to the step in progress: the voltage write of a raise at A − 3; at A its V and C
with the fades of R157, and the frequency step of a raise, which waits for a voltage that is late; at A + N the frequency
step of a lowering (R489, R490, R492). -/
def oppointAt (q : Nat) (d : Dev) : Dev :=
  match d.pwr.step with
  | none => d
  | some s =>
    let write := s.raising && !s.written && decide (s.applyQn ≤ q + 3)
    let d := if write then emit (.avs (targetMv d s.target)) d else d
    let s := { s with written := s.written || write }
    let first := !s.applied && decide (s.applyQn ≤ q)
    let d := if first then capApply s.target s.applyQn true d else d
    let s := { s with applied := s.applied || first }
    let d := putStep s d
    if s.stepped then d
    else if s.raising then
      if s.applied = false then d
      else if voltThere d s then stepSettle (freqStep s d)
      else if first then raiseEvent evDvfsSlow (leBytes 1 s.target) (setFlag 0x10004 8 d)
      else d
    else if s.stepQn ≤ q then stepSettle (freqStep s d)
    else d

/-- The readback of VDD_CORE: a held frequency step takes place, a lowering completes. A readback that meets the point in
force shows that PGOOD_CORE is high (R489, R490, R492). -/
def voltageArrival (mv : Nat) (d : Dev) : Dev :=
  let d := wrN 0x10010 mv d
  let good := decide (targetMv d d.pwr.point ≤ mv + 5)
  let d := if good then { d with pwr := { d.pwr with pgoodLow := false } } else d
  match d.pwr.step with
  | none => d
  | some s =>
    if s.stepped then stepSettle d
    else if s.raising && s.applied && voltThere d s then stepSettle (freqStep s d)
    else d

/-- Ten milliseconds after A, which are the N quanta of R490, the voltage of a raise has not arrived: FAULT_SUPPLY, and the command completes HW_FAULT
(R492). -/
def dvfsSupplyFault (d : Dev) : Dev :=
  match d.pwr.step with
  | none => d
  | some s =>
    if s.raising && s.applied && !s.stepped && decide (s.applyQn + fadeN d ≤ qnNow d) then
      let d := causeFound 0xF d
      stepEndOnce cHwFault (capApply d.pwr.point (qnNow d) (decide (d.sys.mode ≠ .config)) d)
    else d

/-- A lowering has not reached its voltage within PWR_AVS_TIMEOUT: the new frequency stays (R492). -/
def avsTimeout (d : Dev) : Dev :=
  match d.pwr.step with
  | none => d
  | some s =>
    if !s.raising && s.stepped then stepEndOnce cTimeout (raiseEvent evDvfsSlow (leBytes 1 s.target) d) else d

/-- The pending request completes SUPERSEDED (R483, R493). -/
def pendDrop (d : Dev) : Dev :=
  match d.pwr.pend with
  | none => d
  | some r => complete r.cid cSuperseded 0 0 { d with pwr := { d.pwr with pend := none } }

/-- A crossfade of a plan or of a bank runs (R177, R488). -/
def crossfading (d : Dev) : Bool :=
  d.plan.running.isSome || d.lupin.corr.any (fun e => e.2.fade.isSome)

/-- This device is the partner of a join whose T has come (R404). -/
def joinHeld (d : Dev) : Bool :=
  match d.pair.join with
  | some x => !x.joiner && (decide (3 ≤ x.phase) || (decide (x.phase = 2) && decide (x.qn ≤ qnNow d)))
  | none => false

/-- The checks of SET_OPPOINT in the order of R488, after mode legality; `a` is its apply QN, none when it is refused.
The answer is a code; DONE goes on. -/
def oppointCheck (d : Dev) (p : Nat) (a : Option Nat) : Nat × Bool :=
  if stopComing d then (cState, false)
  else if 3 < p then (cRange, false)
  else if withdrawn d p then (cNoResource, false)
  else if a.isNone then (cRange, false)
  else if p = d.pwr.point ∧ d.pwr.step.isNone ∧ d.pwr.pend.isNone then (cDone, true)
  else if crossfading d || joinHeld d then (cBusy, false)
  else if (decide (d.sys.mode ≠ .config) || enteringRender d) && !(plansUp d).all (fun pl => planFits d pl p) then
    (cNoResource, false)
  else (cDone, false)

/-- SET_OPPOINT (R488, R493). -/
def setOppoint (cid p : Nat) (a : Option Nat) (d : Dev) : Dev :=
  let (code, same) := oppointCheck d p a
  let q := a.getD 0
  if same then complete cid cDone 0 q d
  else if code = cNoResource ∧ withdrawn d p = false then complete cid code 0 0 (setFlag 0x60004 12 d)
  else if code ≠ cDone then complete cid code 0 0 d
  else if d.pwr.step.isSome then
    let d := pendDrop d
    { d with pwr := { d.pwr with pend := some ⟨p, q, cid⟩ } }
  else if decide (d.sys.mode = .config) && !pairFormed d then stepSettle (stepStart p (qnNow d) cid true d)
  else stepStart p q cid false d

/-- The same command of a formed pair in CONFIG at the agreed apply QN (R391, R488). -/
def oppointAtOnce (cid p : Nat) (d : Dev) : Dev :=
  if p = d.pwr.point ∧ d.pwr.step.isNone then complete cid cDone 0 (qnNow d) d
  else if d.pwr.step.isSome then
    let d := pendDrop d
    { d with pwr := { d.pwr with pend := some ⟨p, qnNow d, cid⟩ } }
  else stepSettle (stepStart p (qnNow d) cid true d)

/-! ### Temperature and supply (R494) -/

/-- PWR_TEMP takes the highest junction reading, signed Q8.8 (R494). -/
def tempStore (t : Int) (d : Dev) : Dev := wrN 0x1001C (wrapN 16 (satI 16 t)) d

/-- PWR_TEMP as a number. -/
def tempNow (d : Dev) : Int := sext 16 (rdN d 0x1001C)

/-- The reading rises through PWR_THERM_WARN (R494). -/
def thermalWarn (t : Int) (d : Dev) : Dev :=
  let d := tempStore t d
  if d.pwr.warnArmed ∧ (rdN d 0x10018 : Int) ≤ t then
    raiseEvent evThermalWarn (leInt 2 (satI 16 t)) (setFlag 0x10004 9 { d with pwr := { d.pwr with warnArmed := false } })
  else d

/-- The reading falls 2 °C below the threshold (R494). -/
def thermalRearm (t : Int) (d : Dev) : Dev :=
  let d := tempStore t d
  if t + 512 ≤ (rdN d 0x10018 : Int) then { d with pwr := { d.pwr with warnArmed := true } } else d

/-- The junction exceeds 118 °C (R494). -/
def thermalFault (t : Int) (d : Dev) : Dev :=
  let d := tempStore t d
  if 118 * 256 < t then causeFound 0xB d else d

/-- PGOOD_CORE has been low for 1 µs: FAULT_SUPPLY in Run, and the gate commands of direct drive go low (R494, R522). -/
def pgoodFall (d : Dev) : Dev :=
  if d.sys.mode = .stop then d
  else causeFound 0xF (drvLow { d with pwr := { d.pwr with pgoodLow := true } })

/-! ### Clocks (R495, R496) -/

/-- The count over 10 µs that a clock's setting gives: CORE, MGMT, MEM, HOST, PERIPH (R495). -/
def clockCount (d : Dev) (i : Nat) : Nat :=
  match i with
  | 0 => pointHz d d.pwr.point / 100000
  | 1 => 10000
  | 2 => 10660
  | 3 => 5000
  | _ => 2500

/-- Does a count lie within ±2 % (R495)? -/
def countOk (want got : Nat) : Bool := decide (98 * want ≤ 100 * got) && decide (100 * got ≤ 102 * want)

/-- A window of 10 µs ends with the counts of the five clocks: the second bad window in a row is a failure, a good one
ends it (R495). In BOOT a failure stops the boot with code 0x07; at step 1 the boot retries its step (R500; log 94). -/
def clockWindow (counts : List Nat) (d : Dev) : Dev :=
  if d.sys.mode = .stop then d else
  let bad (i : Nat) : Bool := !countOk (clockCount d i) (counts.getD i 0)
  let run (i : Nat) : Nat := if bad i then min 2 (fget 0 d.pwr.badWindows i + 1) else 0
  let fails (i : Nat) : Bool := decide (run i = 2) && decide (fget 0 d.pwr.badWindows i = 1)
  let d' := { d with pwr := { d.pwr with
    badWindows := (List.range 5).foldl (fun m i => fput 0 m i (run i)) d.pwr.badWindows
    clockFailed := (List.range 5).foldl (fun m i =>
      fput false m i (if bad i then fget false d.pwr.clockFailed i || fails i else false)) d.pwr.clockFailed } }
  if (List.range 5).any fails then
    let d' := causeFound 0xC d'
    if d.sys.mode = .boot then
      failCode 7 0 { d' with pwr := { d'.pwr with boot := { d'.pwr.boot with stopped := decide (1 < d'.pwr.boot.step) } } }
    else d'
  else d'

/-- Does every clock pass R495, with REFCLK qualified and synthesiser A locked (R35)? -/
def clocksGood (d : Dev) : Bool := d.pwr.clockFailed.isEmpty && !d.pwr.refLost && d.time.lockA

/-- REFCLK is lost (R496). -/
def refclkLost (d : Dev) : Dev :=
  if d.pwr.refLost then d else
  let d := { d with pwr := { d.pwr with refLost := true }, time := { d.time with refclkFallback := true } }
  let d := raiseEvent evRefclkLost [] (setFlag 0x10004 10 d)
  if d.sys.mode = .stop then d
  else causeFound 0xC { d with time := { d.time with qualified := false, goodSyncs := 0 } }

/-- REFCLK qualifies again (R496). -/
def refclkOk (d : Dev) : Dev :=
  if d.pwr.refLost = false then d
  else raiseEvent evRefclkOk []
    { d with pwr := { d.pwr with refLost := false }, time := { d.time with refclkFallback := false } }

/-! ### Ageing (R504 to R508) -/

/-- A measurement starts (R504). -/
def ageStart (cid : Option Nat) (d : Dev) : Dev :=
  { d with age := { d.age with measuring := true, cid := cid } }

/-- AGE_MEASURE: a second one during a measurement is busy (R508). -/
def ageMeasure (cid : Nat) (d : Dev) : Dev :=
  if d.age.measuring then complete cid cBusy 0 0 d else ageStart (some cid) d

/-- Every 24 h of Run with AGE_CTRL.auto at 1 (R504). -/
def ageDaily (d : Dev) : Dev :=
  if bitAt d 0x1E0000 0 && !d.age.measuring && decide (d.sys.mode ≠ .stop) && decide (d.sys.mode ≠ .boot) then ageStart none d else d

/-- The largest path delay referred to a voltage. -/
def worstPath (d : Dev) (paths : List Nat) (mv : Nat) : Nat :=
  (paths.map (fun r => Config.agePath r (voltNow d) mv)).foldl max 0

/-- The largest Vmin referred to a voltage. -/
def worstVmin (d : Dev) (vmin : List Nat) (mv : Nat) : Nat :=
  (vmin.map (fun r => Config.ageVmin r (voltNow d) mv)).foldl max 0

/-- The slack in ps of a point: the CORE period less the largest referred path delay (R504). -/
def ageSlack (d : Dev) (paths : List Nat) (p mhz : Nat) : Int :=
  (1000000 - ((worstPath d paths (targetMv d p) * mhz : Nat) : Int)) / (mhz : Int)

/-- Does a point fail: slack below slack_thr, or headroom below zero (R504, R505)? -/
def ageFails (d : Dev) (paths vmin : List Nat) (p mhz : Nat) : Bool :=
  let mv := targetMv d p
  decide (1000000 < (worstPath d paths mv + fld d 0x1E0000 15 8) * mhz) || decide (mv < worstVmin d vmin mv + 30)

/-- The frequency of a point in MHz. -/
def pointMhz (d : Dev) (p : Nat) : Nat := pointHz d p / 1000000

/-- Raises the offset of a point one step at a time until it passes or stands at 8 steps (R505). -/
def ageRaise (fuel : Nat) (paths vmin : List Nat) (p : Nat) (d : Dev) : Dev :=
  match fuel with
  | 0 => d
  | f + 1 =>
    if ageFails d paths vmin p (pointMhz d p) = false ∨ 8 ≤ offsetSteps d p then d
    else
      let n := offsetSteps d p + 1
      let d := setFlag 0x1E0004 8 (setFld 0x10008 (4 * p + 3) (4 * p) n d)
      let d := raiseEvent evAgeReplan (leBytes 1 p ++ leBytes 1 n) d
      let d := if p ≠ d.pwr.point then d
        else if d.pwr.step.isSome then { d with pwr := { d.pwr with offsetDue := true } }
        else emit (.avs (targetMv d p)) d
      ageRaise f paths vmin p d

/-- A point is exhausted (R505, R506). -/
def ageExhausted (p : Nat) (d : Dev) : Dev := raiseEvent evAgeExhausted (leBytes 1 p) (setFlag 0x1E0004 9 d)

/-- The re-plan of one point (R505, R506). -/
def ageReplan (paths vmin : List Nat) (p : Nat) (d : Dev) : Dev :=
  if withdrawn d p then d else
  let d := ageRaise 9 paths vmin p d
  if ageFails d paths vmin p (pointMhz d p) = false then d
  else if p ≠ 0 then ageExhausted p (setFlag 0x10008 (16 + p) d)
  else
    let lower := (List.range 9).map (fun (i : Nat) => pointMhz d 0 - 50 * i)
    let f := (lower.find? (fun f => decide (f ≤ 1000) || !ageFails d paths vmin 0 f)).getD 1000
    let f := max 1000 f
    let d := if f < pointMhz d 0 then ageHeldShort f { d with age := { d.age with nextMhz := some f } } else d
    if ageFails d paths vmin 0 f then ageExhausted 0 d else d

/-- A measurement ends: 64 path readings in ps, 8 Vmin readings in mV, and the lanes below their margin. The points are
re-planned and AGE_MEASURE completes (R504 to R508). -/
def ageComplete (paths vmin : List Nat) (lanes : List (Nat × Nat)) (d : Dev) : Dev :=
  if d.age.measuring = false then d else
  let d := forN 64 (fun i d => wrN (0x1E0100 + 4 * i) (paths.getD i 0) d) d
  let d := forN 8 (fun i d => wrN (0x1E0200 + 4 * i) (vmin.getD i 0) d) d
  let d := forN 4 (fun p d => ageReplan paths vmin p d) d
  let (years, d) := takeFree 65536 d
  let (hours, d) := takeFree (2 ^ 32) d
  let slack := ageSlack d paths 0 (pointMhz d 0)
  let d := wrN 0x1E0008 (wrapN 32 slack) (wrN 0x1E000C years (wrN 0x1E0010 hours (wrN 0x1E0014 (ct32 d) d)))
  let d := raiseEvent evAgeReport (leInt 2 slack ++ leBytes 2 years) d
  let d := forL lanes (fun l d =>
    raiseEvent evAgeLinkMargin (leBytes 1 l.1 ++ leBytes 1 l.2)
      (setFlag 0x1E0004 10 { d with age := { d.age with margins := fput false d.age.margins l.1 true } })) d
  let cid := d.age.cid
  let d := { d with age := { d.age with measuring := false, cid := none } }
  completeOpt cid cDone (wrapN 16 slack + offsetSteps d 0 * 2 ^ 16 + years * 2 ^ 32 + pointMhz d 0 * 2 ^ 48) d

/-- AGE_STATUS as read. -/
def ageStatus (d : Dev) : Nat :=
  setBits (setBits (rdN d 0x1E0004) 0 0 (b2n d.age.measuring)) 1 1 (b2n d.age.nextMhz.isSome)

/-- What an entry into CONFIG does for ageing: a held P0 frequency is applied, and lanes and channels below their margin
re-adapt or retrain (R506, R507). -/
def ageConfigEntry (d : Dev) : Dev :=
  let chans := (List.range 4).filter (fun ch => fget false d.age.margins (8 + ch))
  let d := forL chans (fun ch d => dramRetrainEnd ch (dramRetrain ch d)) d
  let d := { d with age := { d.age with margins := [] } }
  match d.age.nextMhz with
  | none => d
  | some f =>
    let d := wrN 0x1000C f { d with age := { d.age with nextMhz := none } }
    raiseEvent evAgeFreqReduced (leBytes 2 f ++ leBytes 4 (poolOf d (f * 1000000))) d

end Sys2Proof.Machine
end

