-- ==== Sys2Proof/Machine/Mode.lean ====
section
/-!
DEFINITION. Operating modes and transitions (R23 to R37).
-/

namespace Sys2Proof.Machine

/-! ### The output ramp (R36, R37) -/

/-- The output gain at sample `k` of quantum `q`, Q1.31 with 2³¹ for full level. -/
def outGain (d : Dev) (q k : Nat) : Int :=
  let i := rampIdx d q (k + 1)
  if i = 0 then 0 else if i = rampLen d then 2 ^ 31 else Config.rampGain i (rampLen d)

/-- A ramp in a direction starts at the present quantum from the present level. -/
def rampTo (up : Bool) (d : Dev) : Dev :=
  let from' := rampIdx d (qnNow d) 0
  { d with sys := { d.sys with rampQn := qnNow d, rampFrom := from', rampUp := up } }

/-- The outputs stand at a level with no ramp. -/
def rampSet (up : Bool) (d : Dev) : Dev :=
  { d with sys := { d.sys with rampQn := qnNow d, rampFrom := if up then rampLen d else 0, rampUp := up } }

/-! ### Mode status (R23, R24) -/

/-- The code of SYS_MODE_STATUS (R23). -/
def modeStatus (d : Dev) : Nat :=
  d.sys.mode.code + 16 * b2n d.sys.running.isSome + 32 * b2n d.sys.pendReq.isSome + 64 * b2n d.sys.sched.isSome
    + 256 * (match d.sys.pendReq with
      | some r => r.target.code
      | none => 0)
    + 65536 * d.sys.cause

/-- The mode changes: recorded with its cause and the QN of effect, noted for the mode history, MODE_CHANGED raised (R23,
R24). An entry into CONFIG
applies what ageing has held (R506, R507). -/
def enterMode (m : Mode) (cause qn : Nat) (d : Dev) : Dev :=
  let d := { d with
    sys := { d.sys with mode := m, cause := cause, modeQn := qn }
    host := { d.host with history := d.host.history ++ [(m.code, cause, qn)] }
    survey := { d.survey with running := false, step := 0, stepQn := 0, tailQn := 0, heard := [] } }
  let d := raiseEvent evModeChanged (leBytes 1 m.code ++ leBytes 1 cause ++ leBytes 5 qn) d
  if m = .config then ageConfigEntry { d with geom := { d.geom with fresh := true } } else d

/-! ### Requests (R26 to R32) -/

/-- Does R26 accept a commanded move? A cell marked — passes. -/
def modeRow (from' dest : Mode) : Bool :=
  from' = dest ||
  match from', dest with
  | .config, .central | .config, .edge | .config, .mirror | .config, .survey | .config, .stop => true
  | .central, .config | .central, .safe | .edge, .config | .edge, .safe => true
  | .mirror, .config | .survey, .config | .survey, .safe => true
  | .safe, .config | .safe, .edge | .safe, .mirror | .safe, .stop => true
  | _, _ => false

/-- A domain frame of a central device has come within 30 ms (R29). -/
def centralHeard (d : Dev) : Bool := decide (d.sys.centralAt ≠ 0) && decide (nowNs d < d.sys.centralAt + 30000000)

/-- The preconditions of R29 with those of R43 and R44. -/
def modePre (d : Dev) (dest : Mode) : Bool :=
  let plan := d.plan.active.isSome
  let calm := !faultHeld d && !d.sys.indexConflict
  match dest with
  | .central => role d = 1 && plan && timeQualified d && (pairFormed d || bitAt d 0x210 9) && calm
  | .edge => role d = 2 && plan && timeQualified d && centralHeard d && calm && !d.sys.planMismatch
  | .mirror => role d = 1 && bitAt d 0x210 8 && decide (d.pair.partnerMode = 2) && calm
  | .survey => (role d = 1 || role d = 2) && plan && timeQualified d && calm
  | .stop => (List.range 16).all (fun p => decide (2 ≤ aportRole d p) || aportStopped d p)
  | _ => true

/-- The transition in progress (R32). -/
def transNow (d : Dev) : Option Trans :=
  match d.sys.running with
  | some t => some t
  | none => d.sys.sched

/-- Puts a transition in its place, scheduled. -/
def transPlan (target : Mode) (applyQn cause : Nat) (cid : Option Nat) (d : Dev) : Dev :=
  { d with sys := { d.sys with sched := some ⟨target, applyQn, cause, cid, .waiting⟩ } }

/-- Changes the phase of the running transition. -/
def transPhase (ph : Phase) (d : Dev) : Dev :=
  match d.sys.running with
  | some t => { d with sys := { d.sys with running := some { t with phase := ph } } }
  | none => d

/-- The pending request completes SUPERSEDED (R32 to R34). -/
def pendModeDrop (d : Dev) : Dev :=
  match d.sys.pendReq with
  | none => d
  | some r => completeOpt r.cid cSuperseded 0 { d with sys := { d.sys with pendReq := none } }

/-- A transition ends without having reached its target. -/
def transFail (d : Dev) : Dev :=
  match transNow d with
  | none => d
  | some t => completeOpt t.cid cHwFault 0 { d with sys := { d.sys with running := none, sched := none } }

/-- SET_MODE (R26 to R30, R32). In MIRROR the transition that SET_MODE MIRROR began counts as running until the join ends: a
SET_MODE CONFIG that comes then waits in the pending slot and does not end the join, and a request is judged by the MIRROR row,
the mode of the transition's own target, though the join itself ends in CENTRAL. That is the model's choice (log 105). `a` is the apply QN that R30 and R391 give; `zero` says that the command named none. -/
def setMode (cid target scope : Nat) (a : Option Nat) (zero : Bool) (d : Dev) : Dev :=
  match Mode.ofCode target with
  | none => complete cid cRange 0 0 d
  | some m =>
    if 1 < scope then complete cid cRange 0 0 d
    else if m = .boot then complete cid cState 0 0 d
    else match transNow d with
      | none =>
        if m = d.sys.mode then complete cid cDone 0 d.sys.modeQn d
        else if !(modeRow d.sys.mode m && modePre d m) then complete cid cState 0 0 d
        else match a with
          | none => complete cid cRange 0 0 d
          | some q => transPlan m q 2 (some cid) d
      | some t =>
        if !(modeRow t.target m && modePre d m) then complete cid cState 0 0 d
        else match a with
          | none => complete cid cRange 0 0 d
          | some q =>
            let d := pendModeDrop d
            { d with sys := { d.sys with pendReq := some ⟨m, if zero then 0 else q, some cid⟩ } }

/-! ### Running (R31, R36, R37, R310, R483) -/

/-- Does a mode render (R33)? -/
def isRender : Mode → Bool
  | .central => true
  | .edge => true
  | .survey => true
  | _ => false

/-- The unmute begins: idle channels play, the outputs ramp up, and a central device notes the QN (R37, R40). -/
def unmute (target : Mode) (d : Dev) : Dev :=
  let d := transPhase .outputRampUp (rampTo true (drvPlay d))
  if target = .central ∧ d.sys.startQn = 0 then { d with sys := { d.sys with startQn := qnNow d } } else d

/-- Channels whose up-ramp runs reverse it (R310). -/
def cmReverse (d : Dev) : Dev :=
  forL (drvHeads d) (fun c d => if (drvCh d c).state = 2 || (drvCh d c).wantUp then cmDown c d else d) d

/-- Does a diagnostics run of an entry into a rendering mode still go on? -/
def prerollTests (d : Dev) : Bool :=
  (List.range 16).any (fun c => decide ((drvCh d c).state = 1) && decide ((drvCh d c).why = .preroll))

/-- What follows at once when a phase waits for nothing: a common-mode ramp that no channel runs, and of an entry into
SURVEY, which has no pre-roll of its own, diagnostics runs that have ended (R315; log 66). -/
def transAdvance (d : Dev) : Dev :=
  match d.sys.running with
  | none => d
  | some t =>
    let tested := decide (t.phase = .preroll) && decide (t.target = .survey) && !prerollTests d
    let d := if tested then transPhase .cmRampUp (drvAllUp d) else d
    match if tested then .cmRampUp else t.phase with
    | .cmRampDown => if cmBusy d then d else transPhase (if t.target = .stop then .stopping else .ready) d
    | .cmRampUp =>
      if cmBusy d then d
      else if t.target = .survey then transPhase .ready (rampSet true (drvPlay d))
      else unmute t.target d
    | _ => d

/-- The transition that was scheduled starts running, at the start of its apply QN (R32, R36, R37, R483). A request for
the present mode completes under R28. -/
def transStart (d : Dev) : Dev :=
  match d.sys.sched with
  | none => d
  | some t =>
    let m := d.sys.mode
    let d := { d with sys := { d.sys with sched := none, running := some t } }
    if t.target = m then completeOpt t.cid cDone d.sys.modeQn { d with sys := { d.sys with running := none } }
    else match t.target with
      | .config | .safe | .stop =>
        if isRender m then transPhase .outputRampDown (rampTo false (cmReverse d))
        else if m = .mirror then transPhase .ready d
        else transAdvance (transPhase .cmRampDown (drvAllDown (if t.target = .stop then pendDrop d else d)))
      | .central | .edge =>
        transPhase .preroll (rampSet false (if m = .config then drvPreroll d else d))
      | .survey => transAdvance (transPhase .preroll (rampSet false (if m = .config then drvPreroll d else d)))
      | .mirror => transPhase .joining d
      | .boot => d

/-- The muted pre-roll ends: the common-mode ramps up, then the unmute (R37, R310). -/
def prerollEnd (d : Dev) : Dev :=
  match d.sys.running with
  | some t => if t.phase = .preroll ∧ t.target ≠ .survey then transAdvance (transPhase .cmRampUp (drvAllUp d)) else d
  | none => d

/-- An output ramp ends (R36, R37). -/
def outputRampEnd (d : Dev) : Dev :=
  match d.sys.running with
  | some t =>
    match t.phase with
    | .outputRampDown =>
      if t.target = .safe then transPhase .ready (drvIdle d) else transAdvance (transPhase .cmRampDown (drvAllDown d))
    | .outputRampUp => transPhase .ready d
    | _ => d
  | none => if d.sys.mode = .safe then drvIdle d else d

/-- A common-mode ramp of a channel ends (R309, R310, R321). -/
def cmRampEnd (c : Nat) (d : Dev) : Dev :=
  let unmuted := rendering d && d.sys.running.isNone
  transAdvance (cmEnd (!unmuted) c d)

/-- The request in the pending slot is judged again when a transition completes, against R26 and R29, and then completes
under R28 if it names the present mode (R32). The first boundary at or after the
completion is the present quantum's only when the completion falls on its start. -/
def pendTake (d : Dev) : Dev :=
  match d.sys.pendReq with
  | none => d
  | some r =>
    let d := { d with sys := { d.sys with pendReq := none } }
    if !(modeRow d.sys.mode r.target && modePre d r.target) then completeOpt r.cid cState 0 d
    else if r.target = d.sys.mode then completeOpt r.cid cDone d.sys.modeQn d
    else
      let onEdge := decide (d.time.pt < edgeOfQn d (qnNow d) + 2)
      let b := if onEdge then qnNow d else qnNow d + 1
      let d := transPlan r.target (max r.qn b) 2 r.cid d
      if onEdge ∧ max r.qn b = qnNow d then transStart d else d

/-- The entry into STOP from its step 3 on: sessions close, SET_MODE completes, the link goes down, SRAMC_RET is latched
and the core rail steps (R461, R483). The pulse balls come to rest (R91). -/
def stopEnter (t : Trans) (d : Dev) : Dev :=
  let d := forN 4 pulseRest (sessionsShut d)
  let d := enterMode .stop t.cause t.applyQn { d with sys := { d.sys with running := none } }
  let d := completeOpt t.cid cDone t.applyQn d
  let d := hostLinkReset true d
  let ret := rdN d 0x1B0008
  emit (.avs (if ret % 32768 ≠ 0 then 500 else 0)) { d with
    pwr := { d.pwr with retained := ret }
    pair := { d.pair with l4 := false, lane := none }
    time := { d.time with lockA := false, lockB := false } }

/-- A transition that has finished its ramps completes: the mode changes, SET_MODE completes DONE, the pending request is
judged again. Entry into STOP waits for a step of the operating point (R31, R32, R493). -/
def transComplete (d : Dev) : Dev :=
  match d.sys.running with
  | none => d
  | some t =>
    match t.phase with
    | .ready =>
      let d := enterMode t.target t.cause t.applyQn { d with sys := { d.sys with running := none } }
      pendTake (completeOpt t.cid cDone t.applyQn d)
    | .stopping => if d.pwr.step.isSome then d else pendTake (stopEnter t d)
    | _ => d

/-- SURVEY ends by itself: at the tail of the programme, or at once with none (R276). -/
def surveyDone (d : Dev) : Dev :=
  let due := if d.survey.program.isEmpty then true else decide (d.survey.tailQn ≠ 0) && decide (d.survey.tailQn - 1 ≤ qnNow d)
  if d.sys.mode = .survey ∧ (transNow d).isNone ∧ due = true then
    let d := { d with survey := { d.survey with running := false, step := 0, stepQn := 0, tailQn := 0 } }
    transStart (transPlan .config (qnNow d) 6 none d)
  else d

/-! ### Faults (R33 to R35) -/

/-- The lowest code of the causes that have arisen; 2 and 3 stand for R43 and R44, which have none (R25). -/
def entryCause (l : List Nat) : Nat :=
  let f := l.filter (fun c => decide (8 ≤ c))
  match f with
  | [] => 2
  | c :: rest => rest.foldl min c

/-- A running transition into a rendering mode stops and the mode stays: the outputs stay muted and channels that have
begun to ramp up go down again (R43, R44). -/
def transStop (d : Dev) : Dev :=
  let d := rampSet false (transFail d)
  if d.sys.mode = .config then drvAllDown { d with geom := { d.geom with fresh := true } } else cmReverse d

/-- The quantum boundary after fault causes have arisen: SAFE from a rendering mode or from a transition into one; a
scheduled transition into a rendering mode or MIRROR never begins (R33, R34). The code 3 stands for a conflict of R43 or
R44 seen before rendering: the transition stops and the device stays in its mode. That it completes HW_FAULT then is the
model's choice (log 105). -/
def faultEntry (d : Dev) : Dev :=
  match d.sys.newCauses with
  | [] => d
  | causes =>
    let d := { d with sys := { d.sys with newCauses := [] } }
    let conflict := causes.all (fun c => decide (c = 3))
    if conflict && enteringRender d && !rendering d then pendModeDrop (transStop d)
    else if (rendering d || enteringRender d) && !conflict then
      let d := pendModeDrop (transFail d)
      if d.sys.mode = .safe then rampSet false d
      else enterMode .safe (entryCause causes) (qnNow d) (rampTo false (cmReverse d))
    else match d.sys.sched with
      | some t => if isRender t.target || decide (t.target = .mirror) then pendModeDrop (transFail d) else d
      | none => d

/-- SYS_FAULT_CAUSES: a cause clears only when its condition no longer holds (R35). -/
def faultCausesWrite (v : Nat) (d : Dev) : Dev :=
  let can (i : Nat) : Bool :=
    match i with
    | 1 => timeQualified d && !bitAt d 0x20004 11
    | 3 => decide (tempNow d < 113 * 256)
    | 4 => clocksGood d
    | 6 => false
    | 7 => !d.pwr.pgoodLow
    | _ => true
  forN 8 (fun i d => if v.testBit i && can i then clrFlag 0x230 i d else d) d

end Sys2Proof.Machine
end

