-- ==== Sys2Proof/Machine/Scene.lean ====
section
/-!
DEFINITION. The scene store (R439 to R443).
-/

namespace Sys2Proof.Machine

/-- Byte of the flash part at which the store begins. -/
abbrev sceneBase : Nat := 0x2000000

/-- The size of the store in bytes (R439). -/
def sceneSize (d : Dev) : Nat := rdN d 0x1F0014 * 2 ^ 20 - sceneBase

/-- Bytes of flash that a payload takes: header, payload, crc and commit word, in whole 4 KiB sectors (R439). -/
def sceneSectors (length : Nat) : Nat := ceilDiv (72 + length) 4096 * 4096

/-- Bytes of the live records (R443): a tombstone that stands is none. -/
def sceneUsed (d : Dev) : Nat :=
  ((d.host.scene.filter (fun e => decide (e.2.kind ≠ 0))).map (fun e => sceneSectors e.2.length)).foldl (· + ·) 0

/-- Free space (R443). -/
def sceneFree (d : Dev) : Nat := sceneSize d - sceneUsed d - 65536

/-- Live identifiers (R443). -/
def sceneLive (d : Dev) : Nat := (d.host.scene.filter (fun e => e.2.kind ≠ 0)).length

/-- A live record (R441). -/
def sceneRec (d : Dev) (id : Nat) : Option SceneRec :=
  match fget? d.host.scene id with
  | some r => if r.kind = 0 then none else some r
  | none => none

/-- Bytes of the store from an offset. -/
def storeRead (d : Dev) (off n : Nat) : Bytes := flashRead d (sceneBase + off) n

/-- The payload of a record. -/
def scenePayload (d : Dev) (r : SceneRec) : Bytes := storeRead d (r.offset + 64) r.length

/-- The header of a record (R439). -/
def sceneHeader (id kind flags length generation wseq secs : Nat) : Bytes :=
  leBytes 4 0x53434E52 ++ leBytes 4 id ++ leBytes 2 kind ++ leBytes 2 flags ++ leBytes 4 length
    ++ leBytes 4 generation ++ leBytes 4 wseq ++ leBytes 6 secs ++ zeros 34

/-! ### Checks at a write (R439) -/

/-- The signature at the end of a payload, over its header and the bytes before it. -/
def sceneSigned (header payload : Bytes) : Bool :=
  let n := payload.length - 96
  ecdsaVerify Config.sceneKey (header ++ payload.take n) (payload.drop n)

/-- The session keys of a record of kind 0x0007: slot, role, public key. -/
def keyEntries (payload : Bytes) : List (Nat × Nat × Bytes) :=
  (List.range (leAt payload 0 1)).map (fun i =>
    let e := slice payload (4 + 104 * i) 104
    (leAt e 0 1, leAt e 1 1, slice e 4 97))

/-- The reserved bytes and the length of a record of kind 0x0007. -/
def keysFormat (payload : Bytes) : Bool :=
  let n := leAt payload 0 1
  decide (1 ≤ n) && decide (n ≤ 16) && zeroAt payload 1 3 && decide (payload.length = 4 + 104 * n + 96)
    && (List.range n).all (fun i => zeroAt payload (4 + 104 * i + 2) 2 && zeroAt payload (4 + 104 * i + 101) 3)

/-- The check of a payload by its kind: a completion code, DONE when it passes (R439). -/
def sceneCheck (d : Dev) (header : Bytes) (kind : Nat) (payload : Bytes) : Nat :=
  let n := payload.length
  match kind with
  | 0 => cDone
  | 1 => if decide (96 ≤ n) && ecdsaVerify Config.sceneKey (payload.take (n - 96)) (payload.drop (n - 96)) then cDone else cAuth
  | 2 => if n < 96 ∨ (n - 96) % 8 ≠ 0 then cFormat else if sceneSigned header payload then cDone else cAuth
  | 3 => if n % 128 ≠ 0 ∨ !(List.range (n / 128)).all (fun i => descFormatOk (slice payload (128 * i) 128)) then cFormat else cDone
  | 4 => if decide (64 ≤ n) && decide (leAt payload 0 4 = 0x43464C52) && decide (crc32c (payload.drop 64) = leAt payload 8 4)
         then cDone else cFormat
  | 5 => if n % 32 ≠ 0 then cFormat else if 4096 < n / 32 then cRange
         else if (List.range (n / 32)).all (fun i => stepOk d (slice payload (32 * i) 32)) then cDone else cRange
  | 6 => cRange
  | 7 => if !keysFormat payload then cFormat else if !sceneSigned header payload then cAuth
         else if (keyEntries payload).all (fun e => decide (e.1 ≤ 15) && decide (1 ≤ e.2.1) && decide (e.2.1 ≤ 3)) then cDone
         else cRange
  | 8 => if n ≠ 112 ∨ !zeroAt payload 2 14 then cFormat else if !sceneSigned header payload then cAuth
         else if 1 ≤ leAt payload 1 1 ∧ leAt payload 1 1 ≤ 3 then cDone else cRange
  | _ => if 0x100 ≤ kind then cDone else cFormat

/-- The standing autoload records of a kind, by ascending identifier (R444). -/
def autoRecords (d : Dev) (kind : Nat) : List (Nat × SceneRec) :=
  d.host.scene.filter (fun e => decide (e.2.kind = kind) && e.2.flags.testBit 0)

/-- The pairs of a configuration record: BAR0 offset and value (R439). -/
def configPairs (payload : Bytes) : List (Nat × Nat) :=
  (List.range ((payload.length - 96) / 8)).map (fun i => (leAt payload (8 * i) 4, leAt payload (8 * i + 4) 4))

/-- DRAMC_CFG takes its value from the autoload configuration records before DRAM is laid out (R450). -/
def dramCfgTake (d : Dev) : Dev :=
  forL (autoRecords d 2) (fun e d =>
    let payload := scenePayload d e.2
    if sceneCheck d (storeRead d e.2.offset 64) 2 payload ≠ cDone then d
    else forL ((configPairs payload).filter (fun p => decide (p.1 = 0x1A0000))) (fun p d => wrN 0x1A0000 (p.2 % 2) d) d) d

/-! ### Writing (R440, R442) -/

/-- Does the flash hold erased bytes from `off` for `n`? -/
def storeErased (d : Dev) (off n : Nat) : Bool :=
  !d.flash.any (fun e => decide (sceneBase + off ≤ e.1) && decide (e.1 < sceneBase + off + n))

/-- Copies the records that stand, in order of their wseq, to the start of an erased store (R442). -/
def compactGo (d : Dev) : List (Nat × SceneRec × Bytes) → Nat → FMap SceneRec → Dev → Dev
  | [], off, index, e => { e with host := { e.host with scene := index, sceneHead := off } }
  | (id, r, bs) :: rest, off, index, e =>
    compactGo d rest (off + sceneSectors r.length) (fins index id { r with offset := off }) (flashProgram (sceneBase + off) bs e)

/-- Compaction of the whole store: the records that stand are copied with header, payload, crc and commit word, and every other
block is erased (R442). -/
def sceneCompact (d : Dev) : Dev :=
  let recs := ((d.host.scene.filter (fun e => decide (e.2.kind ≠ 0))).map (fun e => (e.1, e.2, storeRead d e.2.offset (72 + e.2.length)))).mergeSort
    (fun a b => decide (a.2.1.wseq ≤ b.2.1.wseq))
  compactGo d recs 0 [] (flashErase sceneBase (sceneSize d) d)

/-- The first erase block of a run of the store that is not erased. -/
def usedBlock (d : Dev) (off n : Nat) : Option Nat :=
  (d.flash.find? (fun e => decide (sceneBase + off ≤ e.1) && decide (e.1 < sceneBase + off + n))).map
    (fun e => (e.1 - sceneBase) / 65536)

/-- Where a copy of `n` bytes out of block b goes: to the head where the run there is erased and clear of the block, else to the
lowest erased run of the store (log 111). -/
def copySpot (d : Dev) (b n : Nat) : Option Nat :=
  let clear (o : Nat) : Bool := decide (o + n ≤ sceneSize d) && (decide (o + n ≤ 65536 * b) || decide (65536 * (b + 1) ≤ o))
    && storeErased d o n
  if clear d.host.sceneHead then some d.host.sceneHead
  else ((List.range (sceneSize d / 4096)).map (fun i => 4096 * i)).find? clear

/-- Copies a record that stands out of a block with its generation unchanged, and commits the copy (R442). `none`: no place is
erased for it. -/
def sceneCopy (b : Nat) (e : Nat × SceneRec) (d : Dev) : Option Dev :=
  let n := sceneSectors e.2.length
  (copySpot d b n).map (fun o =>
    let d := flashProgram (sceneBase + o) (storeRead d e.2.offset (72 + e.2.length)) d
    { d with host := { d.host with
      scene := fins d.host.scene e.1 { e.2 with offset := o }
      sceneHead := if o = d.host.sceneHead then o + n else d.host.sceneHead } })

/-- An erase block that the head comes to: the records that lie in it are copied, each copy committed, and then the block is erased
(R442). Only where no place is erased for a copy, a case for which the spec gives no way, is the whole store compacted
(log 111). -/
def blockReclaim (b : Nat) (d : Dev) : Dev :=
  let recs := (d.host.scene.filter (fun e =>
    decide (e.2.offset < 65536 * (b + 1)) && decide (65536 * b < e.2.offset + sceneSectors e.2.length))).mergeSort
    (fun x y => decide (x.2.offset ≤ y.2.offset))
  match recs.foldl (fun (m : Option Dev) e => m.bind (sceneCopy b e)) (some d) with
  | some e => flashErase (sceneBase + 65536 * b) 65536 e
  | none => sceneCompact d

/-- Room for a run of `need` bytes at the head and one erase block after it; the log wraps at the end of the store, and blocks
that hold records are taken back in order (R442). -/
def roomGo (fuel need : Nat) (d : Dev) : Dev :=
  match fuel with
  | 0 => sceneCompact d
  | f + 1 =>
    let size := sceneSize d
    let d := if size < d.host.sceneHead + need then { d with host := { d.host with sceneHead := 0 } } else d
    let h := d.host.sceneHead
    let past := h + need + 65536 - size
    match (usedBlock d h (min (need + 65536) (size - h))).orElse (fun _ => usedBlock d 0 past) with
    | none => d
    | some b => roomGo f need (blockReclaim b d)

/-- Room for a record at the head (R442). -/
def sceneRoom (length : Nat) (d : Dev) : Dev := roomGo (2 * (sceneSize d / 65536)) (sceneSectors length) d

/-- Step 2: header, payload and crc are programmed from the head of the log (R440). -/
def sceneProgram (op : SceneOp) (d : Dev) : Dev :=
  let d := sceneRoom op.payload.length d
  let body := sceneHeader op.record op.kind op.flags op.payload.length op.generation d.host.sceneWseq (d.time.pt / secNs)
    ++ op.payload
  let d := flashProgram (sceneBase + d.host.sceneHead) (body ++ leBytes 4 (crc32c body)) d
  { d with host := { d.host with sceneOp := some op } }

/-- The generation of the next write of an identifier (R439). -/
def sceneNextGen (d : Dev) (id : Nat) : Nat := match fget? d.host.scene id with
  | some r => r.generation + 1
  | none => 1

/-- Does a write fit (R443)? -/
def sceneFits (d : Dev) (id length : Nat) : Bool :=
  decide (sceneSectors length ≤ sceneFree d) && ((sceneRec d id).isSome || decide (sceneLive d < 4096))

/-- SCENE_WRITE: its checks, then programming starts (R439, R440, R443). -/
def sceneWrite (cid : Nat) (src : Source) (id kind flags : Nat) (r : DRef) (d : Dev) : Dev :=
  if d.host.sceneOp.isSome then complete cid cBusy 0 0 d
  else if 1 < flags then complete cid cFormat 0 0 d
  else if id = 0 ∨ 0xFFFFFFFE < id ∨ 2 ^ 26 < r.len then complete cid cRange 0 0 d
  else match refBytes d src r with
    | none => complete cid cRange 0 0 d
    | some payload =>
      let gen := sceneNextGen d id
      let header := sceneHeader id kind flags payload.length gen d.host.sceneWseq (d.time.pt / secNs)
      let code := sceneCheck d header kind payload
      if code ≠ cDone then complete cid code 0 0 d
      else if !sceneFits d id payload.length then complete cid cNoResource 0 0 d
      else sceneProgram ⟨some cid, id, kind, flags, payload, gen⟩ d

/-- SCENE_ERASE: a tombstone by the same steps (R440). -/
def sceneErase (cid id : Nat) (d : Dev) : Dev :=
  if d.host.sceneOp.isSome then complete cid cBusy 0 0 d
  else if (sceneRec d id).isNone then complete cid cRange 0 0 d
  else if !sceneFits d id 0 then complete cid cNoResource 0 0 d
  else sceneProgram ⟨some cid, id, 0, 0, [], sceneNextGen d id⟩ d

/-- Steps 3 and 4: the commit word is programmed and the record enters the index; `ok` says that every readback agreed
(R440). -/
def sceneCommitted (ok : Bool) (d : Dev) : Dev :=
  match d.host.sceneOp with
  | none => d
  | some op =>
    let off := d.host.sceneHead
    let wseq := d.host.sceneWseq
    let next := off + sceneSectors op.payload.length
    let d := { d with host := { d.host with sceneOp := none, sceneHead := next, sceneWseq := wseq + 1 } }
    if ok = false then completeOpt op.cid cHwFault 0 d
    else
      let d := flashProgram (sceneBase + off + 68 + op.payload.length) (leBytes 4 0xA5C30F96) d
      let r : SceneRec := ⟨op.kind, op.flags, op.payload.length, op.generation, wseq, off⟩
      let d := { d with host := { d.host with scene := fins d.host.scene op.record r } }
      let d := raiseEvent evSceneCommitted (leBytes 4 op.record ++ leBytes 4 op.generation) d
      completeOpt op.cid cDone op.generation d

/-- SCENE_READ: bytes of a record's payload go to the named buffer (R427). -/
def sceneRead (cid : Nat) (src : Source) (id offset : Nat) (r : DRef) (d : Dev) : Dev :=
  match sceneRec d id with
  | none => complete cid cRange 0 0 d
  | some x =>
    let n := min r.len (x.length - offset)
    if x.length < offset ∨ !refFits d src r.addr n then complete cid cRange 0 0 d
    else complete cid cDone 0 n (refPut src r.addr (storeRead d (x.offset + 64 + offset) n) d)

/-! ### Mode history (R24, R444) -/

/-- Is a mode-history record due: a transition has occurred since the last one, and 10 s have passed? -/
def historyDue (d : Dev) : Bool :=
  !d.host.history.isEmpty && d.host.sceneOp.isNone && decide (d.sys.mode ≠ .boot) && decide (d.sys.mode ≠ .stop)
    && (decide (d.host.historyAt = 0) || decide (d.host.historyAt + 10000000000 ≤ nowNs d + 1))

/-- The firmware appends a mode-history record of the transitions since the last one. Its identifier and the layout of its
payload are not given (log 30). -/
def historyAppend (d : Dev) : Dev :=
  let id := Config.historyRecord % 0xFFFFFFFE + 1
  let payload := Config.historyBytes d.host.history
  if sceneFits d id payload.length = false then d
  else sceneProgram ⟨none, id, 6, 0, payload, sceneNextGen d id⟩
    { d with host := { d.host with history := [], historyAt := nowNs d + 1 } }

/-! ### The scan at boot (R441) -/

/-- The record whose header stands at an offset of the store: identifier, record, and whether its crc is right; none
when the header or the commit word is not valid. -/
def sceneAt (d : Dev) (off : Nat) : Option (Nat × SceneRec × Bool) :=
  let h := storeRead d off 64
  let n := leAt h 12 4
  let id := leAt h 4 4
  if leAt h 0 4 = 0x53434E52 ∧ leAt h 10 2 ≤ 1 ∧ zeroAt h 30 34 = true ∧ 1 ≤ id ∧ id ≤ 0xFFFFFFFE ∧ n ≤ 2 ^ 26
      ∧ off + sceneSectors n ≤ sceneSize d ∧ leVal (storeRead d (off + 68 + n) 4) = 0xA5C30F96 then
    let body := storeRead d off (64 + n)
    some (id, ⟨leAt h 8 2, leAt h 10 2, n, leAt h 16 4, leAt h 20 4, off⟩,
      decide (leVal (storeRead d (off + 64 + n) 4) = crc32c body))
  else none

/-- The sectors of the store that are not wholly erased, rising. -/
def usedSectors (d : Dev) : List Nat :=
  (d.flash.foldl (fun (acc : List Nat) e =>
    if e.1 < sceneBase then acc else
    let s := (e.1 - sceneBase) / 4096
    match acc with
    | t :: _ => if t = s then acc else s :: acc
    | [] => [s]) []).reverse

/-- Takes one sector of the scan into the index; `next` is the first offset not covered by a valid record. -/
def scanSector (s : Nat) (x : Nat × Dev) : Nat × Dev :=
  let (next, d) := x
  if 4096 * s < next then x
  else match sceneAt d (4096 * s) with
    | none => x
    | some (_, _, false) => (next, raiseEvent evSceneRecovered [] (incCnt 0x3002C d))
    | some (id, r, true) =>
      let newer := match fget? d.host.scene id with
        | some old => decide (old.generation < r.generation)
        | none => true
      let d := if newer then { d with host := { d.host with scene := fins d.host.scene id r } } else d
      let last := decide (d.host.sceneWseq ≤ r.wseq)
      let d := if last then { d with host := { d.host with sceneWseq := r.wseq + 1, sceneHead := 4096 * s + sceneSectors r.length } } else d
      (4096 * s + sceneSectors r.length, d)

/-- The first erased sector at or after an offset, the store wrapping at its end (R441). -/
def firstErased (fuel off : Nat) (d : Dev) : Nat :=
  let off := if sceneSize d ≤ off then 0 else off
  match fuel with
  | 0 => off
  | f + 1 => if storeErased d off 4096 then off else firstErased f (off + 4096) d

/-- The scan of the store at boot (R441). -/
def sceneScan (d : Dev) : Dev :=
  let d := { d with host := { d.host with scene := [], sceneHead := 0, sceneWseq := 1, sceneOp := none } }
  let (_, d) := (usedSectors d).foldl (fun x s => scanSector s x) (0, d)
  { d with host := { d.host with sceneHead := firstErased (usedSectors d).length d.host.sceneHead d } }

end Sys2Proof.Machine
end

