-- ==== Sys2Proof/Machine/Reset.lean ====
section
/-!
DEFINITION. Wake, reset, boot, life cycle and tamper (R461, R484 to R486, R497 to R501, R509 to R511, R521, R522).
-/

namespace Sys2Proof.Machine

/-! ### Reset (R497, R498) -/

/-- The always-on registers, which only power-on clears (R498). -/
def aonRegs : List Nat := [0x10024, 0x10028, 0x1002C, 0x10038]

/-- Is an address in the vault? -/
def inVault (a : Nat) : Bool := decide (0x1002000000 ≤ a) && decide (a < 0x1002200000)

/-- The reset of the device into BOOT: every register but the always-on ones, and every state of the part, returns to its
reset value; the flash and the fuses stay, the levels of balls and rails stay as they are, and the vault is wiped
(R463, R497, R498, R509). `keepMem`: DRAM and SRAM are not lost with a supply (R522). -/
def resetState (keepMem : Bool) (d : Dev) : Dev :=
  { ({} : Dev) with
    regs := d.regs.filter (fun e => aonRegs.contains e.1)
    mem := if keepMem then d.mem.filter (fun e => !inVault e.1) else []
    flash := d.flash
    out := d.out
    free := d.free
    time := { ({} : TimeSt) with now := d.time.now, refclkFallback := d.pwr.refLost }
    pwr := { ({} : PwrSt) with
      pgoodLow := d.pwr.pgoodLow
      refLost := d.pwr.refLost
      resetLow := d.pwr.resetLow
      supplyLost := d.pwr.supplyLost
      wdtAt := d.time.now }
    sec := { ({} : SecSt) with
      lifeCycle := d.sec.fused, fused := d.sec.fused, svn := d.sec.svn
      levels := d.sec.levels, detectors := d.sec.detectors }
    periph := { ({} : PeriphSt) with alert := d.periph.alert, tap := d.periph.tap } }

/-- The boot begins when nothing holds the device in reset (R497, R521, R522). -/
def bootBegin (d : Dev) : Dev :=
  if d.pwr.resetLow || d.pwr.supplyLost || decide (d.sys.mode ≠ .boot) || decide (d.pwr.boot.step ≠ 0) then d
  else
    let d := emit (.avs (targetMv d 0)) { d with pwr := { d.pwr with boot := { d.pwr.boot with step := 1 } } }
    { d with pwr := { d.pwr with wdtAt := nowNs d } }

/-- A reset from a source of R497 with its bit of PWR_RESET_CAUSE. The gate commands go low at once (R310). -/
def deviceReset (bit : Option Nat) (keepMem : Bool) (d : Dev) : Dev :=
  let d := vaultWipe 9 (resetState keepMem (drvLow d))
  let d := match bit with
    | some b => setFlag 0x1002C b d
    | none => d
  bootBegin d

/-- VDD_AON rises: the always-on registers are cleared too; RESET_N is still low (R497, R498, R521). -/
def powerOn (d : Dev) : Dev :=
  let d := { d with pwr := { d.pwr with resetLow := true } }
  let d := deviceReset none false d
  { d with regs := d.regs.filter (fun e => !aonRegs.contains e.1) }

/-- RESET_N has been low for 1 µs (R497). -/
def resetAssert (d : Dev) : Dev := deviceReset (some 1) true { d with pwr := { d.pwr with resetLow := true } }

/-- RESET_N is released with supplies in regulation: T0 (R521). -/
def resetRelease (d : Dev) : Dev := bootBegin { d with pwr := { d.pwr with resetLow := false } }

/-- A monitored supply leaves regulation: as though RESET_N were low (R522). -/
def supplyLoss (d : Dev) : Dev := deviceReset (some 1) false { d with pwr := { d.pwr with supplyLost := true } }

/-- The supply has been back for 1 ms (R522). -/
def supplyBack (d : Dev) : Dev := bootBegin { d with pwr := { d.pwr with supplyLost := false } }

/-- The watchdog has not been serviced within PWR_WDT_TIMEOUT, counted in modes other than BOOT and STOP (R497). -/
def watchdogExpiry (d : Dev) : Dev :=
  if bitAt d 0x10000 2 && decide (d.sys.mode ≠ .boot) && decide (d.sys.mode ≠ .stop)
      && decide (d.pwr.wdtAt + 1000000 * rdN d 0x10030 ≤ nowNs d) then deviceReset (some 2) true d
  else d

/-- A reset from the debug port (R497, R509). -/
def debugReset (d : Dev) : Dev := if d.sec.lifeCycle = 1 then d else deviceReset (some 3) true d

/-- PWR_WDT (R497, R513). -/
def wdtWrite (v : Nat) (d : Dev) : Dev :=
  if v = 0xA55A then { d with pwr := { d.pwr with wdtAt := nowNs d } } else d

/-! ### Boot (R499, R500) -/

/-- The flash offset of a slot. -/
def slotBase (s : Nat) : Nat := 0x1000000 * s

/-- The header of a slot (R499). -/
def slotHeader (d : Dev) (s : Nat) : Bytes := flashRead d (slotBase s) 192

/-- Bytes of the header, the loader and the main image. -/
def slotSigned (h : Bytes) : Nat := 192 + leAt h 8 4 + leAt h 12 4

/-- Is a slot a candidate (R500 step 2)? -/
def slotCandidate (d : Dev) (s : Nat) : Bool :=
  let h := slotHeader d s
  let loader := leAt h 8 4
  let main := leAt h 12 4
  let k := leAt h 7 1
  decide (leAt h 0 4 = 0x59465752) && decide (leAt h 4 2 = 1) && zeroAt h 28 4 && zeroAt h 177 15
    && decide (loader % 64 = 0) && decide (loader ≤ 0x200000) && decide (main % 64 = 0)
    && decide (slotSigned h + 96 ≤ 0x1000000) && decide (leAt h 6 1 ≤ 63)
    && decide (k ≤ 3) && decide (Config.fwKey k ≠ []) && !Config.fwRevoked k && decide (d.sec.svn ≤ leAt h 6 1)

/-- The candidates in the order in which they are tried: by higher svn, then slot A, or B with prefer_b (R500). -/
def slotOrder (d : Dev) : List Nat :=
  let pref := if bitAt d 0x10038 1 then [1, 0] else [0, 1]
  let c := pref.filter (slotCandidate d)
  match c with
  | [a, b] => if leAt (slotHeader d a) 6 1 < leAt (slotHeader d b) 6 1 then [b, a] else [a, b]
  | _ => c

/-- The bytes that the signature of a slot covers. -/
def slotBytes (d : Dev) (s : Nat) : Bytes := flashRead d (slotBase s) (slotSigned (slotHeader d s))

/-- Does a slot authenticate: the key's digest is the fused one and the signature verifies (R499, R500 step 3)? -/
def slotAuth (d : Dev) (s : Nat) : Bool :=
  let h := slotHeader d s
  let pub := slice h 32 97
  decide (sha384 pub = sha384 (Config.fwKey (leAt h 7 1)))
    && ecdsaVerify pub (slotBytes d s) (flashRead d (slotBase s + slotSigned h) 96)

/-- The main image of a slot. -/
def slotMain (d : Dev) (s : Nat) : Bytes :=
  let h := slotHeader d s
  flashRead d (slotBase s + 192 + leAt h 8 4) (leAt h 12 4)

/-- Replaces the boot's record. -/
def putBoot (b : BootSt) (d : Dev) : Dev := { d with pwr := { d.pwr with boot := b } }

/-- The boot stops in BOOT with FAULT_N low (R47, R500). -/
def bootStop (code detail : Nat) (d : Dev) : Dev := failCode code detail (putBoot { d.pwr.boot with stopped := true } d)

/-- The next candidate that has not failed step 3; with none left the boot repeats once, then stops (R500). -/
def bootNext (d : Dev) : Dev :=
  let b := d.pwr.boot
  match (slotOrder d).find? (fun s => !b.tried.contains s) with
  | some s => putBoot { b with step := 3, slot := s, first := some (b.first.getD s) } d
  | none =>
    if b.tried.isEmpty then bootStop 2 0 d
    else if b.repeated then bootStop 3 0 d
    else failCode 3 0 (putBoot { b with waiting := true, tried := [] } d)

/-- One second after every candidate has failed the boot repeats from step 2 (R500). -/
def bootRetry (d : Dev) : Dev :=
  let b := d.pwr.boot
  if b.waiting then putBoot { b with waiting := false, repeated := true, step := 2 } d else d

/-- The entry into CONFIG at the end of the boot, with what the firmware sets up: the DRAM layout, the scan of the scene
store, the digest and the identity key (R441, R449, R484, R500, R514). -/
def bootDone (d : Dev) : Dev :=
  let b := d.pwr.boot
  let digest := sha384 (slotBytes d b.slot)
  let d := forN 12 (fun i d => wrN (0x1D0090 + 4 * i) (leAt digest (4 * i) 4) d) d
  let d := setFld 0x10038 0 0 b.slot (setFld 0x10038 13 8 (leAt (slotHeader d b.slot) 6 1) d)
  let d := { d with sec := { d.sec with runSvn := leAt (slotHeader d b.slot) 6 1 } }
  let id := if d.sec.lifeCycle = 2 then zeros 97 else p384Bytes (p384Mul 385 Config.identityKey p384G)
  let d := forN 25 (fun i d => wrN (0x1D0100 + 4 * i) (leAt id (4 * i) 4) d) d
  let d := dramLayout (dramCfgTake (sceneScan d))
  let d := if b.first ≠ some b.slot then raiseEvent evFwSlotFallback (leBytes 1 b.slot) d else d
  let d := enterMode .config 1 (qnNow d) (putBoot { b with step := 0 } { d with pwr := { d.pwr with wdtAt := nowNs d } })
  match d.pwr.wakeBoot with
  | some (causes, attempts) =>
    raiseEvent evWake (leBytes 1 causes ++ leBytes 1 attempts) { d with pwr := { d.pwr with wakeBoot := none } }
  | none => d

/-- A boot step finishes or fails (R500). -/
def bootStep (x : BootSeen) (d : Dev) : Dev :=
  let b := d.pwr.boot
  if d.sys.mode ≠ .boot ∨ b.stopped = true ∨ b.waiting = true then d else
  match b.step with
  | 1 =>
    if d.pwr.refLost then failCode 1 0 d
    else if x.supplyOk = false then failCode 7 0 d
    else
      let d := wrN 0x10010 (targetMv d 0) { d with pwr := { d.pwr with pgoodLow := false } }
      let d := wrN 0x1F0010 (x.flashId % 2 ^ 24) (wrN 0x1F0014 x.flashMib d)
      let d := forN 5 (fun i d => wrN (0x1B0108 + 0x10 * i) (x.repair.getD i 0) d) d
      putBoot { b with step := 2 } d
  | 2 => bootNext d
  | 3 =>
    if slotAuth d b.slot then
      let h := slotHeader d b.slot
      memWrite 0x1001000000 (flashRead d (slotBase b.slot + 192) (leAt h 8 4)) (putBoot { b with step := 4 } d)
    else bootNext (failCode 3 0 (putBoot { b with tried := b.tried ++ [b.slot] } d))
  | 4 => if x.dramOk then putBoot { b with step := 5 } d else bootStop 5 x.channel d
  | 5 =>
    let main := slotMain d b.slot
    if sha384 main = slice (slotHeader d b.slot) 129 48 then memWrite 0 main (putBoot { b with step := 6 } d)
    else deviceReset none true (failCode 3 0 (setFld 0x10038 1 1 (1 - b.slot) d))
  | 6 => bootDone d
  | _ => d

/-! ### Wake (R461, R484 to R486) -/

/-- A coefficient bank whose level-0 spectra, those of its first 512 taps, have been cleared with the convolution store
(R267). -/
def bankLost (b : Bank) : Bank := { b with taps := b.taps.map (fun t => List.replicate (min 512 t.length) 0 ++ t.drop 512) }

/-- What a wake does with the SRAM: groups that were not retained are cleared (R461). Groups 0 to 7 hold the delay store,
8 to 10 the convolution store, 11 and 12 the tiles, 13 shared scratch, 14 the vault. -/
def sramWake (d : Dev) : Dev :=
  let lost (g : Nat) : Bool := !d.pwr.retained.testBit g
  let memLost (a : Nat) : Bool :=
    (lost 11 && decide (0x1000000000 ≤ a) && decide (a < 0x1000800000))
      || (lost 12 && decide (0x1000800000 ≤ a) && decide (a < 0x1001000000))
      || (lost 13 && decide (0x1001000000 ≤ a) && decide (a < 0x1001600000))
      || (lost 14 && inVault a)
  let conv := lost 8 || lost 9 || lost 10
  let objLost (o : Nat) : Bool := lost (o % 64 / 8)
  { d with
    mem := d.mem.filter (fun e => !memLost e.1)
    voice := { d.voice with
      window := d.voice.window.filter (fun e => !objLost (e.1 / 16384))
      badLine := d.voice.badLine.filter (fun e => !objLost (e.1 / 1024))
      blocks := if lost 13 then [] else d.voice.blocks }
    lupin := if conv then { d.lupin with
        input := [], half := [], fetched := []
        corr := if lost 8 then d.lupin.corr.map (fun e => (e.1, { e.2 with bankA := bankLost e.2.bankA, bankB := bankLost e.2.bankB }))
          else d.lupin.corr }
      else d.lupin
    host := if lost 14 then { d.host with keys := [] } else d.host }

/-- The wake is over: the device enters CONFIG when the vault was retained, else BOOT with every register but the
always-on ones at its reset value (R34, R94, R134, R484, R511). -/
def wakeDone (d : Dev) : Dev :=
  let causes := d.pwr.causes
  let attempts := d.pwr.attempts
  let faults := d.pwr.stopFaults
  let tampers := d.pwr.stopTamper
  let config := d.pwr.retained.testBit 14
  let d := sramWake d
  let d := wrN 0x10024 (causes % 16 + 256 * attempts) d
  let status := rdN d 0x1D000C
  let d := if config then d else { resetState true d with host := { ({} : HostSt) with keys := [] } }
  let d := { d with pwr := { d.pwr with
    wake := .none, attempts := 0, causes := 0, wakeFault := false, stopFaults := [], stopTamper := [], wdtAt := nowNs d } }
  let d := if config then d else wrN 0x1D000C (status % 128) d
  let d := forL tampers (fun c d =>
    raiseEvent evVaultWiped (leBytes 1 c) (raiseEvent evTamper (leBytes 1 c) d)) d
  let d := { d with memory := { d.memory with wipes := [] } }
  let d := forL faults faultCause d
  let d := { d with sys := { d.sys with newCauses := [] } }
  if config then
    let wp := fld d 0x10000 1 0
    let d := recountQn { d with
      pwr := { d.pwr with point := wp, capPoint := wp }
      time := { d.time with qualified := false, holdover := false, goodSyncs := 0 } }
    let d := decRestart (stagingReset d)
    raiseEvent evWake (leBytes 1 causes ++ leBytes 1 attempts) (enterMode .config 3 (qnNow d) d)
  else
    let d := { d with
      sys := { d.sys with mode := .boot, cause := 3 }
      pwr := { d.pwr with wakeBoot := some (causes, attempts) } }
    bootBegin d

/-- PWR_WAKE_CAUSE takes the causes of the wake and its attempts so far (R484, R485). -/
def wakeNote (d : Dev) : Dev := wrN 0x10024 (d.pwr.causes % 16 + 256 * d.pwr.attempts) d

/-- The AVSBus write of an attempt: the voltage of PWR_CTRL.wake_point (R484, R485). -/
def wakeAttempt (d : Dev) : Dev :=
  let d := emit (.avs (targetMv d (fld d 0x10000 1 0))) d
  wakeNote { d with pwr := { d.pwr with wake := .supply, attempts := d.pwr.attempts + 1 } }

/-- The wake is recognised: it waits for REFCLK or makes its first attempt; FAULT_N stays as it is until the wake completes
(R484 to R486). -/
def wakeRecognise (d : Dev) : Dev :=
  let d := wakeNote { d with pwr := { d.pwr with attempts := 0 } }
  if d.pwr.refLost then { d with pwr := { d.pwr with wake := .refclk } } else wakeAttempt d

/-- A wake cause arrives, 0 to 3: recorded when PWR_WAKE_CFG enables it; in Stop with no wake under way it starts one; one
that comes while the device enters Stop is latched (R483 to R485). -/
def wakeCause (i : Nat) (d : Dev) : Dev :=
  let stopping := match d.sys.running with
    | some t => decide (t.target = .stop)
    | none => false
  if bitAt d 0x10020 i = false ∨ 3 < i ∨ (d.sys.mode ≠ .stop ∧ stopping = false) then d
  else
    let fresh := !d.pwr.causes.testBit i
    let d := { d with pwr := { d.pwr with causes := if fresh then d.pwr.causes + 2 ^ i else d.pwr.causes } }
    if d.sys.mode = .stop then (if d.pwr.wake = .none ∨ d.pwr.wake = .failed then wakeRecognise d else wakeNote d) else d

/-- After the entry into Stop: causes latched on the way wake the device at once (R483). -/
def stopThenWake (d : Dev) : Dev :=
  if d.sys.mode = .stop ∧ d.pwr.wake = .none ∧ d.pwr.causes ≠ 0 then wakeRecognise d else d

/-- An attempt fails: 0 V for 50 ms and another attempt, up to three retries; then the device stays in Stop with FAULT_N
low (R485). -/
def wakeFail (d : Dev) : Dev :=
  if d.pwr.wake ≠ .supply then d else
  let d := emit (.avs 0) d
  if d.pwr.attempts ≥ 4 then
    failCode 6 d.pwr.attempts { d with pwr := { d.pwr with wake := .failed, wakeFault := true, causes := 0 } }
  else { d with pwr := { d.pwr with wake := .pause } }

/-- A stage of the wake completes and the next begins (R484, R485). -/
def wakeStep (d : Dev) : Dev :=
  let stage (s : WakeStage) (d : Dev) : Dev := { d with pwr := { d.pwr with wake := s } }
  match d.pwr.wake with
  | .supply =>
    stage .plls (wrN 0x10010 (targetMv d (fld d 0x10000 1 0)) { d with pwr := { d.pwr with pgoodLow := false } })
  | .pause => wakeAttempt d
  | .plls => stage .sram d
  | .sram => stage .dram d
  | .dram => wakeDone d
  | _ => d

/-- After 1 s without REFCLK at a wake (R486). -/
def refclkAbsent (d : Dev) : Dev :=
  if d.pwr.wake = .refclk then failCode 1 0 { d with pwr := { d.pwr with wakeFault := true } } else d

/-- REFCLK qualifies; a wake that waits for it goes on (R486, R496). -/
def refclkBack (d : Dev) : Dev :=
  let d := refclkOk d
  if d.pwr.wake = .refclk then wakeAttempt d else d

/-! ### SEC (R501, R509 to R511, R514) -/

/-- A write that SEC refuses. -/
def secRefused (d : Dev) : Dev := setFlag 0x1D0000 16 d

/-- SEC_SVN_COMMIT (R501). -/
def svnCommit (v : Nat) (d : Dev) : Dev :=
  if d.sys.mode = .config ∧ v = d.sec.runSvn ∧ d.sec.svn < v then { d with sec := { d.sec with svn := v } }
  else secRefused d

/-- The bytes of SEC_UID. -/
def uidBytes : Bytes := (List.range 4).flatMap (fun i => leBytes 4 (Config.uid i).toNat)

/-- The token in SEC_LC_TOKEN (R509). -/
def lcToken (d : Dev) : Bytes := (List.range 24).flatMap (fun i => leBytes 4 (fget 0 d.sec.token i))

/-- Does the token verify under a fused and unrevoked firmware key (R509)? -/
def tokenOk (d : Dev) : Bool :=
  (List.range 4).any (fun k => !Config.fwRevoked k && ecdsaVerify (Config.fwKey k) (uidBytes ++ [2]) (lcToken d))

/-- SEC_LC_REQ: the next life-cycle state, or a refusal (R509). -/
def lcRequest (v : Nat) (d : Dev) : Dev :=
  if d.sys.mode ≠ .config then lockedWrite 0x1D0004 d
  else
    let dest := v % 4
    if (dest = 1 ∧ d.sec.fused = 0) ∨ (dest = 2 ∧ d.sec.fused = 1 ∧ tokenOk d = true) then
      let d := wipeAll 8 { d with sec := { d.sec with fused := dest } }
      raiseEvent evLcRequested (leBytes 1 dest) d
    else secRefused d

/-- SEC_STATUS as read (R514). -/
def secStatus (d : Dev) : Nat :=
  let w := setBits (setBits (rdN d 0x1D0000) 1 0 d.sec.lifeCycle) 2 2 (b2n (decide (d.sec.fused ≠ d.sec.lifeCycle)))
  let w := forN 4 (fun k w => setBits w (4 + k) (4 + k) (b2n (Config.fwRevoked k))) w
  setBits w 8 8 (b2n (decide (Config.sceneKey.length = 97)))

/-- Is the source of a tamper cause, 1 to 7, active (R510)? -/
def tamperActive (d : Dev) (cause : Nat) : Bool :=
  if cause ≤ 4 then
    let i := cause - 1
    bitAt d 0x1D0008 i && (d.sec.levels.testBit i == bitAt d 0x1D0008 (4 + i))
  else d.sec.detectors.testBit (cause - 5)

/-- Does a cause act in the present mode: inputs and temperature always, voltage and clock in Run (R510)? -/
def tamperActs (d : Dev) (cause : Nat) : Bool :=
  decide (1 ≤ cause) && decide (cause ≤ 7)
    && (if cause ≤ 4 then bitAt d 0x1D0008 (cause - 1) else true)
    && !((cause = 5 || cause = 6) && decide (d.sys.mode = .stop))

/-- A tamper source acts: the vault is wiped, sessions close, the cause's bit is set and the fault recorded. `levels` are
the levels of TAMPER[3:0] and `detectors` the detectors that act now; cause 0 names none (R510, R511). -/
def tamper (cause levels detectors : Nat) (d : Dev) : Dev :=
  let d := { d with sec := { d.sec with levels := levels % 16, detectors := detectors % 8 } }
  if tamperActs d cause = false then d else
  let d := setFlag 0x1D000C (cause - 1) (wipeAll cause d)
  let d := if cause = 5 then transAdvance (drvLow d) else d
  if d.sys.mode = .stop then
    { d with pwr := { d.pwr with stopTamper := d.pwr.stopTamper ++ [cause], stopFaults := d.pwr.stopFaults ++ [0xE] } }
  else faultCause 0xE (raiseEvent evTamper (leBytes 1 cause) d)

/-- SEC_TAMPER_STATUS: a bit whose source is still active is set again; fault_tamper follows (R35, R511). -/
def tamperClear (v : Nat) (d : Dev) : Dev :=
  let d := forN 7 (fun b d => if v.testBit b && !tamperActive d (b + 1) then clrFlag 0x1D000C b d else d) d
  putFlag 0x230 6 (decide (fld d 0x1D000C 6 0 ≠ 0)) d

/-- SEC_TAMPER_STATUS as read. -/
def tamperStatus (d : Dev) : Nat := setBits (rdN d 0x1D000C) 11 8 d.sec.levels

end Sys2Proof.Machine
end

