-- ==== Sys2Proof/Machine/Swap.lean ====
section
/-!
DEFINITION. Plan swaps: PLAN_SWAP, the swap record, code banks, the start, the switch and the completion of a swap
(R153, R157, R172 to R178, R243).
-/

namespace Sys2Proof.Machine

/-! ### Code and data banks (R242, R243) -/

/-- A write with good check bits clears the uncorrectable words of a range of a tile (R241). -/
def wordsGood (c lo n : Nat) (d : Dev) : Dev :=
  let a := acore d c
  putCore c { a with badWord := a.badWord.filter (fun e => !(decide (lo / 8 ≤ e.1) && decide (e.1 < (lo + n) / 8))) } d

/-- Writes a plan into the code bank and the plan data bank named, of every core (R243). -/
def bankWrite (p : Plan) (bankB : Bool) (d : Dev) : Dev :=
  let size := leAt p.code 0 4
  let code := slice p.code 16 size
  let codeAt := if bankB then 0x24000 else 0x4000
  let dataAt := if bankB then 0x74000 else 0x44000
  let table := ((List.range 512).map (fun j => leBytes 4 (planTask p j).entry)).flatten
  forN 16 (fun c d =>
    let d := memWrite (tileAddr c codeAt) code (wordsGood c codeAt size d)
    let d := memClear (tileAddr c dataAt) 196608 (wordsGood c dataAt 196608 d)
    let d := memWrite (tileAddr c dataAt) table d
    forL (codeDataBlocks p.code) (fun b d =>
      if (leAt b 0 2).testBit c then memWrite (tileAddr c (dataAt + leAt b 4 4)) (slice b 16 (leAt b 8 4)) d else d) d) d

/-- The bank that the active plan does not use; with no active plan, bank A (DESIGN CHOICE). -/
def freeBank (d : Dev) : Bool := if d.plan.active.isSome then !d.aster.bankB else false

/-- The plan that an index holds. -/
def heldPlan (d : Dev) (i : Nat) : Option Plan := (fget? d.plan.held i).map parsePlan

/-- The write of a plan into the free banks starts; none runs while a swap holds them (R243). -/
def bankStart (plan : Nat) (d : Dev) : Dev :=
  { d with aster := { d.aster with writing := some plan, side1 := false } }

/-- The write of a plan into the free banks ends: side 1 is loaded and the swap's bank is ready (R217, R243). -/
def bankWritten (d : Dev) : Dev :=
  match d.aster.writing, d.plan.running with
  | some i, none =>
    let d := match heldPlan d i with
      | some p => bankWrite p (freeBank d) d
      | none => d
    let pend := d.plan.pending.map (fun r => if r.plan = i then { r with banksReady := true } else r)
    { d with
      aster := { d.aster with writing := none, side1 := true }
      plan := { d.plan with pending := pend } }
  | _, _ => d

/-! ### Objects and voices at a swap (R173, R177) -/

/-- Moves whose slot a plan does not have end: p becomes q (R177). -/
def moveCut (slots : Nat) (x : Obj) : Obj :=
  match x.move with
  | .slot k _ tx ty tz => if slots ≤ k then { x with px := tx, py := ty, pz := tz, move := .none } else x
  | _ => x

/-- The objects at the apply QN of a swap: those of both plans stay, new ones start from their record, leaving ones
stay until the crossfade ends (R177). -/
def swapObjects (new : Plan) (q : Nat) (d : Dev) : Dev :=
  forN 1024 (fun o d =>
    let r := planObj new o
    let x := obj d o
    if r.flags.testBit 0 = false then (if x.inPlan then putObj o (moveCut new.moveSlots x) d else d)
    else if x.inPlan = false then putObj o (objFromRec q r) d
    else
      let x := moveCut new.moveSlots { x with live := r.flags.testBit 1, baseAuto := r.flags.testBit 2 }
      putObj o (if r.flags.testBit 3 then { x with gain := r.gain, law := r.law, priority := r.priority } else x) d) d

/-- Objects that the plan does not hold leave with their held records (R177). -/
def leaveObjects (new : Plan) (d : Dev) : Dev :=
  forN 1024 (fun o d =>
    if (obj d o).inPlan && !(planObj new o).flags.testBit 0 then putObj o {} d else d) d

/-- The objects start from their records; pending records stay (R137, R177, R379). -/
def resetObjects (p : Plan) (q : Nat) (d : Dev) : Dev :=
  forN 1024 (fun o d =>
    let r := planObj p o
    let x := obj d o
    if r.flags.testBit 0 then putObj o { objFromRec q r with recs := x.recs, lastSeq := x.lastSeq } d
    else if x.inPlan then putObj o {} d else d) d

/-- The matched voices of two plans (R173), as this device runs them. -/
def matchedCount (d : Dev) (old new : Plan) : Nat := ((runVoices d new).filter (matchedIn old)).length

/-- Unmatched voices of the incoming plan start from the initialised state, and every reflection voice from its first
evaluation in that plan (R121, R153, R173). -/
def initUnmatched (old new : Plan) (q : Nat) (d : Dev) : Dev :=
  let keys := ((runVoices d new).filter (fun v => !matchedIn old v)).map voiceKey
  turnAdd (some old) new q { d with
    geom := { d.geom with refl := [], posted := keys.foldl ferase d.geom.posted } }

/-- The voice states that a plan does not hold are released (R177). -/
def releaseStates (p : Plan) (d : Dev) : Dev :=
  let keys := (runVoices d p).foldl (fun m v => fput false m (voiceKey v) true) ([] : FMap Bool)
  let keep {α : Type} (m : FMap α) : FMap α := m.filter (fun e => fget false keys e.1)
  { d with
    voice := { d.voice with outStates := [] }
    geom := { d.geom with refl := keep d.geom.refl, posted := keep d.geom.posted, frozenPost := [] } }

/-! ### Activation of a plan -/

/-- A plan's outputs at its activation with a crossfade of X samples: correction allotments and their banks (R273). -/
def swapOutputsOf (p : Plan) (q xfade : Nat) (d : Dev) : Dev :=
  forN 512 (fun j d =>
    if rendersOut d p j then
      let d := if paramTaps (planParam p j) = (corr d j).tapUnits then d else designAbandon j d
      corrPlanSwap q xfade p j d
    else d) d

/-- The incoming plan of a swap becomes the active one (R157, R175, R176). -/
def takeOver (p : Plan) (q xfade : Nat) (d : Dev) : Dev :=
  let old := d.plan.active
  let gains := gainTable d
  let isNew := (List.range 1024).filter (fun o => (planObj p o).flags.testBit 0 && (match old with
    | some a => !(planObj a o).flags.testBit 0
    | none => true))
  let d := { d with plan := { d.plan with active := some p, activeQn := q }, voice := { d.voice with shedDue := some false } }
  let d := swapOutputsOf p q xfade d
  let d := routeTake old gains p xfade (lupinFigures p d)
  { d with geom := { d.geom with baseDue := isNew.foldl (fun m o => fput false m o true) d.geom.baseDue } }

/-- A plan takes effect in CONFIG at once: its banks are written, its objects and voices start from their initial state
(R137, R140, R157, R172, R243). PLAN_MATCHED reads 0 after it, since no voice was matched: the model's choice (log 114). -/
def planActivate (p : Plan) (q : Nat) (d : Dev) : Dev :=
  let bank := freeBank d
  let d := bankWrite p bank d
  let d := { d with
    aster := { d.aster with bankB := bank, side1 := false, writing := none }
    plan := { d.plan with active := none, running := none, outgoing := none, lastSequential := false }
    voice := { d.voice with outStates := [], turns := [], shedDn := [] }
    geom := { d.geom with refl := [], posted := [], frozenPost := [], refillDue := [], fresh := true } }
  let d := wrN 0x80034 0 (airInit q (resetObjects p q (gainsCancel q d)))
  let d := shedCompute p q false (takeOver p q 0 d)
  let vs := runVoices d p
  let d := forN 1024 (fun o d => if (obj d o).inPlan then assignBase p q vs o d else d) d
  { d with geom := { d.geom with baseDue := [], seen := d.geom.objs } }

/-! ### The swap record (R178) -/

/-- The 16 bytes of a swap record. -/
def swapRecord (r : SwapReq) : Bytes :=
  beBytes 2 0x0050 ++ beBytes 2 r.seq ++ beBytes 5 r.applyQn ++ beBytes 1 r.plan ++ beBytes 2 r.xfade ++ zeros 4

/-- A central device multicasts a swap record in its control stream (R178). -/
def swapTell (r : SwapReq) (d : Dev) : Dev :=
  if role d = 1 then multicast 6 51231 (controlHead d ++ swapRecord r) d else d

/-- The swap whose record goes with each domain frame: the held, the pending or the running one, newest last (R178). -/
def swapResend (d : Dev) : Dev :=
  let d := match d.plan.running with
    | some r => swapTell ⟨r.incoming.index, r.applyQn, r.xfade, none, r.seq, true⟩ d
    | none => d
  let d := match d.plan.pending with
    | some r => swapTell r d
    | none => d
  match d.plan.heldSwap with
  | some r => swapTell r d
  | none => d

/-! ### Scheduling (R172, R177) -/

/-- The lead of a swap begins: its plan is written into the free bank, and Lupin loads the correction banks of the outputs
whose allotment it changes (R243, R273). -/
def leadStart (plan : Nat) (d : Dev) : Dev :=
  let d := bankStart plan (corrPlanDrop d)
  match heldPlan d plan with
  | some p => forN 512 (fun j d => if rendersOut d p j then corrPlanAhead p j d else d) d
  | none => d

/-- A swap is scheduled: it replaces one that waits, and is held while one is in progress (R177). -/
def swapSchedule (r : SwapReq) (d : Dev) : Dev :=
  if d.plan.running.isSome then
    let d := match d.plan.heldSwap with
      | some h => completeOpt h.cid cSuperseded 0 d
      | none => d
    { d with plan := { d.plan with heldSwap := some r } }
  else
    let d := match d.plan.pending with
      | some h => completeOpt h.cid cSuperseded 0 d
      | none => d
    leadStart r.plan { d with plan := { d.plan with pending := some r } }

/-- PLAN_SWAP in CONFIG takes effect at once (R172). -/
def planSwapNow (cid plan : Nat) (d : Dev) : Dev :=
  let q := qnNow d
  match heldPlan d plan with
  | some p =>
    if swapFits d p d.pwr.capPoint then
      let d := match d.plan.pending with
        | some h => completeOpt h.cid cSuperseded 0 d
        | none => d
      let d := match d.plan.heldSwap with
        | some h => completeOpt h.cid cSuperseded 0 d
        | none => d
      complete cid cDone 0 q (corrPlanDrop (planActivate p q { d with plan := { d.plan with pending := none, heldSwap := none } }))
    else complete cid cNoResource 0 0 (setFlag 0x60004 12 d)
  | none => complete cid cRange 0 0 d

/-- The modes in which PLAN_SWAP is refused (R172). -/
def swapRefused (d : Dev) : Bool :=
  match d.sys.mode with
  | .boot | .mirror | .survey | .stop | .edge => true
  | _ => false

/-- PLAN_SWAP (R172). `a` is its apply QN, none when that breaks its rules; `atOnce` says that it takes effect at once,
as it does in CONFIG. -/
def planSwap (cid plan xfade : Nat) (a : Option Nat) (atOnce : Bool) (d : Dev) : Dev :=
  if swapRefused d then complete cid cState 0 0 d
  else if (fget? d.plan.held plan).isNone ∨ xfade % 32 ≠ 0 ∨ xfade < 32 ∨ 1024 < xfade then complete cid cRange 0 0 d
  else if d.plan.active.any (fun p => decide (p.index = plan)) ∧ d.plan.pending.isNone ∧ d.plan.heldSwap.isNone then complete cid cDone 0 0 d
  else if atOnce then planSwapNow cid plan d
  else match a with
    | none => complete cid cRange 0 0 d
    | some q =>
      let r : SwapReq := ⟨plan, q, xfade, some cid, d.plan.swapSeq, false⟩
      let d := { d with plan := { d.plan with swapSeq := (d.plan.swapSeq + 1) % 65536 } }
      swapTell r (swapSchedule r d)

/-- An edge device takes a swap record: newer than the last applied, naming a plan that it holds; one that is late is
applied at the next activation (R178). -/
def swapRecordReceive (b : Bytes) (d : Dev) : Dev :=
  let seq := beAt b 2 2
  let newer := match d.plan.lastSwapSeq with
    | some r => seqNewer 16 seq r
    | none => true
  if role d ≠ 2 ∨ newer = false ∨ beAt b 0 2 ≠ 0x0050 ∨ (fget? d.plan.held (beAt b 9 1)).isNone then d else
  let a := beAt b 4 5
  let d := { d with plan := { d.plan with lastSwapSeq := some seq } }
  let d := if a < d.geom.nextAct then raiseEvent evPlanSwapLate [] (setFlag 0x80004 26 d) else d
  swapSchedule ⟨beAt b 9 1, a, beAt b 10 2, none, seq, false⟩ d

/-! ### The swap itself (R174 to R177) -/

/-- Does an overlap swap fit (R174)? `d` has the priorities of the incoming plan's walk at quantum A (R156). -/
def overlapFits (d : Dev) (old new : Plan) : Bool :=
  let pt := d.pwr.capPoint
  let shed := shedSet d new pt
  let inVs := (runVoices d new).filter (fun v => !(v.kind = 2 && shed.contains (v.source, v.reflector)))
  let outOnly := (runVoices d old).filter (fun v =>
    !matchedIn new v && !(v.kind = 2 && unitSettled d v.source v.reflector))
  let cycles := new.asterLoad + (((List.range 512).filter (fun j => rendersOut d old j && chainDiffers old new j)).map
    (fun j => (planTask old j).cycles)).sum
  decide (inVs.length + outOnly.length ≤ voicePool d pt)
  && decide (new.matchPeak + old.matchPeak ≤ 16384)
  && decide (cycles * 100 * fsHz d ≤ 95 * 16 * 32 * pointHz d pt)

/-- The swap starts at quantum q: kind, values in force, objects; an overlap swap activates its plan now (R174 to
R177). In SAFE it has no crossfade. -/
def swapStart (q : Nat) (r : SwapReq) (d : Dev) : Dev :=
  let d := { d with plan := { d.plan with pending := none } }
  match heldPlan d r.plan, d.plan.active with
  | some p, some old =>
    if swapFits d p d.pwr.capPoint = false then completeOpt r.cid cNoResource 0 (setFlag 0x60004 12 (corrPlanDrop d))
    else
      let xq := if d.sys.mode = .safe then 0 else r.xfade / 32
      let seq := decide (xq ≠ 0) && !overlapFits (recordsAt q (swapObjects p q d)) old p
      let run : SwapRun := ⟨p, q, xq, seq, false, r.cid, r.xfade, r.seq⟩
      let d := { d with
        plan := { d.plan with running := some run, outgoing := some old, lastSequential := seq }
        geom := { d.geom with frozenPost := d.geom.posted } }
      let d := gainsCancel q (swapObjects p q (wrN 0x80034 (matchedCount d old p) d))
      if seq then d
      else takeOver p q (32 * xq) (initUnmatched old p q d)
  | some p, none => completeOpt r.cid cDone q (planActivate p q d)
  | none, _ => completeOpt r.cid cRange 0 (corrPlanDrop d)

/-- What the end of the overlap, or the switch of a sequential swap, does: sides change, objects leave (R175 to R177,
R217). In a sequential swap the leaving objects' held records go at the switch at A + Xq, the end of the crossfade of their own
plan, and not at the end of the incoming fade at A + 2Xq: the model's choice (log 114). -/
def swapTurn (q : Nat) (r : SwapRun) (d : Dev) : Dev :=
  let d := { d with aster := { d.aster with bankB := !d.aster.bankB, side1 := false } }
  let d := leaveObjects r.incoming d
  if r.sequential then
    let d := { d with
      plan := { d.plan with running := some { r with switched := true } }
      geom := { d.geom with posted := [], frozenPost := [], refl := [] } }
    takeOver r.incoming q (32 * r.xq) (turnAdd none r.incoming q d)
  else d

/-- The swap at the activation of quantum q: a swap whose bank is not written moves on (R243); else it starts, and
turns when its quantum comes. -/
def swapAt (q : Nat) (d : Dev) : Dev :=
  let d := match d.plan.pending, d.plan.running with
    | some r, none =>
      if q < r.applyQn then d
      else if r.banksReady then swapStart q r d
      else { d with plan := { d.plan with pending := some { r with applyQn := q + 1 } } }
    | _, _ => d
  match d.plan.running with
  | some r => if q = r.applyQn + r.xq then swapTurn q r d else d
  | none => d

/-- A swap in CONFIG whose apply QN starts takes effect with no crossfade. -/
def swapInConfig (q : Nat) (d : Dev) : Dev :=
  match d.plan.pending with
  | some r =>
    if q < r.applyQn then d else
    let d := { d with plan := { d.plan with pending := none } }
    match heldPlan d r.plan with
    | some p =>
      if swapFits d p d.pwr.capPoint then completeOpt r.cid cDone q (planActivate p q d)
      else completeOpt r.cid cNoResource 0 (setFlag 0x60004 12 (corrPlanDrop d))
    | none => completeOpt r.cid cRange 0 (corrPlanDrop d)
  | none => d

/-- The completion of a swap at the start of a quantum: its command, the outgoing states, the bank and a held swap
(R177, R243). -/
def swapCompleteAt (q : Nat) (d : Dev) : Dev :=
  match d.plan.running with
  | none => d
  | some r =>
    if q < r.applyQn + (if r.sequential then 2 * r.xq else r.xq) + 2 then d else
    let d := if r.sequential && !r.switched then planActivate r.incoming q d else d
    let d := releaseStates r.incoming d
    let d := { d with plan := { d.plan with running := none, outgoing := none } }
    let d := completeOpt r.cid cDone (r.applyQn + 2 ^ 40 * b2n r.sequential) d
    match d.plan.heldSwap with
    | some h =>
      let h := { h with applyQn := max h.applyQn (q + 1) }
      leadStart h.plan { d with plan := { d.plan with heldSwap := none, pending := some h } }
    | none => d

end Sys2Proof.Machine
end

