-- ==== Sys2Proof/Machine/Activate.lean ====
section
/-!
DEFINITION. The quanta of the render: activation, posting, window fills, voice groups, routing periods and departure
(R96 to R107, R112, R123, R130 to R152, R180, R189 to R191, R210, R262).
-/

namespace Sys2Proof.Machine

/-! ### Activation (R189, R191) -/

/-- The base delays of the objects that a test selects are assigned at this activation (R137). -/
def basesDue (sel : Nat → Bool) (d : Dev) : Dev :=
  { d with geom := { d.geom with
    baseDue := ((List.range 1024).filter sel).foldl (fun m o => fput false m o true) d.geom.baseDue } }

/-- The render starts from its initial state at the first quantum after CONFIG, with empty delay-store windows, so that two
devices of whatever history render alike from there (R37, R262, R379, R381; log 40). -/
def renderInit (q : Nat) (d : Dev) : Dev :=
  match d.plan.active with
  | none => d
  | some p =>
    let n := fadeN d
    let d := lupinReset d
    let lost := (List.range 512).foldl (fun m j => if fget false d.geom.lost j then fput 0 m j n else m) ([] : FMap Nat)
    let d := { d with
      voice := { d.voice with
        outStates := [], turns := [], blocks := [], filled := q, window := [], badLine := [], badRaised := [], shedDue := some false }
      geom := { d.geom with
        refl := [], posted := [], frozenPost := [], toPost := [], fading := [], phiDn := lost, fresh := false, refillDue := [] }
      net := { d.net with departFirst := q, departNext := q } }
    let d := memClear 0xD4000000 (32 * 2 ^ 20) (memClear 0x1001000000 262144 (resetObjects p q d))
    basesDue (fun o => (obj d o).inPlan) d

/-- The records, the conditioning and the fades of the objects at quantum q (R96 to R107, R114, R139). -/
def objectsStep (q : Nat) (d : Dev) : Dev :=
  let each (f : Nat → Dev → Dev) (d : Dev) : Dev := forN 1024 (fun o d => if (obj d o).inPlan then f o d else d) d
  let d := each (fun o d => rebaseZero o (rebaseStart o (moveCheck q o (freezeCheck q o (metaApplyDue 8 q o d))))) d
  let d := each (moveOrStep q) d
  each (fun o d => rebaseFade o (fadesStep q o d)) d

/-- φ moves one step; the outputs whose φ moves are in an availability fade (R123, R368). -/
def phiAt (q : Nat) (d : Dev) : Dev :=
  let before := d.geom.phiDn
  let d := phiStep d
  forN 512 (fun j d =>
    let moved := decide (fget 0 before j ≠ phiDn d j)
    { d with geom := { d.geom with fading := fput false d.geom.fading (8 * j + q % 8) moved } }) d

/-- The changes of air and of the mask that the start of quantum q brings (R112, R123). -/
def geomChanges (q : Nat) (d : Dev) : Dev := availAt q (airAt q d)

/-- The evaluation and posting of quantum q by the geometry unit (R112, R119, R121, R139, R151, R157). -/
def geomStep (q : Nat) (d : Dev) : Dev :=
  let d := slewStep q d
  let d := { d with geom := { d.geom with kHist := fput 0 d.geom.kHist (q % 8) d.geom.k } }
  let d := phiAt q (objectsStep q d)
  match evalPlan d with
  | none => d
  | some p =>
    let vs := allVoices p
    let d := forL vs (reflStep p q) (shedStep p q d)
    let d := clampClear (refills p q (basesStep p q d))
    isolatedStep p vs (postQuantum q d)

/-- The activation of the next quantum, once it has started: it waits while too few entries are free (R189, R191). The
last quantum that is rendered is 2⁴⁰ − 4 (R56). -/
def activate (d : Dev) : Dev :=
  let q := d.geom.nextAct
  if renderRuns d = false ∨ d.time.counting = false ∨ d.time.qn < q ∨ 2 ^ 40 - 4 < q then d else
  let d0 := if d.geom.fresh then renderInit q d else d
  let d1 := swapAt q (geomChanges q d0)
  if matchFits d1 q = false then matchWait q d else
  let d := geomStep q (allocQuantum q (matchProceed d1))
  { d with geom := { d.geom with nextAct := q + 1, seen := d.geom.objs } }

/-! ### Operand blocks (R151, R152) -/

/-- Does the buffer have room for the next block? -/
def postRoom (d : Dev) : Bool :=
  match d.geom.toPost with
  | x :: _ => (blockPlace d x.2.2.2.length).isSome
  | [] => true

/-- The geometry unit writes the next group's block and posts its operand, when the buffer has room. -/
def operandPost (d : Dev) : Dev :=
  match d.geom.toPost with
  | [] => d
  | (q, side, g, ops) :: rest =>
    match blockPlace d ops.length with
    | none => d
    | some a =>
    let d := { d with
      geom := { d.geom with toPost := rest }
      voice := { d.voice with
        blocks := fins d.voice.blocks ((q * 2 + side) * 4096 + g) ⟨a, ops.map (fun x => x.tag)⟩ } }
    let d := memWrite (opAddr a) (ops.flatMap opBytes) d
    postTo (fun e => decide (e.kind = 1) && decide (e.side = side) && decide (e.qn = q) && decide (e.ref = g)) d

/-! ### Window fills (R135, R373, R388) -/

/-- The plan record under which an object is filled for quantum q: the incoming plan's, else the outgoing one's. -/
def fillRec (d : Dev) (q o : Nat) : ObjRec :=
  let ofSide (s : Nat) : Option ObjRec := ((planAt d s q).map (fun p => planObj p o)).filter (fun r => r.flags.testBit 0)
  ((ofSide 1).orElse (fun _ => ofSide 0)).getD {}

/-- The mask that this device holds of an object's positions of quantum q (R388). -/
def ownPresence (d : Dev) (q o : Nat) : Nat :=
  let b := fillBase d q o
  if (obj d o).inPlan = false then 2 ^ 32 - 1
  else (List.range 32).foldl (fun m k =>
    if (stagingAt d o (((32 * q + k : Nat) : Int) - (b : Int))).isSome then m + 2 ^ k else m) 0

/-- The mask from which the fill of quantum q takes an object's data: on a formed pair what both devices have named in their
PRESENCE, on a joiner what the partner has (R388, R405). -/
def fillMask (d : Dev) (q o : Nat) : Nat :=
  let key := 1024 * (q % 8) + o
  if (d.pair.state = 2 ∨ d.pair.join.any (fun x => x.joiner) = true) ∧ fget false d.pair.presWhole q = true then
    let own := if d.pair.state = 2 ∧ fget false d.pair.presSent q = true then fget 0 d.pair.presOwn key else 2 ^ 32 - 1
    own &&& fget 0 d.pair.presMasks key
  else 2 ^ 32 - 1

/-- The presence masks of a fill go into the check of inputs (R398). -/
def presenceLog (q : Nat) (d : Dev) : Dev :=
  if mirrorsInputs d then
    let bs := ((List.range 1024).map (fun o => leBytes 4 (ownPresence d q o &&& fillMask d q o))).flatten
    mirrorLog q bs d
  else d

/-- The refills due at the staging task of quantum q (R139). -/
def refillAll (q : Nat) (d : Dev) : Dev :=
  let due := (d.geom.refillDue.filter (fun e => decide (e.2.1 ≤ q))).map (fun e => e.1)
  forL due (refillWindow q)
    { d with geom := { d.geom with refillDue := d.geom.refillDue.filter (fun e => decide (q < e.2.1)) } }

/-- The staging unit has filled the windows of a quantum and posts (R135, R152). A second fill of the quantum, of the
other side, only posts. -/
def windowFill (d : Dev) : Dev :=
  match (entries d).find? (fun x => decide (x.2.kind = 0) && decide (x.2.state = 3)) with
  | none => d
  | some (place, e) =>
    let q := e.qn
    let d := if d.voice.filled ≤ q then
        let d := presenceLog q (streamTimeouts q (refillAll q (turnsAt q d)))
        let d := fillAll (hasRxCtx d) (fillRec d q) (fun o k => (fillMask d q o).testBit k) q d
        { d with voice := { d.voice with filled := q + 1 } }
      else d
    let d := freeEntry place e (unitByte 0 0) { d with disp := { d.disp with stagingBusy := false } }
    fillPosts e.side q d

/-! ### Voice groups (R146, R152, R158) -/

/-- Lines of the delay store that have gone bad: object and line of 16 positions (R133). -/
def markBad (bad : List (Nat × Nat)) (d : Dev) : Dev :=
  forL bad (fun x d => { d with voice := { d.voice with
    badLine := fput false d.voice.badLine (1024 * (x.1 % 1024) + x.2 % 1024) true } }) d

/-- The task of Peony engine i finishes: its voices, its write-back, its posts. `bad` are lines whose errors the reads
meet for the first time, `ce` is how many single-bit errors they correct. The cycles that crossbar stalls took are an open value
(R132, R133, R146). -/
def voiceGroupDone (i : Nat) (bad : List (Nat × Nat)) (ce : Nat) (d : Dev) : Dev :=
  let place := fget 0 d.disp.peony i - 1
  match (if fget 0 d.disp.peony i = 0 then none else matchAt d place) with
  | none => d
  | some e =>
    let q := e.qn
    let g := match planAt d e.side q with
      | some p => groupOf p e.ref
      | none => {}
    let key := (q * 2 + e.side) * 4096 + e.ref
    let ops := blockOps d (fget {} d.voice.blocks key)
    let d := forN ce (fun _ => sramCe 0) (markBad bad d)
    let d := if d.sys.mode = .survey then d else
      forL (List.zip g.voices ops).zipIdx (fun x => laneVoice q (g.stateBase + x.2) x.1.1 x.1.2) d
    let stall := takeFree (2 ^ 32) d
    let d := addCnt 0x60030 stall.1 stall.2
    let d := { d with
      voice := { d.voice with blocks := ferase d.voice.blocks key }
      disp := { d.disp with peony := fput 0 d.disp.peony i 0 } }
    spanEnd q (lastVoiceGroup q (groupPosts e.side q g.outs (freeEntry place e (unitByte 1 i) d)))

/-! ### Routing periods (R180, R183, R306, R330) -/

/-- One domain sample of everything that runs on the media clock: the routing program, then serial ports, listen port
and direct drive take its results; then the next sample of the quantum is up (R180, R306, R336). -/
def mediaSample (d : Dev) : Dev :=
  match d.sys.mode with
  | .boot | .stop => d
  | _ =>
    let k := d.route.sample
    let d := driveSample (listenSample (aportSample (lowKeep k (talkbackSample k (routePeriod (micStep d))))))
    { d with route := { d.route with sample := (k + 1) % 32 } }

/-! ### Departure (R36, R37, R210, R262, R263, R368) -/

/-- The apply QN of a transition that waits and ramps the outputs down (R36). -/
def rampDownQn (d : Dev) : Option Nat :=
  match d.sys.sched with
  | some t => if rendering d && !isRender t.target then some t.applyQn else none
  | none => none

/-- Is sample k of what departs at quantum n in a pre-roll or a mode ramp, one that a waiting transition begins by then
included? -/
def rampUnsettled (d : Dev) (n k : Nat) : Bool :=
  let i := rampIdx d n k
  let pre := match d.sys.running with
    | some t => decide (t.phase = .preroll) || decide (t.phase = .cmRampUp)
    | none => false
  match rampDownQn d with
  | some a =>
    if a ≤ n then decide (32 * (n - a) + k < rampIdx d a 0)
    else pre || (if d.sys.rampUp then decide (i < rampLen d) else decide (0 < i))
  | none => pre || (if d.sys.rampUp then decide (i < rampLen d) else decide (0 < i))

/-- The unsettled mask of output j for quantum q, which departs at the start of q + 3 (R10, R368). -/
def unsettledMask (d : Dev) (j q : Nat) : Nat :=
  if fget false d.geom.fading (8 * j + q % 8) then 2 ^ 32 - 1
  else (List.range 32).foldl (fun m k => if rampUnsettled d (q + 3) k then m + 2 ^ k else m) 0

/-- The plan under which output j departs for quantum q: the incoming one when it renders j. -/
def departPlan (d : Dev) (j q : Nat) : Option Plan :=
  ((planAt d 1 q).filter (fun p => rendersOut d p j)).orElse (fun _ =>
    (planAt d 0 q).filter (fun p => rendersOut d p j))

/-- The departure of output j for quantum q: its block with the output ramp, to its sink (R210, R262). -/
def departOutput (q j : Nat) (d : Dev) : Dev :=
  match departPlan d j q with
  | none => d
  | some p =>
    let r := departBlock p j q d
    let d := r.2
    let n := d.time.qn
    let ys := r.1.zipIdx.map (fun e => rndEven (e.1 * outGain d n e.2) 31)
    let net := decide ((planTask p j).sink = 0)
    let sup := fget false d.disp.suppressed q
    let d := if net then netDepart j q ys (unsettledMask d j q) d else d
    let d := { d with route := { d.route with
      departUnset := if net then d.route.departUnset
        else fput 0 d.route.departUnset j (if sup then 2 ^ 32 - 1 else unsettledMask d j q)
      departing := ys.zipIdx.foldl (fun m e => fput 0 m (32 * j + e.2) (if sup && !net then 0 else e.1)) d.route.departing } }
    drvNoSink p j (netUnbound p j d)

/-- Departure at the start of a quantum n sends quantum n − 3, once. -/
def departure (d : Dev) : Dev :=
  let n := d.time.qn
  if renderRuns d = false ∨ d.geom.fresh = true ∨ d.time.counting = false ∨ n < d.net.departFirst + 3
    ∨ d.route.departQn = n + 1 then d else
  let d := { d with
    net := { d.net with departNext := n - 2 }
    route := { d.route with departQn := n + 1, departing := [], departUnset := [] }
    disp := { d.disp with suppressed := d.disp.suppressed.filter (fun e => n ≤ e.1 + 64) } }
  forN 512 (departOutput (n - 3)) d

end Sys2Proof.Machine
end

