-- ==== Sys2Proof/Machine/Bundle.lean ====
section
/-!
DEFINITION. The encoding of Aster bundles (R218 to R222): the bundle that a 64-bit word spells.
-/

namespace Sys2Proof.Machine

/-- A sub-operation of the load/store slot (R219); none: ILLEGAL. A sub-operation with no operation uses no field. -/
def decodeLs (w : Nat) : Option Ls :=
  let go (k : LsKind) (vec : Bool) : Option Ls :=
    if vec && w.testBit 4 then none else some ⟨k, bits w 10 9, bits w 8 5, bits w 4 0⟩
  match bits w 13 11 with
  | 0 => some {}
  | 1 => go .ldV true
  | 2 => go .stV true
  | 3 => go .ldW false
  | 4 => go .stW false
  | 5 => go .ldB true
  | _ => none

/-- The MAC slot (R220); none: ILLEGAL. -/
def decodeMac (w : Nat) : Option Mac :=
  let go (k : MacKind) : Option Mac := some ⟨k, bits w 10 8, bits w 7 4, bits w 3 0⟩
  match bits w 15 11 with
  | 0x00 => if bits w 10 0 = 0 then some {} else none
  | 0x01 => go .vmul
  | 0x02 => go .vmac
  | 0x03 => go .vmsu
  | 0x04 => go .vmacb
  | 0x05 => go .vdot
  | 0x06 => go .vdota
  | 0x07 => go .vclr
  | 0x08 => go .vlda
  | 0x09 => go .vext
  | 0x0A => go .vextT
  | 0x0B => go .vext1
  | 0x0C => go .vext1T
  | 0x0D => go .vrda
  | 0x0E => go .vwra
  | 0x0F => go .vmaxIdx
  | 0x10 => go .vminIdx
  | 0x11 => go .vmaxaIdx
  | _ => none

/-- The short ALU slot (R221); none: ILLEGAL. A nonzero field that an operation does not use is ILLEGAL. -/
def decodeShort (w : Nat) : Option Alu :=
  let rd := bits w 11 7
  let ra := bits w 6 2
  let x := bits w 1 0
  let two (k : AluKind) : Option Alu := if x = 0 then some ⟨k, rd, ra, 0, 0⟩ else none
  match bits w 17 12 with
  | 0x00 => if bits w 11 0 = 0 then some {} else none
  | 0x01 => two .mov
  | 0x02 => two .add
  | 0x03 => two .sub
  | 0x04 => two .adds
  | 0x05 => two .and
  | 0x06 => two .or
  | 0x07 => two .xor
  | 0x08 => two .sll
  | 0x09 => two .srl
  | 0x0A => two .sra
  | 0x0B => two .min
  | 0x0C => two .max
  | 0x0D => two .mul
  | 0x0E => two .movp
  | 0x0F => two .movm
  | 0x10 => two .rdp
  | 0x11 => two .rdm
  | 0x12 => some ⟨.vlane, rd, ra, x, 0⟩
  | 0x13 => some ⟨.vins, rd, ra, x, 0⟩
  | 0x14 => two .vsplat
  | 0x15 => two .vadds
  | 0x16 => two .vsubs
  | 0x17 => two .vabs
  | 0x18 => two .vmaxv
  | 0x19 => two .vminv
  | 0x1A => two .vredmax
  | 0x1B => two .vredmin
  | 0x1C => two .mfs
  | 0x1D => two .mts
  | _ => none

/-- The long ALU slot (R222); none: ILLEGAL. Bits that an operation does not use are zero. -/
def decodeLong (w : Nat) : Option Alu :=
  let rd := bits w 27 23
  let ra := bits w 22 18
  let imm := bits w 17 0
  let three (k : AluKind) : Option Alu := some ⟨k, rd, ra, imm, 0⟩
  let shift (k : AluKind) : Option Alu := if imm < 32 then some ⟨k, rd, ra, imm, 0⟩ else none
  let none' (k : AluKind) : Option Alu := if bits w 27 0 = 0 then some ⟨k, 0, 0, 0, 0⟩ else none
  let one (k : AluKind) : Option Alu := if rd = 0 ∧ imm = 0 then some ⟨k, 0, ra, 0, 0⟩ else none
  match bits w 33 28 with
  | 0x00 => none' .nop
  | 0x01 => three .addi
  | 0x02 => three .andi
  | 0x03 => three .ori
  | 0x04 => three .xori
  | 0x05 => shift .slli
  | 0x06 => shift .srli
  | 0x07 => shift .srai
  | 0x08 => three .beq
  | 0x09 => three .bne
  | 0x0A => three .blt
  | 0x0B => three .bge
  | 0x0C => three .bltu
  | 0x0D => three .bgeu
  | 0x0E => some ⟨.jmp, 0, 0, bits w 27 0, 0⟩
  | 0x0F => one .jmpr
  | 0x10 => some ⟨.call, 0, 0, bits w 27 0, 0⟩
  | 0x11 => if bits w 27 12 = 0 then some ⟨.rep, 0, 0, 0, bits w 11 0 + 1⟩ else none
  | 0x12 => one .repr
  | 0x13 => some ⟨.loopDo, 0, 0, bits w 11 0, bits w 27 12⟩
  | 0x14 => if bits w 22 12 = 0 then some ⟨.dor, rd, 0, bits w 11 0, 0⟩ else none
  | 0x15 => none' .leave
  | 0x16 => if bits w 27 16 = 0 then some ⟨.setxi, 0, 0, bits w 15 0, 0⟩ else none
  | 0x17 => one .xfer
  | 0x18 => if bits w 27 4 = 0 then some ⟨.xwait, 0, 0, bits w 3 0, 0⟩ else none
  | 0x19 => one .done
  | 0x1A => none' .idle
  | 0x1B => none' .rti
  | 0x1C => none' .brk
  | _ => none

/-- The bundle that a 64-bit word spells for core c (R218); none: a format or field that faults ILLEGAL. -/
def decodeBundle (c w : Nat) : Option Bundle :=
  match bits w 63 62 with
  | 0 => do
    let x ← decodeLs (bits w 61 48)
    let y ← decodeLs (bits w 47 34)
    let m ← decodeMac (bits w 33 18)
    let u ← decodeShort (bits w 17 0)
    some { core := c, x := x, y := y, mac := m, alu := u }
  | 1 => do
    let x ← decodeLs (bits w 61 48)
    let y ← decodeLs (bits w 47 34)
    let u ← decodeLong (bits w 33 0)
    some { core := c, x := x, y := y, alu := u }
  | 2 => do
    let m ← decodeMac (bits w 61 46)
    if bits w 40 32 = 0 then some { core := c, mac := m, alu := ⟨.li, bits w 45 41, 0, bits w 31 0, 0⟩ } else none
  | _ => none

/-! ### The encoder -/

/-- Operation code of a sub-operation (R219). -/
def lsCode : LsKind → Nat
  | .none => 0
  | .ldV => 1
  | .stV => 2
  | .ldW => 3
  | .stW => 4
  | .ldB => 5

/-- The 14 bits of a sub-operation (R219). -/
def encodeLs (x : Ls) : Nat := lsCode x.kind * 2 ^ 11 + x.mode * 2 ^ 9 + x.k * 2 ^ 5 + x.r

/-- Operation code of the MAC slot (R220). -/
def macOpcode : MacKind → Nat
  | .none => 0x00
  | .vmul => 0x01
  | .vmac => 0x02
  | .vmsu => 0x03
  | .vmacb => 0x04
  | .vdot => 0x05
  | .vdota => 0x06
  | .vclr => 0x07
  | .vlda => 0x08
  | .vext => 0x09
  | .vextT => 0x0A
  | .vext1 => 0x0B
  | .vext1T => 0x0C
  | .vrda => 0x0D
  | .vwra => 0x0E
  | .vmaxIdx => 0x0F
  | .vminIdx => 0x10
  | .vmaxaIdx => 0x11

/-- The 16 bits of a MAC slot (R220). -/
def encodeMac (x : Mac) : Nat := macOpcode x.kind * 2 ^ 11 + x.a * 2 ^ 8 + x.va * 2 ^ 4 + x.vb

/-- Operation code of the short ALU slot (R221); none: an operation of the long slot. -/
def shortCode : AluKind → Option Nat
  | .nop => some 0x00
  | .mov => some 0x01
  | .add => some 0x02
  | .sub => some 0x03
  | .adds => some 0x04
  | .and => some 0x05
  | .or => some 0x06
  | .xor => some 0x07
  | .sll => some 0x08
  | .srl => some 0x09
  | .sra => some 0x0A
  | .min => some 0x0B
  | .max => some 0x0C
  | .mul => some 0x0D
  | .movp => some 0x0E
  | .movm => some 0x0F
  | .rdp => some 0x10
  | .rdm => some 0x11
  | .vlane => some 0x12
  | .vins => some 0x13
  | .vsplat => some 0x14
  | .vadds => some 0x15
  | .vsubs => some 0x16
  | .vabs => some 0x17
  | .vmaxv => some 0x18
  | .vminv => some 0x19
  | .vredmax => some 0x1A
  | .vredmin => some 0x1B
  | .mfs => some 0x1C
  | .mts => some 0x1D
  | _ => none

/-- The operand bits and the operation code of the long ALU slot (R222). -/
def longCode (u : Alu) : Nat × Nat :=
  let three := u.rd * 2 ^ 23 + u.ra * 2 ^ 18 + u.imm
  match u.kind with
  | .addi => (0x01, three)
  | .andi => (0x02, three)
  | .ori => (0x03, three)
  | .xori => (0x04, three)
  | .slli => (0x05, three)
  | .srli => (0x06, three)
  | .srai => (0x07, three)
  | .beq => (0x08, three)
  | .bne => (0x09, three)
  | .blt => (0x0A, three)
  | .bge => (0x0B, three)
  | .bltu => (0x0C, three)
  | .bgeu => (0x0D, three)
  | .jmp => (0x0E, u.imm)
  | .jmpr => (0x0F, u.ra * 2 ^ 18)
  | .call => (0x10, u.imm)
  | .rep => (0x11, u.cnt - 1)
  | .repr => (0x12, u.ra * 2 ^ 18)
  | .loopDo => (0x13, u.cnt * 2 ^ 12 + u.imm)
  | .dor => (0x14, u.rd * 2 ^ 23 + u.imm)
  | .leave => (0x15, 0)
  | .setxi => (0x16, u.imm)
  | .xfer => (0x17, u.ra * 2 ^ 18)
  | .xwait => (0x18, u.imm)
  | .done => (0x19, u.ra * 2 ^ 18)
  | .idle => (0x1A, 0)
  | .rti => (0x1B, 0)
  | .brk => (0x1C, 0)
  | _ => (0x00, 0)

/-- The 64-bit word of a bundle: the K format for LI, the long format for an operation of the long slot, else the short
one (R218). -/
def encodeBundle (b : Bundle) : Nat :=
  match b.alu.kind, shortCode b.alu.kind with
  | .li, _ => 2 * 2 ^ 62 + encodeMac b.mac * 2 ^ 46 + b.alu.rd * 2 ^ 41 + b.alu.imm
  | _, some c =>
    encodeLs b.x * 2 ^ 48 + encodeLs b.y * 2 ^ 34 + encodeMac b.mac * 2 ^ 18
      + (c * 2 ^ 12 + b.alu.rd * 2 ^ 7 + b.alu.ra * 2 ^ 2 + b.alu.imm)
  | _, none =>
    let l := longCode b.alu
    2 ^ 62 + encodeLs b.x * 2 ^ 48 + encodeLs b.y * 2 ^ 34 + (l.1 * 2 ^ 28 + l.2)

/-- Has a sub-operation an encoding: its fields in range, none used without an operation (R219)? -/
def lsEncodes (x : Ls) : Bool :=
  decide (x.mode < 4) && decide (x.k < 16)
    && (match x.kind with
        | .none => decide (x = {})
        | .ldW | .stW => decide (x.r < 32)
        | _ => decide (x.r < 16))

/-- Does a format of R218 encode a bundle? -/
def bundleEncodes (b : Bundle) : Bool :=
  lsEncodes b.x && lsEncodes b.y && macEncodes b.mac && aluEncodes b.alu && !b.eccFetch && !b.eccLoad && !b.eccLoadY && decide (b.ce = 0)
    && (if b.alu.kind = .li then decide (b.x = {}) && decide (b.y = {})
        else (shortCode b.alu.kind).isSome || decide (b.mac = {}))

/-- The bundle at the pc of a core, as its tile holds it. -/
def bundleHere (d : Dev) (c : Nat) : Option Bundle :=
  decodeBundle c (leVal (memRead d (tileAddr c (acore d c).pc) 8))

/-- ASTER_DBG_CMD bit 2 as a plain register write: the bundle is the one that the tile holds; one that no format
encodes faults ILLEGAL (R218, R251). -/
def dbgStepHere (c : Nat) (d : Dev) : Dev :=
  match bundleHere d c with
  | some b => dbgStep b d
  | none =>
    if tileBad (acore d c) (acore d c).pc then dbgCommand c true (fun d => asterFault c fEcc 0 (sramUe 2 (c * 2 ^ 20 + (acore d c).pc) d)) d
    else dbgCommand c true (asterFault c fIllegal 0) d

end Sys2Proof.Machine
end

