-- ==== Sys2Proof/Machine/Domain.lean ====
section
/-!
DEFINITION. The render domain: domain frames, absent devices, control streams, start-up bounds and the end of the
quantum numbers (R40 to R47, R55, R56, R81, R125, R126, R178, R355).
-/

namespace Sys2Proof.Machine

/-! ### Domain frames (R40 to R44, R81) -/

/-- Has a domain frame of index i come within 30 ms (R40, R42)? -/
def indexHeard (d : Dev) (i : Nat) : Bool :=
  decide (fget 0 d.sys.heard i ≠ 0) && decide (nowNs d < fget 0 d.sys.heard i + 30000000)

/-- present_mask: the indices heard within 30 ms. -/
def presentMask (d : Dev) : Nat :=
  (List.range 64).foldl (fun m i => if indexHeard d i then m + 2 ^ i else m) 0

/-- The 56 bytes of a domain frame (R40). start_qn is the QN at which this device first unmuted as CENTRAL; where it never
did (an edge device, a central device before its first unmute or one that came to CENTRAL by a join) the rule gives no
value and 0 is sent. So is plan_index where no plan is active. Both are the model's choice (log 105). -/
def domainFrame (d : Dev) : Bytes :=
  let flags := b2n (pairFormed d) + 2 * b2n (decide (d.sys.mode = .central)) + 4 * b2n (rate96 d)
    + 8 * b2n d.time.holdover
  let body := beBytes 2 0x5944 ++ beBytes 1 1 ++ beBytes 1 (devIndex d + 64 * fld d 0x210 7 6) ++ beBytes 2 (fld d 0x210 31 16)
    ++ beBytes 1 d.sys.mode.code ++ beBytes 1 flags
    ++ beBytes 6 (d.time.epoch / 1000000000) ++ beBytes 4 (d.time.epoch % 1000000000) ++ beBytes 5 d.sys.startQn
    ++ beBytes 1 (match d.plan.active with
      | some p => p.index
      | none => 0)
    ++ beBytes 5 (qnNow d) ++ zeros 3 ++ (planSetDigest d).take 8 ++ beBytes 8 (presentMask d)
    ++ beBytes 4 d.sys.domainSeq
  body ++ beBytes 4 (crc32c body)

/-- The availability record that goes with a domain frame until the next change (R125). -/
def availResend (d : Dev) : Dev :=
  if role d = 1 && d.geom.availSent then multicast 6 51231 (controlHead d ++ d.geom.availLast) d else d

/-- Every 10 ms in CONFIG or a rendering mode the device sends its domain frame, and with it the records that are
repeated (R40, R125, R178). -/
def domainSend (d : Dev) : Dev :=
  if decide (d.sys.mode = .config) || rendering d then
    let d := multicast 6 51230 (domainFrame d) d
    let d := { d with sys := { d.sys with domainSeq := (d.sys.domainSeq + 1) % 2 ^ 32 } }
    swapResend (availResend d)
  else d

/-- Does a received domain frame pass R41, with an epoch in the range of R9? One whose nanoseconds are out of range is dropped
and counted with the others (DEDUCED from R84, log 105). -/
def domainOk (d : Dev) (b : Bytes) : Bool :=
  decide (b.length = 56) && decide (beAt b 0 2 = 0x5944) && decide (beAt b 2 1 = 1)
  && decide (beAt b 4 2 = fld d 0x210 31 16) && decide (beAt b 52 4 = crc32c (b.take 52))
  && decide (beAt b 14 4 < secNs)

/-- A conflict with the domain is seen: a device that does not render yet stays in CONFIG, so that its transition into a
rendering mode or its join stops at the next boundary; with `safe` one that renders goes to SAFE (R43, R44). -/
def conflictStop (safe : Bool) (d : Dev) : Dev :=
  let note (c : Nat) : Dev := { d with sys := { d.sys with newCauses := d.sys.newCauses ++ [c] } }
  let starts := enteringRender d || d.pair.join.any (fun x => x.joiner)
    || d.sys.sched.any (fun t => isRender t.target || decide (t.target = .mirror))
  if rendering d then (if safe then note 2 else d) else if starts then note 3 else d

/-- Another device uses the own index (R44). The event is raised when the conflict appears for the index that the device has. -/
def indexClash (d : Dev) : Dev :=
  let noted := d.sys.clashNoted && indexHeard d (devIndex d)
  let d := if rendering d then d else conflictStop false { d with sys := { d.sys with indexConflict := true } }
  if noted then d else raiseEvent evDomainIndexConflict [] { d with sys := { d.sys with clashNoted := true } }

/-- A write of SYS_ROLE_CFG: with another dev_index the conflict of the old one is over (R44, R57). -/
def roleWrite (d0 d : Dev) : Dev :=
  if devIndex d0 = devIndex d then d else { d with sys := { d.sys with indexConflict := false, clashNoted := false } }

/-- Outputs that an edge device owns under the active plan (R42). -/
def ownedBy (d : Dev) (i : Nat) : List Nat :=
  match d.plan.active with
  | some p => (List.range 512).filter (fun j => decide ((planOut p j).owner = i))
  | none => []

/-- An absent device is heard again: its outputs are restored (R42; DEDUCED from cause 0x06 of R123's table). -/
def presentAgain (i : Nat) (d : Dev) : Dev :=
  if fget false d.sys.absent i = false then d else
  let d := { d with sys := { d.sys with absent := fput false d.sys.absent i false } }
  if role d = 1 then forL (ownedBy d i) (fun j d => availReport j 6 true d) d else d

/-- What a device takes from an authoritative frame: rate, present_mask, the plan set, the epoch (R41, R43, R81). -/
def authoritative (ip : Nat) (b : Bytes) (d : Dev) : Dev :=
  let d := { d with
    sys := { d.sys with
      authAt := nowNs d + 1, authPresent := beAt b 40 8, authRate96 := (beAt b 7 1).testBit 2 }
    net := { d.net with authIps := fput 0 d.net.authIps ip (nowNs d + 1) } }
  if role d ≠ 2 then d else
  let mismatch := decide (slice b 32 8 ≠ (planSetDigest d).take 8)
  let d := { d with sys := { d.sys with planMismatch := mismatch } }
  let d := if mismatch then conflictStop true (raiseEvent evDomainPlanMismatch [] d) else d
  if beAt b 8 6 * 1000000000 + beAt b 14 4 = d.time.epoch then d else
  let d := raiseEvent evTimeEpochMismatch [] (setFlag 0x20004 11 d)
  if rendering d then faultCause 9 d else d

/-- A domain frame arrives from an IP address (R41 to R44, R81). -/
def domainReceive (ip : Nat) (b : Bytes) (d : Dev) : Dev :=
  if domainOk d b = false then incCnt 0x220 d else
  let i := beAt b 3 1 % 64
  let d := if i = devIndex d then indexClash d else presentAgain i d
  let d := { d with sys := { d.sys with heard := fput 0 d.sys.heard i (nowNs d + 1) } }
  let d := if i < 2 then { d with sys := { d.sys with centralAt := nowNs d + 1 } } else d
  if (beAt b 7 1).testBit 1 && decide (i < 2) then authoritative ip b d else d

/-- Domain frames of index i have been missing for 30 ms (R42, R44). -/
def deviceAbsent (i : Nat) (d : Dev) : Dev :=
  if fget 0 d.sys.heard i = 0 ∨ i ≥ 64 then d else
  let d := { d with sys := { d.sys with heard := fput 0 d.sys.heard i 0 } }
  if i = devIndex d then { d with sys := { d.sys with indexConflict := false, clashNoted := false } } else
  let d := { d with sys := { d.sys with absent := fput false d.sys.absent i true } }
  if role d = 1 ∧ 2 ≤ i then forL (ownedBy d i) (fun j d => availReport j 4 false d) d else d

/-! ### Control streams (R355) -/

/-- Size of a control-stream record by its kind. -/
def controlSize (kind : Nat) : Option Nat :=
  if kind = 0x41 then some 80 else if kind = 0x50 then some 16 else if kind = 0x4D then some 36 else none

/-- The records of a datagram's body; none when a kind is unknown or the length disagrees. -/
def controlRecords (n : Nat) (b : Bytes) : Option (List Bytes) :=
  match n with
  | 0 => if b.isEmpty then some [] else none
  | k + 1 =>
    match (if b.length < 2 then none else controlSize (beAt b 0 2)) with
    | none => none
    | some s => if b.length < s then none else (controlRecords k (b.drop s)).map (fun r => b.take s :: r)

/-- Is an IP address that of a device whose authoritative domain frames are received? -/
def authIp (d : Dev) (ip : Nat) : Bool :=
  decide (fget 0 d.net.authIps ip ≠ 0) && decide (nowNs d < fget 0 d.net.authIps ip + 30000000)

/-- One record of a control stream. -/
def controlRecord (ip : Nat) (b : Bytes) (d : Dev) : Dev :=
  if beAt b 0 2 = 0x4D then (if bitAt d 0x50000 1 then metaInput (b.drop 4) d else d)
  else if authIp d ip = false then d
  else if beAt b 0 2 = 0x41 then availRecordReceive b d
  else swapRecordReceive b d

/-- A control-stream datagram arrives; its checksum held or failed (R355). -/
def controlReceive (ip : Nat) (csumOk : Bool) (port : Nat) (b : Bytes) (d : Dev) : Dev :=
  if csumOk = false then incCnt (netA port + 0x118) d else
  let n := beAt b 3 1
  let ok := decide (8 ≤ b.length) && decide (beAt b 0 2 = 0x5943) && decide (beAt b 2 1 = 1)
    && decide (beAt b 4 2 = fld d 0x210 31 16) && decide (1 ≤ n) && decide (n ≤ 32)
  match (if ok then controlRecords n (b.drop 8) else none) with
  | none => incCnt 0x220 d
  | some rs => forL rs (controlRecord ip) d

/-! ### Start-up and the end of the quantum numbers (R47, R55, R56) -/

/-- A step of start-up, 1 to 10, exceeds its bound (R45 to R47). -/
def startupSlow (step : Nat) (d : Dev) : Dev :=
  if step = 0 ∨ 10 < step then d else raiseEvent evStartupSlow (leBytes 1 step) d

/-- QN has reached the next value at which QN_NEAR_END is raised (R55). -/
def qnNearEnd (d : Dev) : Dev :=
  if d.time.counting = false ∨ d.time.qn < d.sys.nearEndNext then d else
  let k := (d.time.qn - d.sys.nearEndNext) / 2 ^ 24 + 1
  raiseEvent evQnNearEnd [] { d with sys := { d.sys with nearEndNext := d.sys.nearEndNext + k * 2 ^ 24 } }

end Sys2Proof.Machine
end

