-- ==== Sys2Proof/Machine/View.lean ====
section
/-!
DEFINITION. What the RO registers and the RO fields of mixed registers show: each is a view of the state of its block.
A register with no view here holds its word in register space.
-/

namespace Sys2Proof.Machine

/-- The low 32 bits of a value. -/
def loWord (v : Nat) : Nat := v % 2 ^ 32

/-- The word above. -/
def hiWord (v : Nat) : Nat := v / 2 ^ 32 % 2 ^ 32

/-- A field of a plan that is active; 0 with none. -/
def ofPlan (d : Dev) (f : Plan → Nat) : Nat :=
  match d.plan.active with
  | some p => f p
  | none => 0

/-- Word `w` of a bit array. -/
def bitWord (w : Nat) (f : Nat → Bool) : Nat := forN 32 (fun b v => v + b2n (f (32 * w + b)) * 2 ^ b) 0

/-- Word `i` of a byte string. -/
def wordOf (bs : Bytes) (i : Nat) : Nat := leAt bs (4 * i) 4

/-- A figure that the device shows once it has left BOOT: before that the register holds its reset value 0. -/
def booted (d : Dev) (v : Nat) : Nat := if d.sys.mode = .boot then 0 else v

/-! ### SYS and TIME -/

/-- SYS (R23, R24). -/
def viewSys (d : Dev) (a : Nat) : Option Nat :=
  if a = 0x200 then some (modeStatus d)
  else if a = 0x204 then some (loWord d.sys.modeQn)
  else if a = 0x208 then some (hiWord d.sys.modeQn)
  else none

/-- TIME_STATUS (R66). -/
def timeStatus (d : Dev) : Nat :=
  let t := d.time
  bits (rdN d 0x20004) 12 8 * 2 ^ 8 + b2n t.qualified + 2 * b2n t.holdover + 4 * b2n (decide (slewRemain d ≠ 0))
    + 8 * b2n t.lockA + 16 * b2n t.lockB + 32 * b2n t.epochSet + 64 * b2n t.refclkFallback
    + fget 1 t.portStates (slavePort d) % 16 * 2 ^ 16 + slavePort d % 4 * 2 ^ 20

/-- TIME (R63, R65, R89, R92). -/
def viewTime (d : Dev) (a : Nat) : Option Nat :=
  if a = 0x20004 then some (timeStatus d)
  else if a = 0x20010 then some (d.time.pt % secNs)
  else if a = 0x20014 then some (loWord (d.time.pt / secNs))
  else if a = 0x20018 then some (d.time.pt / secNs / 2 ^ 32 % 65536)
  else if a = 0x2001C then some (ct32 d)
  else if a = 0x20024 then some (wrapN 32 (slewRemain d))
  else if a = 0x20050 then some (loWord (qnNow d))
  else if a = 0x20054 then some (hiWord (qnNow d))
  else if a = 0x2005C then some (loWord d.time.holdAge)
  else if 0x20100 ≤ a ∧ a < 0x20180 ∧ a % 32 = 0 then
    some (setBits (rdN d a) 4 4 (b2n (pulse d ((a - 0x20100) / 32)).armed))
  else none

/-! ### PWR, SEC, AGE, PERIPH -/

/-- PWR (R513). -/
def viewPwr (d : Dev) (a : Nat) : Option Nat := if a = 0x10004 then some (pwrStatus d) else none

/-- SEC (R514). -/
def viewSec (d : Dev) (a : Nat) : Option Nat :=
  if a = 0x1D0000 then some (secStatus d)
  else if a = 0x1D000C then some (tamperStatus d)
  else if 0x1D0080 ≤ a ∧ a < 0x1D0090 then some (wordOf uidBytes ((a - 0x1D0080) / 4))
  else if a = 0x1D00C0 then some (d.sec.svn % 64)
  else none

/-- AGE (R515). -/
def viewAge (d : Dev) (a : Nat) : Option Nat := if a = 0x1E0004 then some (ageStatus d) else none

/-- PERIPH (R534). -/
def viewPeriph (d : Dev) (a : Nat) : Option Nat :=
  if a = 0x1F0000 then some (periphStatus d)
  else if a = 0x1F0128 then some (i2cStatus d 0)
  else if a = 0x1F0168 then some (i2cStatus d 1)
  else if a = 0x1F0208 then some (uartRxView d)
  else if a = 0x1F0210 then some (uartStatus d)
  else if a = 0x1F0310 then some (pmbStatus d)
  else none

/-! ### HOSTIF -/

/-- Commands in flight of the host and the sessions (R425). -/
def inFlightCount (d : Dev) : Nat := (d.host.inflight.filter (fun f => decide (f.src ≠ .firmware))).length

/-- Does command fetch wait (R425, R430)? -/
def fetchStalled (d : Dev) : Bool := decide (64 ≤ inFlightCount d) || decide (256 ≤ d.host.holding.length)

/-- HOSTIF (R445). -/
def viewHostif (d : Dev) (a : Nat) : Option Nat :=
  if a = 0x30004 then some (setBits (rdN d a) 1 1 (b2n (fetchStalled d)))
  else if a = 0x3000C then some (inFlightCount d)
  else if a = 0x30018 then some (d.host.evSeq % 65536)
  else if a = 0x30020 then some (sceneSize d / 1024)
  else if a = 0x30024 then some (sceneFree d / 1024)
  else if a = 0x30028 then some (sceneLive d)
  else if a = 0x30030 then some (sessionsOpen d)
  else if 0x31000 ≤ a ∧ a < 0x31000 + 0x40 * 74 ∧ a % 64 = 32 then some (ringStatus d ((a - 0x31000) / 64))
  else none

/-! ### DISP -/

/-- The word of DISP_CORE[c] at an offset: a task written with a preempt request stands in the mailbox at once (R199, R214). -/
def coreWord (d : Dev) (c off : Nat) : Option Nat :=
  let b := box d c
  let next := b.nextWord.isSome
  if off = 0x00 then some (b.nextWord.getD b.word)
  else if off = 0x04 then some (loWord (if next then b.nextQn else b.qn))
  else if off = 0x08 then some (if next then b.nextRef else b.ref)
  else if off = 0x0C then some (if next then 0 else b.arg)
  else if off = 0x14 then some (b.state + 256 * b2n (decide (b.heldState ≠ 0)))
  else none

/-- DISP, but for the banked registers of the control cores (R214). -/
def viewDisp (d : Dev) (a : Nat) : Option Nat :=
  if a = 0x40004 then some (setBits (rdN d a) 0 0 (b2n (decide (d.disp.waitFrom ≠ 0))))
  else if a = 0x40008 then some (matchUsed d)
  else if a = 0x4022C then some d.disp.bgQ.length
  else if 0x40340 ≤ a ∧ a < 0x40360 then
    some (setBits (rdN d a) 10 0 (fget [] d.disp.cq ((a - 0x40340) / 4)).length)
  else if 0x40800 ≤ a ∧ a < 0x40A00 then coreWord d ((a - 0x40800) / 32) (a % 32)
  else none

/-! ### GEOM and VOICE -/

/-- Is a reflection unit of an object shed? -/
def objShed (d : Dev) (o : Nat) : Bool := d.voice.shed.any (fun e => decide (e.1 / 64 = o) && e.2)

/-- GEOM_OBJ_STATUS[o] (R128). -/
def objStatus (d : Dev) (o : Nat) : Nat :=
  let x := fget {} d.geom.seen o
  let slot := match x.move with
    | .slot _ _ _ _ _ => true
    | _ => false
  let dip := match x.move with
    | .dip _ _ _ _ => true
    | _ => false
  b2n x.inPlan + 2 * b2n x.frozen + 4 * b2n x.audioLost + 8 * b2n x.speedLimited + 16 * b2n slot + 32 * b2n dip
    + 64 * b2n x.clamped + 128 * b2n (objShed d o) + x.law % 4 * 2 ^ 8 + x.recs.length % 16 * 2 ^ 10

/-- The image of the active plan, as the plan store holds it. -/
def activeImage (d : Dev) : Bytes :=
  match d.plan.active with
  | some p => fget [] d.plan.held p.index
  | none => []

/-- The section type of the output descriptors (R161). -/
abbrev outputSection : Nat := 0x0002

/-- GEOM (R128). -/
def viewGeom (d : Dev) (a : Nat) : Option Nat :=
  if a = 0x50004 then
    some (bits (rdN d a) 10 8 * 2 ^ 8 + b2n d.plan.active.isSome + 2 * b2n (decide (ofPlan d (shedVoices d) ≠ 0))
      + 4 * b2n (decide (d.geom.slewLen ≠ 0) && decide (qnNow d < d.geom.slewQn + d.geom.slewLen)))
  else if a = 0x50054 then some (loWord d.geom.k)
  else if a = 0x50058 then some (loWord d.geom.w)
  else if a = 0x5005C then some (hiWord d.geom.w)
  else if a = 0x50060 then some (ofPlan d (fun p => p.geomLoad))
  else if a = 0x50064 then some (booted d (capacityOf d (pointHz d d.pwr.capPoint)))
  else if a = 0x50068 then some (ofPlan d (shedVoices d))
  else if 0x50100 ≤ a ∧ a < 0x50140 then some (bitWord ((a - 0x50100) / 4) (fun j => !fget false d.geom.lost j))
  else if 0x50140 ≤ a ∧ a < 0x50180 then
    some (bitWord ((a - 0x50140) / 4) (fun j => decide (phiDn d j ≠ 0) && decide (phiDn d j ≠ fadeN d)))
  else if a = 0x50180 then some (loWord d.geom.availQn)
  else if a = 0x50184 then some (hiWord d.geom.availQn)
  else if 0x54000 ≤ a ∧ a < 0x55000 then some (objStatus d ((a - 0x54000) / 4))
  else if 0x58000 ≤ a ∧ a < 0x5C000 then
    some (wordOf (sectionBytes (activeImage d) outputSection) ((a - 0x58000) / 4))
  else none

/-- VOICE_BASE[o]: the state at the latest activation (R159). -/
def voiceBase (d : Dev) (o : Nat) : Nat :=
  let x := fget {} d.geom.seen o
  if !x.inPlan then 0
  else x.base % 2 ^ 19 + b2n (!x.baseAuto) * 2 ^ 24 + b2n (decide (x.rebase ≠ .none)) * 2 ^ 25
    + b2n x.delayClamped * 2 ^ 26 + b2n (decide (x.rebase = .refillWait)) * 2 ^ 27

/-- VOICE (R159). -/
def viewVoice (d : Dev) (a : Nat) : Option Nat :=
  if a = 0x60004 then
    some (bits (rdN d a) 12 8 * 2 ^ 8 + b2n d.plan.active.isSome + 2 * b2n (decide (d.voice.shed ≠ []))
      + 4 * b2n (d.geom.objs.any (fun e => decide (e.2.rebase ≠ .none))))
  else if a = 0x60008 then some (booted d (poolOf d (pointHz d d.pwr.capPoint)))
  else if a = 0x6000C then some (booted d (poolOf d (pointHz d 0)))
  else if a = 0x60010 then some (ofPlan d (fun p => p.totalVoices))
  else if a = 0x60014 then some (ofPlan d (fun p => p.fixedVoices))
  else if a = 0x60038 then some d.voice.shed.length
  else if 0x61000 ≤ a ∧ a < 0x62000 then some (voiceBase d ((a - 0x61000) / 4))
  else if 0x62000 ≤ a ∧ a < 0x64000 then
    let o := (a - 0x62000) / 8
    some (bitWord (a / 4 % 2) (fun f => fget false d.voice.shed (unitKey o f)))
  else if 0x68000 ≤ a ∧ a < 0x6A000 then
    some (wrapN 32 (kernelTap ((a - 0x68000) / 32) ((a - 0x68000) % 32 / 4)))
  else none

/-! ### PLAN -/

/-- PLAN_STATUS.swap_phase (R187). -/
def swapPhase (d : Dev) : Nat :=
  match d.plan.running with
  | some r => if !r.sequential then 2 else if r.switched then 4 else 3
  | none => if d.plan.pending.isSome then 1 else 0

/-- The swap that awaits its apply QN: the pending one, or the one held while another is in progress (R177). -/
def waitingSwap (d : Dev) : Option SwapReq := d.plan.pending.orElse (fun _ => d.plan.heldSwap)

/-- Its index and QN. -/
def pendingSwap (d : Dev) : Nat × Nat :=
  match waitingSwap d with
  | some r => (r.plan, r.applyQn)
  | none => (0, 0)

/-- PLAN (R187). -/
def viewPlan (d : Dev) (a : Nat) : Option Nat :=
  if a = 0x80004 then
    some (bits (rdN d a) 27 24 * 2 ^ 24 + b2n d.plan.active.isSome + 2 * b2n (waitingSwap d).isSome + 4 * swapPhase d
      + 32 * b2n d.plan.lastSequential + ofPlan d (fun p => p.index % 256) * 2 ^ 8 + (pendingSwap d).1 % 256 * 2 ^ 16)
  else if a = 0x80010 then some (loWord d.plan.activeQn)
  else if a = 0x80014 then some (hiWord d.plan.activeQn)
  else if a = 0x80018 then some (loWord (pendingSwap d).2)
  else if a = 0x8001C then some (hiWord (pendingSwap d).2)
  else if a = 0x80028 then some (activeRouting d).program.length
  else if 0x80200 ≤ a ∧ a < 0x80220 then some ((indSlot d ((a - 0x80200) / 4)).source % 4096)
  else if 0x81000 ≤ a ∧ a < 0x81400 then some (gainWord (routeGain d ((a - 0x81000) / 4)))
  else none

/-! ### LUPIN and SURVEY -/

/-- LUPIN_OUT_STATE[j] (R287). -/
def outState (d : Dev) (j : Nat) : Nat :=
  let c := corr d j
  c.tapUnits % 128 + 256 * b2n c.activeB + 512 * (c.inactive % 4) + 2048 * b2n c.fade.isSome

/-- LUPIN (R287). -/
def viewLupin (d : Dev) (a : Nat) : Option Nat :=
  if a = 0xA0004 then some (setBits (rdN d a) 0 0 (b2n (d.lupin.corr.any (fun e => decide (e.2.inactive = 1)))))
  else if a = 0xA000C then some (if rate96 d then 8192 else 16384)
  else if a = 0xA0024 then some (d.lupin.corr.filter (fun e => e.2.fade.isSome)).length
  else if 0xA1000 ≤ a ∧ a < 0xA3000 then
    let j := (a - 0xA1000) / 16
    if a % 16 = 0 then some (outState d j)
    else if a % 16 = 4 then some (corr d j).bankA.crc
    else if a % 16 = 8 then some (corr d j).bankB.crc
    else some (loWord (corr d j).swapQn)
  else if 0xA8000 ≤ a ∧ a < 0xB0000 then some (wrapN 32 (twiddle ((a - 0xA8000) / 4)))
  else none

/-- Does live identification run (R277, R288)? -/
def liveRuns (d : Dev) : Bool :=
  bitAt d 0xB0000 0 && (decide (d.sys.mode = .central) || decide (d.sys.mode = .edge))

/-- SURVEY (R288). -/
def viewSurvey (d : Dev) (a : Nat) : Option Nat :=
  if a = 0xB0004 then
    some (bits (rdN d a) 11 8 * 2 ^ 8 + b2n (liveRuns d) + 2 * b2n d.survey.running)
  else if a = 0xB0014 then some (rdN d 0xB000C * ofPlan d (pairGroups d))
  else if a = 0xB0018 then some (wrapN 16 d.survey.temp + d.survey.tempPairs % 65536 * 65536)
  else if a = 0xB001C then some (d.survey.pairGroup % 65536 + ofPlan d (pairGroups d) % 65536 * 65536)
  else if a = 0xB0020 then some (d.survey.step % 65536 + d.survey.program.length % 65536 * 65536)
  else if 0xB0030 ≤ a ∧ a < 0xB003C then
    some (bitWord ((a - 0xB0030) / 4) (fun m => decide (m < 72) && micOn d m && fget false d.survey.micOk m))
  else none

/-! ### ASTER -/

/-- ASTER (R251, R252): the debug registers read 0 unless the core is halted for debug. -/
def viewAster (d : Dev) (a : Nat) : Option Nat :=
  let c := (a - 0xC0000) / 0x1000
  let off := a % 0x1000
  if off = 4 then
    some (bits (rdN d a) 9 8 * 2 ^ 8 + asterState d c + 8 * b2n d.aster.bankB + 16 * srLp (acore d c))
  else if off = 0x40 then (if (acore d c).status = 3 then none else some 0)
  else if off = 0x44 then some (if (acore d c).status = 3 then dbgRead d c (fld d (a - 4) 7 0) else 0)
  else none

/-! ### NET and PAIR -/

/-- NET (R377). -/
def viewNet (d : Dev) (a : Nat) : Option Nat :=
  if a % 0x10000 = 4 then some (netStatus d ((a - 0x100000) / 0x10000)) else none

/-- The bytes whose digest is cfg_id (R382). -/
def cfgBytes (d : Dev) : Bytes :=
  let w (a : Nat) : Bytes := leBytes 4 (rdN d a)
  let geom : List Nat := [0x50000, 0x50008, 0x5000C, 0x50010, 0x50014, 0x50018, 0x5001C, 0x50020, 0x50024, 0x50028,
    0x50030, 0x50034, 0x50038, 0x5003C, 0x50040, 0x50044, 0x50048, 0x5004C]
  w 0x80020 ++ w 0x80024 ++ w 0x80000 ++ leBytes 4 (fld d 0x210 31 16) ++ leBytes 4 (d.time.epoch % secNs)
    ++ leBytes 8 (d.time.epoch / secNs)
    ++ geom.flatMap w ++ w 0x60000 ++ w 0x60018 ++ (List.range 16).flatMap (fun c => w (0x40100 + 4 * c))
    ++ leBytes 4 (fld d 0xB0000 0 0) ++ w 0xB0008 ++ w 0x140030
    ++ (d.net.ctxs.filter (fun e => decide (e.1 < 256))).flatMap (fun e => padTo 128 e.2.desc)

/-- cfg_id: its eight bytes as a little-endian number (R382). -/
def cfgId (d : Dev) : Nat := leVal ((sha384 (cfgBytes d)).take 8)

/-- PAIR_STATUS.state (R379): FORMED and JOINING are held; a device that pairs and is neither is ALONE in CENTRAL and
SEEKING elsewhere. -/
def pairStateCode (d : Dev) : Nat :=
  if d.pair.state = 2 ∨ d.pair.state = 4 then d.pair.state
  else if pairOn d = false then 0 else if d.sys.mode = .central then 3 else 1

/-- PAIR_STATUS (R410). -/
def pairStatus (d : Dev) : Nat :=
  bits (rdN d 0x140004) 15 8 * 2 ^ 8 + pairStateCode d + 8 * b2n (pathSt d 1).good + 16 * b2n (pathSt d 0).good
    + 32 * b2n d.pair.l4 + 64 * b2n d.pair.diverged + 128 * b2n (decide (fld d 0x140034 4 0 ≠ 0))

/-- PAIR (R382, R383, R410). -/
def viewPair (d : Dev) (a : Nat) : Option Nat :=
  if a = 0x140004 then some (pairStatus d)
  else if a = 0x140038 then some (booted d (loWord (cfgId d)))
  else if a = 0x14003C then some (booted d (hiWord (cfgId d)))
  else if a = 0x14004C then some (booted d (voicePool d d.pwr.capPoint))
  else if a = 0x140050 then some (booted d (geomCapacity d d.pwr.capPoint))
  else none

/-! ### APORT, DEC, DRIVE, LISTEN -/

/-- APORT (R348). -/
def viewAport (d : Dev) (a : Nat) : Option Nat :=
  let p := (a - 0x151000) / 0x80
  if a = 0x150000 then some (aportAlignedBits d)
  else if a = 0x150004 then some (aportFlagBits d)
  else if a < 0x151000 then none
  else if a % 0x80 = 0x08 then some (aportStatus d p)
  else if a % 0x80 = 0x34 then some (booted d (loWord (bufAddr p 0 - 0x1001000000)))
  else if a % 0x80 = 0x38 then some (booted d (loWord (bufAddr p 1 - 0x1001000000)))
  else none

/-- Does a direct-drive channel run in the sense of R291: from its diagnostics to the end of its down-ramp (DEDUCED)? -/
def drvChRuns (d : Dev) (c : Nat) : Bool := decide (1 ≤ (drvCh d c).state) && decide ((drvCh d c).state ≤ 5)

/-- DEC (R303). -/
def viewDec (d : Dev) (a : Nat) : Option Nat :=
  if a = 0x160004 then some (setBits (rdN d a) 0 0 (b2n d.time.epochSet))
  else if a = 0x160008 then some (decLoad d)
  else if 0x160010 ≤ a ∧ a < 0x160020 then some (stuckWord d ((a - 0x160010) / 4))
  else if 0x160100 ≤ a ∧ a < 0x160300 ∧ a % 64 = 0x2C then some (booted d (capBlockBytes d ((a - 0x160100) / 64)))
  else if 0x161000 ≤ a ∧ a < 0x162000 ∧ a % 32 = 0x0C then some (chDelay d ((a - 0x161000) / 32))
  else if 0x161000 ≤ a ∧ a < 0x162000 ∧ a % 32 = 0x10 then some (chState (drvChRuns d) d ((a - 0x161000) / 32))
  else if 0x16C000 ≤ a ∧ a < 0x170000 then
    some (wrapN 32 (resampleTap ((a - 0x16C000) / 64) ((a - 0x16C000) % 64 / 4)))
  else none

/-- DRIVE (R323 to R325). -/
def viewDrive (d : Dev) (a : Nat) : Option Nat :=
  if a = 0x170004 then some (drvStatus d)
  else if 0x170040 ≤ a ∧ a < 0x1700C0 ∧ a % 16 = 8 then some (railNow d ((a - 0x170040) / 16))
  else if 0x171000 ≤ a ∧ a % 64 = 0x10 then some (drvChStatus d ((a - 0x171000) / 64))
  else if 0x171000 ≤ a ∧ a % 64 = 0x18 then some (wrapN 32 (drvCh d ((a - 0x171000) / 64)).g)
  else none

/-- LISTEN (R349). -/
def viewListen (d : Dev) (a : Nat) : Option Nat := if a = 0x180004 then some (listenStatus d) else none

/-! ### DMA, DRAMC, SRAMC -/

/-- DMA (R480). -/
def viewDma (d : Dev) (a : Nat) : Option Nat :=
  let c := (a - 0x191000) / 64
  if a = 0x190008 then some (dmaOutstanding d)
  else if a = 0x19000C then some (dmaHalted d 0)
  else if a = 0x190010 then some (dmaHalted d 1)
  else if a < 0x191000 then none
  else if a % 64 = 0x04 then some (setBits (rdN d a) 1 1 (b2n (decide ((dmaCh d c).state = .stopping))))
  else if a % 64 = 0x08 then some (dmaChStatus d c)
  else if a % 64 = 0x24 then some (loWord (dmaCh d c).cur)
  else if a % 64 = 0x28 then some (hiWord (dmaCh d c).cur)
  else none

/-- DRAMC (R480). -/
def viewDramc (d : Dev) (a : Nat) : Option Nat := if a = 0x1A0004 then some (setBits (dramStatus d) 2 0 (booted d (bits (dramStatus d) 2 0))) else none

/-- SRAMC (R480). -/
def viewSramc (d : Dev) (a : Nat) : Option Nat := if a = 0x1B0004 then some (sramStatus d) else none

/-! ### Every block -/

/-- The view of a register, if it has one. -/
def regView (d : Dev) (a : Nat) : Option Nat :=
  match a / 65536 with
  | 0x00 => viewSys d a
  | 0x01 => viewPwr d a
  | 0x02 => viewTime d a
  | 0x03 => viewHostif d a
  | 0x04 => viewDisp d a
  | 0x05 => viewGeom d a
  | 0x06 => viewVoice d a
  | 0x08 => viewPlan d a
  | 0x0A => viewLupin d a
  | 0x0B => viewSurvey d a
  | 0x0C => viewAster d a
  | 0x10 => viewNet d a
  | 0x11 => viewNet d a
  | 0x12 => viewNet d a
  | 0x13 => viewNet d a
  | 0x14 => viewPair d a
  | 0x15 => viewAport d a
  | 0x16 => viewDec d a
  | 0x17 => viewDrive d a
  | 0x18 => viewListen d a
  | 0x19 => viewDma d a
  | 0x1A => viewDramc d a
  | 0x1B => viewSramc d a
  | 0x1D => viewSec d a
  | 0x1E => viewAge d a
  | 0x1F => viewPeriph d a
  | _ => none

/-- The word that a register shows. -/
def regValue (d : Dev) (a : Nat) : Nat :=
  match regView d a with
  | some v => v
  | none => rdN d a

end Sys2Proof.Machine
end

