-- ==== Sys2Proof/Machine/Bus.lean ====
section
/-!
DEFINITION. The register bridge: reads and writes of register space by any master (R12 to R20), with the acts of the
registers that do more than store.
-/

namespace Sys2Proof.Machine

/-! ### Accesses that meet no register -/

/-- An access that meets R20: the flag, and the offset of the first such access. -/
def unmapped (write : Bool) (a : Nat) (d : Dev) : Dev :=
  let d := if bitAt d 0x100 0 then d else wrN 0x104 (a % 2 ^ 24 + b2n write * 2 ^ 31) d
  setFlag 0x100 0 d

/-! ### Write refusal -/

/-- The write_refused flag of the block, port or core that holds an address: register and bit. -/
def refusedFlag (a : Nat) : Option (Nat × Nat) :=
  match a / 65536 with
  | 0x01 => some (0x10004, 11)
  | 0x02 => some (0x20004, 12)
  | 0x03 => some (0x30004, 9)
  | 0x04 => some (0x40004, 14)
  | 0x05 => some (0x50004, 8)
  | 0x06 => some (0x60004, 8)
  | 0x0A => some (0xA0004, 11)
  | 0x0B => some (0xB0004, 11)
  | 0x0C => some (0xC0004 + a % 65536 / 0x1000 * 0x1000, 9)
  | 0x10 => some (0x100004, 13)
  | 0x11 => some (0x110004, 13)
  | 0x12 => some (0x120004, 13)
  | 0x13 => some (0x130004, 13)
  | 0x14 => some (0x140004, 15)
  | 0x15 => some (0x151008 + (a - 0x151000) / 0x80 * 0x80, 12)
  | 0x16 => some (0x160004, 8)
  | 0x17 => some (0x170004, 8)
  | 0x18 => some (0x180004, 19)
  | 0x19 => some (0x190004, 8)
  | 0x1A => some (0x1A0004, 11)
  | 0x1B => some (0x1B0004, 11)
  | 0x1C => some (0x1C0004, 4)
  | 0x1D => some (0x1D0000, 16)
  | 0x1E => some (0x1E0004, 11)
  | 0x1F => some (0x1F0000, 8)
  | _ => none

/-- A write discarded as out of range or not allowed: the block's flag. -/
def writeRefused (a : Nat) (d : Dev) : Dev :=
  match refusedFlag a with
  | some (r, b) => setFlag r b d
  | none => d

/-- Does the present mode, or the master, let a register take writes (R38, R66, R534)? -/
def lockOpen (d : Dev) (m : Master) : RegLock → Bool
  | .any => true
  | .config => decide (d.sys.mode = .config)
  | .bootConfig => decide (d.sys.mode = .boot) || decide (d.sys.mode = .config)
  | .boot => decide (d.sys.mode = .boot)
  | .firmware => isControl m
  | .running => decide (d.sys.mode ≠ .boot) && decide (d.sys.mode ≠ .stop)

/-- A write that the lock of a register refuses. -/
def lockRefused (l : RegLock) (a : Nat) (d : Dev) : Dev :=
  match l with
  | .firmware => periphRefused d
  | _ => lockedWrite a d

/-! ### Ranges -/

/-- Is a word the sign extension of its low 24 bits? -/
def signed24 (v : Nat) : Bool := decide (v < 2 ^ 23) || decide (2 ^ 32 - 2 ^ 23 ≤ v)

/-- The ranges of a row's fields. -/
def rangesOk (r : RegRow) (v : Nat) : Bool :=
  r.ranges.all (fun x => decide (x.2.2.1 ≤ bits v x.1 x.2.1) && decide (bits v x.1 x.2.1 ≤ x.2.2.2))

/-- The ranges that are not those of one field: signed coordinates, a box with MIN above MAX, NET_PAUSE_LO and its
distance from NET_PAUSE_HI, ring sizes that are powers of two, logSyncInterval (R65, R128, R214, R288, R303, R377). -/
def extraOk (d : Dev) (a v : Nat) : Bool :=
  if 0x50020 ≤ a ∧ a < 0x5002C then signed24 v
  else if 0x50030 ≤ a ∧ a < 0x50048 then
    signed24 v && (if a % 8 = 0 then decide (sext 32 v ≤ sext 32 (rdN d (a + 4)))
      else decide (sext 32 (rdN d (a - 4)) ≤ sext 32 v))
  else if 0xB1000 ≤ a ∧ a < 0xB1480 ∧ a % 16 < 12 then signed24 v
  else if 0x100000 ≤ a ∧ a < 0x140000 ∧ a % 0x10000 = 0x30 then decide (v + 16 ≤ rdN d (a - 4))
  else if a = 0x4004C then isPow2 v && decide (1024 ≤ v) && decide (v ≤ 2 ^ 24)
  else if 0x160100 ≤ a ∧ a < 0x160300 ∧ a % 64 = 0x1C then isPow2 v && decide (16 ≤ v) && decide (v ≤ 65536)
  else if a = 0x20000 then decide (-4 ≤ sext 4 (bits v 19 16)) && decide (sext 4 (bits v 19 16) ≤ 1)
  else if a = 0x180008 then decide (bits v 7 0 ≤ 191) || decide (bits v 7 0 = 255)
  else true

/-! ### Plain writes -/

/-- The word after a plain write: RW bits take the value, W1C bits clear on a written 1 (R15). -/
def plainWord (r : RegRow) (old v : Nat) : Nat := ((old &&& (0xFFFFFFFF ^^^ r.rw)) &&& (0xFFFFFFFF ^^^ (r.w1c &&& v)))
  ||| (v &&& r.rw)

/-- A write with no act of its own. -/
def plainWrite (r : RegRow) (a v : Nat) (d : Dev) : Dev :=
  if rangesOk r v && extraOk d a v then wrN a (plainWord r (rdN d a) v) d else writeRefused a d

/-! ### Registers with an act -/

/-- What a committed epoch does beyond TIME: staging presence clears (R134), the decimators restart (R296, R297), and
the transmit streams take their timestamp base (R363). -/
def epochWrite (ns : Nat) (d : Dev) : Dev :=
  match epochCommit ns d with
  | (true, d) =>
    let d := framesAnew (decRestart (stagingReset d))
    { d with net := { d.net with te := epochSamples d } }
  | (false, d) => d

/-- TIME_PULSE_CTRL: its fields, then the arming; the W1S bit reads 1 until the next tick has taken it (R15, R89). -/
def pulseWrite (r : RegRow) (a v : Nat) (d : Dev) : Dev :=
  if rangesOk r v then
    onlyIf (v.testBit 3) (fun d => pulseArm ((a - 0x20100) / 32) (setFlag a 3 d)) (wrN a (plainWord r (rdN d a) v) d)
  else writeRefused a d

/-- TIME_MEDIA_CFG: synthesiser B stops when its enable is cleared, and loses its lock when its family changes (R86,
R87). -/
def mediaWrite (v : Nat) (d : Dev) : Dev :=
  let same := decide (v % 4 = rdN d 0x20060 % 4)
  let d := wrN 0x20060 (v % 4) d
  if same then d else synthBLoss d

/-- TIME_ALARM_CTRL: enable written 1 latches and arms, written 0 disarms (R92); a PT out of range is refused (R9). -/
def alarmWrite (r : RegRow) (a v : Nat) (d : Dev) : Dev :=
  let n := (a - 0x20200) / 16
  if alarmRangeBad n v d then writeRefused a d else
  let d := wrN a (plainWord r (rdN d a) v) d
  if v.testBit 0 then alarmArm n d else putAlarm n { alarm d n with armed := false } d

/-- PLAN_CTRL: a change of the sample rate counts the quantum anew (R84, R187). -/
def planCtrlWrite (r : RegRow) (v : Nat) (d : Dev) : Dev :=
  let d' := plainWrite r 0x80000 v d
  if rate96 d = rate96 d' then d' else recountQn d'

/-- PWR_FAIL_CODE: clearing valid clears code and detail (R513). -/
def failCodeWrite (v : Nat) (d : Dev) : Dev := if v.testBit 16 then wrN 0x10028 0 d else d

/-- The acts of the TIME registers. -/
def actTime (r : RegRow) (a v : Nat) (d : Dev) : Option Dev :=
  if a = 0x20008 then some (wrAddend v d)
  else if a = 0x20020 then some (timeAdj (sext 32 v) d)
  else if a = 0x20030 then some (timeSet v d)
  else if a = 0x20034 then some (timeSetWord false v d)
  else if a = 0x20038 then some (timeSetWord true v d)
  else if a = 0x20040 then some (epochWrite v d)
  else if a = 0x20060 then some (mediaWrite v d)
  else if 0x20100 ≤ a ∧ a < 0x20180 ∧ a % 32 = 0 then some (pulseWrite r a v d)
  else if 0x20100 ≤ a ∧ a < 0x20180 ∧ a % 32 = 4 then some (pulseStartWrite ((a - 0x20100) / 32) v d)
  else if 0x20200 ≤ a ∧ a < 0x20280 ∧ a % 16 = 0 then some (alarmWrite r a v d)
  else none

/-- The acts of the HOSTIF registers. -/
def actHostif (r : RegRow) (a v : Nat) (d : Dev) : Option Dev :=
  if 0x31000 ≤ a ∧ a < 0x31000 + 0x40 * 74 ∧ a % 64 = 0 then some (ringCfgWrite ((a - 0x31000) / 64) v d)
  else if 0x38000 ≤ a ∧ a < 0x3A000 then some (msixWrite a (v &&& r.rw) d)
  else none

/-- The acts of the DISP registers. DISP_DONE is banked: a master that is no control core has no bank, and its write has
no effect (DEDUCED). -/
def actDisp (m : Master) (a v : Nat) (d : Dev) : Option Dev :=
  if a = 0x4000C then some (matchPeak v d)
  else if a = 0x40210 then
    some (match m with
      | .control c => controlDone c v d
      | _ => d)
  else if a = 0x40214 then some (dispPost v d)
  else if a = 0x40228 then some (bgSubmit v d)
  else if 0x40300 ≤ a ∧ a < 0x40320 then some (cqPush ((a - 0x40300) / 4) v d)
  else if a = 0x40400 then some (matchSelect (v % 16384) d)
  else if 0x40800 ≤ a ∧ a < 0x40A00 ∧ a % 32 = 0x10 then some (coreDone ((a - 0x40800) / 32) v .standard d)
  else none

/-- The acts of the ASTER registers: the debug registers act while the core is halted (R251). -/
def actAster (a v : Nat) (d : Dev) : Option Dev :=
  let c := (a - 0xC0000) / 0x1000
  let off := a % 0x1000
  if off = 0 then some (asterRun c v d)
  else if off = 0x40 then
    (if (acore d c).status = 3 then none else some (writeRefused a d))
  else if off = 0x44 then some (dbgDataWrite c v d)
  else if off = 0x48 then
    some (if v.testBit 0 then dbgHalt c d else if v.testBit 1 then dbgResume c d
      else if v.testBit 2 then dbgStepHere c d else dbgCommand c true id d)
  else none

/-- The acts of the DEC registers. -/
def actDec (a v : Nat) (d : Dev) : Option Dev :=
  if a = 0x160000 then some (decCtrlWrite v d)
  else if a = 0x160044 then some (coefWrite v d)
  else if 0x161000 ≤ a ∧ a < 0x162000 ∧ a % 32 < 12 then some (decChWrite ((a - 0x161000) / 32) (a % 32 / 4) v d)
  else none

/-- The acts of the APORT registers. -/
def actAport (a v : Nat) (d : Dev) : Option Dev :=
  let p := (a - 0x151000) / 0x80
  if a < 0x151000 then none
  else if a % 0x80 = 0x00 then some (aportCfgWrite p v d)
  else if a % 0x80 = 0x04 then some (aportCtrlWrite p v d)
  else if a % 0x80 = 0x0C then some (maskWrite p 0 v d)
  else if a % 0x80 = 0x10 then some (maskWrite p 1 v d)
  else none

/-- The acts of the DMA registers: the channels of the firmware are closed to the host bridge (R471). -/
def actDma (m : Master) (r : RegRow) (a v : Nat) (d : Dev) : Option Dev :=
  let c := (a - 0x191000) / 64
  if a < 0x191000 then none
  else if a % 64 = 0x00 then some (dmaCfg m c (v &&& r.rw) d)
  else if a % 64 = 0x04 then some (dmaCtrl m c v d)
  else if a % 64 = 0x1C then some (dmaProd m c v d)
  else if dmaGuard m c then some (dmaRefused d)
  else none

/-- The acts of the SEC registers. -/
def actSec (a v : Nat) (d : Dev) : Option Dev :=
  if a = 0x1D0004 then some (lcRequest v d)
  else if a = 0x1D000C then some (tamperClear v d)
  else if 0x1D0010 ≤ a ∧ a < 0x1D0070 then
    some { d with sec := { d.sec with token := fput 0 d.sec.token ((a - 0x1D0010) / 4) v } }
  else if a = 0x1D00C4 then some (svnCommit (v % 64) d)
  else none

/-- The acts of the PERIPH registers. -/
def actPeriph (m : Master) (a v : Nat) (d : Dev) : Option Dev :=
  if a = 0x1F001C then some (flashCmdWrite m v d)
  else if a = 0x1F0104 then some (i2cStart m 0 v d)
  else if a = 0x1F0144 then some (i2cStart m 1 v d)
  else if a = 0x1F0204 then some (uartTx m v d)
  else if a = 0x1F020C then some (uartPop m d)
  else none

/-- The act of a write, for a register that has one. -/
def regAct (m : Master) (r : RegRow) (a v : Nat) (d : Dev) : Option Dev :=
  match a / 65536 with
  | 0x00 =>
    if a = 0x230 then some (faultCausesWrite v d)
    else if a = 0x210 then some (roleWrite d (plainWrite r a v d)) else none
  | 0x01 => if a = 0x10028 then some (failCodeWrite v d) else if a = 0x10034 then some (wdtWrite v d) else none
  | 0x02 => actTime r a v d
  | 0x03 => actHostif r a v d
  | 0x04 => actDisp m a v d
  | 0x08 => if a = 0x80000 then some (planCtrlWrite r v d) else none
  | 0x0C => actAster a v d
  | 0x10 =>
    if a = 0x100000 then some (netCtrlWrite 0 v d) else if a = 0x108000 then some (streamSelWrite (v % 512) d) else none
  | 0x11 => if a = 0x110000 then some (netCtrlWrite 1 v d) else none
  | 0x12 => if a = 0x120000 then some (netCtrlWrite 2 v d) else none
  | 0x13 => if a = 0x130000 then some (netCtrlWrite 3 v d) else none
  | 0x15 => actAport a v d
  | 0x16 => actDec a v d
  | 0x17 =>
    if 0x171000 ≤ a ∧ a < 0x171400 ∧ a % 64 = 0 then some (drvCfgWrite ((a - 0x171000) / 64) v d)
    else if 0x170040 ≤ a ∧ a < 0x1700C0 ∧ a % 16 = 0 then some (railCfgWrite ((a - 0x170040) / 16) v d)
    else none
  | 0x18 =>
    if a = 0x180000 then some (listenCtrlWrite v d) else if a = 0x180008 then some (hpVolWrite v d) else none
  | 0x19 => actDma m r a v d
  | 0x1D => actSec a v d
  | 0x1F => actPeriph m a v d
  | _ => none

/-- An aligned 32-bit write to register space (R12, R15, R20). -/
def busWrite (m : Master) (a v : Nat) (d : Dev) : Dev :=
  if a % 4 ≠ 0 then d else
  match regRow a with
  | none => unmapped true a d
  | some r =>
    if !lockOpen d m r.lock then lockRefused r.lock a d
    else
      match regAct m r a v d with
      | some d' => d'
      | none => plainWrite r a v d

/-! ### Reads -/

/-- The wide values (R18): address of the lowest word of the first instance, instances and stride, and number of words.
They are the values whose words the tables name _LO and _HI, NS and S_LO and S_HI, or LO, MID and HI, the message address
of an MSI-X entry, and the addresses NET_MCAST, NET_IP6 and PAIR_PEER_IP6, whose word at the lowest offset is taken as
their lowest (DEDUCED, log 8). -/
def wideRows : List (Nat × Nat × Nat × Nat) := [
  (0x204, 1, 4, 2), (0x20010, 1, 4, 3), (0x20040, 1, 4, 3), (0x20050, 1, 4, 2), (0x20104, 4, 0x20, 3),
  (0x20204, 8, 0x10, 3), (0x31008, 74, 0x40, 2), (0x31010, 74, 0x40, 2), (0x40030, 1, 4, 2), (0x40044, 1, 4, 2),
  (0x40208, 1, 4, 2), (0x40218, 1, 4, 2), (0x50058, 1, 4, 2), (0x50180, 1, 4, 2), (0x80010, 1, 4, 2),
  (0x80018, 1, 4, 2), (0x80020, 1, 4, 2), (0xC0018, 16, 0x1000, 2), (0x100008, 4, 0x10000, 2),
  (0x100014, 4, 0x10000, 4), (0x100400, 32, 8, 2), (0x110400, 32, 8, 2), (0x120400, 32, 8, 2), (0x130400, 32, 8, 2),
  (0x14000C, 1, 4, 4), (0x62000, 1024, 8, 2), (0x14001C, 1, 4, 2),
  (0x140038, 1, 4, 2), (0x140044, 1, 4, 2), (0x160114, 8, 0x40, 2), (0x38000, 512, 0x10, 2), (0x19000C, 1, 4, 2), (0x19100C, 64, 0x40, 2),
  (0x191014, 64, 0x40, 2), (0x191024, 64, 0x40, 2), (0x191030, 64, 0x40, 2), (0x1A0010, 1, 4, 2),
  (0x1A0100, 11, 0x10, 2), (0x1C0008, 1, 4, 2), (0x1D0090, 1, 4, 12), (0x1F0020, 1, 4, 2), (0x1F0028, 1, 4, 2)]

/-- The place of an address in a wide value: the word it is, and the number of words. -/
def wordPlace (rows : List (Nat × Nat × Nat × Nat)) (a : Nat) : Option (Nat × Nat) :=
  match rows with
  | [] => none
  | (base, n, stride, words) :: rest =>
    if base ≤ a ∧ (a - base) / stride < n ∧ (a - base) % stride < 4 * words ∧ (n = 1 → a - base < 4 * words) then
      some ((a - base) % stride / 4, words)
    else if n = 1 ∧ base ≤ a ∧ a - base < 4 * words then some ((a - base) / 4, words)
    else wordPlace rest a

/-- The word of a control core's bank (R203). A master that is no control core has no bank and reads the reset values
(DEDUCED). -/
def bankedWord (d : Dev) (m : Master) (a : Nat) : Nat :=
  match m with
  | .control c =>
    let x := fget {} d.disp.ctl c
    if a = 0x40204 then x.ref else if a = 0x40208 then loWord x.qn else hiWord x.qn
  | _ => 0

/-- The key of a shadow word: the banked one has a copy for each control core. -/
def shadowKey (m : Master) (a : Nat) : Nat :=
  match m with
  | .control c => if a = 0x4020C then a + 2 ^ 24 * (c + 1) else a
  | _ => a

/-- The word that a register shows to a master, without the rules of R17 and R18. -/
def liveWord (d : Dev) (m : Master) (a : Nat) : Nat :=
  if 0x40204 ≤ a ∧ a < 0x40210 then bankedWord d m a else regValue d a

/-- What a shadow holds (R18). -/
def shadowWord (d : Dev) (m : Master) (a : Nat) : Nat :=
  match fget? d.shadow (shadowKey m a) with
  | some w => w.toNat
  | none => (regReset a).toNat

/-- The read of the lowest word of a wide value takes the words above into their shadow (R18). -/
def snapshot (m : Master) (a words : Nat) (d : Dev) : Dev :=
  forN (words - 1) (fun i d =>
    let h := a + 4 * (i + 1)
    { d with shadow := fins d.shadow (shadowKey m h) (BitVec.ofNat 32 (liveWord d m h)) }) d

/-- An aligned 32-bit read of register space: the value, and the state after it (R12, R15, R17, R18, R20). The read of
DISP_TAKE by a control core returns through R203, not here. -/
def busRead (m : Master) (a : Nat) (d : Dev) : Nat × Dev :=
  if a % 4 ≠ 0 then (0, d) else
  match regRow a with
  | none => (0, unmapped false a d)
  | some r =>
    if a = 0x40200 then (0xFFFFFFFF, d)
    else
      match r.kind with
      | .wo => (0, d)
      | .rc =>
        if 0x1C0100 ≤ a ∧ a < 0x1C0160 then takeFree (2 ^ 32) d else
        let d := if a = 0x4002C then waitCount d else d
        (rdN d a, wrN a 0 d)
      | .plain =>
        match wordPlace wideRows a with
        | some (0, words) => (liveWord d m a, snapshot m a words d)
        | some (_ + 1, _) => (shadowWord d m a, d)
        | none => (liveWord d m a, d)

/-- A read as a master makes it: the answer goes out, or a control core's TAKE is served or waits (R203). -/
def readFor (m : Master) (a : Nat) (d : Dev) : Dev :=
  match m, decide (a = 0x40200) with
  | .control c, true => take c d
  | _, _ =>
    let r := busRead m a d
    emit (.readData m r.1) r.2

/-- An access that is narrower than 32 bits or not aligned: no effect; a read returns 0 (R12). -/
def oddAccess (m : Master) (write : Bool) (d : Dev) : Dev := if write then d else emit (.readData m 0) d

/-- An access at an address of no register (R20): a read returns 0. -/
def unmappedAccess (m : Master) (write : Bool) (a v : Nat) (d : Dev) : Dev :=
  if write then busWrite m a v d else readFor m a d

end Sys2Proof.Machine
end

