-- ==== Sys2Proof/Machine/Dma.lean ====
section
/-!
DEFINITION. The data bursts of the DMA engine (R467, R472, R475, R476): reads and writes at the addresses of R447, the
register window among them, and the answer of a burst.
-/

namespace Sys2Proof.Machine

/-- Reads words of the register window (R12, R20). -/
def regWindowRead (m : Master) (a words : Nat) (d : Dev) : Bytes × Dev :=
  match words with
  | 0 => ([], d)
  | k + 1 =>
    let r := busRead m (a % 2 ^ 24) d
    let rest := regWindowRead m (a + 4) k r.2
    (leBytes 4 r.1 ++ rest.1, rest.2)

/-- Writes words of the register window (R12, R20). -/
def regWindowWrite (m : Master) (a : Nat) (bs : Bytes) (words : Nat) (d : Dev) : Dev :=
  match words with
  | 0 => d
  | k + 1 => regWindowWrite m (a + 4) (bs.drop 4) k (busWrite m (a % 2 ^ 24) (leAt bs 0 4) d)

/-- Reads `n` bytes at an address of R447; `host` are the bytes when it lies in host memory. An access of the window
that is not made of whole words reads 0 (R12). -/
def burstRead (m : Master) (a n : Nat) (host : Bytes) (d : Dev) : Bytes × Dev :=
  if a.testBit 63 = false then (padTo n host, d)
  else if inRegWindow (a % 2 ^ 40) then
    if a % 4 = 0 ∧ n % 4 = 0 then regWindowRead m (a % 2 ^ 40) (n / 4) d else (zeros n, d)
  else (addrRead d (a % 2 ^ 40) n, d)

/-- Writes bytes at an address of R447; one to the window that is not made of whole words has no effect (R12). -/
def burstWrite (m : Master) (a : Nat) (bs : Bytes) (d : Dev) : Dev :=
  if a.testBit 63 && inRegWindow (a % 2 ^ 40) then
    (if a % 4 = 0 ∧ bs.length % 4 = 0 then regWindowWrite m (a % 2 ^ 40) bs (bs.length / 4) d else d)
  else drefWrite a bs d

/-- What a fetch that succeeds counts at a device address: a corrected error, or a line served from the write queue (R452, R454,
R457). -/
def fetchSeen (resp : BurstResp) (a : Nat) (d : Dev) : Dev :=
  match resp with
  | .corrected => memCe a d
  | .forwarded => if a < dramBytes d then incCnt (dramA (dramChannel d a) + 8) d else d
  | _ => d

/-- A channel fetches its next descriptor; `host` are the bytes read when it lies in host memory (R473 to R477). -/
def dmaFetch (c : Nat) (host : Bytes) (resp : BurstResp) (d : Dev) : Dev :=
  let x := dmaCh d c
  let start := decide (x.state = .idle) && decide (dmaHeld d c ≠ 0)
  let x := if start then { x with state := .running, cur := dmaEntryAddr d c, chained := false, recent := [], hops := 0 } else x
  if bitAt d 0x190000 0 = false ∨ (x.state ≠ .running ∧ x.state ≠ .stopping) ∨ x.desc.isSome ∨ c ≥ 64 then d else
  let d := putDma c x d
  let a := x.cur
  let dev := a.testBit 63
  if dev && !addrAnswers d false (a % 2 ^ 40) 32 then dmaHalt c 8 (a % 2 ^ 40) (matrixDecode (7 + (portFor d c).getD 0) (a % 2 ^ 40) false d)
  else match resp with
    | .error => dmaRetry c 8 (a % 2 ^ 40) none d
    | .timeout => dmaRetry c 8 (a % 2 ^ 40) none d
    | .uncorrectable => dmaRetry c 8 (a % 2 ^ 40) none (onlyIf dev (memUe (a % 2 ^ 40)) d)
    | _ =>
      let d := onlyIf dev (fetchSeen resp (a % 2 ^ 40)) d
      let (b, d) := burstRead (.dma c) a 32 host d
      let x := { x with tries := 0, used := 0, done := 0, ended := false
                        recent := (a :: x.recent).take 8, hops := x.hops + 1 }
      let d := putDma c x d
      if dmaDescOk b = false then dmaHalt c 5 (a % 2 ^ 40) (dmaStatus c 5 d)
      else wrN (dmaA c + 0x2C) (leAt b 16 4) (putDma c { x with desc := some b } d)

/-- The transfer of a descriptor has ended: the next of its chain, the end of the entry, or a loop (R473, R477, R478). -/
def dmaDescEnd (c : Nat) (b : Bytes) (d : Dev) : Dev :=
  let x := dmaCh d c
  if (leAt b 20 2).testBit 2 then
    let next := leAt b 24 8
    if x.recent.contains next || decide (x.hops ≥ rdN d (dmaA c + 0x38)) then
      dmaHalt c 6 (x.cur % 2 ^ 40) (dmaStatus c 6 d)
    else
      let d := dmaStatus c 1 d
      let st := if x.state = .stopping then DmaState.stopped else x.state
      putDma c { x with state := st, cur := next, desc := none, done := 0, tries := 0, used := 0, chained := true } d
  else putDma c { x with ended := true } d

/-- A ring entry ends: status, consumer index, writeback (R473). -/
def dmaEntryEnd (c : Nat) (d : Dev) : Dev :=
  let x := dmaCh d c
  if x.ended = false then d else
  let d := dmaStatus c 1 d
  let idx := (rdN d (dmaA c + 0x20) + 1) % 2 ^ 32
  let d := wrN (dmaA c + 0x20) idx d
  let d := burstWrite (.dma c) (addr64 d (dmaA c + 0x14)) (leBytes 4 idx) d
  if x.state = .stopping then putDma c { state := .stopped, cur := dmaEntryAddr d c } d
  else putDma c { state := .idle, cur := x.cur } d

/-- The bytes of a fill from an offset of its destination. -/
def fillBytes (pattern off n : Nat) : Bytes := (List.range n).map (fun (i : Nat) => BitVec.ofNat 8 (pattern / 256 ^ ((off + i) % 4)))

/-- The device address of a burst that the matrix answers with a decode error, and whether it is a write (R448). -/
def burstDecode (d : Dev) (b : Bytes) (done n : Nat) : Option (Nat × Bool) :=
  let src := leAt b 0 8 + done
  let dst := leAt b 8 8 + done
  let copy := decide (leAt b 20 2 % 4 = 0)
  if copy && src.testBit 63 && !addrAnswers d false (src % 2 ^ 40) n then some (src % 2 ^ 40, false)
  else if dst.testBit 63 && !addrAnswers d true (dst % 2 ^ 40) n then some (dst % 2 ^ 40, true)
  else none

/-- Moves the bytes of a burst; `host` are those read in host memory. -/
def burstMove (c : Nat) (b : Bytes) (done n : Nat) (host : Bytes) (d : Dev) : Dev :=
  let dst := leAt b 8 8 + done
  if leAt b 20 2 % 4 = 1 then burstWrite (.dma c) dst (fillBytes (leAt b 0 4) done n) d
  else
    let r := burstRead (.dma c) (leAt b 0 8 + done) n host d
    burstWrite (.dma c) dst r.1 r.2

/-- The DRAM address that a burst reads, if any: the source of a copy, or the destination of a fill. -/
def burstDram (d : Dev) (b : Bytes) (done : Nat) : Option Nat :=
  let a := (if leAt b 20 2 % 4 = 1 then leAt b 8 8 else leAt b 0 8) + done
  if a.testBit 63 && decide (a % 2 ^ 40 < dramBytes d) then some (a % 2 ^ 40) else none

/-- The device address of a burst at which an error of memory counts: its source, or the destination of a fill. -/
def burstAt (b : Bytes) (done : Nat) : Option Nat :=
  let a := (if leAt b 20 2 % 4 = 1 then leAt b 8 8 else leAt b 0 8) + done
  if a.testBit 63 then some (a % 2 ^ 40) else none

/-- What an uncorrectable error of a burst records (R241, R452, R457). -/
def burstUe (b : Bytes) (done : Nat) (d : Dev) : Dev :=
  match burstAt b done with
  | some a => memUe a d
  | none => d

/-- What a corrected error of a burst counts (R452, R457). -/
def burstCe (b : Bytes) (done : Nat) (d : Dev) : Dev :=
  match burstAt b done with
  | some a => memCe a d
  | none => d

/-- A burst fails: a failed last beat writes the status at once (R476); then the retry or the halt (R475). -/
def burstFail (c status addr : Nat) (last : Bool) (d : Dev) : Dev :=
  dmaRetry c status addr (some status) (onlyIf last (dmaStatus c status) d)

/-- A burst has succeeded on a port. -/
def burstDone (c port : Nat) (b : Bytes) (n : Nat) (d : Dev) : Dev :=
  let x := dmaCh d c
  let d := putDma c { x with done := x.done + n, tries := 0 } (portMoved port n d)
  onlyIf (decide (leAt b 16 4 ≤ x.done + n)) (dmaDescEnd c b) d

/-- The answer of the burst under way of a channel (R469, R475, R476). A channel that no port serves waits (R474). -/
def dmaBurst (c : Nat) (resp : BurstResp) (host : Bytes) (d : Dev) : Dev :=
  let d := dmaArbitrate d
  let x := dmaCh d c
  match x.desc, dmaBound d c with
  | none, _ => d
  | _, none => d
  | some b, some port =>
    let n := burstSize b x.done
    let len := leAt b 16 4
    let last := decide (len ≤ x.done + n)
    let d := wrN (dmaA c + 0x2C) (len - (x.done + n)) d
    let addr := (leAt b 8 8 + x.done) % 2 ^ 40
    match burstDecode d b x.done n with
    | some (a, write) =>
      dmaHalt c 4 a (dmaStatus c 4 (matrixDecode (7 + port) a write d))
    | none =>
      match resp with
      | .ok => burstDone c port b n (burstMove c b x.done n host d)
      | .forwarded =>
        let d := match burstDram d b x.done with
          | some a => incCnt (dramA (dramChannel d a) + 8) d
          | none => d
        burstDone c port b n (burstMove c b x.done n host d)
      | .corrected =>
        burstDone c port b n (burstMove c b x.done n host (burstCe b x.done d))
      | .error => burstFail c 2 addr last d
      | .uncorrectable => burstFail c 2 addr last (burstUe b x.done d)
      | .timeout => burstFail c 3 addr last d

/-! ### Tile transfers (R241, R244) -/

/-- Bytes of a transfer at its remote address: an accumulator fetch reads 8 for each word of 4 in the tile. -/
def xferSpan (x : Xfer) : Nat := if x.kind = 2 ∨ x.kind = 3 then 2 * x.length else x.length

/-- An accumulator fetch (R148, R244): each 8-byte accumulator becomes a word of the tile; kind 2 clears it. Whole outputs of the
fetch are kept for the output chain. -/
def xferFetch (c : Nat) (x : Xfer) (raw : Bytes) (d : Dev) : Dev :=
  let n := x.length / 4
  let sums := (List.range n).map (fun i => sext 64 (leAt raw (8 * i) 8))
  let sats := (sums.filter (fun y => satOvf 32 (rndEven y 24))).length
  let d := memWrite (tileAddr c x.tile) (sums.flatMap (fun y => leInt 4 (accStore y))) d
  let d := onlyIf (decide (sats ≠ 0)) (addCnt 0x60034 sats) d
  if x.kind = 3 then d
  else
    let d := burstWrite (.aster c) (2 ^ 63 + x.remote) (zeros (8 * n)) d
    if inRange x.remote (8 * n) 0x1001000000 0x40000 && decide (x.remote % 256 = 0) then
      forN (n / 32) (fun i d =>
        { d with lupin := { d.lupin with
          fetched := fput [] d.lupin.fetched ((x.remote - 0x1001000000) / 256 + i)
            (((sums.drop (32 * i)).take 32).map accStore) } }) d
    else d

/-- Moves one transfer's data between the tile and a device address, the register window among them (R244, R446). -/
def xferMove (c : Nat) (x : Xfer) (d : Dev) : Dev :=
  let tile := tileAddr c x.tile
  let remote := 2 ^ 63 + x.remote
  let d := onlyIf (decide (x.kind ≠ 1)) (wordsGood c x.tile x.length) d
  if x.kind = 4 then memWrite tile (zeros x.length) d
  else if x.kind = 1 then burstWrite (.aster c) remote (memRead d tile x.length) d
  else
    let r := burstRead (.aster c) remote (xferSpan x) [] d
    if x.kind = 0 then memWrite tile r.1 r.2 else xferFetch c x r.1 r.2

/-- A queued transfer finishes or meets a bus error; the fourth error fails it (R244). -/
def xferDone (c : Nat) (err : Bool) (d : Dev) : Dev :=
  let a := acore d c
  match headXfer a with
  | none => d
  | some x =>
    if err then
      if x.errors < 3 then putCore c (setHead a (some { x with errors := x.errors + 1 })) d
      else
        let d := putCore c { setHead a none with failed := some x.desc } d
        if a.idle then asterFault c fXfer x.desc d else d
    else xferMove c x (putCore c (setHead a none) d)

/-- Does a range of a core's tile hold a word with an uncorrectable error (R241)? -/
def tileRangeBad (d : Dev) (c lo n : Nat) : Bool :=
  (acore d c).badWord.any (fun e => decide (lo / 8 ≤ e.1) && decide (e.1 < (lo + n) / 8))

/-- Does a transfer read a word of a tile, its own or the remote one, that holds an uncorrectable error (R241)? -/
def xferBad (d : Dev) (c : Nat) (x : Xfer) : Bool :=
  if x.kind = 1 then tileRangeBad d c x.tile x.length
  else (x.kind ≠ 4) && inRange x.remote 1 0x1000000000 0x1000000 &&
    tileRangeBad d ((x.remote - 0x1000000000) / 2 ^ 20) (x.remote % 2 ^ 20) (xferSpan x)

/-- What a corrected error of the memory that a transfer reads counts (R241, R452, R457). -/
def xferCe (x : Xfer) (d : Dev) : Dev :=
  if x.kind = 1 then sramCe 2 d else memCe x.remote d

/-- What an uncorrectable error of the memory that a transfer reads records (R241, R452, R457). -/
def xferUe (c : Nat) (x : Xfer) (d : Dev) : Dev :=
  if x.kind = 1 then sramUe 2 (c * 2 ^ 20 + x.tile) d else memUe x.remote d

/-- A tile transfer ends, with the errors of R241, R448 and R452 judged at what it reads and where it writes (R244, R469). -/
def tileTransferEnd (c : Nat) (resp : BurstResp) (d : Dev) : Dev :=
  match headXfer (acore d c) with
  | none => d
  | some x =>
    let write := decide (x.kind = 1) || decide (x.kind = 2)
    if x.kind ≠ 4 ∧ addrAnswers d write x.remote (xferSpan x) = false then
      xferDone c true (matrixDecode (18 + c / 2) x.remote write d)
    else if xferBad d c x = true then xferDone c true (xferUe c x d)
    else match resp with
      | .ok => xferDone c false d
      | .forwarded => xferDone c false (incCnt (dramA (dramChannel d x.remote) + 8) d)
      | .corrected => xferDone c false (xferCe x d)
      | .uncorrectable => xferDone c true (xferUe c x d)
      | _ => xferDone c true d

end Sys2Proof.Machine
end

