-- ==== Sys2Proof/Machine/Commands.lean ====
section
/-!
DEFINITION. Commands: their acceptance (R425), the order of their checks (R426, R428), their apply QN (R30, R125, R172,
R271, R426), what each does (R427), and the sending of a mirrored one to the partner (R390, R391).
-/

namespace Sys2Proof.Machine

/-! ### Tables (R390, R426, R428) -/

/-- Does a command take an apply QN (R424, R427)? -/
def takesQn (opcode : Nat) : Bool :=
  [0x10, 0x11, 0x12, 0x13, 0x14, 0x22, 0x23, 0x24, 0x31, 0x40, 0x41, 0x70].contains opcode

/-- Is a command mirrored on a formed pair (R390)? -/
def isMirrored : Cmd → Bool
  | .setMode _ scope => decide (scope = 0)
  | .setOppoint _ => true
  | .reanchorTime _ => true
  | .setAir _ _ => true
  | .setOutputAvail _ _ => true
  | .planSwap _ _ => true
  | .setRouteGain _ _ => true
  | .setRouteSource _ _ => true
  | .corrSwap _ _ _ => true
  | .pairResync _ => true
  | _ => false

/-- Is the device in a domain as an edge device (R41)? -/
def edgeInDomain (d : Dev) : Bool :=
  decide (role d = 2) && (decide (d.sys.mode = .edge)
    || (decide (d.sys.authAt ≠ 0) && decide (nowNs d < d.sys.authAt + 30000000)))

/-- The modes of the second row of R428, which are those of the first but for MIRROR. -/
def cmdModes (d : Dev) : Bool :=
  match d.sys.mode with
  | .boot => false
  | .mirror => false
  | .stop => false
  | _ => true

/-- Is a command legal in the present mode (R428)? -/
def cmdLegal (d : Dev) : Cmd → Bool
  | .setOppoint _ => cmdModes d
  | .reanchorTime _ => cmdModes d
  | .setAir _ _ => cmdModes d
  | .planLoad _ _ _ _ => cmdModes d
  | .planDrop _ => cmdModes d
  | .setRouteGain _ _ => cmdModes d
  | .setRouteSource _ _ => cmdModes d
  | .corrLoad _ _ => cmdModes d
  | .corrSwap _ _ _ => cmdModes d
  | .decConfig _ _ _ _ => cmdModes d
  | .decCompSwap _ => cmdModes d
  | .drvDiag _ => cmdModes d
  | .streamSet _ => cmdModes d
  | .streamClear _ _ => cmdModes d
  | .setOutputAvail _ _ => cmdModes d && !edgeInDomain d
  | .planSwap _ _ => !swapRefused d
  | .surveyProgram _ _ => decide (d.sys.mode = .config)
  | .pairResync _ => decide (d.sys.mode = .central) && pairFormed d
  | _ => cmdModes d || decide (d.sys.mode = .mirror)

/-- The partner of a join completes these commands BUSY_RETRY from T to the end of the join; SET_OPPOINT has that check in its own
order (R404, R488). -/
def joinHolds (d : Dev) : Cmd → Bool
  | .planSwap _ _ | .corrSwap _ _ _ | .corrLoad _ _ => joinHeld d
  | _ => false

/-! ### The apply QN -/

/-- PAIR_CMD_LEAD. -/
def cmdLead (d : Dev) : Nat := rdN d 0x140028

/-- Is a command carried out at once in CONFIG (R172, R271, R391, R488)? On a formed pair it is not. -/
def atOnceCmd (d : Dev) : Cmd → Bool
  | .planSwap _ _ => decide (d.sys.mode = .config) && !pairFormed d
  | .corrSwap _ _ _ => decide (d.sys.mode = .config) && !pairFormed d
  | _ => false

/-- The least apply QN that a command's rules allow, and the one that 0 selects (R30, R125, R172, R271, R391, R426). -/
def qnBounds (d : Dev) (c : Cmd) : Nat × Nat :=
  let now := qnNow d
  let mir := isMirrored c && pairFormed d
  let least := if mir then max 2 (cmdLead d) else 2
  let eight := if mir then max 8 (cmdLead d) else 8
  let own := decide (d.sys.mode ≠ .config)
  match c with
  | .planSwap _ _ => if own then (now + max least (leadQn d), now + leadQn d) else (now + least, now + eight)
  | .corrSwap _ _ _ => if own then (now + max least (leadQn d), now + leadQn d) else (now + least, now + eight)
  | .setOutputAvail _ _ =>
    (now + least, if mir then max (availLeadQn d) (now + cmdLead d) else availLeadQn d)
  | _ => (now + least, now + eight)

/-- The apply QN of a command, none when it breaks its rules. The partner's QN stands when it is at least the present
QN + 2 (R391). A QN above the last one breaks the range (R56). -/
def cmdQn (d : Dev) (c : Cmd) (aqn : Nat) (partner : Bool) : Option Nat :=
  let b := qnBounds d c
  let q := if aqn = 0 then b.2 else aqn
  let low := if partner then decide (aqn < qnNow d + 2)
    else match c with
      | .setOutputAvail _ _ => decide (aqn ≠ 0) && decide (aqn < b.1)
      | _ => decide (q < b.1)
  if low || decide (2 ^ 40 - 4 < q) then none else some q

/-! ### The commands that other files do not hold -/

/-- The master of a command's register access. -/
def cmdMaster : Source → Master
  | .host => .host
  | .session k => .session k
  | .firmware => .control 0

/-- REG_READ (R427): the words at addr and addr + 4. -/
def regReadCmd (cid : Nat) (src : Source) (addr : Nat) (d : Dev) : Dev :=
  if addr % 8 ≠ 0 ∨ 2 ^ 24 ≤ addr then complete cid cRange 0 0 d
  else
    let lo := busRead (cmdMaster src) addr d
    let hi := busRead (cmdMaster src) (addr + 4) lo.2
    complete cid cDone 0 (lo.1 + hi.1 * 2 ^ 32) hi.2

/-- REG_WRITE (R427): DONE once the write has been presented. -/
def regWriteCmd (cid : Nat) (src : Source) (addr value : Nat) (d : Dev) : Dev :=
  if addr % 4 ≠ 0 ∨ 2 ^ 24 ≤ addr then complete cid cRange 0 0 d
  else complete cid cDone 0 0 (busWrite (cmdMaster src) addr value d)

/-- REANCHOR_TIME on arrival (R80): counter and epoch are judged as they would stand at the start of the apply QN. -/
def reanchorTime (cid : Nat) (step : Int) (a : Option Nat) (d : Dev) : Dev :=
  match a with
  | none => complete cid cRange 0 0 d
  | some q =>
    if reanchorFits (ptOfQn d q) d step then { d with time := { d.time with reanchors := d.time.reanchors ++ [⟨q, step, cid⟩] } }
    else complete cid cRange 0 0 d

/-- SET_AIR (R112, R427). -/
def setAir (cid : Nat) (temp : Int) (humidity : Nat) (a : Option Nat) (d : Dev) : Dev :=
  if temp < -10240 ∨ 15360 < temp ∨ 100 < humidity then complete cid cRange 0 0 d
  else match a with
    | none => complete cid cRange 0 0 d
    | some q => { d with geom := { d.geom with airReqs := d.geom.airReqs ++ [⟨q, temp, humidity, some cid⟩] } }

/-- SET_OUTPUT_AVAIL (R123, R125, R427). The device that takes the command tells the domain; the partner of a formed pair
hears of it through PROPOSE (R390). -/
def setOutputAvail (cid output available : Nat) (a : Option Nat) (partner : Bool) (d : Dev) : Dev :=
  if 511 < output ∨ 1 < available then complete cid cRange 0 0 d
  else match a with
    | none => complete cid cRange 0 0 d
    | some q =>
      let up := decide (available = 1)
      let cause := if up then 6 else 5
      let d := availSchedule ⟨q, output, up, cause, some cid, none⟩ d
      if role d ≠ 1 then d else if partner then availNote output cause q d else availMulticast output cause q d

/-- PLAN_LOAD (R59, R168): the image goes to the load buffer. -/
def planLoad (cid : Nat) (src : Source) (plan kind record : Nat) (r : DRef) (d : Dev) : Dev :=
  if d.plan.load.isSome then complete cid cBusy 0 0 d
  else if planInUse d plan then complete cid cState 0 0 d
  else if 1 < kind then complete cid cRange 0 0 d
  else
    let image := if kind = 0 then refBytes d src r
      else match sceneRec d record with
        | some x => if x.kind = 1 then some (scenePayload d x) else none
        | none => none
    match image with
    | none => complete cid cRange 0 0 d
    | some img => { d with plan := { d.plan with load := some ⟨cid, plan, img, img.length⟩ } }

/-- SET_ROUTE_GAIN (R5, R185). -/
def setRouteGain (cid entry gain : Nat) (a : Option Nat) (d : Dev) : Dev :=
  if gainOk gain = false then complete cid cFormat 0 0 d
  else match a with
    | none => complete cid cRange 0 0 d
    | some q => gainRequest cid entry (sext 24 gain) q d

/-- SET_ROUTE_SOURCE (R181, R184). -/
def setRouteSource (cid slot source : Nat) (a : Option Nat) (d : Dev) : Dev :=
  if 7 < slot ∨ routeSourceOk source = false then complete cid cRange 0 0 d
  else match a with
    | none => complete cid cRange 0 0 d
    | some q => { d with route := { d.route with sourceWaits := d.route.sourceWaits ++ [⟨slot, source, q, cid⟩] } }

/-- CORR_LOAD with its data reference (R270). -/
def corrLoadRef (cid : Nat) (src : Source) (output : Nat) (r : DRef) (d : Dev) : Dev :=
  match refBytes d src r with
  | none => complete cid cRange 0 0 d
  | some img => corrLoad cid output img d

/-- Banks change places at once; a swap that waits on an output is replaced (R271, R273). -/
def corrSwapNow (outs : List Nat) (d : Dev) : Dev :=
  forL outs (fun j d =>
    let d := match (corr d j).pending with
      | some h => completeOpt h.cid cSuperseded 0 d
      | none => d
    bankSwapNow j (putCorr j { corr d j with pending := none } d)) d

/-- CORR_SWAP (R271). `atOnce`: it takes effect now, as in CONFIG. -/
def corrSwap (cid output s xfade : Nat) (a : Option Nat) (atOnce : Bool) (d : Dev) : Dev :=
  let outs := swapOutputs d output
  if corrModes d = false ∨ outs.isEmpty then complete cid cState 0 0 d
  else if 31 < s ∨ xfade < 32 ∨ 1024 < xfade then complete cid cRange 0 0 d
  else if atOnce then complete cid cDone 0 (qnNow d) (corrSwapNow outs d)
  else match a with
    | none => complete cid cRange 0 0 d
    | some q =>
      if d.sys.mode = .config then { d with pair := { d.pair with deferred := d.pair.deferred ++ [⟨q, .corrSwap output s xfade, cid⟩] } }
      else forL outs (corrSchedule ⟨q, s, xfade, some cid⟩) d

/-- SURVEY_PROGRAM (R275). -/
def surveyProgram (cid : Nat) (src : Source) (steps : Nat) (r : DRef) (d : Dev) : Dev :=
  if 4096 < steps ∨ r.len ≠ 32 * steps then complete cid cRange 0 0 d
  else match refBytes d src r with
    | none => complete cid cRange 0 0 d
    | some bs =>
      let recs := (List.range steps).map (fun i => slice bs (32 * i) 32)
      if groupedSweep false (recs.map parseStep) then complete cid cFormat 0 0 d
      else if recs.all (stepOk d) = false then complete cid cRange 0 0 d
      else complete cid cDone 0 0 { d with survey := { d.survey with program := recs.map parseStep, step := 0 } }

/-- SET_OPPOINT; in CONFIG on a formed pair it waits for the agreed apply QN (R391, R488). -/
def setOppointCmd (cid p : Nat) (a : Option Nat) (d : Dev) : Dev :=
  if decide (d.sys.mode = .config) && pairFormed d && decide (oppointCheck d p a = (cDone, false)) then
    { d with pair := { d.pair with deferred := d.pair.deferred ++ [⟨a.getD 0, .setOppoint p, cid⟩] } }
  else setOppoint cid p a d

/-- STREAM_SET with its data reference (R361). -/
def streamSetRef (cid : Nat) (src : Source) (r : DRef) (d : Dev) : Dev :=
  if r.len ≠ 128 then complete cid cRange 0 0 d
  else match refBytes d src r with
    | none => complete cid cRange 0 0 d
    | some b => streamSet cid b d

/-- PAIR_RESYNC (R403): the named device goes to SAFE at the apply QN and then joins; the command completes with the
join. -/
def pairResync (cid device : Nat) (a : Option Nat) (d : Dev) : Dev :=
  if 1 < device then complete cid cRange 0 0 d
  else match a with
    | none => complete cid cRange 0 0 d
    | some q =>
      if (transNow d).isSome ∨ d.pair.resyncCid.isSome then complete cid cBusy 0 0 d
      else
        let own := decide (devIndex d = device)
        let d := { d with pair := { d.pair with resyncCid := some cid, resyncSelf := own } }
        onlyIf own (transPlan .safe q 2 none) d

/-! ### Running a command -/

/-- What a command does once its mode is legal (R427). `a` is its apply QN, `partner` says that the partner proposed
it. -/
def perform (cid : Nat) (src : Source) (raw : Nat) (a : Option Nat) (partner : Bool) (c : Cmd) (d : Dev) : Dev :=
  match c with
  | .nop => complete cid cDone 0 0 d
  | .regRead addr => regReadCmd cid src addr d
  | .regWrite addr value => regWriteCmd cid src addr value d
  | .setMode mode scope =>
    let d := setMode cid mode scope a (decide (raw = 0)) d
    if src ≠ .firmware ∧ d.host.inflight.any (fun f => decide (f.cid = cid)) = true then { d with host := { d.host with startMode := none } } else d
  | .setOppoint p => setOppointCmd cid p a d
  | .reanchorTime step => reanchorTime cid step a d
  | .setAir temp humidity => setAir cid temp humidity a d
  | .setOutputAvail output available => setOutputAvail cid output available a partner d
  | .planLoad plan kind record r => planLoad cid src plan kind record r d
  | .planDrop plan => planDrop cid plan d
  | .planSwap plan xfade => planSwap cid plan xfade a (atOnceCmd d c) d
  | .setRouteGain entry gain => setRouteGain cid entry gain a d
  | .setRouteSource slot source => setRouteSource cid slot source a d
  | .corrLoad output r => corrLoadRef cid src output r d
  | .corrSwap output s xfade => corrSwap cid output s xfade a (atOnceCmd d c) d
  | .surveyProgram steps r => surveyProgram cid src steps r d
  | .decConfig ch cfg rate phase => decConfig cid ch cfg rate phase raw d
  | .decCompSwap ch => decCompSwap cid ch raw d
  | .drvDiag mask => drvDiag cid mask d
  | .drvClear mask => drvClear cid mask d
  | .streamSet r => streamSetRef cid src r d
  | .streamClear context dir => streamClear cid context dir d
  | .pairResync device => pairResync cid device a d
  | .sceneWrite record kind flags r => sceneWrite cid src record kind flags r d
  | .sceneRead record offset r => sceneRead cid src record offset r d
  | .sceneErase record => sceneErase cid record d
  | .ageMeasure => ageMeasure cid d
  | .sessionKeySet slot role r => sessionKeySet cid src slot role r d
  | .eventMask mask => eventMask cid src mask d

/-- Step 3 of R426: mode legality, reserved parameters, then the command's own checks and its effect. -/
def judge (cid : Nat) (hdr : CmdHdr) (a : Option Nat) (partner : Bool) (c : Cmd) (d : Dev) : Dev :=
  if cmdLegal d c = false then complete cid cState 0 0 d
  else if hdr.parRsvd then complete cid cFormat 0 0 d
  else if joinHolds d c then complete cid cBusy 0 0 d
  else perform cid hdr.src hdr.applyQn a partner c d

/-! ### Proposals (R390, R391) -/

/-- The 64 bytes of a command (R424). -/
def cmdBody (hdr : CmdHdr) (c : Cmd) : Bytes :=
  leBytes 2 (cmdOpcode c) ++ leBytes 1 hdr.flags ++ leBytes 1 hdr.cring ++ leBytes 4 hdr.tag ++ leBytes 5 hdr.applyQn
    ++ zeros 3 ++ padTo 48 (cmdParams c)

/-- Is a command still in flight? -/
def stillInFlight (d : Dev) (cid : Nat) : Bool := d.host.inflight.any (fun f => decide (f.cid = cid))

/-- Takes back what a mirrored command has scheduled, without completing it (R391). -/
def cancelScheduled (cid : Nat) (d : Dev) : Dev :=
  let keep (x : Option Nat) : Bool := decide (x ≠ some cid)
  let sys := { d.sys with
    sched := d.sys.sched.filter (fun t => keep t.cid)
    pendReq := d.sys.pendReq.filter (fun r => keep r.cid) }
  let plan := { d.plan with
    pending := d.plan.pending.filter (fun r => keep r.cid)
    heldSwap := d.plan.heldSwap.filter (fun r => keep r.cid) }
  let lupin := { d.lupin with corr := d.lupin.corr.map (fun e =>
    let c := e.2
    let drop := c.pending.any (fun r => !keep r.cid)
    (e.1, { c with
      pending := c.pending.filter (fun r => keep r.cid)
      held := c.held.filter (fun r => keep r.cid)
      inactive := if drop then 2 else c.inactive })) }
  let geom := { d.geom with
    airReqs := d.geom.airReqs.filter (fun r => keep r.cid)
    availReqs := d.geom.availReqs.filter (fun r => keep r.cid) }
  let route := { d.route with
    gainWaits := d.route.gainWaits.filter (fun w => decide (w.cid ≠ cid))
    sourceWaits := d.route.sourceWaits.filter (fun w => decide (w.cid ≠ cid)) }
  let time := { d.time with reanchors := d.time.reanchors.filter (fun r => decide (r.cid ≠ cid)) }
  let pwr := { d.pwr with
    step := d.pwr.step.filter (fun s => decide (s.cid ≠ cid))
    pend := d.pwr.pend.filter (fun s => decide (s.cid ≠ cid)) }
  let own := decide (d.pair.resyncCid = some cid)
  let pair := { d.pair with
    deferred := d.pair.deferred.filter (fun x => decide (x.cid ≠ cid))
    resyncCid := if own then none else d.pair.resyncCid
    resyncSelf := d.pair.resyncSelf && !own }
  let sys := if own && d.pair.resyncSelf then { sys with sched := none } else sys
  onlyIf (d.plan.pending.isSome && plan.pending.isNone) corrPlanDrop
    { d with sys := sys, plan := plan, lupin := lupin, geom := geom, route := route, time := time, pwr := pwr, pair := pair }

/-- Sends PROPOSE for a command that this device has checked and scheduled (R391). -/
def propose (cid a : Nat) (hdr : CmdHdr) (c : Cmd) (d : Dev) : Dev :=
  let pid := d.pair.nextPid
  let d := { d with pair := { d.pair with
    nextPid := (pid + 1) % 2 ^ 32
    proposals := d.pair.proposals ++ [⟨pid, a, cid, hdr, c, none⟩] } }
  pairSendSeq 5 (beBytes 4 pid ++ beBytes 5 a ++ zeros 3 ++ cmdBody hdr c) (some a) d

/-- A scheduled command of the partner that is the same as one that has come here (R386). -/
def mirrorTwin (d : Dev) (hdr : CmdHdr) (c : Cmd) : Option Mirrored :=
  d.pair.mirrored.find? (fun m => decide (m.body = cmdBody hdr c))

/-- Runs an accepted command: on a formed pair a mirrored one is proposed. One that the partner has proposed already at
an earlier QN merges with it: the effect stays and completes this command (R386, R391). A command that is refused leaves
the partner's as it was (R22). -/
def runCmd (cid : Nat) (hdr : CmdHdr) (c : Cmd) (d : Dev) : Dev :=
  let a := cmdQn d c hdr.applyQn false
  if isMirrored c && pairFormed d then
    match mirrorTwin d hdr c, a with
    | some m, some q =>
      if m.applyQn ≤ q then
        let e := judge cid hdr (some m.applyQn) true c (cancelScheduled m.cid d)
        if stillInFlight e cid = false then judge cid hdr a false c d
        else
          let e := complete m.cid cDone 0 0 e
          { e with pair := { e.pair with mirrored := e.pair.mirrored.map (fun x => if x.pid = m.pid then { x with cid := cid } else x) } }
      else
        let d := judge cid hdr a false c d
        onlyIf (stillInFlight d cid) (propose cid q hdr c) d
    | _, some q =>
      let d := judge cid hdr a false c d
      onlyIf (stillInFlight d cid) (propose cid q hdr c) d
    | _, none => judge cid hdr a false c d
  else judge cid hdr a false c d

/-! ### Acceptance (R425, R426) -/

/-- A command enters flight; its number is returned. -/
def takeFlight (hdr : CmdHdr) (opcode : Nat) (d : Dev) : Nat × Dev :=
  let cid := d.host.nextCid
  (cid, { d with host := { d.host with
    nextCid := cid + 1
    inflight := d.host.inflight ++ [⟨cid, hdr.src, opcode, hdr.cring, hdr.tag, false⟩] } })

/-- Is a command of a source within the role of its session (R438)? -/
def roleOk (d : Dev) (src : Source) (opcode : Nat) : Bool :=
  match src with
  | .session k => roleAllows (keySlot d (sess d k).slot).role opcode
  | _ => true

/-- Accepts a command: the checks of R426 in order, then the command itself. -/
def accept (w : Waiting) (d : Dev) : Dev :=
  let r := takeFlight w.hdr w.opcode d
  let cid := r.1
  let d := r.2
  if roleOk d w.hdr.src w.opcode = false then complete cid cAuth 0 0 d
  else match w.cmd with
    | none => complete cid cFormat 0 0 d
    | some c =>
      if w.hdr.hdrRsvd || (decide (w.hdr.applyQn ≠ 0) && !takesQn w.opcode) then complete cid cFormat 0 0 d
      else runCmd cid w.hdr c d

/-- Does a command of a source run? -/
def sourceBusy (d : Dev) (src : Source) : Bool := d.host.inflight.any (fun f => decide (f.src = src))

/-- Do commands complete in the present mode (R428)? -/
def cmdsRun (d : Dev) : Bool := decide (d.sys.mode ≠ .boot) && decide (d.sys.mode ≠ .stop)

/-- May the first waiting command of a source be accepted (R425, R430)? -/
def mayAccept (d : Dev) (w : Waiting) : Bool :=
  let fenced := w.hdr.flags.testBit 0 && sourceBusy d w.hdr.src
  cmdsRun d && !fenced && (match w.hdr.src with
    | .host => !fetchStalled d
    | _ => true)

/-- The first waiting command of each source, in order of arrival. -/
def firstWaiting (seen : List Source) : List Waiting → List Waiting
  | [] => []
  | w :: rest =>
    if seen.contains w.hdr.src then firstWaiting seen rest else w :: firstWaiting (w.hdr.src :: seen) rest

/-- Removes the first waiting command that equals `w`. -/
def dropWaiting (w : Waiting) (d : Dev) : Dev := { d with host := { d.host with waitQ := d.host.waitQ.erase w } }

/-- A command that completes without having been accepted. -/
def completeUnaccepted (w : Waiting) (code : Nat) (d : Dev) : Dev :=
  let r := takeFlight w.hdr w.opcode d
  complete r.1 code 0 0 r.2

/-- Accepts one command; a session's command that meets the limit of 64 completes BUSY_RETRY (R425). -/
def acceptNext (w : Waiting) (d : Dev) : Dev :=
  let full := decide (64 ≤ inFlightCount d)
  match w.hdr.src, full with
  | .session _, true => completeUnaccepted w cBusy (dropWaiting w d)
  | _, _ => accept w (dropWaiting w d)

/-- Accepts commands as long as one may be, `fuel` at most. -/
def pump (fuel : Nat) (d : Dev) : Dev :=
  match fuel with
  | 0 => d
  | f + 1 =>
    match (firstWaiting [] d.host.waitQ).find? (mayAccept d) with
    | none => d
    | some w => pump f (acceptNext w d)

/-- Accepts every command that may be accepted now (R425). -/
def acceptAll (d : Dev) : Dev := pump d.host.waitQ.length d

/-- A source issues a command: it waits behind those before it and is accepted when it may be. -/
def submit (hdr : CmdHdr) (c : Cmd) (d : Dev) : Dev := acceptAll (enqueue hdr (some c) (cmdOpcode c) d)

/-- The device fetches the next entry of the command ring, or takes up a session's next command (R413, R416, R425).
`entry` is the entry in host memory, `host` the bytes that its data reference names there. -/
def commandFetch (src : Source) (entry host : Bytes) (d : Dev) : Dev :=
  match src with
  | .host =>
    if ringRunning d 0 && decide (ringHeld d 0 ≠ 0) && cmdsRun d && !fetchStalled d then
      acceptAll (enqueueEntry .host (padTo 64 entry) host (ringAdvance 0 d))
    else d
  | _ => acceptAll d

/-- The fence of the first waiting command of a source has held it for more than 30 s (R425). -/
def fenceTimeout (src : Source) (d : Dev) : Dev :=
  match (firstWaiting [] d.host.waitQ).find? (fun w => decide (w.hdr.src = src)) with
  | none => d
  | some w =>
    if w.hdr.flags.testBit 0 && sourceBusy d src && cmdsRun d && decide (w.since + 30 * secNs < nowNs d) then
      acceptAll (completeUnaccepted w cTimeout (dropWaiting w d))
    else d

/-- A command of the firmware: judged and run as any other (R283, R286, R391, R403, R444). -/
def firmwareCmd (aqn : Nat) (c : Cmd) (d : Dev) : Dev :=
  let hdr : CmdHdr := ⟨.firmware, 0, 0, 0, aqn, false, false⟩
  let r := takeFlight hdr (cmdOpcode c) d
  runCmd r.1 hdr c r.2

end Sys2Proof.Machine
end

