-- ==== Sys2Proof/Machine/Autoload.lean ====
section
/-!
DEFINITION. What the firmware applies from the scene store when the device first enters CONFIG after boot, and the mode
that it then enters (R444).
-/

namespace Sys2Proof.Machine

/-- Runs a command's function for the firmware: its completion goes to `fwCode` only. -/
def fwRun (opcode : Nat) (act : Nat → Dev → Dev) (d : Dev) : Dev :=
  let r := takeFlight ⟨.firmware, 0, 0, 0, 0, false, false⟩ opcode d
  act r.1 r.2

/-- A record that fails its check is skipped and reported. -/
def autoSkip (d : Dev) : Dev := raiseEvent evSceneRecovered [] d

/-- Session keys go to their slots (R438). -/
def autoKeys (payload : Bytes) (d : Dev) : Dev := forL (keyEntries payload) (fun e d => keySet e.1 e.2.1 e.2.2 d) d

/-- Configuration pairs are written under the register rules; that of DRAMC_CFG has been taken before (R450). -/
def autoConfig (payload : Bytes) (d : Dev) : Dev :=
  forL ((configPairs payload).filter (fun e => decide (e.1 ≠ 0x1A0000))) (fun e d => busWrite (.control 0) e.1 e.2 d) d

/-- Stream descriptors are loaded as by STREAM_SET; one that is refused is reported. -/
def autoStreams (payload : Bytes) (d : Dev) : Dev :=
  forN (payload.length / 128) (fun i d =>
    let d := fwRun 0x60 (fun cid d => streamSet cid (slice payload (128 * i) 128) d) d
    onlyIf (decide (d.host.fwCode ≠ cDone)) autoSkip d) d

/-- A plan is loaded into the index that its header names (R168). -/
def autoPlan (payload : Bytes) (d : Dev) : Dev :=
  let index := (parsePlan payload).index
  let d := if planInUse d index ∨ d.plan.load.isSome then autoSkip d
    else
      fwRun 0x20 (fun cid d => planLoadEnd { d with plan := { d.plan with load := some ⟨cid, index, payload, payload.length⟩ } }) d
  onlyIf (decide (d.host.fwCode ≠ cDone)) autoSkip { d with host := { d.host with fwCode := cDone } }

/-- The start-up record activates its plan at once and names the mode. -/
def autoStart (payload : Bytes) (d : Dev) : Dev :=
  let d := fwRun 0x22 (fun cid d => planSwap cid (leAt payload 0 1) 32 none true d) d
  let d := onlyIf (decide (d.host.fwCode ≠ cDone)) autoSkip d
  let m := match leAt payload 1 1 with
    | 2 => some Mode.central
    | 3 => some Mode.edge
    | _ => none
  { d with host := { d.host with startMode := m } }

/-- A filter image is loaded and swapped at once; one that does not fit the active plan is skipped. -/
def autoFilter (payload : Bytes) (d : Dev) : Dev :=
  let j := leAt payload 4 2
  match d.plan.active with
  | none => d
  | some p =>
    if paramTaps (planParam p j) ≠ leAt payload 6 1 then d
    else
      let d := fwRun 0x30 (fun cid d => corrLoad cid j payload d) d
      if (corr d j).inactive = 1 then
        let d := corrLoaded j d
        fwRun 0x31 (fun cid d => corrSwap cid j 0 32 none true d) d
      else autoSkip d

/-- One record of a kind is checked and applied. -/
def autoRecord (kind : Nat) (e : Nat × SceneRec) (d : Dev) : Dev :=
  let payload := scenePayload d e.2
  if sceneCheck d (storeRead d e.2.offset 64) kind payload ≠ cDone then autoSkip d
  else match kind with
    | 7 => autoKeys payload d
    | 2 => autoConfig payload d
    | 3 => autoStreams payload d
    | 1 => autoPlan payload d
    | 8 => autoStart payload d
    | 4 => autoFilter payload d
    | _ => d

/-- The records of a kind; of the start-up records the one with the highest identifier applies, and the others are
reported. -/
def autoKind (kind : Nat) (d : Dev) : Dev :=
  let recs := autoRecords d kind
  if kind = 8 then
    let d := forN (recs.length - 1) (fun _ d => autoSkip d) d
    match recs.getLast? with
    | some e => autoRecord 8 e d
    | none => d
  else forL recs (autoRecord kind) d

/-- Has every receive context that feeds an object of the plan delivered three consecutive quanta without a timeout (R46 event
7)? -/
def streamsQualified (d : Dev) : Bool :=
  (List.range 256).all (fun c =>
    match ctx? d true c with
    | none => true
    | some x =>
      let bound := (List.range 1024).any (fun o =>
        let r := (d.plan.active.map (fun p => planObj p o)).getD {}
        r.flags.testBit 0 && decide (r.srcKind = 1) && decide (r.srcIndex = dStream x.desc))
      let run := x.delivered.any (fun e => e.2 && fget false x.delivered (e.1 + 1) && fget false x.delivered (e.1 + 2))
      !bound || (run && !x.timedOut))

/-- May the firmware issue the start-up SET_MODE: the preconditions of R29, on a paired central device it is device 0 of a
formed pair or one with solo_ok that has none, and on an edge device its streams are qualified (R45, R46)? -/
def startReady (d : Dev) (m : Mode) : Bool :=
  let paired := bitAt d 0x210 8 && decide (m = .central)
  let solo := bitAt d 0x210 9 && !pairFormed d
  modePre d m && (!paired || solo || (decide (devIndex d = 0) && pairFormed d)) && (decide (m ≠ .edge) || streamsQualified d)
    && decide (d.sys.mode = .config) && (transNow d).isNone

/-- The firmware issues the start-up SET_MODE when it may. Once accepted it is not issued again. -/
def startTry (d : Dev) : Dev :=
  match d.host.startMode with
  | none => d
  | some m =>
    if startReady d m then
      let scope := if bitAt d 0x210 8 && decide (m = .central) && pairFormed d then 0 else 1
      let d := firmwareCmd 0 (.setMode m.code scope) d
      if (transNow d).isSome then { d with host := { d.host with startMode := none } } else d
    else d

/-- AUTOLOAD (R444): at the first entry into CONFIG after boot. -/
def autoload (d : Dev) : Dev :=
  if d.sys.mode = .config ∧ d.host.autoloaded = false then
    let d := { d with host := { d.host with autoloaded := true, fwCode := cDone } }
    startTry (forL [7, 2, 3, 1, 8, 4] autoKind d)
  else d

end Sys2Proof.Machine
end

