-- ==== Sys2Proof/Machine/Pair.lean ====
section
/-!
DEFINITION. Lockstep pairs: formation and states (R378 to R380), heartbeats (R395, R397), presence (R388, R396), digests
(R398, R399), mirrored commands (R391), faults and divergence (R400, R401), joining (R403 to R406), lanes (R407 to R409).
-/

namespace Sys2Proof.Machine

/-! ### States (R378 to R380) -/

/-- Replaces the pair's state. -/
def setPairState (s : Nat) (d : Dev) : Dev := { d with pair := { d.pair with state := s } }

/-- Have heartbeats come on a path for 10 ms without a gap (R378)? -/
def pathSteady (d : Dev) (p : Nat) : Bool :=
  let x := pathSt d p
  decide (x.since ≠ 0) && decide (x.since + 10000000 ≤ nowNs d + 1) && decide (nowNs d + 1 ≤ x.heardAt + 1500000)

/-- Do the conditions of R378 hold as this device sees them: its own, and the partner's mode, cfg_id and reception, which the
heartbeats show? No record shows whether the partner's time is qualified: each device judges its own (log 74). -/
def formReady (d : Dev) : Bool :=
  pairOn d && decide (d.sys.mode = .config) && decide (d.pair.partnerMode = 1) && d.pair.partnerHears && decide (devIndex d ≤ 1)
    && (pathSteady d 0 || pathSteady d 1) && decide (d.pair.partnerCfg = cfgId d) && timeQualified d
    && decide (d.pair.state ≠ 2) && decide (d.pair.state ≠ 4)

/-- Device 0 names the QN of formation (R378). -/
def pairForm (d : Dev) : Dev :=
  if formReady d && decide (devIndex d = 0) && d.pair.formQn.isNone then
    let q := qnNow d + cmdLead d
    pairSendSeq 8 (beBytes 5 q ++ zeros 3) (some q) { d with pair := { d.pair with formQn := some q } }
  else d

/-- A FORM record arrives (R378). -/
def formReceive (body : Bytes) (d : Dev) : Dev :=
  if formReady d && decide (devIndex d = 1) then { d with pair := { d.pair with formQn := some (beAt body 0 5) } } else d

/-- What R398 and R399 count, and the presence of R388, start empty. -/
def pairAnew (d : Dev) : Dev :=
  { d with pair := { d.pair with
    digests := [], partnerDigests := [], skipped := [], compared := [], misses := 0, matches' := 0
    inBytes := [], lateQn := [], presWhole := [], presSolo := [], presMasks := [], presSent := [], presOwn := [] } }

/-- A pair forms: counts start empty, the recorded faults clear (R401), and the values of both devices come into use (R383). -/
def pairFresh (d : Dev) : Dev := wrN 0x140034 0 (pairCapTake (pairAnew d))

/-- The formation at the start of its QN (R378). -/
def formAt (q : Nat) (d : Dev) : Dev :=
  match d.pair.formQn with
  | none => d
  | some a =>
    if q < a then d else
    let d := { d with pair := { d.pair with formQn := none } }
    if pairOn d ∧ d.sys.mode = .config then
      startTry (raiseEvent evPairFormed [] (setPairState 2 (pairFresh d)))
    else d

/-- A change of cfg_id in CONFIG, or the end of pairing, returns the device to SEEKING (R379). -/
def cfgCheck (d : Dev) : Dev :=
  if d.pair.state = 2 ∧ d.sys.mode = .config ∧ (pairOn d = false ∨ cfgId d ≠ d.pair.partnerCfg) then setPairState 0 d else d

/-- cfg_ids that differ while the pair is sought (R378). -/
def cfgMismatch (d : Dev) : Dev :=
  let own := cfgId d
  if d.sys.mode = .config ∧ d.pair.state ≠ 2 ∧ own ≠ d.pair.partnerCfg ∧ pairOn d = true then
    let d := setFlag 0x140004 12 d
    if d.pair.mismatchSeen = some (own, d.pair.partnerCfg) then d
    else raiseEvent evPairConfigMismatch [] { d with pair := { d.pair with mismatchSeen := some (own, d.pair.partnerCfg) } }
  else d

/-- The partner is no longer in this device's mode: ALONE or SEEKING (R380, R400). -/
def dissolve (mode cause : Nat) (d : Dev) : Dev :=
  raiseEvent evPairDissolved (leBytes 1 mode ++ leBytes 1 cause) (setPairState 0 d)

/-- The device leaves CENTRAL while its partner stays: from this boundary it sends no stream packet (R380). -/
def leavePair (d : Dev) : Dev :=
  if d.pair.state = 2 then setPairState 0 { d with net := { d.net with stopped := true } } else d

/-! ### Mirrored commands (R386, R391) -/

/-- Counts a disagreement and completes the proposer's command (R391). -/
def disagree (p : Proposal) (detail : Nat) (d : Dev) : Dev :=
  complete p.cid cDisagree detail 0 (incCnt 0x140074 (cancelScheduled p.cid d))

/-- Sends REPLY (R393). -/
def replySend (pid code : Nat) (d : Dev) : Dev := pairSendSeq 6 (beBytes 4 pid ++ beBytes 1 code ++ zeros 3) none d

/-- Checks and schedules a command that the partner proposes; the code it gives (R391). -/
def proposalTake (pid a : Nat) (body : Bytes) (c : Cmd) (d : Dev) : Dev :=
  let hdr := { entryHdr .firmware body with applyQn := a }
  let r := takeFlight hdr (cmdOpcode c) d
  let cid := r.1
  let d := judge cid hdr (cmdQn r.2 c a true) true c r.2
  if stillInFlight d cid then
    replySend pid cDone { d with pair := { d.pair with mirrored := d.pair.mirrored ++ [⟨pid, a, cid, c, body⟩] } }
  else replySend pid d.host.fwCode d

/-- Is the bank that a proposed swap names still loading (R286)? -/
def imageLoading (d : Dev) : Cmd → Bool
  | .corrSwap j _ _ => decide (j < 512) && decide ((corr d j).inactive = 1)
  | _ => false

/-- PROPOSE arrives (R386, R391). The same command, proposed here too, merges: the earlier apply QN stands. -/
def proposeReceive (pb : Bytes) (d : Dev) : Dev :=
  let pid := beAt pb 0 4
  let a := beAt pb 4 5
  let body := slice pb 12 64
  match entryCmd body [] with
  | none => replySend pid cFormat d
  | some c =>
    if isMirrored c = false then replySend pid cFormat d
    else if imageLoading d c then { d with pair := { d.pair with heldProps := d.pair.heldProps ++ [pb] } }
    else
      match d.pair.proposals.find? (fun p => decide (cmdBody p.hdr p.cmd = body)) with
      | none => proposalTake pid a body c d
      | some p =>
        if p.applyQn < a ∨ (p.applyQn = a ∧ devIndex d = 0) then replySend pid cDone d
        else
          let d := cancelScheduled p.cid d
          let d := { d with pair := { d.pair with proposals := d.pair.proposals.filter (fun x => decide (x.pid ≠ p.pid)) } }
          let d := judge p.cid { p.hdr with applyQn := a } (some a) true c d
          replySend pid cDone { d with pair := { d.pair with mirrored := d.pair.mirrored ++ [⟨pid, a, p.cid, c, body⟩] } }

/-- REPLY arrives (R391). -/
def replyReceive (body : Bytes) (d : Dev) : Dev :=
  { d with pair := { d.pair with proposals := d.pair.proposals.map (fun p =>
    if p.pid = beAt body 0 4 then { p with reply := some (beAt body 4 1) } else p) } }

/-- ABORT arrives: the partner's command is cancelled (R391). -/
def abortReceive (body : Bytes) (d : Dev) : Dev :=
  match d.pair.mirrored.find? (fun m => decide (m.pid = beAt body 0 4)) with
  | none => d
  | some m =>
    let d := { d with pair := { d.pair with mirrored := d.pair.mirrored.filter (fun x => decide (x.pid ≠ m.pid)) } }
    complete m.cid cDisagree 0 0 (cancelScheduled m.cid d)

/-- The decision at the start of quantum q: a command for q + 1 or earlier without a DONE reply is aborted (R391). On a
pair that is formed no more, commands stand without proposal. -/
def decideAt (q : Nat) (d : Dev) : Dev :=
  let due := d.pair.proposals.filter (fun p => decide (p.applyQn ≤ q + 1) && decide (p.reply ≠ some cDone))
  if pairFormed d = false then d else
  let d := { d with pair := { d.pair with proposals := d.pair.proposals.filter (fun p => !due.contains p) } }
  forL due (fun p d => disagree p (p.reply.getD 0xFF) (pairSendSeq 7 (beBytes 4 p.pid) (some p.applyQn) d)) d

/-- Place of a command among those of one QN: proposer's dev_index, then pid (R391). -/
def mirrorRank (d : Dev) (cid : Option Nat) : Nat :=
  let own := d.pair.proposals.find? (fun p => decide (some p.cid = cid))
  let his := d.pair.mirrored.find? (fun m => decide (some m.cid = cid))
  match own, his with
  | some p, _ => 2 ^ 32 * devIndex d + p.pid
  | _, some m => 2 ^ 32 * (1 - devIndex d) + m.pid
  | none, none => 0

/-- Inserts by rank, behind equal ones. -/
def insRank {α : Type} (rank : α → Nat) (x : α) : List α → List α
  | [] => [x]
  | y :: rest => if rank x < rank y then x :: y :: rest else y :: insRank rank x rest

/-- A list in the order of ranks. -/
def byRank {α : Type} (rank : α → Nat) (l : List α) : List α := l.foldl (fun acc x => insRank rank x acc) []

/-- The commands that wait for an apply QN stand in the order of R391. -/
def mirrorOrder (d : Dev) : Dev :=
  if d.pair.proposals.isEmpty && d.pair.mirrored.isEmpty then d else
  let r (c : Option Nat) := mirrorRank d c
  { d with
    geom := { d.geom with
      airReqs := byRank (fun x => r x.cid) d.geom.airReqs
      availReqs := byRank (fun x => r x.cid) d.geom.availReqs }
    route := { d.route with
      sourceWaits := byRank (fun x => r (some x.cid)) d.route.sourceWaits
      gainWaits := byRank (fun x => r (some x.cid)) d.route.gainWaits }
    time := { d.time with reanchors := byRank (fun x => r (some x.cid)) d.time.reanchors }
    pair := { d.pair with deferred := byRank (fun x => r (some x.cid)) d.pair.deferred } }

/-- Commands carried out with their effect of CONFIG at the start of quantum q (R391). -/
def deferredAt (q : Nat) (d : Dev) : Dev :=
  let due := d.pair.deferred.filter (fun x => decide (x.applyQn ≤ q))
  let d := { d with pair := { d.pair with deferred := d.pair.deferred.filter (fun x => !decide (x.applyQn ≤ q)) } }
  forL due (fun x d =>
    match x.cmd with
    | .corrSwap j _ _ => complete x.cid cDone 0 q (corrSwapNow (swapOutputs d j) d)
    | .setOppoint p => oppointAtOnce x.cid p d
    | _ => d) d

/-- The body of the PROPOSE record of a command (R393). -/
def proposeBody (pid a : Nat) (body : Bytes) : Bytes := beBytes 4 pid ++ beBytes 5 a ++ zeros 3 ++ body

/-- The mirrored commands of quantum q have been applied, in their order: the records that brought them go into the check of its
inputs (R398), and the partner reports them (R391). -/
def mirrorApplied (q : Nat) (d : Dev) : Dev :=
  let mine := (d.pair.proposals.filter (fun p => decide (p.applyQn ≤ q))).map (fun p =>
    (2 ^ 32 * devIndex d + p.pid, p.applyQn, proposeBody p.pid p.applyQn (cmdBody p.hdr p.cmd)))
  let his := (d.pair.mirrored.filter (fun m => decide (m.applyQn ≤ q))).map (fun m =>
    (2 ^ 32 * (1 - devIndex d) + m.pid, m.applyQn, proposeBody m.pid m.applyQn m.body))
  let d := forL (byRank (fun x => x.1) (mine ++ his)) (fun x d => mirrorLog x.2.1 x.2.2 d) d
  let n := (d.pair.mirrored.filter (fun m => decide (m.applyQn ≤ q))).length
  let d := { d with pair := { d.pair with
    mirrored := d.pair.mirrored.filter (fun m => !decide (m.applyQn ≤ q))
    proposals := d.pair.proposals.filter (fun p => !decide (p.applyQn ≤ q)) } }
  forN n (fun _ d => raiseEvent evPairCmdApplied [] d) d

/-- Is the transition that starts now that of a mirrored command (R379, R380)? -/
def mirroredMode (d : Dev) (cid : Option Nat) : Bool :=
  d.pair.proposals.any (fun p => decide (some p.cid = cid)) || d.pair.mirrored.any (fun m => decide (some m.cid = cid))

/-- The apply QN of PAIR_RESYNC on the device that stays: its partner leaves (R380, R403). -/
def resyncAt (q : Nat) (d : Dev) : Dev :=
  let isResync (c : Cmd) : Bool := match c with
    | .pairResync _ => true
    | _ => false
  let due := d.pair.mirrored.any (fun m => isResync m.cmd && decide (m.applyQn ≤ q))
    || d.pair.proposals.any (fun p => isResync p.cmd && decide (p.applyQn ≤ q))
  if due && pairFormed d && !d.pair.resyncSelf then dissolve 6 2 d else d

/-! ### Lane switches (R407 to R409) -/

/-- Lanes 1 to 3 are in use, or not (R407, R408). -/
def setLanes (l4 : Bool) (d : Dev) : Dev :=
  if d.pair.l4 = l4 then d
  else raiseEvent evPairLane (leBytes 1 (b2n l4)) { d with pair := { d.pair with l4 := l4, lane := none } }

/-- Device 0 names a lane switch at least 2 ms ahead (R408). -/
def laneSend (l4 : Bool) (d : Dev) : Dev :=
  let t := d.time.pt + 2000000
  let body := beBytes 1 (b2n l4) ++ zeros 3 ++ beBytes 6 (t / secNs) ++ beBytes 4 (t % secNs)
  pairSendSeq 10 body none { d with pair := { d.pair with lane := some ⟨l4, t⟩ } }

/-! ### Images and records for a pair's designs (R286, R384) -/

/-- Sends bytes over the pair link in segments of one frame each. -/
def sendSegments (fuel kind : Nat) (bs : Bytes) (d : Dev) : Dev :=
  match fuel with
  | 0 => d
  | f + 1 => if bs.isEmpty then d else sendSegments f kind (bs.drop 9184) (pairSend kind 0 0 (bs.take 9184) d)

/-- A transfer of records on the pair link: in L4 it goes at once, in L1 it waits and calls for L4 (R408, R409). -/
def linkTransfer (kind : Nat) (bs : Bytes) (d : Dev) : Dev :=
  if d.pair.l4 then sendSegments (bs.length / 9184 + 1) kind bs d
  else
    let d := { d with pair := { d.pair with linkOut := d.pair.linkOut ++ [(kind, bs)] } }
    if devIndex d = 0 ∧ pairOn d = true ∧ d.pair.lane.isNone ∧ d.pair.laneFailAt = 0 then laneSend true d else d

/-- The transfers that waited for L4 go (R408). -/
def linkFlush (d : Dev) : Dev :=
  if d.pair.l4 then
    forL d.pair.linkOut (fun x d => sendSegments (x.2.length / 9184 + 1) x.1 x.2 d) { d with pair := { d.pair with linkOut := [] } }
  else d

/-- The firmware issues CORR_LOAD for a designed image, which is judged under R270; where it is accepted, `auto` says
that the swap of R286 follows the load. -/
def loadDesign (j : Nat) (r : DRef) (auto : Bool) (d : Dev) : Dev :=
  let cid := d.host.nextCid
  let d := firmwareCmd 0 (.corrLoad j r) d
  if auto ∧ (corr d j).loadCid = some cid then putCorr j { corr d j with autoSwap := true } d else d

/-- A design item ends: with a failure status, or with an image that auto_apply loads; device 0 of a formed pair first
sends it to its partner (R284 to R286). -/
def designDonePair (desc mics : Nat) (taps : List Int) (d : Dev) : Dev :=
  match designRefused d desc with
  | some status => designFail desc status d
  | none =>
    let size := 64 + 8192 * leVal (memRead d (desc + 2) 1)
    let d := designDone desc mics taps d
    if bitAt d 0xB0000 2 = false then d else
    let at' := leVal (memRead d (desc + 40) 8) % 2 ^ 40
    let d := if pairFormed d && decide (devIndex d = 0) then
        linkTransfer 13 (memRead d at' size) d
      else d
    loadDesign (leVal (memRead d desc 2)) ⟨2 ^ 63 + at', size, []⟩ true d

/-- An image of the partner is whole: it is loaded under R270 (R286). -/
def imageTake (img : Bytes) (d : Dev) : Dev :=
  loadDesign (leAt img 4 2) ⟨0, img.length, img⟩ false d

/-- IMAGE arrives: a segment of the image in transfer (R286). -/
def imageReceive (bs : Bytes) (d : Dev) : Dev :=
  let buf := d.pair.imageBuf ++ bs
  let put (b : Bytes) (d : Dev) : Dev := { d with pair := { d.pair with imageBuf := b } }
  if buf.length < 64 then put buf d
  else if leAt buf 0 4 ≠ 0x43464C52 then put [] d
  else
    let n := 64 + 8192 * leAt buf 6 1
    if buf.length < n then put buf d else imageTake (buf.take n) (put [] d)

/-- IR arrives: a segment of the partner's impulse-response record (R281, R286). -/
def irReceive (bs : Bytes) (d : Dev) : Dev :=
  let buf := d.pair.irBuf ++ bs
  if buf.length < 65600 then { d with pair := { d.pair with irBuf := buf } }
  else
    let key := 512 * leAt buf 2 1 + leAt buf 0 2 % 512
    { d with
      pair := { d.pair with irBuf := [], partnerIr := fput [] d.pair.partnerIr key (buf.take 65600) }
      survey := { d.survey with fresh := fput false d.survey.fresh (65536 + 128 * (key % 512) + key / 512) true } }

/-- A live period ends. On a formed pair device 0 mirrors the estimate as SET_AIR, and device 1 sends its records
(R283, R286, R384). -/
def periodEndPair (results : List IrResult) (descs : List Nat) (designs : List DesignForm) (d : Dev) : Dev :=
  let before := d.geom.airReqs
  let wrote := match d.plan.active with
    | some p => if identifies d then periodPairs d p else []
    | none => []
  let d := periodEnd results descs designs d
  if pairFormed d = false then d
  else if devIndex d = 0 then
    let new := d.geom.airReqs.filter (fun r => r.cid.isNone && !before.contains r)
    let d := { d with geom := { d.geom with airReqs := d.geom.airReqs.filter (fun r => !new.contains r) } }
    forL new (fun r d => firmwareCmd r.applyQn (.setAir r.temp r.humidity) d) d
  else
    forL wrote (fun x d => linkTransfer 14 (memRead d (irAddr d x.1 x.2) 65600) d) d

/-- A swap that waited for an image is judged now (R286). -/
def heldProposals (d : Dev) : Dev :=
  let l := d.pair.heldProps
  forL l proposeReceive { d with pair := { d.pair with heldProps := [] } }

/-- The load of a bank ends; the firmware swaps to an image of its own design, and a partner's swap that waited for the
load is judged (R270, R286). -/
def corrLoadEnd (j : Nat) (d : Dev) : Dev :=
  let auto := (corr d j).autoSwap && decide ((corr d j).inactive = 1)
  let d := heldProposals (corrLoaded j d)
  if auto then firmwareCmd 0 (.corrSwap j 0 1024) (putCorr j { corr d j with autoSwap := false } d) else d

/-- The image of an output has not been loaded within 100 ms: the swap completes PAIR_DISAGREE on both devices (R286). -/
def imageTimeout (j : Nat) (d : Dev) : Dev :=
  let names (c : Cmd) : Bool := match c with
    | .corrSwap o _ _ => decide (o = j)
    | _ => false
  let mine := d.pair.proposals.filter (fun p => names p.cmd && decide (p.reply ≠ some cDone))
  let d := { d with pair := { d.pair with proposals := d.pair.proposals.filter (fun p => !mine.contains p) } }
  let d := forL mine (fun p d => disagree p 0xFF (pairSendSeq 7 (beBytes 4 p.pid) (some p.applyQn) d)) d
  let isHeld (pb : Bytes) : Bool := ((entryCmd (slice pb 12 64) []).map names).getD false
  let held := d.pair.heldProps.filter isHeld
  let d := { d with pair := { d.pair with heldProps := d.pair.heldProps.filter (fun pb => !isHeld pb) } }
  forL held (fun pb d => replySend (beAt pb 0 4) cTimeout d) d

/-! ### Digests (R398, R399) -/

/-- CRC-64 of R398, one byte on. -/
def crc64Step (crc : Nat) (b : Byte) : Nat :=
  (List.range 8).foldl (fun c _ => if c.testBit 63 then (2 * c % 2 ^ 64) ^^^ 0x42F0E1EBA9EA3693 else 2 * c % 2 ^ 64)
    (crc ^^^ (b.toNat * 2 ^ 56))

/-- The CRC-64 of R398. -/
def crc64 (bs : Bytes) : Nat := bs.foldl crc64Step (2 ^ 64 - 1) ^^^ (2 ^ 64 - 1)

/-- The bytes that the digest of q covers (R398). -/
def digestBytes (d : Dev) (q : Nat) : Bytes :=
  ((List.range 512).filter (fun j => (departPlan d j q).isSome)).flatMap (fun j =>
    (List.range 32).flatMap (fun k => leInt 4 (bulkAt d j ((32 * q + k : Nat) : Int))) ++ leBytes 4 (unsettledMask d j q))

/-- An entry of the four digests of a heartbeat (R395). -/
def digestEntry (x : Digest) : Bytes :=
  beBytes 5 x.qn ++ beBytes 1 (1 + 2 * b2n x.late + 4 * b2n x.solo + 8 * b2n x.mirrorLate) ++ zeros 2 ++ beBytes 8 x.value
    ++ beBytes 4 x.inCrc

/-- The act of R401 when a divergence is raised. -/
def divergeAct (d : Dev) : Dev :=
  let own := decide (fld d 0x140034 4 0 ≠ 0)
  if own && (!d.pair.partnerFault || decide (devIndex d = 1)) then faultCause 0xD d else d

/-- One comparison (R399). -/
def compareOne (x y : Digest) (d : Dev) : Dev :=
  let d := { d with pair := { d.pair with compared := fput false d.pair.compared x.qn true } }
  if x.value ≠ y.value then
    let n := d.pair.misses + 1
    let first := if n = 1 then x.qn else d.pair.firstMiss
    let d := incCnt 0x140060 { d with pair := { d.pair with misses := n, firstMiss := first, matches' := 0 } }
    if n = 3 then
      let d := wrN 0x140044 (loWord first) (wrN 0x140048 (hiWord first) d)
      let d := { d with pair := { d.pair with diverged := true, divergedAt := nowNs d + 1 } }
      divergeAct (raiseEvent evPairDiverged [] d)
    else d
  else
    let n := d.pair.matches' + 1
    let d := { d with pair := { d.pair with misses := 0, matches' := n } }
    if n = 16 ∧ d.pair.diverged then
      raiseEvent evPairConverged [] { d with pair := { d.pair with diverged := false } }
    else d

/-- Compares what both devices have for the same quantum, in order of QN (R399). -/
def compareAll (d : Dev) : Dev :=
  forL d.pair.digests.reverse (fun x d =>
    if fget false d.pair.compared x.qn || fget false d.pair.skipped x.qn then d
    else match d.pair.partnerDigests.find? (fun y => decide (y.qn = x.qn)) with
      | some y => compareOne x y d
      | none => d) d

/-- The digest of a quantum is complete: no correction or output task of it is left (R398). -/
def digestStep (q : Nat) (d : Dev) : Dev :=
  let open' := (entries d).any (fun e => decide (e.2.qn = q) && (decide (e.2.kind = 2) || decide (e.2.kind = 3)))
  if mirrorsInputs d = false ∨ open' = true ∨ d.pair.digests.any (fun x => decide (x.qn = q)) = true then d
  else
    let x : Digest := {
      qn := q, late := fget false d.disp.suppressed q, solo := fget false d.pair.presSolo q
      mirrorLate := fget false d.pair.lateQn q, value := crc64 (digestBytes d q)
      inCrc := crc32c (fget [] d.pair.inBytes q), doneAt := nowNs d }
    compareAll { d with pair := { d.pair with
      digests := (x :: d.pair.digests).take 16, inBytes := fput [] d.pair.inBytes q [] } }

/-- The correction task of an output ends; with the last one of a quantum its digest is complete. -/
def correctionEnd (side j q : Nat) (ecc : Bool) (d : Dev) : Dev := digestStep q (correctionDone side j q ecc d)

/-- No partner entry within 4 ms: the quantum is left uncompared (R399). -/
def digestExpiry (q : Nat) (d : Dev) : Dev :=
  if d.pair.digests.any (fun x => decide (x.qn = q)) && !fget false d.pair.compared q then
    { d with pair := { d.pair with skipped := fput false d.pair.skipped q true } }
  else d

/-! ### Presence (R388, R396) -/

/-- Bit o of a list of objects as 128 bytes. -/
def objectBits (f : Nat → Bool) : Bytes :=
  (List.range 128).map (fun (i : Nat) => BitVec.ofNat 8 ((List.range 8).foldl (fun m b => m + b2n (f (8 * i + b)) * 2 ^ b) 0))

/-- Sends the PRESENCE records of a quantum (R388, R396). -/
def presenceSend (q : Nat) (d : Dev) : Dev :=
  if mirrorsInputs d = false then d else
  let masks := (List.range 1024).map (fun o => (o, ownPresence d q o))
  let d := { d with pair := { d.pair with
    presOwn := masks.foldl (fun m e => fput 0 m (1024 * (q % 8) + e.1) e.2) d.pair.presOwn
    presSent := (fput false d.pair.presSent q true).filter (fun e => decide (q < e.1 + 8)) } }
  let odd := masks.filter (fun e => decide (e.2 ≠ 0) && decide (e.2 ≠ 2 ^ 32 - 1))
  let full := objectBits (fun o => decide ((masks.getD o (0, 0)).2 = 2 ^ 32 - 1))
  let none' := objectBits (fun o => decide ((masks.getD o (0, 0)).2 = 0))
  let n := max 1 (ceilDiv odd.length 140)
  forN n (fun i d =>
    let part := (odd.drop (140 * i)).take 140
    let body := beBytes 5 q ++ beBytes 1 (b2n (decide (i + 1 = n))) ++ zeros 2 ++ full ++ none' ++ beBytes 2 part.length
      ++ zeros 2 ++ part.flatMap (fun e => beBytes 2 e.1 ++ zeros 2 ++ beBytes 4 e.2)
    pairSend 4 0 0 body d) d

/-- PRESENCE arrives; with the last record of its quantum the presence is whole (R388). -/
def presenceReceive (b : Bytes) (d : Dev) : Dev :=
  let q := beAt b 0 5
  let bit (base o : Nat) : Bool := (beAt b (base + o / 8) 1).testBit (o % 8)
  let d := forN 1024 (fun o d =>
    if bit 8 o then { d with pair := { d.pair with presMasks := fput 0 d.pair.presMasks (1024 * (q % 8) + o) (2 ^ 32 - 1) } }
    else if bit 136 o then { d with pair := { d.pair with presMasks := fput 0 d.pair.presMasks (1024 * (q % 8) + o) 0 } }
    else d) d
  let d := forN (beAt b 264 2) (fun i d =>
    let e := slice b (268 + 8 * i) 8
    { d with pair := { d.pair with presMasks := fput 0 d.pair.presMasks (1024 * (q % 8) + beAt e 0 2 % 1024) (beAt e 4 4) } }) d
  if (beAt b 5 1).testBit 0 then { d with pair := { d.pair with
    presWhole := (fput false d.pair.presWhole q true).filter (fun e => decide (q < e.1 + 8)) } }
  else d

/-- The partner's presence has not come within PAIR_PRES_WAIT: the fill of the quantum uses its own (R388). -/
def presExpiry (q : Nat) (d : Dev) : Dev :=
  if pairFormed d && !fget false d.pair.presWhole q && decide (d.voice.filled ≤ q) then
    setFlag 0x140004 11 (incCnt 0x140070 { d with pair := { d.pair with presSolo := fput false d.pair.presSolo q true } })
  else d

/-! ### The end of a join (R403, R406) -/

/-- Replaces the join. -/
def putJoin (x : Option Join) (d : Dev) : Dev := { d with pair := { d.pair with join := x } }

/-- The join fails (R403, R406). The partner stays ALONE and is not disturbed. -/
def joinFail (d : Dev) : Dev :=
  match d.pair.join with
  | none => d
  | some x =>
    let d := setPairState 0 (putJoin none d)
    let rc := d.pair.resyncCid
    let d := completeOpt rc cHwFault 0 { d with pair := { d.pair with resyncCid := none, resyncSelf := false } }
    if x.joiner = false then d else
    let t := d.sys.running
    let d := { d with sys := { d.sys with running := none } }
    let d := enterMode .config 5 (qnNow d) d
    let d := raiseEvent evPairJoinFailed (leBytes 1 x.phase) (setFlag 0x140004 13 d)
    match t with
    | some t => pendTake (completeOpt t.cid cHwFault 0 d)
    | none => d

/-! ### Heartbeats (R395, R397) -/

/-- The body of a heartbeat on a path (R395). -/
def heartbeatBody (d : Dev) (p : Nat) : Bytes :=
  let x := pathSt d p
  let flags := b2n (decide (fld d 0x140034 4 0 ≠ 0)) + 2 * b2n d.time.holdover + 4 * b2n (pathSt d 1).good
    + 8 * b2n (pathSt d 0).good + 16 * b2n d.pair.l4 + 32 * b2n d.pair.diverged
  beBytes 1 d.sys.mode.code ++ beBytes 1 flags ++ beBytes 2 (rdN d 0x1000C % 65536) ++ beBytes 4 x.txSeq ++ beBytes 4 (ct32 d)
    ++ beBytes 4 (x.rxSeq.getD 0) ++ beBytes 4 x.rxCt ++ beBytes 4 d.pair.rxAck ++ leBytes 8 (cfgId d)
    ++ beBytes 4 (poolOf d (pointHz d d.pwr.capPoint)) ++ beBytes 4 (capacityOf d (pointHz d d.pwr.capPoint))
    ++ padTo 80 ((d.pair.digests.take 4).flatMap digestEntry)

/-- A heartbeat goes out on one path. -/
def heartbeatOn (p : Nat) (d : Dev) : Dev :=
  let x := pathSt d p
  let d := pairSendOn p (pairRecord 1 0 0 (heartbeatBody d p)) d
  putPath p { x with txSeq := (x.txSeq + 1) % 2 ^ 32, sent := ((x.txSeq, ct32 d) :: x.sent).take 16 } d

/-- Sequenced records that two heartbeats have not acknowledged go out again; those of a QN that is activated are given
up (R394). -/
def resend (d : Dev) : Dev :=
  let live := d.pair.unacked.filter (fun r => match r.untilQn with
    | some q => decide (qnNow d < q)
    | none => true)
  let again := live.filter (fun r => decide (2 ≤ r.missed))
  let d := { d with pair := { d.pair with unacked := live.map (fun r => if 2 ≤ r.missed then { r with missed := 0 } else r) } }
  forL again (fun r d => pairSend r.kind 1 r.mseq r.body (incCnt 0x140078 d)) d

/-- Every millisecond of PT (R395). -/
def heartbeatSend (d : Dev) : Dev :=
  if pairOn d && decide (d.sys.mode ≠ .boot) && decide (d.sys.mode ≠ .stop) then
    resend (heartbeatOn 1 (heartbeatOn 0 (cfgCheck d)))
  else d

/-- Does the device follow its partner's time (R77)? -/
def follows (d : Dev) : Bool :=
  d.time.holdover && (pathSt d 1).good && (!d.pair.partnerHoldover || decide (devIndex d = 1))

/-- The partner offset of a pair-link heartbeat (R77, R397). Half of a difference is rounded down to a whole ns before the mean of R77
is formed: the spec gives no rounding, and this is the model's choice (log 106). -/
def offsetTake (b : Bytes) (d : Dev) : Dev :=
  match (pathSt d 1).sent.find? (fun e => decide (e.1 = beAt b 12 4)) with
  | none => d
  | some e =>
    let s (v : Nat) : Int := sext 32 v
    let th := ((s (subMod 32 (beAt b 16 4) e.2)) - s (subMod 32 (ct32 d) (beAt b 8 4))) / 2
    let d := wrN 0x140040 (wrapN 32 th) d
    if follows d then
      { d with time := { d.time with thetaSum := d.time.thetaSum + th, thetaCnt := d.time.thetaCnt + 1 } }
    else { d with time := { d.time with thetaSum := 0, thetaCnt := 0, thetaPrev := none } }

/-- The digest entries of a heartbeat (R395). -/
def digestsTake (b : Bytes) (d : Dev) : Dev :=
  let es := ((List.range 4).map (fun i => slice b (40 + 20 * i) 20)).filter (fun e => (beAt e 5 1).testBit 0)
  let new := es.map (fun e => ({
    qn := beAt e 0 5, late := (beAt e 5 1).testBit 1, solo := (beAt e 5 1).testBit 2
    mirrorLate := (beAt e 5 1).testBit 3, value := beAt e 8 8, inCrc := beAt e 16 4 } : Digest))
  let fresh := new.filter (fun x => !d.pair.partnerDigests.any (fun y => decide (y.qn = x.qn)))
  compareAll { d with pair := { d.pair with partnerDigests := (fresh ++ d.pair.partnerDigests).take 32 } }

/-- A HEARTBEAT arrives on a path (R378, R394, R395, R397, R399, R400). -/
def heartbeatReceive (p : Nat) (b : Bytes) (d : Dev) : Dev :=
  let x := pathSt d p
  let near := decide (x.heardAt ≠ 0) && decide (nowNs d + 1 ≤ x.heardAt + 1500000)
  let d := putPath p { x with
    rxSeq := some (beAt b 4 4), rxCt := ct32 d, heardAt := nowNs d + 1
    run := if near then x.run + 1 else 1, since := if near ∧ x.since ≠ 0 then x.since else nowNs d + 1 } d
  let ack := beAt b 20 4
  let flags := beAt b 1 1
  let d := { d with pair := { d.pair with
    partnerMode := beAt b 0 1, partnerFault := flags.testBit 0, partnerHoldover := flags.testBit 1
    partnerHears := flags.testBit 2 || flags.testBit 3, partnerDiverged := flags.testBit 5, partnerP0 := beAt b 2 2, partnerCfg := leAt b 24 8
    partnerV := beAt b 32 4, partnerC := beAt b 36 4
    joinWait := d.pair.joinWait && decide (beAt b 0 1 = Mode.mirror.code)
    unacked := (d.pair.unacked.filter (fun r => !decide (subMod 32 ack r.mseq < 2 ^ 31))).map (fun r =>
      { r with missed := r.missed + 1 }) } }
  let d := onlyIf (decide (p = 1)) (offsetTake b) d
  let d := digestsTake b (cfgMismatch (cfgCheck d))
  let left := d.pair.join.any (fun x => x.joiner) && decide (d.pair.partnerMode ≠ Mode.central.code)
  let d := onlyIf left joinFail d
  if d.pair.state = 2 ∧ d.pair.partnerMode ≠ d.sys.mode.code then
    let r := takeFree 256 d
    dissolve (beAt b 0 1) r.1 r.2
  else d

/-! ### Paths and partner (R389, R400) -/

/-- No heartbeat on a path for 1.5 ms after the last one, the path good already or not; a fault of the pair link ends a join (R389, R400, R406). -/
def pathFault (p : Nat) (d : Dev) : Dev :=
  let x := pathSt d p
  if (x.good = false ∧ x.run = 0) ∨ 1 < p then d else
  let d := setFlag 0x140004 8 (incCnt (if p = 1 then 0x140064 else 0x140068) d)
  let d := raiseEvent evPairPathFault (leBytes 1 p) (putPath p { x with good := false, run := 0, since := 0 } d)
  if p = 0 then d else
  let d := joinFail { d with time := { d.time with thetaSum := 0, thetaCnt := 0, thetaPrev := none } }
  forN 16 (fun i d => if aportForeign d i then raiseEvent evPairFwdLost (leBytes 1 i) d else d) d

/-- Ten consecutive heartbeats on a path (R400). -/
def pathOk (p : Nat) (d : Dev) : Dev :=
  let x := pathSt d p
  if x.good = true ∨ x.run < 10 ∨ 1 < p then d
  else raiseEvent evPairPathOk [] (putPath p { x with good := true } d)

/-- No heartbeat on either path for 3 ms: ALONE; every PROPOSE under way ends PAIR_DISAGREE, and the numbering of records
starts anew; a join fails (R400, R406). -/
def partnerLost (d : Dev) : Dev :=
  let silent (p : Nat) : Bool := decide (nowNs d + 1 ≥ (pathSt d p).heardAt + 3000000)
  if pairOn d && silent 0 && silent 1 && (decide ((pathSt d 0).heardAt ≠ 0) || decide ((pathSt d 1).heardAt ≠ 0)) then
    let ps := d.pair.proposals
    let d := { d with pair := { d.pair with
      proposals := [], unacked := [], txSeq := 1, rxAck := 0, rxHigh := 0, rxSeen := [], partnerMode := 0, partnerHears := false
      heldProps := [], joinWait := false } }
    let d := putPath 0 { pathSt d 0 with heardAt := 0, since := 0, run := 0 } d
    let d := putPath 1 { pathSt d 1 with heardAt := 0, since := 0, run := 0 } d
    let d := forL ps (fun p d => disagree p 0xFF d) d
    let d := joinFail d
    raiseEvent evPartnerLost [] (setFlag 0x140004 9 (if d.pair.state = 2 then setPairState 0 d else d))
  else d

/-- One second after a divergence with no fault held on either device, device 1 begins PAIR_RESYNC of itself (R401). -/
def autoResync (d : Dev) : Dev :=
  if bitAt d 0x140000 2 && decide (devIndex d = 1) && d.pair.diverged && pairFormed d && decide (fld d 0x140034 4 0 = 0)
      && !d.pair.partnerFault && decide (d.pair.divergedAt ≠ 0) && decide (d.pair.divergedAt + 1000000000 ≤ nowNs d + 1) then
    firmwareCmd 0 (.pairResync 1) { d with pair := { d.pair with divergedAt := 0 } }
  else d

/-! ### Joining (R403 to R406) -/

/-- A join needs L4 for its whole length (R404, R408). -/
def lanesForJoin (d : Dev) : Dev :=
  if d.pair.l4 = false ∧ d.pair.lane.isNone ∧ devIndex d = 0 then laneSend true d else d

/-- SET_MODE MIRROR begins: the mode is MIRROR and the joiner asks for the join (R404). -/
def joinStart (d : Dev) : Dev :=
  match d.sys.running with
  | some t =>
    if t.phase = .joining ∧ d.pair.join.isNone then
      let d := enterMode .mirror t.cause t.applyQn d
      let d := setPairState 4 (putJoin (some ⟨true, 1, 0, none, 0⟩) (pairAnew d))
      let d := { d with net := { d.net with departFirst := 2 ^ 40 } }
      lanesForJoin (pairSendSeq 11 (beBytes 1 1 ++ zeros 3 ++ beBytes 5 0 ++ zeros 3) none d)
    else d
  | none => d

/-- Does a plan or bank crossfade wait or run (R404)? -/
def crossfadeNear (d : Dev) : Bool :=
  crossfading d || d.plan.pending.isSome || d.plan.heldSwap.isSome
    || d.lupin.corr.any (fun e => e.2.pending.isSome || e.2.held.isSome)

/-- The partner names T to a joiner that waits for it, once no crossfade is near (R404). -/
def joinName (d : Dev) : Dev :=
  if d.pair.joinWait = false ∨ d.pair.join.isSome ∨ crossfadeNear d = true then d else
  let d := { d with pair := { d.pair with joinWait := false } }
  if d.sys.mode ≠ .central ∨ d.pair.state = 2 then d else
  let t := qnNow d + cmdLead d
  let d := setPairState 4 (putJoin (some ⟨false, 2, t, none, 0⟩) (pairAnew d))
  lanesForJoin (pairSendSeq 11 (beBytes 1 2 ++ zeros 3 ++ beBytes 5 t ++ zeros 3) (some t) d)

/-- JOIN arrives (R404). The partner of phase 1 names T when no crossfade is near; the joiner takes T and J. -/
def joinReceive (b : Bytes) (d : Dev) : Dev :=
  let phase := beAt b 0 1
  let q := beAt b 4 5
  match d.pair.join with
  | none =>
    if phase = 1 ∧ d.sys.mode = .central ∧ d.pair.state ≠ 2 then joinName { d with pair := { d.pair with joinWait := true } }
    else d
  | some x =>
    if x.joiner = false then d
    else if phase = 2 ∧ x.phase = 1 then putJoin (some { x with phase := 2, qn := q }) d
    else if phase = 6 then putJoin (some { x with j := some q }) d
    else d

/-- Voice-state records of block s of 64 voice groups of the plan (R405). -/
def joinRecords (d : Dev) (s : Nat) : List Nat :=
  match d.plan.active with
  | none => []
  | some p => (p.groups.filter (fun g => decide (g.index / 64 = s))).flatMap (fun g =>
      (List.range g.voices.length).map (fun i => g.stateBase + i))

/-- Quanta that phase 4 or 5 takes: 64 voice groups, or 16 outputs, in each; 1 of every other phase (R405). -/
def joinSteps (d : Dev) (phase : Nat) : Nat :=
  match d.plan.active with
  | none => 1
  | some p =>
    if phase = 4 then (p.groups.foldl (fun m g => max m (g.index / 64 + 1)) 1)
    else if phase = 5 then max 1 (ceilDiv p.outputs.length 16) else 1

/-- What the joiner holds at the end of step s of a phase (R405). Lines of the delay store in the operand are received lines like
those of BULK: they replace nothing else. -/
def joinCopy (phase s : Nat) (x : JoinCopy) (d : Dev) : Dev :=
  match phase with
  | 2 =>
    let d := forL x.staging (fun e => memWrite (stagingAddr e.1) (leInt 4 e.2)) (memClear 0x90000000 (1088 * 2 ^ 20) d)
    { d with
      voice := { d.voice with
        present := x.present, window := x.window.foldl (fun m e => fput 0 m e.1 e.2) d.voice.window }
      lupin := { d.lupin with bulk := x.bulk, input := x.input, corr := x.banks } }
  | 3 =>
    let d := { d with
      geom := { x.geom with fresh := false }
      voice := { d.voice with shed := x.shed }
      route := { d.route with gains := x.gains, slots := x.slots }
      plan := { d.plan with active := heldPlan d x.planIndex, pending := none, running := none, heldSwap := none } }
    match d.plan.active with
    | some p => lupinFigures p (bankWrite p d.aster.bankB d)
    | none => d
  | 4 =>
    let rs := joinRecords d s
    forL (x.voices.filter (fun e => rs.contains e.1)) (fun e => putVoiceState false e.1 e.2) d
  | 5 =>
    let js := (List.range 16).map (fun i => 16 * s + i)
    let d := forL js (fun j d => memClear (accAddr 0 j 0) 256 (memClear (accAddr 1 j 0) 256 d)) d
    { d with lupin := { d.lupin with
      chains := js.foldl (fun m j => fput {} m j (fget {} x.chains j)) d.lupin.chains } }
  | _ => d

/-- Both devices are FORMED at J + 3; the joiner enters CENTRAL and sends without a ramp (R405). -/
def joinDone (x : Join) (d : Dev) : Dev :=
  let j := x.j.getD 0
  let d := pairCapTake (setPairState 2 (putJoin none d))
  let d := if x.joiner then wrN 0x140034 0 d else d
  let rc := d.pair.resyncCid
  let d := completeOpt rc cDone j { d with pair := { d.pair with resyncCid := none, resyncSelf := false } }
  if x.joiner = false then d else
  let t := d.sys.running
  let d := { d with
    sys := { d.sys with running := none }
    net := { d.net with stopped := false, departFirst := j + 3 }
    pair := { d.pair with diverged := false } }
  let d := enterMode .central 4 (j + 3) (rampSet true (drvPlay d))
  match t with
  | some t => pendTake (completeOpt t.cid cDone (j + 3) d)
  | none => d

/-- Line l of object o's window as the delay store holds it, 64 bytes (R129, R132). -/
def delayLine (d : Dev) (o l : Nat) : Bytes :=
  (List.range 16).flatMap (fun k => leInt 4 (fget 0 d.voice.window (16384 * o + 16 * l + k)))

/-- The staging unit reads the windows of the plan's objects and hands their lines to the pair-link engine, which sends them in
BULK records (R131, R396, R405). -/
def delaySend (d : Dev) : Dev :=
  forL ((List.range 1024).filter (fun o => (obj d o).inPlan)) (fun o =>
    forN 1024 (fun l d =>
      bulkSend 0 (delayOffset o l) (delayLine d o l) d)) d

/-- The lines that the window fill of quantum q has written, forwarded until the joiner runs its own fills (R405). -/
def delayForward (q : Nat) (d : Dev) : Dev :=
  if d.pair.join.any (fun x => !x.joiner && decide (x.phase ≤ 3)) then
    forL ((List.range 1024).filter (fun o => (obj d o).inPlan)) (fun o =>
      forN 2 (fun i d =>
        let l := (2 * q + i) % 1024
        bulkSend 0 (delayOffset o l) (delayLine d o l) d)) d
  else d

/-- A window fill, and what of it goes to a joiner (R135, R405). -/
def windowFillPair (d : Dev) : Dev :=
  let q := d.voice.filled
  let d := windowFill d
  if d.voice.filled ≠ q then delayForward (d.voice.filled - 1) d else d

/-- BULK arrives at the joiner: the staging unit writes a line of the delay store, or a position of staging (R131, R405). -/
def bulkReceive (b : Bytes) (d : Dev) : Dev :=
  let at' := beAt b 4 8
  if d.pair.join.any (fun x => x.joiner) = false then d
  else if slice b 0 1 = [Config.bulkRegion 0] then
    let bank := at' / 2 ^ 20 % 64
    let slot := at' % 2 ^ 20 / 65536
    let n := at' % 65536 / 4
    forN 16 (fun k d => windowWrite (64 * slot + bank) (n + k) (sext 32 (leAt b (12 + 4 * k) 4)) d) d
  else if slice b 0 1 = [Config.bulkRegion 1] then
    let key := at' / 4
    stagingWrite (key / 278528 % 1024) (key % 278528) (sext 32 (leAt b 12 4)) d
  else d

/-- A phase of the join ends and the next begins; phases 4 and 5 take a quantum for each block (R405). Transfers wait for L4 (R409).
The device that renders tells the joiner; from phase 6 the join completes once its three digests agree, and fails on both devices
where they do not (R406). -/
def joinAdvance (copy : JoinCopy) (d : Dev) : Dev :=
  match d.pair.join with
  | none => d
  | some x =>
    let now := qnNow d
    if x.phase < 2 ∨ now < x.qn ∨ (x.phase < 6 ∧ d.pair.l4 = false) then d
    else if x.phase < 6 then
      let d := onlyIf x.joiner (joinCopy x.phase x.step copy) d
      let d := onlyIf (!x.joiner && decide (x.phase = 2)) delaySend d
      if x.step + 1 < joinSteps d x.phase then putJoin (some { x with step := x.step + 1, qn := now + 1 }) d else
      let ph := x.phase + 1
      let q := if ph = 6 then now + 2 else now + 1
      let j := if ph = 6 then (if x.joiner then x.j.getD q else q) else 0
      let d := putJoin (some { x with step := 0, phase := ph, qn := if ph = 6 then j else q, j := if ph = 6 then some j else x.j }) d
      if x.joiner then d else pairSendSeq 11 (beBytes 1 ph ++ zeros 3 ++ beBytes 5 (if ph = 6 then j else q) ++ zeros 3) none d
    else
      let j := x.j.getD x.qn
      let ok := (List.range 3).all (fun i => fget false d.pair.compared (j + i)) && decide (d.pair.misses = 0)
      if now < j + 3 then d
      else if !ok then joinFail d
      else joinDone x d

/-- PAIR_RESYNC: the named device has reached SAFE and now joins (R403). -/
def resyncJoin (d : Dev) : Dev :=
  if d.pair.resyncSelf ∧ d.sys.mode = .safe ∧ (transNow d).isNone then
    firmwareCmd 0 (.setMode 4 1) { d with pair := { d.pair with resyncSelf := false } }
  else d

/-- A transition completes; a device under PAIR_RESYNC then joins, and a mode that renders sends again. -/
def transCompletePair (d : Dev) : Dev := resyncJoin (transComplete d)

/-! ### Lanes (R408, R409) -/

/-- LANE arrives (R408). -/
def laneReceive (b : Bytes) (d : Dev) : Dev :=
  if secNs ≤ beAt b 10 4 then d else
  { d with pair := { d.pair with lane := some ⟨(beAt b 0 1).testBit 0, beAt b 4 6 * secNs + beAt b 10 4⟩ } }

/-- Does something call for L4: a join, an image or record in transfer, received or to be sent, or shedding that is not
allowed (R408)? -/
def wantsL4 (d : Dev) : Bool :=
  d.pair.join.isSome || !d.pair.imageBuf.isEmpty || !d.pair.irBuf.isEmpty || !d.pair.linkOut.isEmpty || !bitAt d 0x140000 1

/-- Every 10 ms device 0 judges the load of both devices in Mb/s (R408). -/
def laneWindow (load : Nat) (d : Dev) : Dev :=
  let low := decide (load < 300) && !wantsL4 d
  let since := if low then (if d.pair.lowSince = 0 then nowNs d + 1 else d.pair.lowSince) else 0
  let d := { d with pair := { d.pair with lowSince := since } }
  if devIndex d ≠ 0 ∨ pairOn d = false ∨ d.pair.lane.isSome then d
  else if d.pair.l4 && decide (since ≠ 0) && decide (since + 1000000000 ≤ nowNs d + 1) then laneSend false d
  else if !d.pair.l4 && (decide (600 < load) || wantsL4 d) && decide (d.pair.laneFailAt = 0) then laneSend true d
  else d

/-- Both devices switch at the named PT; in L4 the transfers that waited go (R408). -/
def laneSwitch (d : Dev) : Dev :=
  match d.pair.lane with
  | none => d
  | some x => linkFlush (setLanes x.l4 (runTo x.pt { d with pair := { d.pair with lane := none } }))

/-- Training fails or block lock is lost: the link moves to L1 (R409). -/
def laneFail (d : Dev) : Dev :=
  let d := { d with pair := { d.pair with lane := none, l4 := false, laneFailAt := nowNs d + 1 } }
  raiseEvent evPairLaneFail [] (setFlag 0x140004 14 d)

/-- One second after a failure the link tries L4 again while the load calls for it (R409). -/
def laneRetry (load : Nat) (d : Dev) : Dev :=
  if d.pair.laneFailAt = 0 ∨ nowNs d + 1 < d.pair.laneFailAt + 1000000000 then d else
  let d := { d with pair := { d.pair with laneFailAt := 0 } }
  if devIndex d = 0 ∧ (600 < load ∨ wantsL4 d = true) then laneSend true d else d

/-! ### Frames (R392 to R394) -/

/-- APORT_FWD arrives: the owner's samples go into staging in place of the own port's, frame f of the block at the position that
follows it (R331, R389). -/
def fwdReceive (b : Bytes) (d : Dev) : Dev :=
  let q := beAt b 0 5
  let p := beAt b 5 1 % 16
  let slots := setIdx 32 (beAt b 8 4)
  if aportForeign d p then
    forN 32 (fun f d =>
      forN slots.length (fun i d =>
        let x : Int := sext 32 (beAt b (12 + 4 * (slots.length * f + i)) 4)
        forL (fedObjects d 2 p (slots.getD i 0)) (fun o d => inputWrite o (32 * q + f + 1) x d) d) d) d
  else d

/-- Takes note of a sequenced record; none when it repeats one, or is older than the last 4,096 seen (R394). A record that never
came stays out of the acknowledgement and bars none of the later ones. -/
def seqTake (m : Nat) (d : Dev) : Option Dev :=
  let h := d.pair.rxHigh
  let newer := decide (1 ≤ subMod 32 m h) && decide (subMod 32 m h < 2 ^ 31)
  let back := subMod 32 h m
  if (newer = false ∧ 4096 ≤ back) ∨ fget false d.pair.rxSeen m = true ∨ subMod 32 d.pair.rxAck m < 4096 then none
  else
    let h := if newer then m else h
    let seen := (fput false d.pair.rxSeen m true).filter (fun e => decide (subMod 32 h e.1 < 4096))
    let r := (List.range 4096).foldl (fun (s : Nat × FMap Bool) _ =>
      let n := (s.1 + 1) % 2 ^ 32
      if fget false s.2 n then (n, fput false s.2 n false) else s) (d.pair.rxAck, seen)
    some { d with pair := { d.pair with rxAck := r.1, rxHigh := h, rxSeen := r.2 } }

/-- Is a record kind sequenced (R393)? -/
def isSequenced (kind : Nat) : Bool := [2, 3, 5, 6, 7, 8, 10, 11].contains kind

/-- What a record does (R393). BULK carries lines of the delay store and writes of staging; the rest of the copied state stands
in the operand of the join's phases. -/
def pairRecordAct (path kind : Nat) (body : Bytes) (d : Dev) : Dev :=
  match kind with
  | 1 => if body.length = 120 then heartbeatReceive path body d else d
  | 2 => metaFromPartner body d
  | 3 =>
    let q := beAt body 0 5
    availFromPartner body (mirrorLate q d)
  | 4 => presenceReceive body d
  | 5 => proposeReceive body d
  | 6 => replyReceive body d
  | 7 => abortReceive body d
  | 8 => formReceive body d
  | 9 => fwdReceive body d
  | 10 => laneReceive body d
  | 11 => joinReceive body d
  | 12 => bulkReceive body d
  | 13 => imageReceive body d
  | 14 => irReceive body d
  | _ => d

/-- One record of a frame. -/
def pairRecordTake (path : Nat) (r : Bytes) (d : Dev) : Dev :=
  let kind := beAt r 0 1
  let body := r.drop 8
  if linkOnly kind && decide (path = 0) then d
  else if isSequenced kind then
    match seqTake (beAt r 4 4) d with
    | some d => pairRecordAct path kind body d
    | none => d
  else pairRecordAct path kind body d

/-- The records of a frame one after another; unknown kinds are skipped by their length. -/
def pairRecordsTake (fuel path : Nat) (bs : Bytes) (d : Dev) : Dev :=
  match fuel with
  | 0 => d
  | f + 1 =>
    let n := beAt bs 2 2
    if bs.length < 8 ∨ n < 8 ∨ bs.length < n then d
    else pairRecordsTake f path (bs.drop n) (pairRecordTake path (bs.take n) d)

/-- Does a pair frame pass R392? -/
def pairFrameOk (d : Dev) (path : Nat) (b : Bytes) : Bool :=
  let n := beAt b 6 2
  decide (12 ≤ b.length) && decide (b.length = n + 12) && decide (b.length ≤ (if path = 0 then 1472 else 9216))
    && decide (beAt b 0 2 = 0x5950) && decide (beAt b 2 1 = 1) && decide (beAt b 4 2 = fld d 0x210 31 16)
    && decide (devIndex d ≤ 1) && decide (beAt b 3 1 = 1 - devIndex d + 64 * path)
    && decide (beAt b (8 + n) 4 = crc32c (b.take (8 + n)))

/-- A pair frame arrives on a path (R392). -/
def pairFrameReceive (path : Nat) (b : Bytes) (d : Dev) : Dev :=
  if pairOn d = false ∨ 1 < path then d
  else if pairFrameOk d path b then pairRecordsTake b.length path (slice b 8 (beAt b 6 2)) d
  else incCnt 0x14007C d

end Sys2Proof.Machine
end

