-- ==== Sys2Proof/Machine/Quantum.lean ====
section
/-!
DEFINITION. The start of a quantum (R10, R33, R84, R134, R190, R391, R536): everything that its edge brings, in one order.
-/

namespace Sys2Proof.Machine

/-- The quantum boundary after fault causes have arisen (R33, R34, R380): a join fails, a rendering device enters SAFE and
leaves its pair. -/
def faultBoundary (d : Dev) : Dev :=
  let joining := d.pair.join.any (fun x => x.joiner)
  if d.sys.newCauses.isEmpty then d
  else if joining then joinFail { d with sys := { d.sys with newCauses := [] } }
  else
    let was := d.sys.mode
    let d := faultEntry d
    onlyIf (decide (was = .central) && decide (d.sys.mode ≠ .central)) leavePair d

/-- The departure boundary of the last quantum: at that boundary itself the device enters SAFE (R56). -/
def qnExhausted (d : Dev) : Dev :=
  if d.time.counting && decide (2 ^ 40 - 1 ≤ d.time.qn) && !bitAt d 0x230 8 then faultBoundary (faultCause 0x10 d) else d

/-- A transition whose apply QN has come starts (R32, R36, R380, R404). -/
def transAt (q : Nat) (d : Dev) : Dev :=
  match d.sys.sched with
  | none => d
  | some t =>
    if q < t.applyQn ∨ d.sys.running.isSome then d else
    let leaves := decide (d.sys.mode = .central) && decide (t.target ≠ .central) && !mirroredMode d t.cid
    let d := if isRender t.target then { d with net := { d.net with stopped := false } } else d
    joinStart (transStart (onlyIf leaves leavePair d))

/-- What waits for an apply QN and takes effect at the start of quantum q, in the units outside the geometry unit. -/
def applyAt (q : Nat) (d : Dev) : Dev :=
  let d := mirrorOrder (decideAt q d)
  let d := gainsAt q (sourcesAt q (decAt q d))
  let d := corrFinishAt q (corrSwapsAt q d)
  swapCompleteAt q (oppointAt q d)

/-- The changes of plan, air and mask where no quantum is activated; K slews there too (R112, R123, R172). -/
def applyIdle (q : Nat) (d : Dev) : Dev :=
  if renderRuns d then d
  else
    let d := if d.sys.mode = .config then swapInConfig q d else d
    slewStep q (geomChanges q d)

/-- The quantum that is activated next: the present one at the first activation, the one after it while none runs. -/
def nextActivation (q : Nat) (d : Dev) : Dev :=
  if renderRuns d then (if d.geom.fresh then { d with geom := { d.geom with nextAct := q } } else d)
  else matchProceed { d with geom := { d.geom with nextAct := q + 1 } }

/-- Everything at the start of quantum q but the counting. -/
def quantumWork (q : Nat) (d : Dev) : Dev :=
  let d := scrubStep q (stagingClear q d)
  let d := onlyIf (renderRuns d || hasTask d 0 (q - 1)) (boundaryPost q) d
  let d := onlyIf (decide (0 < q)) (presenceSend (q - 1)) d
  let d := applyIdle q (applyAt q d)
  let d := resyncAt q (deferredAt q d)
  let d := transAt q (faultBoundary d)
  let d := surveyStepStart q (joinName (formAt q (mirrorApplied q d)))
  nextActivation q { d with route := { d.route with sample := 0 } }

/-- The next quantum to start: the one after the present, or 0 while PT is before the epoch (R84). -/
def quantumNext (d : Dev) : Nat := if d.time.counting then d.time.qn + 1 else 0

/-- The TIME tick of the start of quantum q: QN counts, pulses in pmode 0b11 and alarms on QN act (R89, R92, R536). -/
def timeQuantum (q : Nat) (d : Dev) : Dev :=
  let d := forN 4 (pulseQuantum q) { d with time := { d.time with qn := q, counting := true } }
  forN 8 (fun n d => if (alarm d n).byQn && alarmDue d n then alarmFire false n d else d) d

/-- The start of quantum q. In Stop, where the media clock is off, QN and TIME run alone (R94). -/
def quantumBegin (q : Nat) (d : Dev) : Dev :=
  let d := timeQuantum q d
  if d.sys.mode = .stop then d else quantumWork q d

/-- The re-anchors whose apply QN starts step the counter, at the tick of that start and before its comparison (R80, R91). -/
def reanchorStep (q : Nat) (d : Dev) : Dev := if d.sys.mode = .stop then d else reanchorsAt q (mirrorOrder d)

/-- QUANTUM_START: the media edge of the next quantum, with the counter at the first tick at or after it (R84, R85,
R536). -/
def quantumStart (d : Dev) : Dev :=
  let q := quantumNext d
  if 2 ^ 40 ≤ q then d else quantumBegin q (runToThen (reanchorStep q) (edgeOfQn d q) d)

/-- Has the counter come to the start of the next quantum? -/
def quantumDue (d : Dev) : Bool :=
  decide (quantumNext d < 2 ^ 40) && (match qnOf d d.time.pt with
    | some q => decide (quantumNext d ≤ q)
    | none => false)

end Sys2Proof.Machine
end

