-- ==== Sys2Proof/Machine/Edges.lean ====
section
/-!
DEFINITION. What some commands do beyond the operation they share with others: the lock of the media synthesisers (R86,
R87), the wake by an alarm (R93), records that arrive from a ring (R413, R416, R417), and others.
-/

namespace Sys2Proof.Machine

/-! ### Media synthesisers -/

/-- Synthesiser A has locked: decimator channels restart, and before an epoch clocks count from the first lock (R296,
R297). -/
def lockA (d : Dev) : Dev :=
  let at' := if d.dec.lockedAt = 0 then nowNs d + 1 else d.dec.lockedAt
  let d := { d with time := { d.time with lockA := true }, dec := { d.dec with lockedAt := at' } }
  decRestart d

/-- A synthesiser's phase error has stayed within ±4 ns for 1 ms: `b` names synthesiser B, which runs while
TIME_MEDIA_CFG.b_enable is 1 (R86, R87). In Stop the media clock is off. -/
def synthLock (b : Bool) (d : Dev) : Dev :=
  if d.sys.mode = .stop then d
  else if b then (if bitAt d 0x20060 0 then { d with time := { d.time with lockB := true } } else d)
  else if d.time.lockA then d else lockA d

/-- Synthesiser A has been out of lock for more than 1 ms: FAULT_CLOCK arises, in whatever mode (R35, R87, R401). -/
def synthALoss (d : Dev) : Dev :=
  if !d.time.lockA then d else causeFound 0xC (pairFault 4 { d with time := { d.time with lockA := false } })

/-! ### The start-up SET_MODE (R444) -/

/-- Time qualifies: a central device with solo_ok issues its start-up SET_MODE (R444). -/
def qualifyStart (d : Dev) : Dev :=
  let e := timeQualify d
  if role d = 1 ∧ bitAt d 0x210 9 = true ∧ d.time.qualified = false then startTry e else e

/-- A stream packet arrives: an edge device whose streams qualify with it issues its start-up SET_MODE (R46 event 7, R444). -/
def packetArrive (k : RxPacket) (d : Dev) : Dev :=
  let e := streamPacketReceive k d
  if role d = 2 then startTry e else e

/-! ### Alarms -/

/-- An alarm with its wake bit set that has fired since `before` is a wake cause (R93, R484). -/
def alarmWake (before d : Dev) : Dev :=
  if (List.range 8).any (fun (n : Nat) => (alarm before n).armed && !(alarm d n).armed && bitAt d (alarmA n) 2) then
    wakeCause 3 d
  else d

/-- A run of the counter, or the start of a quantum, with what its alarms wake (R93). -/
def waking (f : Dev → Dev) (d : Dev) : Dev := alarmWake d (f d)

/-- A tick of TIME, with the start of a quantum that the counter has come to, and the mode-history record that is due
(R61, R84, R93, R444, R536). -/
def idleTick (d : Dev) : Dev :=
  let d := waking (ticksThen (fun d => onlyIf (quantumDue d) (reanchorStep (quantumNext d)) d) 1) d
  let d := if quantumDue d then waking (fun d => quantumBegin (quantumNext d) d) d else d
  if historyDue d then historyAppend d else d

/-- An armed alarm whose time has come fires (R92). -/
def alarmRun (n : Nat) (d : Dev) : Dev := if alarmDue d n then alarmFire false n d else d

/-- The time of an armed alarm has come (R92). One that compares against QN waits for its quantum. -/
def alarmTime (n : Nat) (d : Dev) : Dev :=
  let x := alarm d n
  if x.armed = false then d
  else waking (fun d => alarmRun n (if x.byQn then d else runTo x.value d)) d

/-! ### Accesses -/

/-- A read of an RC counter; `event` says that the counter's event occurs in the same cycle (R17). -/
def rcRead (m : Master) (a : Nat) (event : Bool) (d : Dev) : Dev :=
  let d := readFor m a d
  match regRow a with
  | some r => if event && decide (r.kind = .rc) && decide (a % 4 = 0) then wrN a 1 d else d
  | none => d

/-- A task word written to DISP_CORE_DONE of a core or to the banked DISP_DONE of a control core; `code` says what
the code of an output task was (R198, R254). Another master has no bank (R203). -/
def taskDone (m : Master) (core : Option Nat) (w : Nat) (code : OutCode) (d : Dev) : Dev :=
  match core with
  | some c => coreDone c w code d
  | none =>
    match m with
    | .control k => controlDone k w d
    | _ => d

/-! ### Entries of host rings -/

/-- A metadata record arrives, from a control stream or as the next entry of metadata ring `ring`; `pcieErr` says that its
fetch fails. An entry with a reserved bit is skipped and shown in entry_err (R97, R413, R416, R417). While its carrier is
disabled in GEOM_CTRL a record is not accepted: an entry is taken from its ring and has no effect (R128). -/
def metaArrive (ring : Option Nat) (pcieErr : Bool) (b : Bytes) (d : Dev) : Dev :=
  let b := padTo 32 b
  match ring with
  | none => if bitAt d 0x50000 1 then metaInput b d else d
  | some k =>
    let r := 17 + k
    if 16 ≤ k ∨ ringRunning d r = false ∨ ringHeld d r = 0 then d
    else if pcieErr then ringPcieErr r d
    else
      let bad := (leAt b 21 1).testBit 7 || decide (bits (leAt b 10 2) 15 10 ≠ 0) || decide (bits (leAt b 22 1) 7 3 ≠ 0)
      let d := ringAdvance r (if bad then setFlag (ringA r + 0x20) 10 d else d)
      if bitAt d 0x50000 0 then metaInput b d else d

/-- The next entry of the command ring is fetched; `pcieErr` says that its fetch fails and the ring halts (R417, R425). -/
def commandTake (src : Source) (entry host : Bytes) (pcieErr : Bool) (d : Dev) : Dev :=
  if pcieErr && decide (src = .host) then (if ringRunning d 0 && decide (ringHeld d 0 ≠ 0) then ringPcieErr 0 d else d)
  else commandFetch src entry host d

/-! ### Objects -/

/-- An object has had no applied record for T quanta at the next activation (R106). -/
def objFreeze (o : Nat) (d : Dev) : Dev := freezeCheck d.geom.nextAct o d

/-- A move of an object has had its fade quanta (R104). -/
def moveEnd (o : Nat) (d : Dev) : Dev := moveCheck d.geom.nextAct o d

/-! ### Others -/

/-- A source is stuck; a sense source of a switching channel latches it (R291, R318). -/
def sourceStuck (s : Nat) (d : Dev) : Dev :=
  let d' := srcStuck (drvChRuns d) s d
  if srcHeld d s = false ∧ srcHeld d' s = true then transAdvance (senseFault s d') else d'

/-- A decimator channel delivers a sample: the enabled microphones that it serves hear it (R282, R300). -/
def channelDelivered (driveRuns : Nat → Bool) (c : Nat) (given : List Bool) (d : Dev) : Dev :=
  let was := (decCh d c).m
  let d := sampleDelivered driveRuns c given d
  let x := decCh d c
  if identifies d = false ∨ x.m = was then d else
  let s := fget (0, 0, true) x.recent (was % 64)
  forL ((List.range 72).filter (fun m => micOn d m && decide (fld d (0xB100C + 0x10 * m) 6 0 = c)))
    (fun m d => micHear m (fOut (fld d (decA c + 4) 2 0)) s.2.1 s.2.2 d) d

/-- A channel delivers its next output sample; `given` are the modulator bits since the one before (R293 to R297). -/
def decimatorSample (c : Nat) (given : List Bool) (d : Dev) : Dev := channelDelivered (drvChRuns d) c given d

/-- A design job has not finished within 5 s (R284). -/
def designTimeout (desc : Nat) (d : Dev) : Dev :=
  if d.survey.jobs.any (fun x => decide (x.desc = desc)) then designFail desc 4 d else d

/-- A retrain of a channel is due, by its interval or by a change of temperature: its reading is taken, and the retrain
starts (R456). -/
def retrainDue (ch temp : Nat) (d : Dev) : Dev := dramRetrain ch (wrN (dramA ch + 0x14) (temp % 8) d)

/-- Is the device in Stop, or does it enter it (R483)? -/
def nearStop (d : Dev) : Bool := decide (d.sys.mode = .stop) || d.sys.running.any (fun t => decide (t.target = .stop))

/-- An Ethernet frame arrives; in Stop, and on the way into it, one that is a wake condition of its port wakes the device
(R352, R375, R376, R483). -/
def frameArrive (p : Nat) (f : Bytes) (check : MacCheck) (mPacket : Bool) (shared reserved : Nat) (d : Dev) : Dev :=
  let e := frameReceive p f check mPacket shared reserved d
  if nearStop d = true ∧ p < 4 ∧ linkIsUp d p = true ∧ check.fcsOk = true ∧ check.mmErr = false then
    (if frameWakes d p f then wakeCause 0 (wakeSeen p f e) else wakeSeen p f e)
  else e

/-- A link comes up; in Stop that wakes the device where the port says so (R351, R375). -/
def portLinkUp (p : Nat) (d : Dev) : Dev :=
  let was := linkIsUp d p
  let e := netLinkUp p d
  if nearStop d = true ∧ was = false ∧ linkIsUp e p = true ∧ bitAt d (netA p + 0x3C) 0 = true then wakeCause 0 e else e

/-- A mode transition has finished (R31, R32); causes latched on the way into Stop wake the device at once (R483). -/
def transitionEnd (d : Dev) : Dev := stopThenWake (transCompletePair d)

/-- A COMMAND message of a session: kept, and accepted when it may be (R425, R435). -/
def sessionCommandRun (port ip : Nat) (m : Bytes) (d : Dev) : Dev := acceptAll (sessionCommand port ip m d)

/-- A session with no accepted message for 10 s (R436). -/
def sessionIdle (k : Nat) (d : Dev) : Dev :=
  if k < 8 ∧ (sess d k).lastAt + 10 * secNs ≤ nowNs d then sessionShut k d else d

end Sys2Proof.Machine
end

