-- ==== Sys2Proof/Machine/State.lean ====
section
/-!
DEFINITION. The machine's state: the device and the queue of the commands that are waiting; the reasons to stop; the
state after reset.
-/

namespace Sys2Proof.Machine

/-- The state: everything the spec gives the block, and the commands that wait, first in, first out. -/
structure State where
  dev : Dev := {}
  pending : List Instr := []
deriving DecidableEq, Repr

/-- No command of this block ends in a fault: an access that meets no target, an error of a memory and every other error
that the spec names has an effect that the spec gives (R20, R249, R452, R469), and the machine goes on. So the type has no
constructor. Safe. -/
inductive Fault
deriving DecidableEq, Repr

/-- Why a command is refused. -/
inductive Refusal
  /-- A command with no meaning in the model. Raised by no arm of `exec`: every command of the table has its meaning.
  Safe. -/
  | notModelled (mnemonic : String)
deriving DecidableEq, Repr

/-- The machine after power-on: the always-on supply is up, RESET_N is low and holds the device in BOOT (R497, R498, R521).
Every register holds its reset value; no memory is written; no command waits. -/
def State.reset : State := { dev := { pwr := { resetLow := true } }, pending := [] }

end Sys2Proof.Machine
end

