-- ==== Sys2Proof/Machine/Exec.lean ====
section
/-!
DEFINITION. What every meaning is built with: a command acts on the device and leaves the queue.
-/

namespace Sys2Proof.Machine

/-- The next state after an act on the device; the queue stays. -/
def onDev (f : Dev → Dev) (s : State) : Host.Outcome State Fault Refusal := .next { s with dev := f s.dev }

end Sys2Proof.Machine
end

