-- ==== Sys2Proof/Machine/CmdAccess.lean ====
section
/-!
DEFINITION. The meanings of commands. Accesses to registers (R12 to R20, R35).
-/

namespace Sys2Proof.Machine

/-- REGISTER_WRITE (R15): A write to a register that has no row of its own stores, sets, clears or acts on the value
written as the field access types state, or is discarded as locked or out of range. -/
def execRegisterWrite (m : Master) (a : Nat) (v : Nat) (s : State) : Host.Outcome State Fault Refusal :=
  onDev (busWrite m a v) s

/-- UNALIGNED_REGISTER_ACCESS (R12): An access narrower than 32 bits or not 4-byte aligned completes with no effect
and sets no flag. -/
def execUnalignedRegisterAccess (m : Master) (write : Bool) (_a : Nat) (_size : Nat) (s : State) : Host.Outcome State Fault Refusal :=
  onDev (oddAccess m write) s

/-- UNMAPPED_ACCESS (R20): An access to an address of no block, a gap or a missing instance completes, reads zero,
and sets SYS_ERR_STATUS.unmapped and SYS_ERR_ADDR. -/
def execUnmappedAccess (m : Master) (write : Bool) (a : Nat) (v : Nat) (s : State) : Host.Outcome State Fault Refusal :=
  onDev (Machine.unmappedAccess m write a v) s

/-- RC_COUNTER_READ (R17): A read of an RC counter returns the count and clears it, keeping an event of the same
cycle as a count of 1. -/
def execRcCounterRead (m : Master) (a : Nat) (event : Bool) (s : State) : Host.Outcome State Fault Refusal :=
  onDev (rcRead m a event) s

/-- WIDE_LOW_WORD_READ (R18): A read of the lowest word of a wide value snapshots the higher words into a shadow. -/
def execWideLowWordRead (m : Master) (a : Nat) (s : State) : Host.Outcome State Fault Refusal :=
  onDev (readFor m a) s

/-- FAULT_CAUSES_WRITE (R35): A write to SYS_FAULT_CAUSES clears each written cause bit only when its condition no
longer holds. -/
def execFaultCausesWrite (m : Master) (v : Nat) (s : State) : Host.Outcome State Fault Refusal :=
  onDev (busWrite m 0x230 v) s

end Sys2Proof.Machine
end

