-- ==== Sys2Proof/Machine/CmdAster.lean ====
section
/-!
DEFINITION. The meanings of commands. The Aster cores: bundles (R215 to R248), transfers (R244, R245) and debug
(R251).
-/

namespace Sys2Proof.Machine

/-- ASTER_RUN (R215): ASTER_CTRL.run going from 0 to 1 resets a core's state and starts it at the runtime entry. -/
def execAsterRun (m : Master) (core : Nat) (v : Nat) (s : State) : Host.Outcome State Fault Refusal :=
  onDev (busWrite m (asterA core) v) s

/-- LD_V (R219): Load/store sub-operation LD.V loads 16 bytes into a vector register. -/
def execLdV (y : Bool) (mode : Nat) (k : Nat) (r : Nat) (b : Bundle) (s : State) : Host.Outcome State Fault Refusal :=
  onDev (issue (b.withLs y ⟨.ldV, mode, k, r⟩)) s

/-- ST_V (R219): Sub-operation ST.V stores a vector register to 16 bytes. -/
def execStV (y : Bool) (mode : Nat) (k : Nat) (r : Nat) (b : Bundle) (s : State) : Host.Outcome State Fault Refusal :=
  onDev (issue (b.withLs y ⟨.stV, mode, k, r⟩)) s

/-- LD_W (R219): Sub-operation LD.W loads 4 bytes into a scalar register. -/
def execLdW (y : Bool) (mode : Nat) (k : Nat) (r : Nat) (b : Bundle) (s : State) : Host.Outcome State Fault Refusal :=
  onDev (issue (b.withLs y ⟨.ldW, mode, k, r⟩)) s

/-- ST_W (R219): Sub-operation ST.W stores a scalar register to 4 bytes. -/
def execStW (y : Bool) (mode : Nat) (k : Nat) (r : Nat) (b : Bundle) (s : State) : Host.Outcome State Fault Refusal :=
  onDev (issue (b.withLs y ⟨.stW, mode, k, r⟩)) s

/-- LD_B (R219): Sub-operation LD.B loads 4 bytes into every lane of a vector register. -/
def execLdB (y : Bool) (mode : Nat) (k : Nat) (r : Nat) (b : Bundle) (s : State) : Host.Outcome State Fault Refusal :=
  onDev (issue (b.withLs y ⟨.ldB, mode, k, r⟩)) s

/-- LI (R218): A K-format bundle loads a 32-bit immediate into a scalar register. -/
def execLi (rd : Nat) (imm : Nat) (b : Bundle) (s : State) : Host.Outcome State Fault Refusal :=
  onDev (issue (b.withAlu ⟨.li, rd, 0, imm, 0⟩)) s

/-- VMUL (R220): MAC op VMUL sets four accumulators to lane products. -/
def execVmul (a : Nat) (va : Nat) (vb : Nat) (b : Bundle) (s : State) : Host.Outcome State Fault Refusal :=
  onDev (issue (b.withMac ⟨.vmul, a, va, vb⟩)) s

/-- VMAC (R220): MAC op VMAC adds lane products to four accumulators. -/
def execVmac (a : Nat) (va : Nat) (vb : Nat) (b : Bundle) (s : State) : Host.Outcome State Fault Refusal :=
  onDev (issue (b.withMac ⟨.vmac, a, va, vb⟩)) s

/-- VMSU (R220): MAC op VMSU subtracts lane products from four accumulators. -/
def execVmsu (a : Nat) (va : Nat) (vb : Nat) (b : Bundle) (s : State) : Host.Outcome State Fault Refusal :=
  onDev (issue (b.withMac ⟨.vmsu, a, va, vb⟩)) s

/-- VMACB (R220): MAC op VMACB adds products with lane 0 of vb to four accumulators. -/
def execVmacb (a : Nat) (va : Nat) (vb : Nat) (b : Bundle) (s : State) : Host.Outcome State Fault Refusal :=
  onDev (issue (b.withMac ⟨.vmacb, a, va, vb⟩)) s

/-- VDOT (R220): MAC op VDOT sets one accumulator to a four-lane dot product. -/
def execVdot (a : Nat) (va : Nat) (vb : Nat) (b : Bundle) (s : State) : Host.Outcome State Fault Refusal :=
  onDev (issue (b.withMac ⟨.vdot, a, va, vb⟩)) s

/-- VDOTA (R220): MAC op VDOTA adds a four-lane dot product to one accumulator. -/
def execVdota (a : Nat) (va : Nat) (vb : Nat) (b : Bundle) (s : State) : Host.Outcome State Fault Refusal :=
  onDev (issue (b.withMac ⟨.vdota, a, va, vb⟩)) s

/-- VCLR (R220): MAC op VCLR clears four accumulators. -/
def execVclr (a : Nat) (va : Nat) (vb : Nat) (b : Bundle) (s : State) : Host.Outcome State Fault Refusal :=
  onDev (issue (b.withMac ⟨.vclr, a, va, vb⟩)) s

/-- VLDA (R220): MAC op VLDA loads four accumulators from lanes shifted by sr.ash. -/
def execVlda (a : Nat) (va : Nat) (vb : Nat) (b : Bundle) (s : State) : Host.Outcome State Fault Refusal :=
  onDev (issue (b.withMac ⟨.vlda, a, va, vb⟩)) s

/-- VEXT (R232): MAC op VEXT extracts four accumulators with convergent rounding and saturation. -/
def execVext (a : Nat) (va : Nat) (vb : Nat) (b : Bundle) (s : State) : Host.Outcome State Fault Refusal :=
  onDev (issue (b.withMac ⟨.vext, a, va, vb⟩)) s

/-- VEXT_T (R232): MAC op VEXT.T extracts four accumulators truncating. -/
def execVextT (a : Nat) (va : Nat) (vb : Nat) (b : Bundle) (s : State) : Host.Outcome State Fault Refusal :=
  onDev (issue (b.withMac ⟨.vextT, a, va, vb⟩)) s

/-- VEXT1 (R220): MAC op VEXT1 extracts one accumulator into one lane, convergent. -/
def execVext1 (a : Nat) (va : Nat) (vb : Nat) (b : Bundle) (s : State) : Host.Outcome State Fault Refusal :=
  onDev (issue (b.withMac ⟨.vext1, a, va, vb⟩)) s

/-- VEXT1_T (R220): MAC op VEXT1.T extracts one accumulator into one lane, truncating. -/
def execVext1T (a : Nat) (va : Nat) (vb : Nat) (b : Bundle) (s : State) : Host.Outcome State Fault Refusal :=
  onDev (issue (b.withMac ⟨.vext1T, a, va, vb⟩)) s

/-- VRDA (R220): MAC op VRDA copies an accumulator's 72 bits into vector lanes. -/
def execVrda (a : Nat) (va : Nat) (vb : Nat) (b : Bundle) (s : State) : Host.Outcome State Fault Refusal :=
  onDev (issue (b.withMac ⟨.vrda, a, va, vb⟩)) s

/-- VWRA (R220): MAC op VWRA writes an accumulator from vector lanes. -/
def execVwra (a : Nat) (va : Nat) (vb : Nat) (b : Bundle) (s : State) : Host.Outcome State Fault Refusal :=
  onDev (issue (b.withMac ⟨.vwra, a, va, vb⟩)) s

/-- VMAX_IDX (R238): MAC op VMAX.IDX keeps the running signed maximum and its index per lane. -/
def execVmaxIdx (a : Nat) (va : Nat) (vb : Nat) (b : Bundle) (s : State) : Host.Outcome State Fault Refusal :=
  onDev (issue (b.withMac ⟨.vmaxIdx, a, va, vb⟩)) s

/-- VMIN_IDX (R238): MAC op VMIN.IDX keeps the running signed minimum and its index per lane. -/
def execVminIdx (a : Nat) (va : Nat) (vb : Nat) (b : Bundle) (s : State) : Host.Outcome State Fault Refusal :=
  onDev (issue (b.withMac ⟨.vminIdx, a, va, vb⟩)) s

/-- VMAXA_IDX (R238): MAC op VMAXA.IDX keeps the running largest magnitude and its index per lane. -/
def execVmaxaIdx (a : Nat) (va : Nat) (vb : Nat) (b : Bundle) (s : State) : Host.Outcome State Fault Refusal :=
  onDev (issue (b.withMac ⟨.vmaxaIdx, a, va, vb⟩)) s

/-- ALU_NOP (R221): ALU op NOP does nothing. -/
def execAluNop (b : Bundle) (s : State) : Host.Outcome State Fault Refusal :=
  onDev (issue (b.withAlu ⟨.nop, 0, 0, 0, 0⟩)) s

/-- MOV (R221): ALU op MOV copies a scalar register. -/
def execMov (rd : Nat) (ra : Nat) (b : Bundle) (s : State) : Host.Outcome State Fault Refusal :=
  onDev (issue (b.withAlu ⟨.mov, rd, ra, 0, 0⟩)) s

/-- ADD (R221): ALU op ADD adds modulo 2^32. -/
def execAdd (rd : Nat) (ra : Nat) (b : Bundle) (s : State) : Host.Outcome State Fault Refusal :=
  onDev (issue (b.withAlu ⟨.add, rd, ra, 0, 0⟩)) s

/-- SUB (R221): ALU op SUB subtracts modulo 2^32. -/
def execSub (rd : Nat) (ra : Nat) (b : Bundle) (s : State) : Host.Outcome State Fault Refusal :=
  onDev (issue (b.withAlu ⟨.sub, rd, ra, 0, 0⟩)) s

/-- ADDS (R233): ALU op ADDS adds with saturation. -/
def execAdds (rd : Nat) (ra : Nat) (b : Bundle) (s : State) : Host.Outcome State Fault Refusal :=
  onDev (issue (b.withAlu ⟨.adds, rd, ra, 0, 0⟩)) s

/-- AND (R221): ALU op AND forms the bitwise and. -/
def execAnd (rd : Nat) (ra : Nat) (b : Bundle) (s : State) : Host.Outcome State Fault Refusal :=
  onDev (issue (b.withAlu ⟨.and, rd, ra, 0, 0⟩)) s

/-- OR (R221): ALU op OR forms the bitwise or. -/
def execOr (rd : Nat) (ra : Nat) (b : Bundle) (s : State) : Host.Outcome State Fault Refusal :=
  onDev (issue (b.withAlu ⟨.or, rd, ra, 0, 0⟩)) s

/-- XOR (R221): ALU op XOR forms the bitwise exclusive or. -/
def execXor (rd : Nat) (ra : Nat) (b : Bundle) (s : State) : Host.Outcome State Fault Refusal :=
  onDev (issue (b.withAlu ⟨.xor, rd, ra, 0, 0⟩)) s

/-- SLL (R221): ALU op SLL shifts left by a register amount. -/
def execSll (rd : Nat) (ra : Nat) (b : Bundle) (s : State) : Host.Outcome State Fault Refusal :=
  onDev (issue (b.withAlu ⟨.sll, rd, ra, 0, 0⟩)) s

/-- SRL (R221): ALU op SRL shifts right logically by a register amount. -/
def execSrl (rd : Nat) (ra : Nat) (b : Bundle) (s : State) : Host.Outcome State Fault Refusal :=
  onDev (issue (b.withAlu ⟨.srl, rd, ra, 0, 0⟩)) s

/-- SRA (R221): ALU op SRA shifts right arithmetically by a register amount. -/
def execSra (rd : Nat) (ra : Nat) (b : Bundle) (s : State) : Host.Outcome State Fault Refusal :=
  onDev (issue (b.withAlu ⟨.sra, rd, ra, 0, 0⟩)) s

/-- MIN (R221): ALU op MIN takes the signed minimum. -/
def execMin (rd : Nat) (ra : Nat) (b : Bundle) (s : State) : Host.Outcome State Fault Refusal :=
  onDev (issue (b.withAlu ⟨.min, rd, ra, 0, 0⟩)) s

/-- MAX (R221): ALU op MAX takes the signed maximum. -/
def execMax (rd : Nat) (ra : Nat) (b : Bundle) (s : State) : Host.Outcome State Fault Refusal :=
  onDev (issue (b.withAlu ⟨.max, rd, ra, 0, 0⟩)) s

/-- MUL (R221): ALU op MUL keeps the low 32 bits of a product. -/
def execMul (rd : Nat) (ra : Nat) (b : Bundle) (s : State) : Host.Outcome State Fault Refusal :=
  onDev (issue (b.withAlu ⟨.mul, rd, ra, 0, 0⟩)) s

/-- MOVP (R221): ALU op MOVP writes a pointer register. -/
def execMovp (rd : Nat) (ra : Nat) (b : Bundle) (s : State) : Host.Outcome State Fault Refusal :=
  onDev (issue (b.withAlu ⟨.movp, rd, ra, 0, 0⟩)) s

/-- MOVM (R221): ALU op MOVM writes a modifier register. -/
def execMovm (rd : Nat) (ra : Nat) (b : Bundle) (s : State) : Host.Outcome State Fault Refusal :=
  onDev (issue (b.withAlu ⟨.movm, rd, ra, 0, 0⟩)) s

/-- RDP (R221): ALU op RDP reads a pointer register. -/
def execRdp (rd : Nat) (ra : Nat) (b : Bundle) (s : State) : Host.Outcome State Fault Refusal :=
  onDev (issue (b.withAlu ⟨.rdp, rd, ra, 0, 0⟩)) s

/-- RDM (R221): ALU op RDM reads a modifier register. -/
def execRdm (rd : Nat) (ra : Nat) (b : Bundle) (s : State) : Host.Outcome State Fault Refusal :=
  onDev (issue (b.withAlu ⟨.rdm, rd, ra, 0, 0⟩)) s

/-- VLANE (R221): ALU op VLANE reads one vector lane into a scalar register. -/
def execVlane (rd : Nat) (ra : Nat) (lane : Nat) (b : Bundle) (s : State) : Host.Outcome State Fault Refusal :=
  onDev (issue (b.withAlu ⟨.vlane, rd, ra, lane, 0⟩)) s

/-- VINS (R221): ALU op VINS writes a scalar into one vector lane. -/
def execVins (rd : Nat) (ra : Nat) (lane : Nat) (b : Bundle) (s : State) : Host.Outcome State Fault Refusal :=
  onDev (issue (b.withAlu ⟨.vins, rd, ra, lane, 0⟩)) s

/-- VSPLAT (R221): ALU op VSPLAT writes a scalar into every vector lane. -/
def execVsplat (rd : Nat) (ra : Nat) (b : Bundle) (s : State) : Host.Outcome State Fault Refusal :=
  onDev (issue (b.withAlu ⟨.vsplat, rd, ra, 0, 0⟩)) s

/-- VADDS (R233): ALU op VADDS adds vectors lane-wise with saturation. -/
def execVadds (rd : Nat) (ra : Nat) (b : Bundle) (s : State) : Host.Outcome State Fault Refusal :=
  onDev (issue (b.withAlu ⟨.vadds, rd, ra, 0, 0⟩)) s

/-- VSUBS (R233): ALU op VSUBS subtracts vectors lane-wise with saturation. -/
def execVsubs (rd : Nat) (ra : Nat) (b : Bundle) (s : State) : Host.Outcome State Fault Refusal :=
  onDev (issue (b.withAlu ⟨.vsubs, rd, ra, 0, 0⟩)) s

/-- VABS (R233): ALU op VABS takes saturated lane magnitudes. -/
def execVabs (rd : Nat) (ra : Nat) (b : Bundle) (s : State) : Host.Outcome State Fault Refusal :=
  onDev (issue (b.withAlu ⟨.vabs, rd, ra, 0, 0⟩)) s

/-- VMAXV (R221): ALU op VMAXV takes lane-wise signed maxima. -/
def execVmaxv (rd : Nat) (ra : Nat) (b : Bundle) (s : State) : Host.Outcome State Fault Refusal :=
  onDev (issue (b.withAlu ⟨.vmaxv, rd, ra, 0, 0⟩)) s

/-- VMINV (R221): ALU op VMINV takes lane-wise signed minima. -/
def execVminv (rd : Nat) (ra : Nat) (b : Bundle) (s : State) : Host.Outcome State Fault Refusal :=
  onDev (issue (b.withAlu ⟨.vminv, rd, ra, 0, 0⟩)) s

/-- VREDMAX (R239): ALU op VREDMAX reduces lanes to the largest value and its index. -/
def execVredmax (rd : Nat) (ra : Nat) (b : Bundle) (s : State) : Host.Outcome State Fault Refusal :=
  onDev (issue (b.withAlu ⟨.vredmax, rd, ra, 0, 0⟩)) s

/-- VREDMIN (R239): ALU op VREDMIN reduces lanes to the smallest value and its index. -/
def execVredmin (rd : Nat) (ra : Nat) (b : Bundle) (s : State) : Host.Outcome State Fault Refusal :=
  onDev (issue (b.withAlu ⟨.vredmin, rd, ra, 0, 0⟩)) s

/-- MFS (R217): ALU op MFS reads a system register. -/
def execMfs (rd : Nat) (ra : Nat) (b : Bundle) (s : State) : Host.Outcome State Fault Refusal :=
  onDev (issue (b.withAlu ⟨.mfs, rd, ra, 0, 0⟩)) s

/-- MTS (R217): ALU op MTS writes a system register. -/
def execMts (rd : Nat) (ra : Nat) (b : Bundle) (s : State) : Host.Outcome State Fault Refusal :=
  onDev (issue (b.withAlu ⟨.mts, rd, ra, 0, 0⟩)) s

/-- ADDI (R222): Long op ADDI adds a sign-extended immediate. -/
def execAddi (rd : Nat) (ra : Nat) (imm : Nat) (b : Bundle) (s : State) : Host.Outcome State Fault Refusal :=
  onDev (issue (b.withAlu ⟨.addi, rd, ra, imm, 0⟩)) s

/-- ANDI (R222): Long op ANDI ands a zero-extended immediate. -/
def execAndi (rd : Nat) (ra : Nat) (imm : Nat) (b : Bundle) (s : State) : Host.Outcome State Fault Refusal :=
  onDev (issue (b.withAlu ⟨.andi, rd, ra, imm, 0⟩)) s

/-- ORI (R222): Long op ORI ors a zero-extended immediate. -/
def execOri (rd : Nat) (ra : Nat) (imm : Nat) (b : Bundle) (s : State) : Host.Outcome State Fault Refusal :=
  onDev (issue (b.withAlu ⟨.ori, rd, ra, imm, 0⟩)) s

/-- XORI (R222): Long op XORI exclusive-ors a zero-extended immediate. -/
def execXori (rd : Nat) (ra : Nat) (imm : Nat) (b : Bundle) (s : State) : Host.Outcome State Fault Refusal :=
  onDev (issue (b.withAlu ⟨.xori, rd, ra, imm, 0⟩)) s

/-- SLLI (R222): Long op SLLI shifts left by an immediate. -/
def execSlli (rd : Nat) (ra : Nat) (imm : Nat) (b : Bundle) (s : State) : Host.Outcome State Fault Refusal :=
  onDev (issue (b.withAlu ⟨.slli, rd, ra, imm, 0⟩)) s

/-- SRLI (R222): Long op SRLI shifts right logically by an immediate. -/
def execSrli (rd : Nat) (ra : Nat) (imm : Nat) (b : Bundle) (s : State) : Host.Outcome State Fault Refusal :=
  onDev (issue (b.withAlu ⟨.srli, rd, ra, imm, 0⟩)) s

/-- SRAI (R222): Long op SRAI shifts right arithmetically by an immediate. -/
def execSrai (rd : Nat) (ra : Nat) (imm : Nat) (b : Bundle) (s : State) : Host.Outcome State Fault Refusal :=
  onDev (issue (b.withAlu ⟨.srai, rd, ra, imm, 0⟩)) s

/-- BEQ (R222): Long op BEQ branches when two registers are equal. -/
def execBeq (rd : Nat) (ra : Nat) (imm : Nat) (b : Bundle) (s : State) : Host.Outcome State Fault Refusal :=
  onDev (issue (b.withAlu ⟨.beq, rd, ra, imm, 0⟩)) s

/-- BNE (R222): Long op BNE branches when two registers differ. -/
def execBne (rd : Nat) (ra : Nat) (imm : Nat) (b : Bundle) (s : State) : Host.Outcome State Fault Refusal :=
  onDev (issue (b.withAlu ⟨.bne, rd, ra, imm, 0⟩)) s

/-- BLT (R222): Long op BLT branches on signed less than. -/
def execBlt (rd : Nat) (ra : Nat) (imm : Nat) (b : Bundle) (s : State) : Host.Outcome State Fault Refusal :=
  onDev (issue (b.withAlu ⟨.blt, rd, ra, imm, 0⟩)) s

/-- BGE (R222): Long op BGE branches on signed greater or equal. -/
def execBge (rd : Nat) (ra : Nat) (imm : Nat) (b : Bundle) (s : State) : Host.Outcome State Fault Refusal :=
  onDev (issue (b.withAlu ⟨.bge, rd, ra, imm, 0⟩)) s

/-- BLTU (R222): Long op BLTU branches on unsigned less than. -/
def execBltu (rd : Nat) (ra : Nat) (imm : Nat) (b : Bundle) (s : State) : Host.Outcome State Fault Refusal :=
  onDev (issue (b.withAlu ⟨.bltu, rd, ra, imm, 0⟩)) s

/-- BGEU (R222): Long op BGEU branches on unsigned greater or equal. -/
def execBgeu (rd : Nat) (ra : Nat) (imm : Nat) (b : Bundle) (s : State) : Host.Outcome State Fault Refusal :=
  onDev (issue (b.withAlu ⟨.bgeu, rd, ra, imm, 0⟩)) s

/-- JMP (R222): Long op JMP branches by a signed bundle offset. -/
def execJmp (off : Nat) (b : Bundle) (s : State) : Host.Outcome State Fault Refusal :=
  onDev (issue (b.withAlu ⟨.jmp, 0, 0, off, 0⟩)) s

/-- JMPR (R222): Long op JMPR branches to a register address. -/
def execJmpr (ra : Nat) (b : Bundle) (s : State) : Host.Outcome State Fault Refusal :=
  onDev (issue (b.withAlu ⟨.jmpr, 0, ra, 0, 0⟩)) s

/-- CALL (R222): Long op CALL branches and writes the return address to g31. -/
def execCall (off : Nat) (b : Bundle) (s : State) : Host.Outcome State Fault Refusal :=
  onDev (issue (b.withAlu ⟨.call, 0, 0, off, 0⟩)) s

/-- REP (R234): Long op REP repeats the next bundle an immediate count of times. -/
def execRep (count : Nat) (b : Bundle) (s : State) : Host.Outcome State Fault Refusal :=
  onDev (issue (b.withAlu ⟨.rep, 0, 0, 0, count⟩)) s

/-- REPR (R234): Long op REPR repeats the next bundle a register count of times, clipping at 4,096. -/
def execRepr (ra : Nat) (b : Bundle) (s : State) : Host.Outcome State Fault Refusal :=
  onDev (issue (b.withAlu ⟨.repr, 0, ra, 0, 0⟩)) s

/-- DO (R236): Long op DO opens a hardware loop level with an immediate count. -/
def execLoopDo (count : Nat) (ending : Nat) (b : Bundle) (s : State) : Host.Outcome State Fault Refusal :=
  onDev (issue (b.withAlu ⟨.loopDo, 0, 0, ending, count⟩)) s

/-- DOR (R236): Long op DOR opens a hardware loop level with a register count. -/
def execDor (rd : Nat) (ending : Nat) (b : Bundle) (s : State) : Host.Outcome State Fault Refusal :=
  onDev (issue (b.withAlu ⟨.dor, rd, 0, ending, 0⟩)) s

/-- LEAVE (R222): Long op LEAVE closes the innermost loop level. -/
def execLeave (b : Bundle) (s : State) : Host.Outcome State Fault Refusal :=
  onDev (issue (b.withAlu ⟨.leave, 0, 0, 0, 0⟩)) s

/-- SETXI (R222): Long op SETXI sets the extreme index counter. -/
def execSetxi (imm : Nat) (b : Bundle) (s : State) : Host.Outcome State Fault Refusal :=
  onDev (issue (b.withAlu ⟨.setxi, 0, 0, imm, 0⟩)) s

/-- XFER (R244): Long op XFER queues a tile transfer described in tile memory. -/
def execXfer (ra : Nat) (b : Bundle) (s : State) : Host.Outcome State Fault Refusal :=
  onDev (issue (b.withAlu ⟨.xfer, 0, ra, 0, 0⟩)) s

/-- TILE_TRANSFER_COMPLETE (R244): A queued tile transfer finishes, retrying bus errors up to three times. -/
def execTileTransferComplete (core : Nat) (resp : BurstResp) (s : State) : Host.Outcome State Fault Refusal :=
  onDev (tileTransferEnd core resp) s

/-- XWAIT (R245): Long op XWAIT stalls issue until few enough transfers remain outstanding. -/
def execXwait (n : Nat) (b : Bundle) (s : State) : Host.Outcome State Fault Refusal :=
  onDev (issue (b.withAlu ⟨.xwait, 0, 0, n, 0⟩)) s

/-- DONE (R222): Long op DONE writes a task word to DISP_CORE_DONE. -/
def execDone (ra : Nat) (b : Bundle) (s : State) : Host.Outcome State Fault Refusal :=
  onDev (issue (b.withAlu ⟨.done, 0, ra, 0, 0⟩)) s

/-- IDLE (R246): Long op IDLE stops issue until a mailbox signal. -/
def execIdle (b : Bundle) (s : State) : Host.Outcome State Fault Refusal :=
  onDev (issue (b.withAlu ⟨.idle, 0, 0, 0, 0⟩)) s

/-- RTI (R248): Long op RTI returns to epc and restores sr from esr. -/
def execRti (b : Bundle) (s : State) : Host.Outcome State Fault Refusal :=
  onDev (issue (b.withAlu ⟨.rti, 0, 0, 0, 0⟩)) s

/-- BRK (R251): Long op BRK halts the core for debug in BOOT or CONFIG, or faults otherwise. -/
def execBrk (b : Bundle) (s : State) : Host.Outcome State Fault Refusal :=
  onDev (issue (b.withAlu ⟨.brk, 0, 0, 0, 0⟩)) s

/-- ASTER_DBG_HALT (R251): ASTER_DBG_CMD bit 0 halts a core for debug. -/
def execAsterDbgHalt (m : Master) (core : Nat) (s : State) : Host.Outcome State Fault Refusal :=
  onDev (busWrite m (asterA core + 0x48) 1) s

/-- ASTER_DBG_RESUME (R251): ASTER_DBG_CMD bit 1 resumes a halted core. -/
def execAsterDbgResume (m : Master) (core : Nat) (s : State) : Host.Outcome State Fault Refusal :=
  onDev (busWrite m (asterA core + 0x48) 2) s

/-- ASTER_DBG_STEP (R251): ASTER_DBG_CMD bit 2 steps a halted core by one bundle. -/
def execAsterDbgStep (m : Master) (core : Nat) (s : State) : Host.Outcome State Fault Refusal :=
  onDev (busWrite m (asterA core + 0x48) 4) s

/-- ASTER_DBG_DATA_WRITE (R251): A write of ASTER_DBG_DATA sets the selected core register while halted, or is
refused. -/
def execAsterDbgDataWrite (m : Master) (core : Nat) (v : Nat) (s : State) : Host.Outcome State Fault Refusal :=
  onDev (busWrite m (asterA core + 0x44) v) s

end Sys2Proof.Machine
end

