-- ==== Sys2Proof/Machine/CmdCorr.lean ====
section
/-!
DEFINITION. The meanings of commands. Correction, departure, survey and design (R261 to R288).
-/

namespace Sys2Proof.Machine

/-- CORRECTION_TASK_COMPLETE (R261): Lupin completes an output's correction task, writes its bulk line and marks the
block complete for departure. -/
def execCorrectionTaskComplete (side : Nat) (output : Nat) (qn : Nat) (ecc : Bool) (s : State) : Host.Outcome State Fault Refusal :=
  onDev (correctionEnd side output qn ecc) s

/-- LEVEL_BLOCK_JOB (R265): A level 1 to 3 block job becomes due when its input block closes and runs on Lupin. -/
def execLevelBlockJob (output : Nat) (level : Nat) (block : Nat) (s : State) : Host.Outcome State Fault Refusal :=
  onDev (levelJob output level block) s

/-- LEVEL_BLOCK_JOB_COMPLETE (R265): A level block job finishes and releases any correction task waiting for it. -/
def execLevelBlockJobComplete (output : Nat) (level : Nat) (ecc : Bool) (s : State) : Host.Outcome State Fault Refusal :=
  onDev (levelJobDone output level ecc) s

/-- DEPARTURE (R262): At the departure of a quantum each sink reads its bulk line and sends the samples. -/
def execDeparture (s : State) : Host.Outcome State Fault Refusal :=
  onDev Machine.departure s

/-- CORR_BANK_LOADED (R270): Lupin finishes loading and transforming an image into the inactive bank and CORR_LOAD
completes. -/
def execCorrBankLoaded (output : Nat) (s : State) : Host.Outcome State Fault Refusal :=
  onDev (corrLoadEnd output) s

/-- CORR_SWAPPED (R272): A bank crossfade ends, the new bank is active and CORR_SWAPPED is raised. -/
def execCorrSwapped (output : Nat) (s : State) : Host.Outcome State Fault Refusal :=
  onDev (Machine.corrSwapped output) s

/-- SURVEY_STEP_END (R276): A programme step ends and Zinnia identifies its outputs at every enabled microphone. -/
def execSurveyStepEnd (results : List IrResult) (s : State) : Host.Outcome State Fault Refusal :=
  onDev (Machine.surveyStepEnd results) s

/-- SURVEY_DONE (R276): After the last step and 16,384 samples the device enters CONFIG with cause SURVEY_DONE. -/
def execSurveyDone (s : State) : Host.Outcome State Fault Refusal :=
  onDev Machine.surveyDone s

/-- AVERAGING_PERIOD_END (R279): A live identification period ends and Zinnia writes impulse responses for its pair
group. -/
def execAveragingPeriodEnd (results : List IrResult) (descs : List Nat) (designs : List DesignForm) (s : State) : Host.Outcome State Fault Refusal :=
  onDev (periodEndPair results descs designs) s

/-- DESIGN_JOB_COMPLETE (R285): A correction design item finishes, writing an image or a failure status. -/
def execDesignJobComplete (desc : Nat) (mics : Nat) (taps : List Int) (s : State) : Host.Outcome State Fault Refusal :=
  onDev (designDonePair desc mics taps) s

/-- DESIGN_JOB_TIMEOUT (R284): A design job not finished within 5 s ends with status 0x04. -/
def execDesignJobTimeout (desc : Nat) (s : State) : Host.Outcome State Fault Refusal :=
  onDev (designTimeout desc) s

/-- IMAGE_LOAD_TIMEOUT (R286): A partner that does not load a designed image within 100 ms makes the swap complete
PAIR_DISAGREE. -/
def execImageLoadTimeout (output : Nat) (s : State) : Host.Outcome State Fault Refusal :=
  onDev (imageTimeout output) s

end Sys2Proof.Machine
end

