-- ==== Sys2Proof/Machine/CmdDec.lean ====
section
/-!
DEFINITION. The meanings of commands. Capture and decimation (R289 to R303).
-/

namespace Sys2Proof.Machine

/-- DEC_SRC_STUCK (R291): A modulator bit holding one value for 4,096 clocks marks the source stuck. -/
def execDecSrcStuck (src : Nat) (s : State) : Host.Outcome State Fault Refusal :=
  onDev (sourceStuck src) s

/-- DEC_SRC_OK (R291): A stuck source shows both values again and its channels restart. -/
def execDecSrcOk (src : Nat) (s : State) : Host.Outcome State Fault Refusal :=
  onDev (srcOk src) s

/-- DEC_CONFIG_COMPLETE (R298): The first sample of the new configuration is delivered and DEC_CONFIG completes DONE.
-/
def execDecConfigComplete (ch : Nat) (s : State) : Host.Outcome State Fault Refusal :=
  onDev (Machine.decConfigComplete ch) s

/-- DEC_SWAPPED (R299): The compensation banks swap at the first output of the apply QN and DEC_SWAPPED is raised. -/
def execDecSwapped (ch : Nat) (s : State) : Host.Outcome State Fault Refusal :=
  onDev (Machine.decSwapped ch) s

/-- DEC_COEF_DATA_WRITE (R294): A write of DEC_COEF_DATA stores a coefficient in the inactive bank and advances the
tap. -/
def execDecCoefDataWrite (m : Master) (v : Nat) (s : State) : Host.Outcome State Fault Refusal :=
  onDev (busWrite m 0x160044 v) s

/-- DEC_CH_CFG_WRITE (R292): A write of a channel configuration register is checked and starts or switches the
channel. -/
def execDecChCfgWrite (m : Master) (ch : Nat) (word : Nat) (v : Nat) (s : State) : Host.Outcome State Fault Refusal :=
  onDev (busWrite m (decA ch + 4 * word) v) s

/-- CAPTURE_BLOCK_WRITE (R301): When 32 samples of every member channel are delivered a capture stream writes a block
or drops it. -/
def execCaptureBlockWrite (stream : Nat) (entries : List Bytes) (pcieErr : Bool) (s : State) : Host.Outcome State Fault Refusal :=
  onDev (captureWrite stream entries pcieErr) s

end Sys2Proof.Machine
end

