-- ==== Sys2Proof/Machine/CmdDisp.lean ====
section
/-!
DEFINITION. The meanings of commands. The routing engine and the dispatcher (R180 to R215, R247).
-/

namespace Sys2Proof.Machine

/-- ROUTING_PERIOD (R180): Once per sample the routing engine runs its program, applies slot crossfades and gain
steps. -/
def execRoutingPeriod (s : State) : Host.Outcome State Fault Refusal :=
  onDev mediaSample s

/-- GAIN_ZC_TIMEOUT (R185): No crossing within T samples steps the gain anyway and raises GAIN_ZC_TIMEOUT. -/
def execGainZcTimeout (entry : Nat) (s : State) : Host.Outcome State Fault Refusal :=
  onDev (gainTimeout entry) s

/-- TASK_DONE_WRITE (R198): A write of a task word to DISP_CORE_DONE or DISP_DONE frees the entry and posts onward,
or is discarded as a mismatch. -/
def execTaskDoneWrite (m : Master) (unit : Option Nat) (w : Nat) (code : OutCode) (s : State) : Host.Outcome State Fault Refusal :=
  onDev (taskDone m unit w code) s

/-- TAKE (R203): A control core's read of DISP_TAKE returns a service task or stalls until one is given. -/
def execTake (core : Nat) (s : State) : Host.Outcome State Fault Refusal :=
  onDev (Machine.take core) s

/-- TAKE_TIMEOUT (R203): A stalled TAKE reaches DISP_TAKE_TIMEOUT and returns 0xFFFF_FFFF. -/
def execTakeTimeout (core : Nat) (s : State) : Host.Outcome State Fault Refusal :=
  onDev (Machine.takeTimeout core) s

/-- DISP_POST (R206): A control-core write of DISP_POST commits an operand post for the named task and QN. -/
def execDispPost (m : Master) (v : Nat) (s : State) : Host.Outcome State Fault Refusal :=
  onDev (busWrite m 0x40214 v) s

/-- DISP_BG_SUBMIT (R207): A write of DISP_BG_SUBMIT queues a background item or is discarded as full or without
affinity. -/
def execDispBgSubmit (m : Master) (v : Nat) (s : State) : Host.Outcome State Fault Refusal :=
  onDev (busWrite m 0x40228 v) s

/-- DISP_CQ_PUSH (R208): A write of DISP_CQ_PUSH appends an item to a compatibility queue or is discarded. -/
def execDispCqPush (m : Master) (q : Nat) (v : Nat) (s : State) : Host.Outcome State Fault Refusal :=
  onDev (busWrite m (0x40300 + 4 * q) v) s

/-- DISP_MATCH_SEL_WRITE (R193): A write of DISP_MATCH_SEL snapshots the selected matching-store entry. -/
def execDispMatchSelWrite (m : Master) (v : Nat) (s : State) : Host.Outcome State Fault Refusal :=
  onDev (busWrite m 0x40400 v) s

/-- DISP_MATCH_PEAK_WRITE (R214): A write of DISP_MATCH_PEAK sets the peak that hardware then raises to higher use.
-/
def execDispMatchPeakWrite (m : Master) (v : Nat) (s : State) : Host.Outcome State Fault Refusal :=
  onDev (busWrite m 0x4000C v) s

/-- SWITCH_ENTRY (R247): After the drain the core saves epc and sr, clears lp and pe and enters the switch handler.
-/
def execSwitchEntry (core : Nat) (s : State) : Host.Outcome State Fault Refusal :=
  onDev (Machine.switchEntry core) s

/-- TASK_DEADLINE (R209): A task not complete at its class deadline is marked late, counted and traced. -/
def execTaskDeadline (side : Nat) (task : Nat) (qn : Nat) (s : State) : Host.Outcome State Fault Refusal :=
  onDev (Machine.taskDeadline side task qn) s

/-- DEPARTURE_CUTOFF (R210): At the cutoff a quantum with an incomplete output or correction task is suppressed as
late. -/
def execDepartureCutoff (qn : Nat) (s : State) : Host.Outcome State Fault Refusal :=
  onDev (Machine.departureCutoff qn) s

/-- DEADLINE_FAULT (R211): The eighth consecutive late quantum puts the device into SAFE with FAULT_DEADLINE. -/
def execDeadlineFault (s : State) : Host.Outcome State Fault Refusal :=
  onDev Machine.deadlineFault s

end Sys2Proof.Machine
end

