-- ==== Sys2Proof/Machine/CmdDrive.lean ====
section
/-!
DEFINITION. The meanings of commands. Direct drive (R304 to R325).
-/

namespace Sys2Proof.Machine

/-- DIAG_STEP_END (R314): A timed diagnostics step ends, judging its fault condition and moving to the next step or
ending the run. -/
def execDiagStepEnd (ch : Nat) (node : Nat) (limit : Bool) (z : Option Nat) (s : State) : Host.Outcome State Fault Refusal :=
  onDev (fun d => transAdvance (Machine.diagStepEnd ch node limit z d)) s

/-- CM_RAMP_END (R309): A common-mode ramp reaches its end and the channel plays or drives its gates low. -/
def execCmRampEnd (ch : Nat) (s : State) : Host.Outcome State Fault Refusal :=
  onDev (Machine.cmRampEnd ch) s

/-- CURRENT_LIMIT_CROSSING (R317): The current-sense input crosses the limit and the conducting phase ends; `x.mv` is its
magnitude in mV. -/
def execCurrentLimitCrossing (x : LimitCrossing) (s : State) : Host.Outcome State Fault Refusal :=
  onDev (limitCrossing x.ch x.mv) s

/-- DRV_OVERCURRENT (R318): The limit acts in 64 consecutive cycles and the channel latches OVERCURRENT. -/
def execDrvOvercurrent (ch : Nat) (s : State) : Host.Outcome State Fault Refusal :=
  onDev (fun d => transAdvance (overcurrent ch d)) s

/-- RAIL_UV (R313): A rail below its threshold for 10 ms latches every playing channel on it. -/
def execRailUv (rail : Nat) (s : State) : Host.Outcome State Fault Refusal :=
  onDev (fun d => transAdvance (Machine.railUv rail d)) s

/-- STAGE_FAULT_INPUT (R313): DRV_PSFAULT_N held low for 1 µs latches every channel on its rail. -/
def execStageFaultInput (rail : Nat) (s : State) : Host.Outcome State Fault Refusal :=
  onDev (fun d => transAdvance (stageFault rail d)) s

/-- STAGGER_LOCK (R308): A channel's switching phase stays within ±5° for 1 ms and it is locked. -/
def execStaggerLock (ch : Nat) (s : State) : Host.Outcome State Fault Refusal :=
  onDev (Machine.staggerLock ch) s

/-- DRV_UNLOCK (R308): A channel idling 100 ms without lock sets unlock_seen and raises DRV_UNLOCK. -/
def execDrvUnlock (ch : Nat) (s : State) : Host.Outcome State Fault Refusal :=
  onDev (Machine.drvUnlock ch) s

/-- RETRY_DELAY_EXPIRY (R321): The retry delay after a latch passes and an automatic retry diagnostics run starts. -/
def execRetryDelayExpiry (ch : Nat) (s : State) : Host.Outcome State Fault Refusal :=
  onDev (retryExpiry ch) s

/-- RAIL_RECOVERED (R321): A rail reads above threshold with PSFAULT high for 100 ms and retries may start. -/
def execRailRecovered (rail : Nat) (s : State) : Host.Outcome State Fault Refusal :=
  onDev (Machine.railRecovered rail) s

/-- DRV_CH_CFG_WRITE (R325): A write of DRV_CH_CFG or DRV_RAIL_CFG is checked against ranges, pairings and the rail
rule. -/
def execDrvChCfgWrite (m : Master) (rail : Bool) (n : Nat) (v : Nat) (s : State) : Host.Outcome State Fault Refusal :=
  onDev (busWrite m (if rail then 0x170040 + 0x10 * n else 0x171000 + 0x40 * n) v) s

end Sys2Proof.Machine
end

