-- ==== Sys2Proof/Machine/CmdFlow.lean ====
section
/-!
DEFINITION. The meanings of commands. Transmit boundaries, code banks, decimator samples and the PCI Express link
(R243, R295, R354, R412).
-/

namespace Sys2Proof.Machine

/-- TX_FRAME_BOUNDARY (R354): A frame finishes transmission on a port and the head of the highest non-empty queue is
sent next. -/
def execTxFrameBoundary (port : Nat) (preempts : Bool) (s : State) : Host.Outcome State Fault Refusal :=
  onDev (txBoundary port preempts) s

/-- CODE_BANK_WRITTEN (R243): The write of a plan into the free Aster code and data banks ends, so the bank counts as
written for a swap. -/
def execCodeBankWritten (s : State) : Host.Outcome State Fault Refusal :=
  onDev bankWritten s

/-- DECIMATOR_SAMPLE_DELIVERED (R295): A decimator channel computes and delivers an output sample on its modulator
clock, updating its latest sample and settle count. -/
def execDecimatorSampleDelivered (ch : Nat) (given : List Bool) (s : State) : Host.Outcome State Fault Refusal :=
  onDev (decimatorSample ch given) s

/-- PCIE_LINK_UP (R412): The PCI Express link trains up again after a hot reset or link-down and
HOSTIF_STATUS.link_up is set. -/
def execPcieLinkUp (gen : Nat) (width : Nat) (s : State) : Host.Outcome State Fault Refusal :=
  onDev (linkUp gen width) s

end Sys2Proof.Machine
end

