-- ==== Sys2Proof/Machine/CmdHost.lean ====
section
/-!
DEFINITION. The meanings of commands. The commands of R427 as their source issues them, with their fetch and
completion (R425 to R430).
-/

namespace Sys2Proof.Machine

/-- NOP (R427): Command NOP completes DONE with result 0. -/
def execNop (h : CmdHdr) (s : State) : Host.Outcome State Fault Refusal :=
  onDev (submit h .nop) s

/-- REG_READ (R427): Command REG_READ returns the two register words at an 8-byte aligned BAR0 offset. -/
def execRegRead (h : CmdHdr) (addr : Nat) (s : State) : Host.Outcome State Fault Refusal :=
  onDev (submit h (.regRead addr)) s

/-- REG_WRITE (R427): Command REG_WRITE presents one 32-bit write to a register and completes DONE. -/
def execRegWrite (h : CmdHdr) (addr : Nat) (value : Nat) (s : State) : Host.Outcome State Fault Refusal :=
  onDev (submit h (.regWrite addr value)) s

/-- SET_MODE (R26): Command SET_MODE is judged against the transition table and preconditions and schedules, holds or
refuses a mode transition. -/
def execSetMode (h : CmdHdr) (mode : Nat) (scope : Nat) (s : State) : Host.Outcome State Fault Refusal :=
  onDev (submit h (.setMode mode scope)) s

/-- SET_OPPOINT (R488): Command SET_OPPOINT checks and schedules, pends or carries out a change of DVFS operating
point. -/
def execSetOppoint (h : CmdHdr) (point : Nat) (s : State) : Host.Outcome State Fault Refusal :=
  onDev (submit h (.setOppoint point)) s

/-- REANCHOR_TIME (R80): Command REANCHOR_TIME schedules a step of counter and epoch at an apply QN after a range
check. -/
def execReanchorTime (h : CmdHdr) (step : Int) (s : State) : Host.Outcome State Fault Refusal :=
  onDev (submit h (.reanchorTime step)) s

/-- SET_AIR (R112): Command SET_AIR schedules a new air temperature and humidity that starts a K slew at its apply
QN. -/
def execSetAir (h : CmdHdr) (temp : Int) (humidity : Nat) (s : State) : Host.Outcome State Fault Refusal :=
  onDev (submit h (.setAir temp humidity)) s

/-- SET_OUTPUT_AVAIL (R125): Command SET_OUTPUT_AVAIL reports an output lost or restored and schedules the mask
change. -/
def execSetOutputAvail (h : CmdHdr) (output : Nat) (available : Nat) (s : State) : Host.Outcome State Fault Refusal :=
  onDev (submit h (.setOutputAvail output available)) s

/-- PLAN_LOAD (R168): Command PLAN_LOAD copies a plan image into the load buffer and starts its validation. -/
def execPlanLoad (h : CmdHdr) (plan : Nat) (src : Nat) (record : Nat) (data : DRef) (s : State) : Host.Outcome State Fault Refusal :=
  onDev (submit h (.planLoad plan src record data)) s

/-- PLAN_LOAD_COMPLETE (R168): Validation of a loaded plan ends, moving the image into the plan store or failing with
a reason in PLAN_ERR. -/
def execPlanLoadComplete (s : State) : Host.Outcome State Fault Refusal :=
  onDev planLoadEnd s

/-- PLAN_DROP (R169): Command PLAN_DROP frees a plan index and recomputes PLAN_SET_ID. -/
def execPlanDrop (h : CmdHdr) (plan : Nat) (s : State) : Host.Outcome State Fault Refusal :=
  onDev (submit h (.planDrop plan)) s

/-- PLAN_SWAP (R172): Command PLAN_SWAP is checked and schedules, replaces or at once carries out a swap of the
active plan. -/
def execPlanSwap (h : CmdHdr) (plan : Nat) (xfade : Nat) (s : State) : Host.Outcome State Fault Refusal :=
  onDev (submit h (.planSwap plan xfade)) s

/-- SET_ROUTE_GAIN (R185): Command SET_ROUTE_GAIN starts a zero-crossing wait to step a routing gain. -/
def execSetRouteGain (h : CmdHdr) (entry : Nat) (gain : Nat) (s : State) : Host.Outcome State Fault Refusal :=
  onDev (submit h (.setRouteGain entry gain)) s

/-- SET_ROUTE_SOURCE (R184): Command SET_ROUTE_SOURCE schedules a crossfade of an indirect routing slot to a new
source. -/
def execSetRouteSource (h : CmdHdr) (slot : Nat) (source : Nat) (s : State) : Host.Outcome State Fault Refusal :=
  onDev (submit h (.setRouteSource slot source)) s

/-- CORR_LOAD (R270): Command CORR_LOAD checks a filter image and starts loading it into the inactive Lupin bank. -/
def execCorrLoad (h : CmdHdr) (output : Nat) (data : DRef) (s : State) : Host.Outcome State Fault Refusal :=
  onDev (submit h (.corrLoad output data)) s

/-- CORR_SWAP (R271): Command CORR_SWAP schedules or at once carries out a crossfade to the loaded correction bank.
-/
def execCorrSwap (h : CmdHdr) (output : Nat) (which : Nat) (xfade : Nat) (s : State) : Host.Outcome State Fault Refusal :=
  onDev (submit h (.corrSwap output which xfade)) s

/-- SURVEY_PROGRAM (R275): Command SURVEY_PROGRAM loads or clears an excitation programme of up to 4,096 steps. -/
def execSurveyProgram (h : CmdHdr) (steps : Nat) (data : DRef) (s : State) : Host.Outcome State Fault Refusal :=
  onDev (submit h (.surveyProgram steps data)) s

/-- DEC_CONFIG (R298): Command DEC_CONFIG schedules new configuration words for a decimator channel at an apply QN.
-/
def execDecConfig (h : CmdHdr) (ch : Nat) (cfg : Nat) (rate : Nat) (phase : Nat) (s : State) : Host.Outcome State Fault Refusal :=
  onDev (submit h (.decConfig ch cfg rate phase)) s

/-- DEC_COMP_SWAP (R299): Command DEC_COMP_SWAP schedules a swap of a channel's compensation banks. -/
def execDecCompSwap (h : CmdHdr) (ch : Nat) (s : State) : Host.Outcome State Fault Refusal :=
  onDev (submit h (.decCompSwap ch)) s

/-- DRV_DIAG (R315): Command DRV_DIAG starts load diagnostics on the named direct-drive channels. -/
def execDrvDiag (h : CmdHdr) (mask : Nat) (s : State) : Host.Outcome State Fault Refusal :=
  onDev (submit h (.drvDiag mask)) s

/-- DRV_CLEAR (R321): Command DRV_CLEAR resets the retry count of named latched channels and starts a retry at once.
-/
def execDrvClear (h : CmdHdr) (mask : Nat) (s : State) : Host.Outcome State Fault Refusal :=
  onDev (submit h (.drvClear mask)) s

/-- STREAM_SET (R361): Command STREAM_SET checks and loads a stream descriptor into a transmit or receive context. -/
def execStreamSet (h : CmdHdr) (data : DRef) (s : State) : Host.Outcome State Fault Refusal :=
  onDev (submit h (.streamSet data)) s

/-- STREAM_CLEAR (R427): Command STREAM_CLEAR unloads a stream context under the state rules of STREAM_SET. -/
def execStreamClear (h : CmdHdr) (context : Nat) (dir : Nat) (s : State) : Host.Outcome State Fault Refusal :=
  onDev (submit h (.streamClear context dir)) s

/-- PAIR_RESYNC (R403): Command PAIR_RESYNC sends the named device of a formed pair to SAFE and then through a MIRROR
join. -/
def execPairResync (h : CmdHdr) (device : Nat) (s : State) : Host.Outcome State Fault Refusal :=
  onDev (submit h (.pairResync device)) s

/-- SCENE_WRITE (R440): Command SCENE_WRITE checks a record and its space and starts programming it at the head of
the log. -/
def execSceneWrite (h : CmdHdr) (record : Nat) (kind : Nat) (flags : Nat) (data : DRef) (s : State) : Host.Outcome State Fault Refusal :=
  onDev (submit h (.sceneWrite record kind flags data)) s

/-- SCENE_READ (R427): Command SCENE_READ copies bytes of a scene record to the named buffer. -/
def execSceneRead (h : CmdHdr) (record : Nat) (offset : Nat) (data : DRef) (s : State) : Host.Outcome State Fault Refusal :=
  onDev (submit h (.sceneRead record offset data)) s

/-- SCENE_ERASE (R440): Command SCENE_ERASE writes a tombstone for a record identifier by the steps of a scene write.
-/
def execSceneErase (h : CmdHdr) (record : Nat) (s : State) : Host.Outcome State Fault Refusal :=
  onDev (submit h (.sceneErase record)) s

/-- AGE_MEASURE (R508): Command AGE_MEASURE starts an ageing measurement and re-plan. -/
def execAgeMeasure (h : CmdHdr) (s : State) : Host.Outcome State Fault Refusal :=
  onDev (submit h .ageMeasure) s

/-- SESSION_KEY_SET (R438): Command SESSION_KEY_SET writes or empties a session key slot and closes sessions that use
it. -/
def execSessionKeySet (h : CmdHdr) (slot : Nat) (role : Nat) (data : DRef) (s : State) : Host.Outcome State Fault Refusal :=
  onDev (submit h (.sessionKeySet slot role data)) s

/-- EVENT_MASK (R431): Command EVENT_MASK sets the event groups a network session receives. -/
def execEventMask (h : CmdHdr) (mask : Nat) (s : State) : Host.Outcome State Fault Refusal :=
  onDev (submit h (.eventMask mask)) s

/-- COMMAND_FETCH (R425): The device fetches and accepts the next command of a source in order, subject to fences and
the 64 in-flight limit. -/
def execCommandFetch (src : Source) (entry : Bytes) (host : Bytes) (pcieErr : Bool) (s : State) : Host.Outcome State Fault Refusal :=
  onDev (commandTake src entry host pcieErr) s

/-- FETCH_RESUME (R425): Command fetch resumes when in-flight commands or the completion holding queue fall below
their limits. -/
def execFetchResume (s : State) : Host.Outcome State Fault Refusal :=
  onDev acceptAll s

/-- FENCE_TIMEOUT (R425): A fenced command that has waited more than 30 s completes TIMEOUT. -/
def execFenceTimeout (src : Source) (s : State) : Host.Outcome State Fault Refusal :=
  onDev (Machine.fenceTimeout src) s

/-- COMPLETION_RELEASE (R430): A completion waiting in the holding queue leaves it when its ring has room and is
delivered again. -/
def execCompletionRelease (s : State) : Host.Outcome State Fault Refusal :=
  onDev Machine.completionRelease s

end Sys2Proof.Machine
end

