-- ==== Sys2Proof/Machine/CmdMem.lean ====
section
/-!
DEFINITION. The meanings of commands. The matrix, memories and DMA (R446 to R480).
-/

namespace Sys2Proof.Machine

/-- MATRIX_TIMEOUT (R469): A matrix request has no answer within MATRIX_TIMEOUT and receives a timeout error. -/
def execMatrixTimeout (master : Nat) (target : Nat) (a : Nat) (write : Bool) (late : Bool) (s : State) : Host.Outcome State Fault Refusal :=
  onDev (Machine.matrixTimeout master target a write late) s

/-- ROW_ACTIVATE_WINDOW_END (R455): Every 32 ms all activate counts of the row-protection tables clear. -/
def execRowActivateWindowEnd (acts : List (Nat × Nat × Nat)) (s : State) : Host.Outcome State Fault Refusal :=
  onDev (rowWindowEnd acts) s

/-- DRAM_RETRAIN (R456): The retrain interval or a temperature change starts a retrain of one channel. -/
def execDramRetrain (ch : Nat) (temp : Nat) (s : State) : Host.Outcome State Fault Refusal :=
  onDev (retrainDue ch temp) s

/-- DRAM_RETRAIN_END (R456): A channel retrain ends and waiting requests proceed. -/
def execDramRetrainEnd (ch : Nat) (s : State) : Host.Outcome State Fault Refusal :=
  onDev (Machine.dramRetrainEnd ch) s

/-- SRAM_SCRUB_PERIOD (R459): Each scrub period the scrubber reads and corrects the SRAM regions. -/
def execSramScrubPeriod (hits : List ScrubHit) (s : State) : Host.Outcome State Fault Refusal :=
  onDev (scrubPeriod hits) s

/-- VAULT_WIPED (R463): A vault wipe ends and VAULT_WIPED is raised with its cause. -/
def execVaultWiped (s : State) : Host.Outcome State Fault Refusal :=
  onDev Machine.vaultWiped s

/-- DMA_CH_PROD_WRITE (R473): A write of DMA_CH_PROD posts descriptors to a channel or halts it on a bad index. -/
def execDmaChProdWrite (m : Master) (ch : Nat) (v : Nat) (s : State) : Host.Outcome State Fault Refusal :=
  onDev (busWrite m (dmaA ch + 0x1C) v) s

/-- DMA_STOP (R478): DMA_CH_CTRL.stop stops a channel at the next descriptor boundary. -/
def execDmaStop (m : Master) (ch : Nat) (v : Nat) (s : State) : Host.Outcome State Fault Refusal :=
  onDev (busWrite m (dmaA ch + 4) (v ||| 2)) s

/-- DMA_ABORT (R478): DMA_CH_CTRL.abort ends a channel's transfers and marks its descriptor aborted. -/
def execDmaAbort (m : Master) (ch : Nat) (v : Nat) (s : State) : Host.Outcome State Fault Refusal :=
  onDev (busWrite m (dmaA ch + 4) (v ||| 4)) s

/-- DMA_RESUME (R478): DMA_CH_CTRL.resume continues a stopped channel or reruns a halted descriptor. -/
def execDmaResume (m : Master) (ch : Nat) (v : Nat) (s : State) : Host.Outcome State Fault Refusal :=
  onDev (busWrite m (dmaA ch + 4) (v ||| 8)) s

/-- DMA_SKIP (R478): DMA_CH_CTRL.skip abandons a halted channel's entry and advances the consumer index. -/
def execDmaSkip (m : Master) (ch : Nat) (v : Nat) (s : State) : Host.Outcome State Fault Refusal :=
  onDev (busWrite m (dmaA ch + 4) (v ||| 16)) s

/-- DMA_DESCRIPTOR_FETCH (R477): A channel checks a chain and fetches its next descriptor, halting on loops or
malformed fields. -/
def execDmaDescriptorFetch (ch : Nat) (host : Bytes) (resp : BurstResp) (s : State) : Host.Outcome State Fault Refusal :=
  onDev (dmaFetch ch host resp) s

/-- DMA_BURST_RESPONSE (R475): A DMA burst's response arrives, completing it or starting a retry or halt. -/
def execDmaBurstResponse (ch : Nat) (resp : BurstResp) (host : Bytes) (s : State) : Host.Outcome State Fault Refusal :=
  onDev (dmaBurst ch resp host) s

/-- DMA_ENTRY_COMPLETE (R473): A ring entry ends; its status is written and the consumer index written back. -/
def execDmaEntryComplete (ch : Nat) (s : State) : Host.Outcome State Fault Refusal :=
  onDev (dmaEntryEnd ch) s

end Sys2Proof.Machine
end

