-- ==== Sys2Proof/Machine/CmdNet.lean ====
section
/-!
DEFINITION. The meanings of commands. The network (R350 to R377).
-/

namespace Sys2Proof.Machine

/-- NET_LINK_DOWN (R351): A link goes down, queued frames are discarded and NET_LINK_DOWN raised. -/
def execNetLinkDown (port : Nat) (s : State) : Host.Outcome State Fault Refusal :=
  onDev (Machine.netLinkDown port) s

/-- NET_LINK_UP (R351): A link comes up, PCS latency reloads and NET_LINK_UP raised. -/
def execNetLinkUp (port : Nat) (s : State) : Host.Outcome State Fault Refusal :=
  onDev (portLinkUp port) s

/-- FRAME_RECEIVE (R352): An Ethernet frame is filtered, checked and buffered or dropped and counted. -/
def execFrameReceive (port : Nat) (frame : Bytes) (check : MacCheck) (mPacket : Bool) (shared : Nat) (reserved : Nat) (s : State) : Host.Outcome State Fault Refusal :=
  onDev (frameArrive port frame check mPacket shared reserved) s

/-- CONTROL_DATAGRAM_RECEIVE (R355): A control-stream datagram is checked and its availability, swap and metadata
records are taken. -/
def execControlDatagramReceive (ip : Nat) (csumOk : Bool) (port : Nat) (b : Bytes) (s : State) : Host.Outcome State Fault Refusal :=
  onDev (controlReceive ip csumOk port b) s

/-- CONTROL_RATE_WINDOW (R356): Every 10 ms the per-port control-frame allowance restarts. -/
def execControlRateWindow (port : Nat) (s : State) : Host.Outcome State Fault Refusal :=
  onDev (controlWindow port) s

/-- PAUSE_HIGH_WATERMARK (R358): Buffer occupancy rises to NET_PAUSE_HI and a PAUSE is sent. -/
def execPauseHighWatermark (port : Nat) (s : State) : Host.Outcome State Fault Refusal :=
  onDev (pauseHigh port) s

/-- PAUSE_REPEAT (R358): Half the pause time elapses with occupancy above the low mark and the PAUSE is repeated. -/
def execPauseRepeat (port : Nat) (s : State) : Host.Outcome State Fault Refusal :=
  onDev (Machine.pauseRepeat port) s

/-- PAUSE_LOW_WATERMARK (R358): Occupancy falls to NET_PAUSE_LO and a zero PAUSE is sent. -/
def execPauseLowWatermark (port : Nat) (s : State) : Host.Outcome State Fault Refusal :=
  onDev (pauseLow port) s

/-- PAUSE_RECEIVE (R358): A received PAUSE holds every queue for its time or is counted and ignored. -/
def execPauseReceive (port : Nat) (quanta : Nat) (s : State) : Host.Outcome State Fault Refusal :=
  onDev (Machine.pauseReceive port quanta) s

/-- PAUSE_EXPIRY (R358): The time of a received PAUSE elapses and transmission resumes. -/
def execPauseExpiry (port : Nat) (s : State) : Host.Outcome State Fault Refusal :=
  onDev (Machine.pauseExpiry port) s

/-- PREEMPTION_VERIFY (R354): A verify mPacket attempt of IEEE 802.3br is answered or times out after verify_ms. -/
def execPreemptionVerify (port : Nat) (answered : Bool) (s : State) : Host.Outcome State Fault Refusal :=
  onDev (Machine.preemptionVerify port answered) s

/-- STREAM_PACKET_SEND (R364): At its send time a stream packet joins queue 5 of each leg, or is suppressed. -/
def execStreamPacketSend (context : Nat) (packet : Nat) (s : State) : Host.Outcome State Fault Refusal :=
  onDev (Machine.streamPacketSend context packet) s

/-- LAUNCH_LIMIT_EXPIRY (R365): A packet not begun within NET_LAUNCH_LIMIT of its send time is discarded as late. -/
def execLaunchLimitExpiry (port : Nat) (s : State) : Host.Outcome State Fault Refusal :=
  onDev (launchExpiry port) s

/-- STREAM_PACKET_RECEIVE (R370): A stream packet is matched, de-duplicated and written to staging or dropped as
late, early or duplicate. -/
def execStreamPacketReceive (packet : RxPacket) (s : State) : Host.Outcome State Fault Refusal :=
  onDev (packetArrive packet) s

/-- NET_STREAM_SEL_WRITE (R377): A write of NET_STREAM_SEL snapshots a context and clears its counters. -/
def execNetStreamSelWrite (m : Master) (v : Nat) (s : State) : Host.Outcome State Fault Refusal :=
  onDev (busWrite m 0x108000 v) s

end Sys2Proof.Machine
end

