-- ==== Sys2Proof/Machine/CmdObject.lean ====
section
/-!
DEFINITION. The meanings of commands. Activation, metadata, geometry, voices and availability (R96 to R157, R178 to
R190).
-/

namespace Sys2Proof.Machine

/-- QUANTUM_ACTIVATION (R189): The dispatcher allocates matching-store entries for a quantum and the geometry unit
applies records, conditions objects and evaluates voices. -/
def execQuantumActivation (s : State) : Host.Outcome State Fault Refusal :=
  onDev activate s

/-- METADATA_RECORD_RECEIVE (R97): A metadata record from a ring or control stream is checked, dropped, or held for
its QN. -/
def execMetadataRecordReceive (ring : Option Nat) (pcieErr : Bool) (b : Bytes) (s : State) : Host.Outcome State Fault Refusal :=
  onDev (metaArrive ring pcieErr b) s

/-- OBJ_FROZEN (R106): A live object with no applied record for T quanta freezes and raises OBJ_FROZEN. -/
def execObjFrozen (o : Nat) (s : State) : Host.Outcome State Fault Refusal :=
  onDev (objFreeze o) s

/-- MOVE_END (R104): A crossfaded move or dip ends after its fade quanta and frees its slot. -/
def execMoveEnd (o : Nat) (s : State) : Host.Outcome State Fault Refusal :=
  onDev (Machine.moveEnd o) s

/-- GEOM_OPERAND_POST (R151): The geometry unit writes a group's operand block and posts its operand. -/
def execGeomOperandPost (s : State) : Host.Outcome State Fault Refusal :=
  onDev operandPost s

/-- GEOM_POST_RESUME (R152): The geometry unit, waiting for a full operand buffer, resumes when a voice-group task
frees a block. -/
def execGeomPostResume (s : State) : Host.Outcome State Fault Refusal :=
  onDev operandPost s

/-- AVAIL_REPORT_RECEIVE (R125): A central device receives a loss or restoration report, names an apply QN, sends
AVAIL to its partner and multicasts a record. -/
def execAvailReportReceive (output : Nat) (cause : Nat) (available : Bool) (s : State) : Host.Outcome State Fault Refusal :=
  onDev (Machine.availReportReceive output cause available) s

/-- AVAIL_RECORD_RECEIVE (R126): A device takes an availability record whose seq is newer and schedules its mask. -/
def execAvailRecordReceive (b : Bytes) (s : State) : Host.Outcome State Fault Refusal :=
  onDev (Machine.availRecordReceive b) s

/-- OPERAND_POST (R190): An operand is posted to a matching-store entry, counted, or dropped as orphan or extra. -/
def execOperandPost (side : Nat) (task : Nat) (qn : Nat) (s : State) : Host.Outcome State Fault Refusal :=
  onDev (postOperand side task qn) s

/-- TASK_DISPATCH (R195): The dispatcher issues the first eligible ready task or item to a free unit in class order.
-/
def execTaskDispatch (s : State) : Host.Outcome State Fault Refusal :=
  onDev dispatchOne s

/-- WINDOW_FILL_COMPLETE (R135): The staging unit finishes copying a quantum's samples into the delay-store windows
and posts to the voice groups. -/
def execWindowFillComplete (s : State) : Host.Outcome State Fault Refusal :=
  onDev windowFillPair s

/-- VOICE_GROUP_COMPLETE (R146): A Peony voice-group task finishes its voices, writes back state and posts to its
outputs' tasks. -/
def execVoiceGroupComplete (engine : Nat) (errors : LaneErrors) (s : State) : Host.Outcome State Fault Refusal :=
  onDev (voiceGroupDone engine errors.bad errors.ce) s

/-- SWAP_RECORD_RECEIVE (R178): An edge device takes a swap record from a control stream and schedules the swap. -/
def execSwapRecordReceive (b : Bytes) (s : State) : Host.Outcome State Fault Refusal :=
  onDev (Machine.swapRecordReceive b) s

end Sys2Proof.Machine
end

