-- ==== Sys2Proof/Machine/CmdPair.lean ====
section
/-!
DEFINITION. The meanings of commands. Lockstep pairs (R378 to R410).
-/

namespace Sys2Proof.Machine

/-- PAIR_FORM (R378): When the pairing conditions hold device 0 sends a FORM record naming the QN of formation. -/
def execPairForm (s : State) : Host.Outcome State Fault Refusal :=
  onDev Machine.pairForm s

/-- HEARTBEAT_SEND (R395): Every millisecond each device sends a heartbeat with digests on each path and resends
unacknowledged records. -/
def execHeartbeatSend (s : State) : Host.Outcome State Fault Refusal :=
  onDev Machine.heartbeatSend s

/-- PAIR_FRAME_RECEIVE (R392): A pair frame is checked and its records are taken, merged, acknowledged or skipped. -/
def execPairFrameReceive (path : Nat) (b : Bytes) (s : State) : Host.Outcome State Fault Refusal :=
  onDev (Machine.pairFrameReceive path b) s

/-- DIGEST_WAIT_EXPIRY (R399): No partner entry arrives within 4 ms of the own digest and that QN is left uncompared.
-/
def execDigestWaitExpiry (qn : Nat) (s : State) : Host.Outcome State Fault Refusal :=
  onDev (digestExpiry qn) s

/-- PRES_WAIT_EXPIRY (R388): The partner's presence is missing after PAIR_PRES_WAIT and the fill proceeds solo. -/
def execPresWaitExpiry (qn : Nat) (s : State) : Host.Outcome State Fault Refusal :=
  onDev (presExpiry qn) s

/-- PAIR_PATH_FAULT (R400): No heartbeat on one path within 1.5 ms marks a path fault. -/
def execPairPathFault (path : Nat) (s : State) : Host.Outcome State Fault Refusal :=
  onDev (pathFault path) s

/-- PAIR_PATH_OK (R400): Ten consecutive heartbeats on a faulted path raise PAIR_PATH_OK. -/
def execPairPathOk (path : Nat) (s : State) : Host.Outcome State Fault Refusal :=
  onDev (pathOk path) s

/-- PARTNER_LOST (R400): No heartbeat on either path for 3 ms puts the device in ALONE and cancels proposals. -/
def execPartnerLost (s : State) : Host.Outcome State Fault Refusal :=
  onDev Machine.partnerLost s

/-- AUTO_RESYNC (R401): One second after a divergence with no fault held, device 1 begins PAIR_RESYNC. -/
def execAutoResync (s : State) : Host.Outcome State Fault Refusal :=
  onDev Machine.autoResync s

/-- JOIN_PHASE_ADVANCE (R405): A join phase's transfer ends and the next phase of the join begins. -/
def execJoinPhaseAdvance (copy : Machine.JoinCopy) (s : State) : Host.Outcome State Fault Refusal :=
  onDev (joinAdvance copy) s

/-- PAIR_JOIN_FAILED (R406): A join fails and the joiner enters CONFIG with cause JOIN_FAILED. -/
def execPairJoinFailed (s : State) : Host.Outcome State Fault Refusal :=
  onDev joinFail s

/-- LANE_LOAD_WINDOW (R408): Every 10 ms device 0 measures pair-link load and may decide to shed or restore lanes. -/
def execLaneLoadWindow (load : Nat) (s : State) : Host.Outcome State Fault Refusal :=
  onDev (laneWindow load) s

/-- PAIR_LANE (R408): At the named PT both devices switch lane state and raise PAIR_LANE. -/
def execPairLane (s : State) : Host.Outcome State Fault Refusal :=
  onDev laneSwitch s

/-- PAIR_LANE_FAIL (R409): Lane training fails or block lock is lost for 1 ms and the link moves to L1. -/
def execPairLaneFail (s : State) : Host.Outcome State Fault Refusal :=
  onDev laneFail s

/-- LANE_RETRY (R409): One second after a lane failure the link retries L4 while load calls for it. -/
def execLaneRetry (load : Nat) (s : State) : Host.Outcome State Fault Refusal :=
  onDev (Machine.laneRetry load) s

end Sys2Proof.Machine
end

