-- ==== Sys2Proof/Machine/CmdPort.lean ====
section
/-!
DEFINITION. The meanings of commands. Serial audio ports and the listen port (R326 to R349).
-/

namespace Sys2Proof.Machine

/-- APORT_ENABLE (R340): APORT_CTRL.enable written 1 starts a port, each slot waiting for its zero crossing. -/
def execAportEnable (m : Master) (port : Nat) (v : Nat) (s : State) : Host.Outcome State Fault Refusal :=
  onDev (busWrite m (aportA port + 4) (v ||| 1)) s

/-- APORT_DISABLE (R341): APORT_CTRL.enable written 0 stops a port, each slot silencing at its zero crossing. -/
def execAportDisable (m : Master) (port : Nat) (v : Nat) (s : State) : Host.Outcome State Fault Refusal :=
  onDev (busWrite m (aportA port + 4) (v &&& 0xFFFFFFFE)) s

/-- APORT_CFG_WRITE (R327): A write of APORT_CFG is checked against roles, clock limits and formats, or refused. -/
def execAportCfgWrite (m : Master) (port : Nat) (v : Nat) (s : State) : Host.Outcome State Fault Refusal :=
  onDev (busWrite m (aportA port) v) s

/-- SLOT_MASK_WRITE (R338): A write of a receive or transmit mask is held for the next frame start. -/
def execSlotMaskWrite (m : Master) (port : Nat) (dir : Nat) (v : Nat) (s : State) : Host.Outcome State Fault Refusal :=
  onDev (busWrite m (aportA port + 0xC + 4 * dir) v) s

/-- SLOT_MASK_LATCH (R338): A written slot mask comes into force at the next frame start. -/
def execSlotMaskLatch (port : Nat) (s : State) : Host.Outcome State Fault Refusal :=
  onDev (maskLatch port) s

/-- FRAME_START (R330): A master port starts a frame, sending the data of its domain sample or underrunning. -/
def execFrameStart (port : Nat) (line : List Bool) (s : State) : Host.Outcome State Fault Refusal :=
  onDev (Machine.frameStart port line) s

/-- RX_FRAME (R333): A slave or locked-slave port receives a frame and checks its period, bit count and alignment. -/
def execRxFrame (port : Nat) (seen : SerialSeen) (offset : Int) (bitClocks : Nat) (ppm : Int) (s : State) : Host.Outcome State Fault Refusal :=
  onDev (Machine.rxFrame port seen offset bitClocks ppm) s

/-- MISSING_FRAME (R333): No frame start arrives within 1.5 periods and a missing frame delivers zeros. -/
def execMissingFrame (port : Nat) (s : State) : Host.Outcome State Fault Refusal :=
  onDev (Machine.missingFrame port) s

/-- PORT_ALIGNED (R332): Sixteen consecutive aligned frames set APORT_STATUS.aligned. -/
def execPortAligned (port : Nat) (s : State) : Host.Outcome State Fault Refusal :=
  onDev (Machine.portAligned port) s

/-- PERIOD_FAULT_CLEAR (R333): After 100 ms of frames passing the period check a port is no longer unlocked. -/
def execPeriodFaultClear (port : Nat) (s : State) : Host.Outcome State Fault Refusal :=
  onDev (periodClear port) s

/-- APORT_ASRC_LOCK (R335): A converter's ratio stays within ±2 ppm for 100 ms and it locks. -/
def execAportAsrcLock (port : Nat) (ratio : Nat) (s : State) : Host.Outcome State Fault Refusal :=
  onDev (asrcLock port ratio) s

/-- APORT_ASRC_UNLOCK (R335): A converter loses lock and raises APORT_ASRC_UNLOCK. -/
def execAportAsrcUnlock (port : Nat) (s : State) : Host.Outcome State Fault Refusal :=
  onDev (asrcUnlock port) s

/-- APORT_ZC_TIMEOUT (R340): A slot start or stop finds no crossing within T samples and switches at sample T. -/
def execAportZcTimeout (port : Nat) (dir : Nat) (slot : Nat) (s : State) : Host.Outcome State Fault Refusal :=
  onDev (Machine.aportZcTimeout port dir slot) s

/-- PORT_CLOCKS_STOP (R341): With every slot silent and one further frame passed a master port stops its clocks. -/
def execPortClocksStop (port : Nat) (s : State) : Host.Outcome State Fault Refusal :=
  onDev (Machine.portClocksStop port) s

/-- LISTEN_INSERTION (R344): An insertion edge on LSN_DET starts the debounce of accessory detection. -/
def execListenInsertion (s : State) : Host.Outcome State Fault Refusal :=
  onDev Machine.listenInsertion s

/-- LISTEN_DETECT_STEP (R344): A timed detection step ends, judging the accessory or moving to the next test. -/
def execListenDetectStep (reading : Nat) (s : State) : Host.Outcome State Fault Refusal :=
  onDev (Machine.listenDetectStep reading) s

/-- LISTEN_UNPLUG (R345): A removal edge mutes the outputs, removes bias and raises LISTEN_UNPLUG. -/
def execListenUnplug (s : State) : Host.Outcome State Fault Refusal :=
  onDev Machine.listenUnplug s

/-- LISTEN_BUTTON (R346): R_line is evaluated; once it has stayed in or out of a button window for 20 ms a press or release
is raised. -/
def execListenButton (line : LineSeen) (s : State) : Host.Outcome State Fault Refusal :=
  onDev (Machine.listenButton line) s

/-- MIC_GATE_END (R346): Fifty milliseconds after a button release the microphone source reads again. -/
def execMicGateEnd (s : State) : Host.Outcome State Fault Refusal :=
  onDev Machine.micGateEnd s

/-- LISTEN_HP_FAULT (R347): Headphone current above 150 mA for 1 ms mutes both outputs. -/
def execListenHpFault (s : State) : Host.Outcome State Fault Refusal :=
  onDev hpFault s

end Sys2Proof.Machine
end

