-- ==== Sys2Proof/Machine/CmdPower.lean ====
section
/-!
DEFINITION. The meanings of commands. Power, clocks, reset, boot, security, ageing and peripherals (R481 to R534).
-/

namespace Sys2Proof.Machine

/-- WAKE (R484): An enabled wake cause in Stop starts the wake sequence into CONFIG or BOOT. -/
def execWake (cause : Nat) (s : State) : Host.Outcome State Fault Refusal :=
  onDev (wakeCause cause) s

/-- WAKE_ATTEMPT_FAIL (R485): PGOOD_CORE not high 10 ms after the AVSBus write fails the attempt and retries or
leaves FAULT_N low. -/
def execWakeAttemptFail (s : State) : Host.Outcome State Fault Refusal :=
  onDev wakeFail s

/-- WAKE_STEP_COMPLETE (R484): A timed stage of the wake sequence completes and the next begins. -/
def execWakeStepComplete (s : State) : Host.Outcome State Fault Refusal :=
  onDev wakeStep s

/-- REFCLK_LOST (R496): REFCLK shows no edge or runs out of bounds; AON falls back and Run enters SAFE with
FAULT_CLOCK. -/
def execRefclkLost (s : State) : Host.Outcome State Fault Refusal :=
  onDev Machine.refclkLost s

/-- REFCLK_OK (R496): REFCLK has been within bounds for 100 ms and qualifies again. -/
def execRefclkOk (s : State) : Host.Outcome State Fault Refusal :=
  onDev refclkBack s

/-- REFCLK_ABSENT_ALARM (R486): After 1 s without REFCLK at wake FAULT_N is driven low with code 0x01. -/
def execRefclkAbsentAlarm (s : State) : Host.Outcome State Fault Refusal :=
  onDev refclkAbsent s

/-- CLOCK_CHECK_WINDOW (R495): Every 10 µs each clock count is compared and two bad windows are a clock failure. -/
def execClockCheckWindow (counts : List Nat) (s : State) : Host.Outcome State Fault Refusal :=
  onDev (clockWindow counts) s

/-- VOLTAGE_ARRIVAL (R489): The VDD_CORE readback reaches the target and a held frequency step or lowering completion
proceeds. -/
def execVoltageArrival (mv : Nat) (s : State) : Host.Outcome State Fault Refusal :=
  onDev (Machine.voltageArrival mv) s

/-- DVFS_SUPPLY_FAULT (R492): Ten milliseconds after A without the raise voltage the device enters SAFE with
FAULT_SUPPLY. -/
def execDvfsSupplyFault (s : State) : Host.Outcome State Fault Refusal :=
  onDev Machine.dvfsSupplyFault s

/-- AVS_TIMEOUT (R492): A lowering's voltage is not reached within PWR_AVS_TIMEOUT and the command completes TIMEOUT.
-/
def execAvsTimeout (s : State) : Host.Outcome State Fault Refusal :=
  onDev Machine.avsTimeout s

/-- THERMAL_WARN (R494): The junction reading rises through PWR_THERM_WARN and THERMAL_WARN is raised. -/
def execThermalWarn (temp : Int) (s : State) : Host.Outcome State Fault Refusal :=
  onDev (Machine.thermalWarn temp) s

/-- THERMAL_FAULT (R494): The junction exceeds 118 °C and FAULT_THERMAL is recorded. -/
def execThermalFault (temp : Int) (s : State) : Host.Outcome State Fault Refusal :=
  onDev (Machine.thermalFault temp) s

/-- PGOOD_CORE_LOW (R494): PGOOD_CORE low for 1 µs in Run records FAULT_SUPPLY. -/
def execPgoodCoreLow (s : State) : Host.Outcome State Fault Refusal :=
  onDev (fun d => transAdvance (pgoodFall d)) s

/-- SUPPLY_MONITOR_LOSS (R522): A monitored supply leaves regulation and the device holds itself in reset. -/
def execSupplyMonitorLoss (s : State) : Host.Outcome State Fault Refusal :=
  onDev supplyLoss s

/-- POWER_ON_RESET (R497): VDD_AON rises and the device resets into BOOT, clearing always-on registers. -/
def execPowerOnReset (s : State) : Host.Outcome State Fault Refusal :=
  onDev powerOn s

/-- RESET_N_ASSERT (R497): RESET_N held low for 1 µs resets the device into BOOT. -/
def execResetNAssert (s : State) : Host.Outcome State Fault Refusal :=
  onDev resetAssert s

/-- WATCHDOG_EXPIRY (R497): PWR_WDT not serviced within PWR_WDT_TIMEOUT resets the device. -/
def execWatchdogExpiry (s : State) : Host.Outcome State Fault Refusal :=
  onDev Machine.watchdogExpiry s

/-- DEBUG_RESET (R497): A debug-port reset in MANUFACTURE or RETURNED resets the device. -/
def execDebugReset (s : State) : Host.Outcome State Fault Refusal :=
  onDev Machine.debugReset s

/-- PWR_WDT_WRITE (R497): A write of 0x0000_A55A to PWR_WDT restarts the watchdog. -/
def execPwrWdtWrite (m : Master) (v : Nat) (s : State) : Host.Outcome State Fault Refusal :=
  onDev (busWrite m 0x10034 v) s

/-- BOOT_STEP_COMPLETE (R500): A boot step finishes and the next begins, or it fails with a code and retries or
stops. -/
def execBootStepComplete (seen : BootSeen) (s : State) : Host.Outcome State Fault Refusal :=
  onDev (bootStep seen) s

/-- BOOT_RETRY (R500): One second after every candidate fails authentication the boot repeats from step 2. -/
def execBootRetry (s : State) : Host.Outcome State Fault Refusal :=
  onDev Machine.bootRetry s

/-- SEC_SVN_COMMIT (R501): A write of SEC_SVN_COMMIT raises the fused security version or is refused. -/
def execSecSvnCommit (m : Master) (v : Nat) (s : State) : Host.Outcome State Fault Refusal :=
  onDev (busWrite m 0x1D00C4 v) s

/-- SEC_LC_REQ (R509): A write of SEC_LC_REQ requests the next life-cycle state, blowing its fuse and wiping the
vault. -/
def execSecLcReq (m : Master) (v : Nat) (s : State) : Host.Outcome State Fault Refusal :=
  onDev (busWrite m 0x1D0004 v) s

/-- TAMPER (R511): A tamper source acts; the vault is wiped, sessions close and a rendering device enters SAFE with
FAULT_TAMPER. -/
def execTamper (cause : Nat) (levels : Nat) (detectors : Nat) (s : State) : Host.Outcome State Fault Refusal :=
  onDev (Machine.tamper cause levels detectors) s

/-- AGE_DAILY_MEASURE (R504): Every 24 h of Run with auto set an ageing measurement starts. -/
def execAgeDailyMeasure (s : State) : Host.Outcome State Fault Refusal :=
  onDev ageDaily s

/-- AGE_MEASURE_COMPLETE (R505): An ageing measurement ends, offsets are re-planned and AGE_MEASURE completes. -/
def execAgeMeasureComplete (paths : List Nat) (vmin : List Nat) (lanes : List (Nat × Nat)) (s : State) : Host.Outcome State Fault Refusal :=
  onDev (ageComplete paths vmin lanes) s

/-- FLASH_PROGRAM (R534): PERIPH_FLASH_CMD 0x01 programs up to one page of the flash part. -/
def execFlashProgram (m : Master) (s : State) : Host.Outcome State Fault Refusal :=
  onDev (busWrite m 0x1F001C 1) s

/-- FLASH_ERASE_SECTOR (R534): PERIPH_FLASH_CMD 0x02 erases a 4 KiB sector. -/
def execFlashEraseSector (m : Master) (s : State) : Host.Outcome State Fault Refusal :=
  onDev (busWrite m 0x1F001C 2) s

/-- FLASH_ERASE_BLOCK (R534): PERIPH_FLASH_CMD 0x03 erases a 64 KiB block. -/
def execFlashEraseBlock (m : Master) (s : State) : Host.Outcome State Fault Refusal :=
  onDev (busWrite m 0x1F001C 3) s

/-- FLASH_READ_STATUS (R534): PERIPH_FLASH_CMD 0x04 reads the flash status. -/
def execFlashReadStatus (m : Master) (s : State) : Host.Outcome State Fault Refusal :=
  onDev (busWrite m 0x1F001C 4) s

/-- FLASH_OPERATION_COMPLETE (R534): A flash program or erase ends and its verify sets flash_err on failure. -/
def execFlashOperationComplete (verified : Bool) (s : State) : Host.Outcome State Fault Refusal :=
  onDev (flashComplete verified) s

/-- I2C_TRANSFER (R534): A write of PERIPH_I2C_CMD starts an I²C transfer. -/
def execI2cTransfer (m : Master) (n : Nat) (v : Nat) (s : State) : Host.Outcome State Fault Refusal :=
  onDev (busWrite m (i2cA n + 4) v) s

/-- I2C_TRANSFER_COMPLETE (R534): An I²C transfer ends with done, nack or arbitration loss. -/
def execI2cTransferComplete (n : Nat) (result : Nat) (data : Bytes) (s : State) : Host.Outcome State Fault Refusal :=
  onDev (i2cEnd n (8 + result % 3) data) s

/-- I2C_TIMEOUT (R534): SCL held low for 25 ms ends an I²C transfer with timeout. -/
def execI2cTimeout (n : Nat) (s : State) : Host.Outcome State Fault Refusal :=
  onDev (i2cEnd n 11 []) s

/-- UART_TX_WRITE (R534): A write of PERIPH_UART_TX queues a byte or sets tx_full. -/
def execUartTxWrite (m : Master) (v : Nat) (s : State) : Host.Outcome State Fault Refusal :=
  onDev (busWrite m 0x1F0204 v) s

/-- UART_RX_POP (R534): A write of PERIPH_UART_RX_POP removes the oldest received byte. -/
def execUartRxPop (m : Master) (v : Nat) (s : State) : Host.Outcome State Fault Refusal :=
  onDev (busWrite m 0x1F020C v) s

/-- UART_RX_BYTE (R534): A byte received on UART_RX enters the receive FIFO or sets overrun or framing error. -/
def execUartRxByte (b : Byte) (stopOk : Bool) (s : State) : Host.Outcome State Fault Refusal :=
  onDev (uartRx b stopOk) s

/-- PMB_TELEMETRY_POLL (R534): Every 10 ms with telemetry enabled the PMBus master reads the core regulator. -/
def execPmbTelemetryPoll (vout : Nat) (iout : Nat) (temp : Nat) (nack : Bool) (pec : Bool) (alert : Bool) (s : State) : Host.Outcome State Fault Refusal :=
  onDev (pmbPoll vout iout temp nack pec alert) s

/-- RESET_N_RELEASE (R521): The release of RESET_N with supplies in regulation (T0) starts boot step 1. -/
def execResetNRelease (s : State) : Host.Outcome State Fault Refusal :=
  onDev resetRelease s

/-- SUPPLY_RESTORED (R522): A monitored supply that left regulation has been back in regulation for 1 ms and the
device leaves the reset it held. -/
def execSupplyRestored (s : State) : Host.Outcome State Fault Refusal :=
  onDev supplyBack s

/-- THERMAL_WARN_REARM (R494): The junction reading falls 2 °C below PWR_THERM_WARN and the warning arms again. -/
def execThermalWarnRearm (temp : Int) (s : State) : Host.Outcome State Fault Refusal :=
  onDev (thermalRearm temp) s

end Sys2Proof.Machine
end

