-- ==== Sys2Proof/Machine/CmdRing.lean ====
section
/-!
DEFINITION. The meanings of commands. Rings, doorbells, sessions and the scene store (R412 to R445).
-/

namespace Sys2Proof.Machine

/-- DOORBELL_WRITE (R415): A doorbell write advances a ring's host index, halts it on error, or is stored while
disabled. -/
def execDoorbellWrite (offset : Nat) (v : BarWrite) (s : State) : Host.Outcome State Fault Refusal :=
  onDev (Machine.doorbellWrite offset v) s

/-- RING_CFG_WRITE (R418): A write of RING_CFG configures, enables from RING_HOST_IDX, or stops a ring. -/
def execRingCfgWrite (m : Master) (ring : Nat) (v : Nat) (s : State) : Host.Outcome State Fault Refusal :=
  onDev (busWrite m (ringA ring) v) s

/-- HOST_LINK_RESET (R412): A Function Level Reset, hot reset or link-down disables every ring and clears HOSTIF ring
registers. -/
def execHostLinkReset (linkDown : Bool) (s : State) : Host.Outcome State Fault Refusal :=
  onDev (Machine.hostLinkReset linkDown) s

/-- INTERRUPT_MODERATION_EXPIRY (R422): RING_MOD time passes since an unsignalled entry and the ring's vector
signals. -/
def execInterruptModerationExpiry (ring : Nat) (s : State) : Host.Outcome State Fault Refusal :=
  onDev (moderationExpiry ring) s

/-- HOST_AUDIO_FETCH (R420): The device fetches a host audio entry and moves its buffer to or from staging or a port
block. -/
def execHostAudioFetch (ring : Nat) (entry : Bytes) (buf : Bytes) (pcieErr : Bool) (s : State) : Host.Outcome State Fault Refusal :=
  onDev (Machine.hostAudioFetch ring entry buf pcieErr) s

/-- SESSION_HELLO (R434): A HELLO message is answered with a CHALLENGE or ignored. -/
def execSessionHello (port : Nat) (ip : Nat) (b : Bytes) (s : State) : Host.Outcome State Fault Refusal :=
  onDev (Machine.sessionHello port ip b) s

/-- SESSION_PROVE (R434): A PROVE message is verified, deriving the session key and opening the session. -/
def execSessionProve (port : Nat) (ip : Nat) (b : Bytes) (s : State) : Host.Outcome State Fault Refusal :=
  onDev (Machine.sessionProve port ip b) s

/-- SESSION_COMMAND (R435): A session COMMAND message is accepted and run, or a replay is answered with the cached
completion. -/
def execSessionCommand (port : Nat) (ip : Nat) (b : Bytes) (s : State) : Host.Outcome State Fault Refusal :=
  onDev (sessionCommandRun port ip b) s

/-- SESSION_DATA (R437): A DATA message writes bytes into the session's staging area. -/
def execSessionData (port : Nat) (ip : Nat) (b : Bytes) (s : State) : Host.Outcome State Fault Refusal :=
  onDev (Machine.sessionData port ip b) s

/-- SESSION_KEEPALIVE (R433): A KEEPALIVE message is accepted and keeps the session open. -/
def execSessionKeepalive (port : Nat) (ip : Nat) (b : Bytes) (s : State) : Host.Outcome State Fault Refusal :=
  onDev (Machine.sessionKeepalive port ip b) s

/-- SESSION_CLOSE (R436): A CLOSE message closes the session and raises SESSION_CLOSED. -/
def execSessionClose (port : Nat) (ip : Nat) (b : Bytes) (s : State) : Host.Outcome State Fault Refusal :=
  onDev (Machine.sessionClose port ip b) s

/-- SESSION_IDLE_TIMEOUT (R436): A session with no accepted message for 10 s closes. -/
def execSessionIdleTimeout (slot : Nat) (s : State) : Host.Outcome State Fault Refusal :=
  onDev (sessionIdle slot) s

/-- HELLO_BAN_EXPIRY (R434): Sixty seconds after eight failures from an address HELLO from it is accepted again. -/
def execHelloBanExpiry (ip : Nat) (s : State) : Host.Outcome State Fault Refusal :=
  onDev (Machine.helloBanExpiry ip) s

/-- SCENE_COMMITTED (R440): Programming and readback of a record end, it enters the index and SCENE_COMMITTED is
raised. -/
def execSceneCommitted (ok : Bool) (s : State) : Host.Outcome State Fault Refusal :=
  onDev (Machine.sceneCommitted ok) s

/-- AUTOLOAD (R444): At the first entry into CONFIG after boot the firmware applies standing autoload records by
kind. -/
def execAutoload (s : State) : Host.Outcome State Fault Refusal :=
  onDev Machine.autoload s

/-- AUTOLOAD_SET_MODE_RETRY (R444): Every 100 ms a refused start-up SET_MODE is issued again. -/
def execAutoloadSetModeRetry (s : State) : Host.Outcome State Fault Refusal :=
  onDev startTry s

end Sys2Proof.Machine
end

