-- ==== Sys2Proof/Machine/CmdSystem.lean ====
section
/-!
DEFINITION. The meanings of commands. Modes, faults, start-up and the domain (R23 to R56).
-/

namespace Sys2Proof.Machine

/-- TRANSITION_COMPLETE (R31): A mode transition finishes its ramps, the mode changes, SET_MODE completes DONE and
any pending request is judged again. -/
def execTransitionComplete (s : State) : Host.Outcome State Fault Refusal :=
  onDev transitionEnd s

/-- FAULT_ENTRY_SAFE (R33): At the quantum boundary after a fault cause arises in a rendering mode, the device enters
SAFE and ends running and pending transitions. -/
def execFaultEntrySafe (s : State) : Host.Outcome State Fault Refusal :=
  onDev faultBoundary s

/-- PREROLL_END (R37): The muted pre-roll of 1 s ends and the common-mode ramp up or the unmute ramp begins. -/
def execPrerollEnd (s : State) : Host.Outcome State Fault Refusal :=
  onDev Machine.prerollEnd s

/-- OUTPUT_RAMP_END (R36): The 10 ms output ramp to or from zero ends and the next phase of the transition begins. -/
def execOutputRampEnd (s : State) : Host.Outcome State Fault Refusal :=
  onDev Machine.outputRampEnd s

/-- QN_NEAR_END (R55): QN reaches 2^40 − 2^31 or a further 2^24 quanta and the event QN_NEAR_END is raised. -/
def execQnNearEnd (s : State) : Host.Outcome State Fault Refusal :=
  onDev Machine.qnNearEnd s

/-- QN_EXHAUSTED (R56): At the departure boundary of QN 2^40 − 4 the device enters SAFE with cause QN_EXHAUSTED. -/
def execQnExhausted (s : State) : Host.Outcome State Fault Refusal :=
  onDev Machine.qnExhausted s

/-- STARTUP_SLOW (R47): A start-up step exceeds its bound and STARTUP_SLOW is raised while work continues. -/
def execStartupSlow (step : Nat) (s : State) : Host.Outcome State Fault Refusal :=
  onDev (Machine.startupSlow step) s

/-- DOMAIN_FRAME_SEND (R40): Every 10 ms the device multicasts a domain frame on each active Ethernet port. -/
def execDomainFrameSend (s : State) : Host.Outcome State Fault Refusal :=
  onDev domainSend s

/-- DOMAIN_FRAME_RECEIVE (R41): A received domain frame is checked, counted or dropped, and its authoritative fields
are taken. -/
def execDomainFrameReceive (ip : Nat) (b : Bytes) (s : State) : Host.Outcome State Fault Refusal :=
  onDev (domainReceive ip b) s

/-- DEVICE_ABSENT (R42): Domain frames of a device are missing for 30 ms and its outputs are reported lost. -/
def execDeviceAbsent (index : Nat) (s : State) : Host.Outcome State Fault Refusal :=
  onDev (Machine.deviceAbsent index) s

end Sys2Proof.Machine
end

