-- ==== Sys2Proof/Machine/CmdTime.lean ====
section
/-!
DEFINITION. The meanings of commands. Presentation time, PTP, synthesisers, pulses and alarms (R60 to R93), and the
start of a quantum (R536).
-/

namespace Sys2Proof.Machine

/-- TIME_ADDEND_WRITE (R62): A write to TIME_ADDEND sets the counter rate or is refused outside ±500 ppm. -/
def execTimeAddendWrite (m : Master) (v : Nat) (s : State) : Host.Outcome State Fault Refusal :=
  onDev (busWrite m 0x20008 v) s

/-- TIME_NOW_NS_READ (R63): A read of TIME_NOW_NS snapshots the seconds words of the counter. -/
def execTimeNowNsRead (m : Master) (s : State) : Host.Outcome State Fault Refusal :=
  onDev (readFor m 0x20010) s

/-- TIME_ADJ_WRITE (R73): A write to TIME_ADJ replaces the slew in progress or is refused as a jump. -/
def execTimeAdjWrite (m : Master) (v : Nat) (s : State) : Host.Outcome State Fault Refusal :=
  onDev (busWrite m 0x20020 v) s

/-- SLEW_COMPLETE (R73): The remaining slew reaches zero and the counter returns to its plain rate. -/
def execSlewComplete (s : State) : Host.Outcome State Fault Refusal :=
  onDev (waking Machine.slewComplete) s

/-- TIME_SET_COMMIT (R75): A write of TIME_SET_NS in CONFIG loads the counter, clears the slew and clears qualified.
-/
def execTimeSetCommit (m : Master) (v : Nat) (s : State) : Host.Outcome State Fault Refusal :=
  onDev (busWrite m 0x20030 v) s

/-- TIME_EPOCH_COMMIT (R83): A write of TIME_EPOCH_NS commits the epoch, or is refused when QN would be too high. -/
def execTimeEpochCommit (m : Master) (v : Nat) (s : State) : Host.Outcome State Fault Refusal :=
  onDev (busWrite m 0x20040 v) s

/-- PTP_MESSAGE_RECEIVE (R72): A PTP message is timestamped and processed by the service, updating the servo offset
and path delay. -/
def execPtpMessageReceive (port : Nat) (msg : PtpMsg) (s : State) : Host.Outcome State Fault Refusal :=
  onDev (ptpReceive port msg) s

/-- PTP_MESSAGE_SEND (R69): The PTP service sends an event or general message on queue 7 with timestamp insertion. -/
def execPtpMessageSend (port : Nat) (body : Bytes) (s : State) : Host.Outcome State Fault Refusal :=
  onDev (ptpSend port body) s

/-- TIME_QUALIFY (R72): Sixteen consecutive Sync offsets within 1 µs set TIME_STATUS.qualified. -/
def execTimeQualify (s : State) : Host.Outcome State Fault Refusal :=
  onDev qualifyStart s

/-- ANNOUNCE_RECEIPT_TIMEOUT (R76): The slave port's announce receipt timeout expires, the port changes state and
holdover may begin. -/
def execAnnounceReceiptTimeout (port : Nat) (next : Nat) (s : State) : Host.Outcome State Fault Refusal :=
  onDev (announceTimeout port next) s

/-- HOLDOVER_FOLLOW_SECOND (R77): Once per second a following device forms the mean partner offset, adjusts its
addend and slews towards the partner. -/
def execHoldoverFollowSecond (s : State) : Host.Outcome State Fault Refusal :=
  onDev followSecond s

/-- HOLDOVER_EXPIRED (R79): TIME_HOLDOVER_AGE reaches its limit, qualified clears and a rendering device enters SAFE
with FAULT_TIME. -/
def execHoldoverExpired (s : State) : Host.Outcome State Fault Refusal :=
  onDev Machine.holdoverExpired s

/-- SYNTH_LOCK (R87): A media synthesiser's phase error stays within ±4 ns for 1 ms and it reports lock. -/
def execSynthLock (b : Bool) (s : State) : Host.Outcome State Fault Refusal :=
  onDev (Machine.synthLock b) s

/-- SYNTH_A_LOCK_LOSS (R87): Synthesiser A is out of lock for more than 1 ms and a rendering device enters SAFE with
FAULT_CLOCK. -/
def execSynthALockLoss (s : State) : Host.Outcome State Fault Refusal :=
  onDev synthALoss s

/-- SYNTH_B_LOCK_LOSS (R87): Synthesiser B loses lock and the master B ports it clocks output zeros and underrun. -/
def execSynthBLockLoss (s : State) : Host.Outcome State Fault Refusal :=
  onDev synthBLoss s

/-- PULSE_ARM (R89): A write of arm to TIME_PULSE_CTRL arms a pulse output or refuses it, setting missed for a past
one-shot. -/
def execPulseArm (m : Master) (n : Nat) (v : Nat) (s : State) : Host.Outcome State Fault Refusal :=
  onDev (busWrite m (pulseA n) v) s

/-- PULSE_EDGE (R89): A scheduled pulse edge time is reached and the pulse ball changes level. -/
def execPulseEdge (n : Nat) (s : State) : Host.Outcome State Fault Refusal :=
  onDev (waking (Machine.pulseEdge n)) s

/-- ALARM_ENABLE (R92): A write of enable 1 latches an alarm's compare value and arms it. -/
def execAlarmEnable (m : Master) (n : Nat) (v : Nat) (s : State) : Host.Outcome State Fault Refusal :=
  onDev (busWrite m (alarmA n) v) s

/-- TIME_ALARM (R92): An alarm reaches its PT or QN, sets fired, clears enable and raises TIME_ALARM, waking the
device when so set. -/
def execTimeAlarm (n : Nat) (s : State) : Host.Outcome State Fault Refusal :=
  onDev (alarmTime n) s

/-- TIME_TICK (R88): Once per second, as nanoseconds wrap, TIME_TICK is raised with the full PT. -/
def execTimeTick (s : State) : Host.Outcome State Fault Refusal :=
  onDev (waking timeSecond) s

/-- QUANTUM_START (R536): The media edge of a quantum start clears presence bits, posts boundary operands, applies
QN-scheduled changes and starts departure work. -/
def execQuantumStart (s : State) : Host.Outcome State Fault Refusal :=
  onDev (waking Machine.quantumStart) s

end Sys2Proof.Machine
end

