-- ==== Sys2Proof/Machine/Dispatch.lean ====
section
/-!
DEFINITION. Every command has its meaning: one arm for each constructor of Instr.
-/

namespace Sys2Proof.Machine

def exec (i : Instr) (s : State) : Host.Outcome State Fault Refusal :=
  match i with
  | .registerWrite m a v => Sys2Proof.Machine.execRegisterWrite m a v s
  | .unalignedRegisterAccess m write a size => Sys2Proof.Machine.execUnalignedRegisterAccess m write a size s
  | .unmappedAccess m write a v => Sys2Proof.Machine.execUnmappedAccess m write a v s
  | .rcCounterRead m a event => Sys2Proof.Machine.execRcCounterRead m a event s
  | .wideLowWordRead m a => Sys2Proof.Machine.execWideLowWordRead m a s
  | .faultCausesWrite m v => Sys2Proof.Machine.execFaultCausesWrite m v s
  | .nop h => Sys2Proof.Machine.execNop h s
  | .regRead h addr => Sys2Proof.Machine.execRegRead h addr s
  | .regWrite h addr value => Sys2Proof.Machine.execRegWrite h addr value s
  | .setMode h mode scope => Sys2Proof.Machine.execSetMode h mode scope s
  | .setOppoint h point => Sys2Proof.Machine.execSetOppoint h point s
  | .reanchorTime h step => Sys2Proof.Machine.execReanchorTime h step s
  | .setAir h temp humidity => Sys2Proof.Machine.execSetAir h temp humidity s
  | .setOutputAvail h output available => Sys2Proof.Machine.execSetOutputAvail h output available s
  | .planLoad h plan src record data => Sys2Proof.Machine.execPlanLoad h plan src record data s
  | .planLoadComplete => Sys2Proof.Machine.execPlanLoadComplete s
  | .planDrop h plan => Sys2Proof.Machine.execPlanDrop h plan s
  | .planSwap h plan xfade => Sys2Proof.Machine.execPlanSwap h plan xfade s
  | .setRouteGain h entry gain => Sys2Proof.Machine.execSetRouteGain h entry gain s
  | .setRouteSource h slot source => Sys2Proof.Machine.execSetRouteSource h slot source s
  | .corrLoad h output data => Sys2Proof.Machine.execCorrLoad h output data s
  | .corrSwap h output which xfade => Sys2Proof.Machine.execCorrSwap h output which xfade s
  | .surveyProgram h steps data => Sys2Proof.Machine.execSurveyProgram h steps data s
  | .decConfig h ch cfg rate phase => Sys2Proof.Machine.execDecConfig h ch cfg rate phase s
  | .decCompSwap h ch => Sys2Proof.Machine.execDecCompSwap h ch s
  | .drvDiag h mask => Sys2Proof.Machine.execDrvDiag h mask s
  | .drvClear h mask => Sys2Proof.Machine.execDrvClear h mask s
  | .streamSet h data => Sys2Proof.Machine.execStreamSet h data s
  | .streamClear h context dir => Sys2Proof.Machine.execStreamClear h context dir s
  | .pairResync h device => Sys2Proof.Machine.execPairResync h device s
  | .sceneWrite h record kind flags data => Sys2Proof.Machine.execSceneWrite h record kind flags data s
  | .sceneRead h record offset data => Sys2Proof.Machine.execSceneRead h record offset data s
  | .sceneErase h record => Sys2Proof.Machine.execSceneErase h record s
  | .ageMeasure h => Sys2Proof.Machine.execAgeMeasure h s
  | .sessionKeySet h slot role data => Sys2Proof.Machine.execSessionKeySet h slot role data s
  | .eventMask h mask => Sys2Proof.Machine.execEventMask h mask s
  | .commandFetch src entry host pcieErr => Sys2Proof.Machine.execCommandFetch src entry host pcieErr s
  | .fetchResume => Sys2Proof.Machine.execFetchResume s
  | .fenceTimeout src => Sys2Proof.Machine.execFenceTimeout src s
  | .completionRelease => Sys2Proof.Machine.execCompletionRelease s
  | .transitionComplete => Sys2Proof.Machine.execTransitionComplete s
  | .faultEntrySafe => Sys2Proof.Machine.execFaultEntrySafe s
  | .prerollEnd => Sys2Proof.Machine.execPrerollEnd s
  | .outputRampEnd => Sys2Proof.Machine.execOutputRampEnd s
  | .qnNearEnd => Sys2Proof.Machine.execQnNearEnd s
  | .qnExhausted => Sys2Proof.Machine.execQnExhausted s
  | .startupSlow step => Sys2Proof.Machine.execStartupSlow step s
  | .domainFrameSend => Sys2Proof.Machine.execDomainFrameSend s
  | .domainFrameReceive ip b => Sys2Proof.Machine.execDomainFrameReceive ip b s
  | .deviceAbsent index => Sys2Proof.Machine.execDeviceAbsent index s
  | .timeAddendWrite m v => Sys2Proof.Machine.execTimeAddendWrite m v s
  | .timeNowNsRead m => Sys2Proof.Machine.execTimeNowNsRead m s
  | .timeAdjWrite m v => Sys2Proof.Machine.execTimeAdjWrite m v s
  | .slewComplete => Sys2Proof.Machine.execSlewComplete s
  | .timeSetCommit m v => Sys2Proof.Machine.execTimeSetCommit m v s
  | .timeEpochCommit m v => Sys2Proof.Machine.execTimeEpochCommit m v s
  | .ptpMessageReceive port msg => Sys2Proof.Machine.execPtpMessageReceive port msg s
  | .ptpMessageSend port body => Sys2Proof.Machine.execPtpMessageSend port body s
  | .timeQualify => Sys2Proof.Machine.execTimeQualify s
  | .announceReceiptTimeout port next => Sys2Proof.Machine.execAnnounceReceiptTimeout port next s
  | .holdoverFollowSecond => Sys2Proof.Machine.execHoldoverFollowSecond s
  | .holdoverExpired => Sys2Proof.Machine.execHoldoverExpired s
  | .synthLock b => Sys2Proof.Machine.execSynthLock b s
  | .synthALockLoss => Sys2Proof.Machine.execSynthALockLoss s
  | .synthBLockLoss => Sys2Proof.Machine.execSynthBLockLoss s
  | .pulseArm m n v => Sys2Proof.Machine.execPulseArm m n v s
  | .pulseEdge n => Sys2Proof.Machine.execPulseEdge n s
  | .alarmEnable m n v => Sys2Proof.Machine.execAlarmEnable m n v s
  | .timeAlarm n => Sys2Proof.Machine.execTimeAlarm n s
  | .timeTick => Sys2Proof.Machine.execTimeTick s
  | .quantumStart => Sys2Proof.Machine.execQuantumStart s
  | .quantumActivation => Sys2Proof.Machine.execQuantumActivation s
  | .metadataRecordReceive ring pcieErr b => Sys2Proof.Machine.execMetadataRecordReceive ring pcieErr b s
  | .objFrozen o => Sys2Proof.Machine.execObjFrozen o s
  | .moveEnd o => Sys2Proof.Machine.execMoveEnd o s
  | .geomOperandPost => Sys2Proof.Machine.execGeomOperandPost s
  | .geomPostResume => Sys2Proof.Machine.execGeomPostResume s
  | .availReportReceive output cause available => Sys2Proof.Machine.execAvailReportReceive output cause available s
  | .availRecordReceive b => Sys2Proof.Machine.execAvailRecordReceive b s
  | .operandPost side task qn => Sys2Proof.Machine.execOperandPost side task qn s
  | .taskDispatch => Sys2Proof.Machine.execTaskDispatch s
  | .windowFillComplete => Sys2Proof.Machine.execWindowFillComplete s
  | .voiceGroupComplete engine errors => Sys2Proof.Machine.execVoiceGroupComplete engine errors s
  | .swapRecordReceive b => Sys2Proof.Machine.execSwapRecordReceive b s
  | .routingPeriod => Sys2Proof.Machine.execRoutingPeriod s
  | .gainZcTimeout entry => Sys2Proof.Machine.execGainZcTimeout entry s
  | .taskDoneWrite m unit w code => Sys2Proof.Machine.execTaskDoneWrite m unit w code s
  | .take core => Sys2Proof.Machine.execTake core s
  | .takeTimeout core => Sys2Proof.Machine.execTakeTimeout core s
  | .dispPost m v => Sys2Proof.Machine.execDispPost m v s
  | .dispBgSubmit m v => Sys2Proof.Machine.execDispBgSubmit m v s
  | .dispCqPush m q v => Sys2Proof.Machine.execDispCqPush m q v s
  | .dispMatchSelWrite m v => Sys2Proof.Machine.execDispMatchSelWrite m v s
  | .dispMatchPeakWrite m v => Sys2Proof.Machine.execDispMatchPeakWrite m v s
  | .switchEntry core => Sys2Proof.Machine.execSwitchEntry core s
  | .taskDeadline side task qn => Sys2Proof.Machine.execTaskDeadline side task qn s
  | .departureCutoff qn => Sys2Proof.Machine.execDepartureCutoff qn s
  | .deadlineFault => Sys2Proof.Machine.execDeadlineFault s
  | .asterRun m core v => Sys2Proof.Machine.execAsterRun m core v s
  | .ldV y mode k r b => Sys2Proof.Machine.execLdV y mode k r b s
  | .stV y mode k r b => Sys2Proof.Machine.execStV y mode k r b s
  | .ldW y mode k r b => Sys2Proof.Machine.execLdW y mode k r b s
  | .stW y mode k r b => Sys2Proof.Machine.execStW y mode k r b s
  | .ldB y mode k r b => Sys2Proof.Machine.execLdB y mode k r b s
  | .li rd imm b => Sys2Proof.Machine.execLi rd imm b s
  | .vmul a va vb b => Sys2Proof.Machine.execVmul a va vb b s
  | .vmac a va vb b => Sys2Proof.Machine.execVmac a va vb b s
  | .vmsu a va vb b => Sys2Proof.Machine.execVmsu a va vb b s
  | .vmacb a va vb b => Sys2Proof.Machine.execVmacb a va vb b s
  | .vdot a va vb b => Sys2Proof.Machine.execVdot a va vb b s
  | .vdota a va vb b => Sys2Proof.Machine.execVdota a va vb b s
  | .vclr a va vb b => Sys2Proof.Machine.execVclr a va vb b s
  | .vlda a va vb b => Sys2Proof.Machine.execVlda a va vb b s
  | .vext a va vb b => Sys2Proof.Machine.execVext a va vb b s
  | .vextT a va vb b => Sys2Proof.Machine.execVextT a va vb b s
  | .vext1 a va vb b => Sys2Proof.Machine.execVext1 a va vb b s
  | .vext1T a va vb b => Sys2Proof.Machine.execVext1T a va vb b s
  | .vrda a va vb b => Sys2Proof.Machine.execVrda a va vb b s
  | .vwra a va vb b => Sys2Proof.Machine.execVwra a va vb b s
  | .vmaxIdx a va vb b => Sys2Proof.Machine.execVmaxIdx a va vb b s
  | .vminIdx a va vb b => Sys2Proof.Machine.execVminIdx a va vb b s
  | .vmaxaIdx a va vb b => Sys2Proof.Machine.execVmaxaIdx a va vb b s
  | .aluNop b => Sys2Proof.Machine.execAluNop b s
  | .mov rd ra b => Sys2Proof.Machine.execMov rd ra b s
  | .add rd ra b => Sys2Proof.Machine.execAdd rd ra b s
  | .sub rd ra b => Sys2Proof.Machine.execSub rd ra b s
  | .adds rd ra b => Sys2Proof.Machine.execAdds rd ra b s
  | .and rd ra b => Sys2Proof.Machine.execAnd rd ra b s
  | .or rd ra b => Sys2Proof.Machine.execOr rd ra b s
  | .xor rd ra b => Sys2Proof.Machine.execXor rd ra b s
  | .sll rd ra b => Sys2Proof.Machine.execSll rd ra b s
  | .srl rd ra b => Sys2Proof.Machine.execSrl rd ra b s
  | .sra rd ra b => Sys2Proof.Machine.execSra rd ra b s
  | .min rd ra b => Sys2Proof.Machine.execMin rd ra b s
  | .max rd ra b => Sys2Proof.Machine.execMax rd ra b s
  | .mul rd ra b => Sys2Proof.Machine.execMul rd ra b s
  | .movp rd ra b => Sys2Proof.Machine.execMovp rd ra b s
  | .movm rd ra b => Sys2Proof.Machine.execMovm rd ra b s
  | .rdp rd ra b => Sys2Proof.Machine.execRdp rd ra b s
  | .rdm rd ra b => Sys2Proof.Machine.execRdm rd ra b s
  | .vlane rd ra lane b => Sys2Proof.Machine.execVlane rd ra lane b s
  | .vins rd ra lane b => Sys2Proof.Machine.execVins rd ra lane b s
  | .vsplat rd ra b => Sys2Proof.Machine.execVsplat rd ra b s
  | .vadds rd ra b => Sys2Proof.Machine.execVadds rd ra b s
  | .vsubs rd ra b => Sys2Proof.Machine.execVsubs rd ra b s
  | .vabs rd ra b => Sys2Proof.Machine.execVabs rd ra b s
  | .vmaxv rd ra b => Sys2Proof.Machine.execVmaxv rd ra b s
  | .vminv rd ra b => Sys2Proof.Machine.execVminv rd ra b s
  | .vredmax rd ra b => Sys2Proof.Machine.execVredmax rd ra b s
  | .vredmin rd ra b => Sys2Proof.Machine.execVredmin rd ra b s
  | .mfs rd ra b => Sys2Proof.Machine.execMfs rd ra b s
  | .mts rd ra b => Sys2Proof.Machine.execMts rd ra b s
  | .addi rd ra imm b => Sys2Proof.Machine.execAddi rd ra imm b s
  | .andi rd ra imm b => Sys2Proof.Machine.execAndi rd ra imm b s
  | .ori rd ra imm b => Sys2Proof.Machine.execOri rd ra imm b s
  | .xori rd ra imm b => Sys2Proof.Machine.execXori rd ra imm b s
  | .slli rd ra imm b => Sys2Proof.Machine.execSlli rd ra imm b s
  | .srli rd ra imm b => Sys2Proof.Machine.execSrli rd ra imm b s
  | .srai rd ra imm b => Sys2Proof.Machine.execSrai rd ra imm b s
  | .beq rd ra imm b => Sys2Proof.Machine.execBeq rd ra imm b s
  | .bne rd ra imm b => Sys2Proof.Machine.execBne rd ra imm b s
  | .blt rd ra imm b => Sys2Proof.Machine.execBlt rd ra imm b s
  | .bge rd ra imm b => Sys2Proof.Machine.execBge rd ra imm b s
  | .bltu rd ra imm b => Sys2Proof.Machine.execBltu rd ra imm b s
  | .bgeu rd ra imm b => Sys2Proof.Machine.execBgeu rd ra imm b s
  | .jmp off b => Sys2Proof.Machine.execJmp off b s
  | .jmpr ra b => Sys2Proof.Machine.execJmpr ra b s
  | .call off b => Sys2Proof.Machine.execCall off b s
  | .rep count b => Sys2Proof.Machine.execRep count b s
  | .repr ra b => Sys2Proof.Machine.execRepr ra b s
  | .loopDo count ending b => Sys2Proof.Machine.execLoopDo count ending b s
  | .dor rd ending b => Sys2Proof.Machine.execDor rd ending b s
  | .leave b => Sys2Proof.Machine.execLeave b s
  | .setxi imm b => Sys2Proof.Machine.execSetxi imm b s
  | .xfer ra b => Sys2Proof.Machine.execXfer ra b s
  | .tileTransferComplete core resp => Sys2Proof.Machine.execTileTransferComplete core resp s
  | .xwait n b => Sys2Proof.Machine.execXwait n b s
  | .done ra b => Sys2Proof.Machine.execDone ra b s
  | .idle b => Sys2Proof.Machine.execIdle b s
  | .rti b => Sys2Proof.Machine.execRti b s
  | .brk b => Sys2Proof.Machine.execBrk b s
  | .asterDbgHalt m core => Sys2Proof.Machine.execAsterDbgHalt m core s
  | .asterDbgResume m core => Sys2Proof.Machine.execAsterDbgResume m core s
  | .asterDbgStep m core => Sys2Proof.Machine.execAsterDbgStep m core s
  | .asterDbgDataWrite m core v => Sys2Proof.Machine.execAsterDbgDataWrite m core v s
  | .correctionTaskComplete side output qn ecc => Sys2Proof.Machine.execCorrectionTaskComplete side output qn ecc s
  | .levelBlockJob output level block => Sys2Proof.Machine.execLevelBlockJob output level block s
  | .levelBlockJobComplete output level ecc => Sys2Proof.Machine.execLevelBlockJobComplete output level ecc s
  | .departure => Sys2Proof.Machine.execDeparture s
  | .corrBankLoaded output => Sys2Proof.Machine.execCorrBankLoaded output s
  | .corrSwapped output => Sys2Proof.Machine.execCorrSwapped output s
  | .surveyStepEnd results => Sys2Proof.Machine.execSurveyStepEnd results s
  | .surveyDone => Sys2Proof.Machine.execSurveyDone s
  | .averagingPeriodEnd results descs designs => Sys2Proof.Machine.execAveragingPeriodEnd results descs designs s
  | .designJobComplete desc mics taps => Sys2Proof.Machine.execDesignJobComplete desc mics taps s
  | .designJobTimeout desc => Sys2Proof.Machine.execDesignJobTimeout desc s
  | .imageLoadTimeout output => Sys2Proof.Machine.execImageLoadTimeout output s
  | .decSrcStuck src => Sys2Proof.Machine.execDecSrcStuck src s
  | .decSrcOk src => Sys2Proof.Machine.execDecSrcOk src s
  | .decConfigComplete ch => Sys2Proof.Machine.execDecConfigComplete ch s
  | .decSwapped ch => Sys2Proof.Machine.execDecSwapped ch s
  | .decCoefDataWrite m v => Sys2Proof.Machine.execDecCoefDataWrite m v s
  | .decChCfgWrite m ch word v => Sys2Proof.Machine.execDecChCfgWrite m ch word v s
  | .captureBlockWrite stream entries pcieErr => Sys2Proof.Machine.execCaptureBlockWrite stream entries pcieErr s
  | .diagStepEnd ch node limit z => Sys2Proof.Machine.execDiagStepEnd ch node limit z s
  | .cmRampEnd ch => Sys2Proof.Machine.execCmRampEnd ch s
  | .currentLimitCrossing x => Sys2Proof.Machine.execCurrentLimitCrossing x s
  | .drvOvercurrent ch => Sys2Proof.Machine.execDrvOvercurrent ch s
  | .railUv rail => Sys2Proof.Machine.execRailUv rail s
  | .stageFaultInput rail => Sys2Proof.Machine.execStageFaultInput rail s
  | .staggerLock ch => Sys2Proof.Machine.execStaggerLock ch s
  | .drvUnlock ch => Sys2Proof.Machine.execDrvUnlock ch s
  | .retryDelayExpiry ch => Sys2Proof.Machine.execRetryDelayExpiry ch s
  | .railRecovered rail => Sys2Proof.Machine.execRailRecovered rail s
  | .drvChCfgWrite m rail n v => Sys2Proof.Machine.execDrvChCfgWrite m rail n v s
  | .aportEnable m port v => Sys2Proof.Machine.execAportEnable m port v s
  | .aportDisable m port v => Sys2Proof.Machine.execAportDisable m port v s
  | .aportCfgWrite m port v => Sys2Proof.Machine.execAportCfgWrite m port v s
  | .slotMaskWrite m port dir v => Sys2Proof.Machine.execSlotMaskWrite m port dir v s
  | .slotMaskLatch port => Sys2Proof.Machine.execSlotMaskLatch port s
  | .frameStart port line => Sys2Proof.Machine.execFrameStart port line s
  | .rxFrame port seen offset bitClocks ppm => Sys2Proof.Machine.execRxFrame port seen offset bitClocks ppm s
  | .missingFrame port => Sys2Proof.Machine.execMissingFrame port s
  | .portAligned port => Sys2Proof.Machine.execPortAligned port s
  | .periodFaultClear port => Sys2Proof.Machine.execPeriodFaultClear port s
  | .aportAsrcLock port ratio => Sys2Proof.Machine.execAportAsrcLock port ratio s
  | .aportAsrcUnlock port => Sys2Proof.Machine.execAportAsrcUnlock port s
  | .aportZcTimeout port dir slot => Sys2Proof.Machine.execAportZcTimeout port dir slot s
  | .portClocksStop port => Sys2Proof.Machine.execPortClocksStop port s
  | .listenInsertion => Sys2Proof.Machine.execListenInsertion s
  | .listenDetectStep reading => Sys2Proof.Machine.execListenDetectStep reading s
  | .listenUnplug => Sys2Proof.Machine.execListenUnplug s
  | .listenButton line => Sys2Proof.Machine.execListenButton line s
  | .micGateEnd => Sys2Proof.Machine.execMicGateEnd s
  | .listenHpFault => Sys2Proof.Machine.execListenHpFault s
  | .netLinkDown port => Sys2Proof.Machine.execNetLinkDown port s
  | .netLinkUp port => Sys2Proof.Machine.execNetLinkUp port s
  | .frameReceive port frame check mPacket shared reserved => Sys2Proof.Machine.execFrameReceive port frame check mPacket shared reserved s
  | .controlDatagramReceive ip csumOk port b => Sys2Proof.Machine.execControlDatagramReceive ip csumOk port b s
  | .controlRateWindow port => Sys2Proof.Machine.execControlRateWindow port s
  | .pauseHighWatermark port => Sys2Proof.Machine.execPauseHighWatermark port s
  | .pauseRepeat port => Sys2Proof.Machine.execPauseRepeat port s
  | .pauseLowWatermark port => Sys2Proof.Machine.execPauseLowWatermark port s
  | .pauseReceive port quanta => Sys2Proof.Machine.execPauseReceive port quanta s
  | .pauseExpiry port => Sys2Proof.Machine.execPauseExpiry port s
  | .preemptionVerify port answered => Sys2Proof.Machine.execPreemptionVerify port answered s
  | .streamPacketSend context packet => Sys2Proof.Machine.execStreamPacketSend context packet s
  | .launchLimitExpiry port => Sys2Proof.Machine.execLaunchLimitExpiry port s
  | .streamPacketReceive packet => Sys2Proof.Machine.execStreamPacketReceive packet s
  | .netStreamSelWrite m v => Sys2Proof.Machine.execNetStreamSelWrite m v s
  | .pairForm => Sys2Proof.Machine.execPairForm s
  | .heartbeatSend => Sys2Proof.Machine.execHeartbeatSend s
  | .pairFrameReceive path b => Sys2Proof.Machine.execPairFrameReceive path b s
  | .digestWaitExpiry qn => Sys2Proof.Machine.execDigestWaitExpiry qn s
  | .presWaitExpiry qn => Sys2Proof.Machine.execPresWaitExpiry qn s
  | .pairPathFault path => Sys2Proof.Machine.execPairPathFault path s
  | .pairPathOk path => Sys2Proof.Machine.execPairPathOk path s
  | .partnerLost => Sys2Proof.Machine.execPartnerLost s
  | .autoResync => Sys2Proof.Machine.execAutoResync s
  | .joinPhaseAdvance copy => Sys2Proof.Machine.execJoinPhaseAdvance copy s
  | .pairJoinFailed => Sys2Proof.Machine.execPairJoinFailed s
  | .laneLoadWindow load => Sys2Proof.Machine.execLaneLoadWindow load s
  | .pairLane => Sys2Proof.Machine.execPairLane s
  | .pairLaneFail => Sys2Proof.Machine.execPairLaneFail s
  | .laneRetry load => Sys2Proof.Machine.execLaneRetry load s
  | .doorbellWrite offset v => Sys2Proof.Machine.execDoorbellWrite offset v s
  | .ringCfgWrite m ring v => Sys2Proof.Machine.execRingCfgWrite m ring v s
  | .hostLinkReset linkDown => Sys2Proof.Machine.execHostLinkReset linkDown s
  | .interruptModerationExpiry ring => Sys2Proof.Machine.execInterruptModerationExpiry ring s
  | .hostAudioFetch ring entry buf pcieErr => Sys2Proof.Machine.execHostAudioFetch ring entry buf pcieErr s
  | .sessionHello port ip b => Sys2Proof.Machine.execSessionHello port ip b s
  | .sessionProve port ip b => Sys2Proof.Machine.execSessionProve port ip b s
  | .sessionCommand port ip b => Sys2Proof.Machine.execSessionCommand port ip b s
  | .sessionData port ip b => Sys2Proof.Machine.execSessionData port ip b s
  | .sessionKeepalive port ip b => Sys2Proof.Machine.execSessionKeepalive port ip b s
  | .sessionClose port ip b => Sys2Proof.Machine.execSessionClose port ip b s
  | .sessionIdleTimeout slot => Sys2Proof.Machine.execSessionIdleTimeout slot s
  | .helloBanExpiry ip => Sys2Proof.Machine.execHelloBanExpiry ip s
  | .sceneCommitted ok => Sys2Proof.Machine.execSceneCommitted ok s
  | .autoload => Sys2Proof.Machine.execAutoload s
  | .autoloadSetModeRetry => Sys2Proof.Machine.execAutoloadSetModeRetry s
  | .matrixTimeout master target a write late => Sys2Proof.Machine.execMatrixTimeout master target a write late s
  | .rowActivateWindowEnd acts => Sys2Proof.Machine.execRowActivateWindowEnd acts s
  | .dramRetrain ch temp => Sys2Proof.Machine.execDramRetrain ch temp s
  | .dramRetrainEnd ch => Sys2Proof.Machine.execDramRetrainEnd ch s
  | .sramScrubPeriod hits => Sys2Proof.Machine.execSramScrubPeriod hits s
  | .vaultWiped => Sys2Proof.Machine.execVaultWiped s
  | .dmaChProdWrite m ch v => Sys2Proof.Machine.execDmaChProdWrite m ch v s
  | .dmaStop m ch v => Sys2Proof.Machine.execDmaStop m ch v s
  | .dmaAbort m ch v => Sys2Proof.Machine.execDmaAbort m ch v s
  | .dmaResume m ch v => Sys2Proof.Machine.execDmaResume m ch v s
  | .dmaSkip m ch v => Sys2Proof.Machine.execDmaSkip m ch v s
  | .dmaDescriptorFetch ch host resp => Sys2Proof.Machine.execDmaDescriptorFetch ch host resp s
  | .dmaBurstResponse ch resp host => Sys2Proof.Machine.execDmaBurstResponse ch resp host s
  | .dmaEntryComplete ch => Sys2Proof.Machine.execDmaEntryComplete ch s
  | .wake cause => Sys2Proof.Machine.execWake cause s
  | .wakeAttemptFail => Sys2Proof.Machine.execWakeAttemptFail s
  | .wakeStepComplete => Sys2Proof.Machine.execWakeStepComplete s
  | .refclkLost => Sys2Proof.Machine.execRefclkLost s
  | .refclkOk => Sys2Proof.Machine.execRefclkOk s
  | .refclkAbsentAlarm => Sys2Proof.Machine.execRefclkAbsentAlarm s
  | .clockCheckWindow counts => Sys2Proof.Machine.execClockCheckWindow counts s
  | .voltageArrival mv => Sys2Proof.Machine.execVoltageArrival mv s
  | .dvfsSupplyFault => Sys2Proof.Machine.execDvfsSupplyFault s
  | .avsTimeout => Sys2Proof.Machine.execAvsTimeout s
  | .thermalWarn temp => Sys2Proof.Machine.execThermalWarn temp s
  | .thermalFault temp => Sys2Proof.Machine.execThermalFault temp s
  | .pgoodCoreLow => Sys2Proof.Machine.execPgoodCoreLow s
  | .supplyMonitorLoss => Sys2Proof.Machine.execSupplyMonitorLoss s
  | .powerOnReset => Sys2Proof.Machine.execPowerOnReset s
  | .resetNAssert => Sys2Proof.Machine.execResetNAssert s
  | .watchdogExpiry => Sys2Proof.Machine.execWatchdogExpiry s
  | .debugReset => Sys2Proof.Machine.execDebugReset s
  | .pwrWdtWrite m v => Sys2Proof.Machine.execPwrWdtWrite m v s
  | .bootStepComplete seen => Sys2Proof.Machine.execBootStepComplete seen s
  | .bootRetry => Sys2Proof.Machine.execBootRetry s
  | .secSvnCommit m v => Sys2Proof.Machine.execSecSvnCommit m v s
  | .secLcReq m v => Sys2Proof.Machine.execSecLcReq m v s
  | .tamper cause levels detectors => Sys2Proof.Machine.execTamper cause levels detectors s
  | .ageDailyMeasure => Sys2Proof.Machine.execAgeDailyMeasure s
  | .ageMeasureComplete paths vmin lanes => Sys2Proof.Machine.execAgeMeasureComplete paths vmin lanes s
  | .flashProgram m => Sys2Proof.Machine.execFlashProgram m s
  | .flashEraseSector m => Sys2Proof.Machine.execFlashEraseSector m s
  | .flashEraseBlock m => Sys2Proof.Machine.execFlashEraseBlock m s
  | .flashReadStatus m => Sys2Proof.Machine.execFlashReadStatus m s
  | .flashOperationComplete verified => Sys2Proof.Machine.execFlashOperationComplete verified s
  | .i2cTransfer m n v => Sys2Proof.Machine.execI2cTransfer m n v s
  | .i2cTransferComplete n result data => Sys2Proof.Machine.execI2cTransferComplete n result data s
  | .i2cTimeout n => Sys2Proof.Machine.execI2cTimeout n s
  | .uartTxWrite m v => Sys2Proof.Machine.execUartTxWrite m v s
  | .uartRxPop m v => Sys2Proof.Machine.execUartRxPop m v s
  | .uartRxByte b stopOk => Sys2Proof.Machine.execUartRxByte b stopOk s
  | .pmbTelemetryPoll vout iout temp nack pec alert => Sys2Proof.Machine.execPmbTelemetryPoll vout iout temp nack pec alert s
  | .resetNRelease => Sys2Proof.Machine.execResetNRelease s
  | .supplyRestored => Sys2Proof.Machine.execSupplyRestored s
  | .thermalWarnRearm temp => Sys2Proof.Machine.execThermalWarnRearm temp s
  | .txFrameBoundary port preempts => Sys2Proof.Machine.execTxFrameBoundary port preempts s
  | .codeBankWritten => Sys2Proof.Machine.execCodeBankWritten s
  | .decimatorSampleDelivered ch given => Sys2Proof.Machine.execDecimatorSampleDelivered ch given s
  | .pcieLinkUp gen width => Sys2Proof.Machine.execPcieLinkUp gen width s

end Sys2Proof.Machine
end

