-- ==== Sys2Proof/Machine/Balls.lean ====
section
/-!
DEFINITION. What the balls of the device show (R49, R322, R518), and the test access port (R509, R518, R533). Every
function reads the state; a device without power holds no state, so the column "Unpowered" has none here.
-/

namespace Sys2Proof.Machine

/-- What a ball or lane is doing; `pulledDown` and `pulledUp` are undriven balls with their weak pull (R525). -/
inductive BallState
  | low | high | highZ | released | pulledDown | pulledUp | input | terminated | analog | running | zeroData | data
  | switching | noSignal | electricalIdle | idle | wakeActivity | active | grounded | muted | playing | biased | testCurrent
deriving DecidableEq, Repr

/-- The signal balls with a state of their own (R49, R518), by group and index. -/
inductive Ball
  | drv (ch : Nat) | tdmSdout (port : Nat) | tdmClock (port : Nat) | ethTx (port : Nat) | pairTx (lane : Nat)
  | ethRx (port : Nat) | pairRx (lane : Nat) | pcieTx | pcieRx | pcieClkreqN | pciePerstN | pcieRefclk
  | faultN | lsnOut (ch : Nat) | lsnS1 | lsnS2 | refclk | resetN | wakeN | pgoodCore | pmbAlertN | uartRx | uartTx
  | avsClk | avsMdata | avsSdata | pmb | i2c (bus : Nat) | irqN (pin : Nat) | tamper (pin : Nat)
  | pdmClk (n : Nat) | pdmData (line : Nat) | tdmSdin (port : Nat) | amic | drvPsfaultN (n : Nat) | lsnDet
  | timePulse (n : Nat) | flashClk | flashCsN | flashResetN | flashDq | jtagTck | jtagTrstN | jtagTms | jtagTdi | jtagTdo
  | testEn | lsnHpref | drvFb (ch : Nat) | drvIs (ch : Nat) | pvddSns (rail : Nat)
deriving DecidableEq, Repr

/-- The columns of R518. -/
inductive Column
  | reset | boot | run | stop
deriving DecidableEq, Repr

/-- The column that applies: a supply out of regulation acts as RESET_N low (R522). -/
def column (d : Dev) : Column :=
  if d.pwr.resetLow || d.pwr.supplyLost then .reset
  else match d.sys.mode with
    | .boot => .boot
    | .stop => .stop
    | _ => .run

/-- DRV_HI and DRV_LO of a channel (R49, R322): they switch as the channel's state says in the modes from CONFIG to SAFE and
are driven low otherwise. -/
def drvBall (d : Dev) (c : Nat) : BallState :=
  if column d = .run ∧ drvSwitches d c = true then .switching else .low

/-- Is a port enabled, or still finishing after it was disabled? -/
def portShown (d : Dev) (p : Nat) : Bool := bitAt d (aportA p + 4) 0 || (aport d p).running

/-- TDM_SDOUT of a port (R49): zero data in CONFIG and SAFE, data while rendering. A port that is not enabled leaves its
balls as in BOOT (DEDUCED, log 112). -/
def sdoutBall (d : Dev) (p : Nat) : BallState :=
  if column d = .run ∧ portShown d p = true then (if txMuted d && !rampShows d then .zeroData else .data) else .pulledDown

/-- TDM_BCLK and TDM_FS of a port (R49 as clock master, R518 as slave). -/
def clockBall (d : Dev) (p : Nat) : BallState :=
  if aportRole d p < 2 then (if column d = .run ∧ portShown d p = true then .running else .pulledDown)
  else .input

/-- May an Ethernet port wake the device (R375)? -/
def portWakes (d : Dev) (p : Nat) : Bool := decide (fld d (netA p + 0x3C) 2 0 ≠ 0)

/-- The transmit lanes of an Ethernet port (R49, R375). -/
def ethTxBall (d : Dev) (p : Nat) : BallState :=
  match column d with
  | .reset => .electricalIdle
  | .stop => if portWakes d p then .idle else .electricalIdle
  | _ => .active

/-- A transmit lane of the pair link (R49). -/
def pairTxBall (d : Dev) : BallState :=
  match column d with
  | .reset => .electricalIdle
  | .stop => .wakeActivity
  | _ => .active

/-- FAULT_N (R49): driven low in reset, in SAFE and while a fault is held. -/
def faultNBall (d : Dev) : BallState := if faultLow d then .low else .released

/-- A listen output (R49, R347). -/
def lsnOutBall (d : Dev) : BallState :=
  match column d with
  | .reset => .grounded
  | _ => if listenPlays d then .playing else .muted

/-- A contact of the listen jack (R344, R518); `s1` names ring 2, otherwise the sleeve. A contact that no step of R344 and
no reported accessory names is high impedance. A step shows what the event before it did: events 1 to 3 ground both contacts,
apply the test current, and bias the sleeve; event 4 reports at once (log 112). -/
def contactBall (d : Dev) (s1 : Bool) : BallState :=
  let l := d.aport.listen
  if column d ≠ .run then .highZ
  else match l.step with
    | 1 => .highZ
    | 2 => .grounded
    | 3 => .testCurrent
    | 4 => if s1 then .grounded else .biased
    | _ => match l.accessory with
      | 0 => .highZ
      | 2 => if s1 then .grounded else if bitAt d 0x180000 1 then .biased else .highZ
      | 3 => if s1 then (if bitAt d 0x180000 1 then .biased else .highZ) else .grounded
      | _ => .grounded

/-- A ball that the columns of R518 give outright. -/
def byColumn (d : Dev) (reset boot run stop : BallState) : BallState :=
  match column d with
  | .reset => reset
  | .boot => boot
  | .run => run
  | .stop => stop

/-- IRQ_N of a pin (R423, R518). -/
def irqBall (d : Dev) (pin : Nat) : BallState :=
  if bitAt d 0x30000 0 && decide (irqLevel d pin = 0) then .low else .released

/-- TIME_PULSE (R89 to R91, R518): active from a rise to its fall. -/
def pulseBall (d : Dev) (n : Nat) : BallState :=
  let active := (pulse d n).fallAt.isSome
  let level := pulseLevel d n (match column d with | .run => active | _ => false)
  match column d with
  | .reset => .pulledDown
  | _ => if level = 1 then .high else .low

/-- May the debug port do all it can: in MANUFACTURE and RETURNED (R509)? -/
def debugPortFull (d : Dev) : Bool := decide (d.sec.lifeCycle ≠ 1)

/-- The state of a ball (R49, R518). -/
def ballState (d : Dev) : Ball → BallState
  | .drv c => drvBall d c
  | .tdmSdout p => sdoutBall d p
  | .tdmClock p => clockBall d p
  | .ethTx p => ethTxBall d p
  | .pairTx _ => pairTxBall d
  | .ethRx p => byColumn d .terminated .terminated .terminated (if portWakes d p then .terminated else .highZ)
  | .pairRx n => byColumn d .terminated .terminated .terminated (if n = 0 then .terminated else .highZ)
  | .pcieTx => byColumn d .electricalIdle .active .active .highZ
  | .pcieRx => byColumn d .terminated .terminated .terminated .highZ
  | .pcieClkreqN => byColumn d .released .low .low .released
  | .pciePerstN => .input
  | .pcieRefclk => .input
  | .faultN => faultNBall d
  | .lsnOut _ => lsnOutBall d
  | .lsnS1 => contactBall d true
  | .lsnS2 => contactBall d false
  | .refclk => .input
  | .resetN => .pulledUp
  | .wakeN => .pulledUp
  | .pgoodCore => .input
  | .pmbAlertN => .input
  | .uartRx => .pulledUp
  | .uartTx => byColumn d .pulledUp .active .active .high
  | .avsClk => byColumn d .low .active .active .active
  | .avsMdata => byColumn d .low .active .active .active
  | .avsSdata => .pulledDown
  | .pmb => byColumn d .released .active .active .active
  | .i2c _ => byColumn d .released .active .active .released
  | .irqN pin => byColumn d .released .released (irqBall d pin) .released
  | .tamper _ => .input
  | .pdmClk n => byColumn d .pulledDown .pulledDown (if bitAt d 0x160000 (4 + n) then .running else .low) .pulledDown
  | .pdmData _ => .pulledDown
  | .tdmSdin _ => .pulledDown
  | .amic => .analog
  | .drvPsfaultN _ => .pulledUp
  | .drvFb _ | .drvIs _ | .pvddSns _ => .analog
  | .lsnDet => .pulledDown
  | .lsnHpref => byColumn d .highZ .highZ .analog .highZ
  | .timePulse n => pulseBall d n
  | .flashClk => byColumn d .low .active .active .low
  | .flashCsN => byColumn d .high .active .active .high
  | .flashResetN => byColumn d .low .high .high .high
  | .flashDq => byColumn d .pulledDown .active .active .pulledDown
  | .jtagTck => .pulledDown
  | .jtagTrstN => .pulledDown
  | .jtagTms => .pulledUp
  | .jtagTdi => .pulledUp
  | .jtagTdo => if d.periph.tap.shifting then .active else .highZ
  | .testEn => .pulledDown

/-- JTAG_TRST_N has been low for a number of ns: 100 ns reset the TAP (R533); a shorter pulse need not, and leaves it. -/
def tapTrst (ns : Nat) (d : Dev) : Dev :=
  if 100 ≤ ns then { d with periph := { d.periph with tap := {} } } else d

end Sys2Proof.Machine
end

