-- ==== Sys2Proof/Safety.lean ====
section
/-!
DEFINITION. What counts as a safe run of the block: it goes on at every step, and its stores stay in canonical form, so
that equal stores are equal data.
-/

namespace Sys2Proof.Safety

open Machine

/-- The canonical form of the register words: addresses rise strictly, and no word equals the reset value of its
register. -/
def regsFrom (lo : Nat) : FMap Word → Bool
  | [] => true
  | (a, w) :: rest => decide (lo ≤ a) && decide (w ≠ regReset a) && regsFrom (a + 1) rest

/-- The canonical form of device memory: addresses rise strictly, and no byte equals what an unlisted address reads as. -/
def Memory.wf (d : Dev) : Bool := fwf 0 d.mem

/-- The stores of a device are in canonical form: registers, device memory, flash. -/
def Canonical (d : Dev) : Bool := regsFrom 0 d.regs && Memory.wf d && fwf 0xFF d.flash

/-- A state from which the next step goes on. -/
def GoesOn (s : State) : Prop := ∃ t, step s = .next t

/-- A command completes in a state: it answers a next state with a property. -/
def Completes (i : Instr) (s : State) (P : State → Prop) : Prop := ∃ t, exec i s = .next t ∧ P t

/-- A command answers a next state: the device is now `d`, and the queue is as it was. -/
abbrev becomes (s : State) (d : Dev) : Host.Outcome State Fault Refusal := .next { s with dev := d }

/-! ### Commands of a source -/

/-- The command of the table that issues a command of R427. -/
def issue (h : CmdHdr) : Cmd → Instr
  | .nop => .nop h
  | .regRead a => .regRead h a
  | .regWrite a v => .regWrite h a v
  | .setMode m s => .setMode h m s
  | .setOppoint p => .setOppoint h p
  | .reanchorTime s => .reanchorTime h s
  | .setAir t r => .setAir h t r
  | .setOutputAvail o a => .setOutputAvail h o a
  | .planLoad p k r x => .planLoad h p k r x
  | .planDrop p => .planDrop h p
  | .planSwap p x => .planSwap h p x
  | .setRouteGain e g => .setRouteGain h e g
  | .setRouteSource s c => .setRouteSource h s c
  | .corrLoad o x => .corrLoad h o x
  | .corrSwap o s x => .corrSwap h o s x
  | .surveyProgram n x => .surveyProgram h n x
  | .decConfig c w r f => .decConfig h c w r f
  | .decCompSwap c => .decCompSwap h c
  | .drvDiag m => .drvDiag h m
  | .drvClear m => .drvClear h m
  | .streamSet x => .streamSet h x
  | .streamClear c v => .streamClear h c v
  | .pairResync v => .pairResync h v
  | .sceneWrite r k f x => .sceneWrite h r k f x
  | .sceneRead r o x => .sceneRead h r o x
  | .sceneErase r => .sceneErase h r
  | .ageMeasure => .ageMeasure h
  | .sessionKeySet s r x => .sessionKeySet h s r x
  | .eventMask m => .eventMask h m

/-- The record in flight that a command gets when it is accepted in `d` (R425). -/
def flight (h : CmdHdr) (c : Cmd) (d : Dev) : InFlight := ⟨d.host.nextCid, h.src, cmdOpcode c, h.cring, h.tag, false⟩

/-- A device in which a command has just been accepted (R425). -/
def accepted (h : CmdHdr) (c : Cmd) (d : Dev) : Dev :=
  { d with host := { d.host with nextCid := d.host.nextCid + 1, inflight := d.host.inflight ++ [flight h c d] } }

/-- Nothing keeps a command from being accepted at once: no command waits, commands complete in the present mode, no fence
holds it, and the limit of commands in flight is not met (R425, R428, R430). -/
abbrev Acceptable (h : CmdHdr) (d : Dev) : Prop :=
  d.host.waitQ = [] ∧ cmdsRun d = true ∧ (h.flags.testBit 0 && sourceBusy d h.src) = false ∧ fetchStalled d = false
    ∧ ∀ f ∈ d.host.inflight, f.cid < d.host.nextCid

/-- A command passes the checks that are not its own: the role, the header, the mode, reserved parameters, a join; and it
is not proposed to a partner first (R390, R404, R426, R428, R438). -/
abbrev Judged (h : CmdHdr) (c : Cmd) (d : Dev) : Prop :=
  roleOk d h.src (cmdOpcode c) = true ∧ h.hdrRsvd = false ∧ h.parRsvd = false
    ∧ (h.applyQn = 0 ∨ takesQn (cmdOpcode c) = true) ∧ cmdLegal d c = true ∧ joinHolds d c = false
    ∧ (isMirrored c && pairFormed d) = false

/-- A command is accepted as soon as it is issued and comes to the checks of its own rule. -/
abbrev Ready (h : CmdHdr) (c : Cmd) (d : Dev) : Prop := Acceptable h d ∧ Judged h c d

/-- What remains of a device when a command issued in `d`, whose other effects gave `e`, has completed with a code and a
result: its number is spent and its completion is sent (R21, R429). -/
def completed (h : CmdHdr) (c : Cmd) (d : Dev) (code result : Nat) (e : Dev) : Dev :=
  sendCompl (flight h c d) code 0 result { e with host := { e.host with nextCid := d.host.nextCid + 1 } }

/-! ### Bundles of the Aster cores -/

/-- The bundle that a command of the Aster tables issues: its own operation in its slot (R218). -/
def bundleOf : Instr → Option Bundle
  | .ldV y mode k r b => some (b.withLs y ⟨.ldV, mode, k, r⟩)
  | .stV y mode k r b => some (b.withLs y ⟨.stV, mode, k, r⟩)
  | .ldW y mode k r b => some (b.withLs y ⟨.ldW, mode, k, r⟩)
  | .stW y mode k r b => some (b.withLs y ⟨.stW, mode, k, r⟩)
  | .ldB y mode k r b => some (b.withLs y ⟨.ldB, mode, k, r⟩)
  | .li rd imm b => some (b.withAlu ⟨.li, rd, 0, imm, 0⟩)
  | .vmul a va vb b => some (b.withMac ⟨.vmul, a, va, vb⟩)
  | .vmac a va vb b => some (b.withMac ⟨.vmac, a, va, vb⟩)
  | .vmsu a va vb b => some (b.withMac ⟨.vmsu, a, va, vb⟩)
  | .vmacb a va vb b => some (b.withMac ⟨.vmacb, a, va, vb⟩)
  | .vdot a va vb b => some (b.withMac ⟨.vdot, a, va, vb⟩)
  | .vdota a va vb b => some (b.withMac ⟨.vdota, a, va, vb⟩)
  | .vclr a va vb b => some (b.withMac ⟨.vclr, a, va, vb⟩)
  | .vlda a va vb b => some (b.withMac ⟨.vlda, a, va, vb⟩)
  | .vext a va vb b => some (b.withMac ⟨.vext, a, va, vb⟩)
  | .vextT a va vb b => some (b.withMac ⟨.vextT, a, va, vb⟩)
  | .vext1 a va vb b => some (b.withMac ⟨.vext1, a, va, vb⟩)
  | .vext1T a va vb b => some (b.withMac ⟨.vext1T, a, va, vb⟩)
  | .vrda a va vb b => some (b.withMac ⟨.vrda, a, va, vb⟩)
  | .vwra a va vb b => some (b.withMac ⟨.vwra, a, va, vb⟩)
  | .vmaxIdx a va vb b => some (b.withMac ⟨.vmaxIdx, a, va, vb⟩)
  | .vminIdx a va vb b => some (b.withMac ⟨.vminIdx, a, va, vb⟩)
  | .vmaxaIdx a va vb b => some (b.withMac ⟨.vmaxaIdx, a, va, vb⟩)
  | .aluNop b => some (b.withAlu ⟨.nop, 0, 0, 0, 0⟩)
  | .mov rd ra b => some (b.withAlu ⟨.mov, rd, ra, 0, 0⟩)
  | .add rd ra b => some (b.withAlu ⟨.add, rd, ra, 0, 0⟩)
  | .sub rd ra b => some (b.withAlu ⟨.sub, rd, ra, 0, 0⟩)
  | .adds rd ra b => some (b.withAlu ⟨.adds, rd, ra, 0, 0⟩)
  | .and rd ra b => some (b.withAlu ⟨.and, rd, ra, 0, 0⟩)
  | .or rd ra b => some (b.withAlu ⟨.or, rd, ra, 0, 0⟩)
  | .xor rd ra b => some (b.withAlu ⟨.xor, rd, ra, 0, 0⟩)
  | .sll rd ra b => some (b.withAlu ⟨.sll, rd, ra, 0, 0⟩)
  | .srl rd ra b => some (b.withAlu ⟨.srl, rd, ra, 0, 0⟩)
  | .sra rd ra b => some (b.withAlu ⟨.sra, rd, ra, 0, 0⟩)
  | .min rd ra b => some (b.withAlu ⟨.min, rd, ra, 0, 0⟩)
  | .max rd ra b => some (b.withAlu ⟨.max, rd, ra, 0, 0⟩)
  | .mul rd ra b => some (b.withAlu ⟨.mul, rd, ra, 0, 0⟩)
  | .movp rd ra b => some (b.withAlu ⟨.movp, rd, ra, 0, 0⟩)
  | .movm rd ra b => some (b.withAlu ⟨.movm, rd, ra, 0, 0⟩)
  | .rdp rd ra b => some (b.withAlu ⟨.rdp, rd, ra, 0, 0⟩)
  | .rdm rd ra b => some (b.withAlu ⟨.rdm, rd, ra, 0, 0⟩)
  | .vlane rd ra lane b => some (b.withAlu ⟨.vlane, rd, ra, lane, 0⟩)
  | .vins rd ra lane b => some (b.withAlu ⟨.vins, rd, ra, lane, 0⟩)
  | .vsplat rd ra b => some (b.withAlu ⟨.vsplat, rd, ra, 0, 0⟩)
  | .vadds rd ra b => some (b.withAlu ⟨.vadds, rd, ra, 0, 0⟩)
  | .vsubs rd ra b => some (b.withAlu ⟨.vsubs, rd, ra, 0, 0⟩)
  | .vabs rd ra b => some (b.withAlu ⟨.vabs, rd, ra, 0, 0⟩)
  | .vmaxv rd ra b => some (b.withAlu ⟨.vmaxv, rd, ra, 0, 0⟩)
  | .vminv rd ra b => some (b.withAlu ⟨.vminv, rd, ra, 0, 0⟩)
  | .vredmax rd ra b => some (b.withAlu ⟨.vredmax, rd, ra, 0, 0⟩)
  | .vredmin rd ra b => some (b.withAlu ⟨.vredmin, rd, ra, 0, 0⟩)
  | .mfs rd ra b => some (b.withAlu ⟨.mfs, rd, ra, 0, 0⟩)
  | .mts rd ra b => some (b.withAlu ⟨.mts, rd, ra, 0, 0⟩)
  | .addi rd ra imm b => some (b.withAlu ⟨.addi, rd, ra, imm, 0⟩)
  | .andi rd ra imm b => some (b.withAlu ⟨.andi, rd, ra, imm, 0⟩)
  | .ori rd ra imm b => some (b.withAlu ⟨.ori, rd, ra, imm, 0⟩)
  | .xori rd ra imm b => some (b.withAlu ⟨.xori, rd, ra, imm, 0⟩)
  | .slli rd ra imm b => some (b.withAlu ⟨.slli, rd, ra, imm, 0⟩)
  | .srli rd ra imm b => some (b.withAlu ⟨.srli, rd, ra, imm, 0⟩)
  | .srai rd ra imm b => some (b.withAlu ⟨.srai, rd, ra, imm, 0⟩)
  | .beq rd ra imm b => some (b.withAlu ⟨.beq, rd, ra, imm, 0⟩)
  | .bne rd ra imm b => some (b.withAlu ⟨.bne, rd, ra, imm, 0⟩)
  | .blt rd ra imm b => some (b.withAlu ⟨.blt, rd, ra, imm, 0⟩)
  | .bge rd ra imm b => some (b.withAlu ⟨.bge, rd, ra, imm, 0⟩)
  | .bltu rd ra imm b => some (b.withAlu ⟨.bltu, rd, ra, imm, 0⟩)
  | .bgeu rd ra imm b => some (b.withAlu ⟨.bgeu, rd, ra, imm, 0⟩)
  | .jmp off b => some (b.withAlu ⟨.jmp, 0, 0, off, 0⟩)
  | .jmpr ra b => some (b.withAlu ⟨.jmpr, 0, ra, 0, 0⟩)
  | .call off b => some (b.withAlu ⟨.call, 0, 0, off, 0⟩)
  | .rep count b => some (b.withAlu ⟨.rep, 0, 0, 0, count⟩)
  | .repr ra b => some (b.withAlu ⟨.repr, 0, ra, 0, 0⟩)
  | .loopDo count ending b => some (b.withAlu ⟨.loopDo, 0, 0, ending, count⟩)
  | .dor rd ending b => some (b.withAlu ⟨.dor, rd, 0, ending, 0⟩)
  | .leave b => some (b.withAlu ⟨.leave, 0, 0, 0, 0⟩)
  | .setxi imm b => some (b.withAlu ⟨.setxi, 0, 0, imm, 0⟩)
  | .xfer ra b => some (b.withAlu ⟨.xfer, 0, ra, 0, 0⟩)
  | .xwait n b => some (b.withAlu ⟨.xwait, 0, 0, n, 0⟩)
  | .done ra b => some (b.withAlu ⟨.done, 0, ra, 0, 0⟩)
  | .idle b => some (b.withAlu ⟨.idle, 0, 0, 0, 0⟩)
  | .rti b => some (b.withAlu ⟨.rti, 0, 0, 0, 0⟩)
  | .brk b => some (b.withAlu ⟨.brk, 0, 0, 0, 0⟩)
  | _ => none

/-- The core of a bundle as the bundle reads it: every result due has landed (R223). -/
def coreOf (b : Bundle) (s : State) : AsterCore := landTo (acore s.dev b.core).n (acore s.dev b.core)

/-- The device with those results landed. -/
def landed (b : Bundle) (s : State) : Dev := putCore b.core (coreOf b s) s.dev

/-- The device once the fetch of a bundle has counted the single-bit errors that it corrects (R241). -/
def fetched (b : Bundle) (s : State) : Dev := forN b.ce (fun _ => sramCe 2) (landed b s)

/-- A bundle issues: its core runs and is not idle, and the bundle meets no fault and waits for nothing (R244 to R246, R249). -/
abbrev Issuable (b : Bundle) (s : State) : Prop :=
  b.core < 16 ∧ (acore s.dev b.core).status = 1 ∧ (acore s.dev b.core).idle = false
    ∧ bundleFault (landed b s) b.core (coreOf b s) b = none ∧ bundleWaits (landed b s) b.core b = false

/-- What the k-th bundle after the last one issued reads of a core, when the bundles between write nothing (R223). -/
def seen (t : State) (c k : Nat) : AsterCore := forN k (fun i a => landTo ((acore t.dev c).n + i) a) (acore t.dev c)

/-- A command completes, and the k-th bundle after it reads a value in a scalar register; g0 reads 0 (R215, R223). -/
def GivesScalar (i : Instr) (s : State) (c k rd : Nat) (v : Int) : Prop :=
  Completes i s (fun t => rg (seen t c k) rd = if rd = 0 then 0 else wrapN 32 v)

/-- A command completes, and the k-th bundle after it reads values in the lanes of a vector register (R215, R223). -/
def GivesLanes (i : Instr) (s : State) (c k rd : Nat) (f : Nat → Int) : Prop :=
  Completes i s (fun t => ∀ l, l < 4 → rv (seen t c k) rd l = sext 32 (wrapN 32 (f l)))

/-- A command completes, the next bundle's MAC slot reads values in n accumulators from `k` on, and the third bundle's
extraction does (R223). -/
def GivesSums (i : Instr) (s : State) (c k n : Nat) (f : Nat → Int) : Prop :=
  Completes i s (fun t => ∀ l, l < n →
    racc (seen t c 1) (k + l) = wrap72 (f l) ∧ raccExt (seen t c 3) (k + l) = wrap72 (f l))

end Sys2Proof.Safety
end

