-- ==== Sys2Proof/WellFormed.lean ====
section
/-!
DEFINITION. Well-formed commands: every operand that the spec gives a width or a range lies in it. A command that is not
well formed is one that no interface of the block can present; `exec` does not look at it.
-/

namespace Sys2Proof.WellFormed

/-- A number below `n`. -/
def below (n x : Nat) : Bool := decide (x < n)

/-- A signed number of `w` bits. -/
def signed (w : Nat) (x : Int) : Bool := decide (-(2 : Int) ^ (w - 1) ≤ x) && decide (x < (2 : Int) ^ (w - 1))

/-- A number below `n`, when there is one. -/
def optBelow (n : Nat) : Option Nat → Bool
  | some x => below n x
  | none => true

/-- A repeat count of R234: 1 to 4,096. -/
def repOk (x : Nat) : Bool := decide (1 ≤ x) && decide (x ≤ 4096)

/-- An access that is narrower than 32 bits or not aligned (R12). -/
def oddOk (a size : Nat) : Bool := decide (size ≠ 4) || decide (a % 4 ≠ 0)

/-- Samples of 32 bits. -/
def samplesOk (xs : List Int) : Bool := xs.all (signed 32)

/-- Samples of 32 bits, when there are any. -/
def optSamplesOk : Option (List Int) → Bool
  | some xs => samplesOk xs
  | none => true

/-- A master that exists (R203, R215, R436, R471). -/
def masterOk : Master → Bool
  | .session k => below 8 k
  | .control c => below 4 c
  | .aster c => below 16 c
  | .dma c => below 64 c
  | .host => true
  | .debug => true

/-- A source of commands that exists (R425, R436). -/
def sourceOk : Source → Bool
  | .session k => below 8 k
  | .host => true
  | .firmware => true

/-- A header's fields fit their bytes (R424). -/
def hdrOk (h : CmdHdr) : Bool :=
  sourceOk h.src && below 256 h.flags && below 256 h.cring && below (2 ^ 32) h.tag && below (2 ^ 40) h.applyQn

/-- A data reference's fields fit their bytes (R424). -/
def drefOk (r : DRef) : Bool := below (2 ^ 64) r.addr && below (2 ^ 32) r.len

/-- A PTP message (R9, R65). -/
def ptpOk : PtpMsg → Bool
  | .sync dom seq _ t => below 256 dom && below 65536 seq && below (2 ^ 48 * 1000000000) t
  | .followUp dom seq t => below 256 dom && below 65536 seq && below (2 ^ 48 * 1000000000) t
  | .delayResp dom seq t => below 256 dom && below 65536 seq && below (2 ^ 48 * 1000000000) t
  | .pdelayResp dom seq _ t => below 256 dom && below 65536 seq && below (2 ^ 48 * 1000000000) t
  | .pdelayFollowUp dom seq t => below 256 dom && below 65536 seq && below (2 ^ 48 * 1000000000) t
  | .announce dom x => below 256 dom && below 256 x.priority1 && below 256 x.clockClass && below 256 x.accuracy
      && below 65536 x.variance && below 256 x.priority2 && below (2 ^ 64) x.identity && below 65536 x.steps
  | .pathDelay n => below (2 ^ 32) n
  | .portState st => below 16 st
  | .newMaster => true

/-- A sub-operation's fields fit their bits (R219). -/
def lsOk (x : Ls) : Bool := below 4 x.mode && below 16 x.k && below 32 x.r

/-- The fields of a MAC slot fit their bits (R220). -/
def macOk (x : Mac) : Bool := below 8 x.a && below 16 x.va && below 16 x.vb

/-- The fields of an ALU slot fit their bits (R218, R221, R222). -/
def aluOk (x : Alu) : Bool := below 32 x.rd && below 32 x.ra && below (2 ^ 32) x.imm && below (2 ^ 16) x.cnt

/-- The block that output code gives is one of samples (R254). -/
def codeOk : OutCode → Bool
  | .standard => true
  | .other block _ => optSamplesOk block

/-- A bundle of one of the 16 cores whose fields fit their bits (R218). A bundle reads at most five words of 64 bits: its
own and two for each half (R219, R241). -/
def bundleOk (b : Bundle) : Bool :=
  below 16 b.core && lsOk b.x && lsOk b.y && macOk b.mac && aluOk b.alu && below 6 b.ce && codeOk b.code

end Sys2Proof.WellFormed

namespace Sys2Proof

open WellFormed

/-- Is a command well formed? -/
def Instr.wf : Instr → Bool
  | .registerWrite m a v => masterOk m && below (2 ^ 32) a && below (2 ^ 32) v
  | .unalignedRegisterAccess m _ a size => masterOk m && below (2 ^ 32) a && below 5 size && oddOk a size
  | .unmappedAccess m _ a v => masterOk m && below (2 ^ 32) a && below (2 ^ 32) v
  | .rcCounterRead m a _ => masterOk m && below (2 ^ 32) a
  | .wideLowWordRead m a => masterOk m && below (2 ^ 32) a
  | .faultCausesWrite m v => masterOk m && below (2 ^ 32) v
  | .nop h => hdrOk h
  | .regRead h addr => hdrOk h && below (2 ^ 32) addr
  | .regWrite h addr value => hdrOk h && below (2 ^ 32) addr && below (2 ^ 32) value
  | .setMode h mode scope => hdrOk h && below (2 ^ 8) mode && below (2 ^ 8) scope
  | .setOppoint h point => hdrOk h && below (2 ^ 8) point
  | .reanchorTime h step => hdrOk h && signed 64 step
  | .setAir h temp humidity => hdrOk h && signed 16 temp && below (2 ^ 8) humidity
  | .setOutputAvail h output available => hdrOk h && below (2 ^ 16) output && below (2 ^ 8) available
  | .planLoad h plan src record data => hdrOk h && below (2 ^ 8) plan && below (2 ^ 8) src && below (2 ^ 32) record && drefOk data
  | .planLoadComplete => true
  | .planDrop h plan => hdrOk h && below (2 ^ 8) plan
  | .planSwap h plan xfade => hdrOk h && below (2 ^ 8) plan && below (2 ^ 16) xfade
  | .setRouteGain h entry gain => hdrOk h && below (2 ^ 8) entry && below (2 ^ 32) gain
  | .setRouteSource h slot source => hdrOk h && below (2 ^ 8) slot && below (2 ^ 16) source
  | .corrLoad h output data => hdrOk h && below (2 ^ 16) output && drefOk data
  | .corrSwap h output which xfade => hdrOk h && below (2 ^ 16) output && below (2 ^ 8) which && below (2 ^ 16) xfade
  | .surveyProgram h steps data => hdrOk h && below (2 ^ 16) steps && drefOk data
  | .decConfig h ch cfg rate phase => hdrOk h && below (2 ^ 8) ch && below (2 ^ 32) cfg && below (2 ^ 32) rate && below (2 ^ 32) phase
  | .decCompSwap h ch => hdrOk h && below (2 ^ 8) ch
  | .drvDiag h mask => hdrOk h && below (2 ^ 16) mask
  | .drvClear h mask => hdrOk h && below (2 ^ 16) mask
  | .streamSet h data => hdrOk h && drefOk data
  | .streamClear h context dir => hdrOk h && below (2 ^ 8) context && below (2 ^ 8) dir
  | .pairResync h device => hdrOk h && below (2 ^ 8) device
  | .sceneWrite h record kind flags data => hdrOk h && below (2 ^ 32) record && below (2 ^ 16) kind && below (2 ^ 16) flags && drefOk data
  | .sceneRead h record offset data => hdrOk h && below (2 ^ 32) record && below (2 ^ 32) offset && drefOk data
  | .sceneErase h record => hdrOk h && below (2 ^ 32) record
  | .ageMeasure h => hdrOk h
  | .sessionKeySet h slot role data => hdrOk h && below (2 ^ 8) slot && below (2 ^ 8) role && drefOk data
  | .eventMask h mask => hdrOk h && below (2 ^ 32) mask
  | .commandFetch src _ _ _ => sourceOk src
  | .fetchResume => true
  | .fenceTimeout src => sourceOk src
  | .completionRelease => true
  | .transitionComplete => true
  | .faultEntrySafe => true
  | .prerollEnd => true
  | .outputRampEnd => true
  | .qnNearEnd => true
  | .qnExhausted => true
  | .startupSlow step => below (2 ^ 8) step
  | .domainFrameSend => true
  | .domainFrameReceive ip _ => below (2 ^ 32) ip
  | .deviceAbsent index => below 64 index
  | .timeAddendWrite m v => masterOk m && below (2 ^ 32) v
  | .timeNowNsRead m => masterOk m
  | .timeAdjWrite m v => masterOk m && below (2 ^ 32) v
  | .slewComplete => true
  | .timeSetCommit m v => masterOk m && below (2 ^ 32) v
  | .timeEpochCommit m v => masterOk m && below (2 ^ 32) v
  | .ptpMessageReceive port msg => below 4 port && ptpOk msg
  | .ptpMessageSend port _ => below 4 port
  | .timeQualify => true
  | .announceReceiptTimeout port next => below 4 port && below (2 ^ 8) next
  | .holdoverFollowSecond => true
  | .holdoverExpired => true
  | .synthLock _ => true
  | .synthALockLoss => true
  | .synthBLockLoss => true
  | .pulseArm m n v => masterOk m && below 4 n && below (2 ^ 32) v
  | .pulseEdge n => below 4 n
  | .alarmEnable m n v => masterOk m && below 8 n && below (2 ^ 32) v
  | .timeAlarm n => below 8 n
  | .timeTick => true
  | .quantumStart => true
  | .quantumActivation => true
  | .metadataRecordReceive ring _ _ => optBelow 16 ring
  | .objFrozen o => below 1024 o
  | .moveEnd o => below 1024 o
  | .geomOperandPost => true
  | .geomPostResume => true
  | .availReportReceive output cause _ => below 512 output && below (2 ^ 8) cause
  | .availRecordReceive _ => true
  | .operandPost side task qn => below 2 side && below 8192 task && below (2 ^ 40) qn
  | .taskDispatch => true
  | .windowFillComplete => true
  | .voiceGroupComplete engine _ => below 16 engine
  | .swapRecordReceive _ => true
  | .routingPeriod => true
  | .gainZcTimeout entry => below (2 ^ 8) entry
  | .taskDoneWrite m unit w code => masterOk m && optBelow 16 unit && below (2 ^ 32) w && codeOk code
  | .take core => below 4 core
  | .takeTimeout core => below 4 core
  | .dispPost m v => masterOk m && below (2 ^ 32) v
  | .dispBgSubmit m v => masterOk m && below (2 ^ 32) v
  | .dispCqPush m q v => masterOk m && below 8 q && below (2 ^ 32) v
  | .dispMatchSelWrite m v => masterOk m && below (2 ^ 32) v
  | .dispMatchPeakWrite m v => masterOk m && below (2 ^ 32) v
  | .switchEntry core => below 16 core
  | .taskDeadline side task qn => below 2 side && below 8192 task && below (2 ^ 40) qn
  | .departureCutoff qn => below (2 ^ 40) qn
  | .deadlineFault => true
  | .asterRun m core v => masterOk m && below 16 core && below (2 ^ 32) v
  | .ldV _ mode k r b => below 4 mode && below 16 k && below 16 r && bundleOk b
  | .stV _ mode k r b => below 4 mode && below 16 k && below 16 r && bundleOk b
  | .ldW _ mode k r b => below 4 mode && below 16 k && below 32 r && bundleOk b
  | .stW _ mode k r b => below 4 mode && below 16 k && below 32 r && bundleOk b
  | .ldB _ mode k r b => below 4 mode && below 16 k && below 16 r && bundleOk b
  | .li rd imm b => below 32 rd && below (2 ^ 32) imm && bundleOk b
  | .vmul a va vb b => below 8 a && below 16 va && below 16 vb && bundleOk b
  | .vmac a va vb b => below 8 a && below 16 va && below 16 vb && bundleOk b
  | .vmsu a va vb b => below 8 a && below 16 va && below 16 vb && bundleOk b
  | .vmacb a va vb b => below 8 a && below 16 va && below 16 vb && bundleOk b
  | .vdot a va vb b => below 8 a && below 16 va && below 16 vb && bundleOk b
  | .vdota a va vb b => below 8 a && below 16 va && below 16 vb && bundleOk b
  | .vclr a va vb b => below 8 a && below 16 va && below 16 vb && bundleOk b
  | .vlda a va vb b => below 8 a && below 16 va && below 16 vb && bundleOk b
  | .vext a va vb b => below 8 a && below 16 va && below 16 vb && bundleOk b
  | .vextT a va vb b => below 8 a && below 16 va && below 16 vb && bundleOk b
  | .vext1 a va vb b => below 8 a && below 16 va && below 16 vb && bundleOk b
  | .vext1T a va vb b => below 8 a && below 16 va && below 16 vb && bundleOk b
  | .vrda a va vb b => below 8 a && below 16 va && below 16 vb && bundleOk b
  | .vwra a va vb b => below 8 a && below 16 va && below 16 vb && bundleOk b
  | .vmaxIdx a va vb b => below 8 a && below 16 va && below 16 vb && bundleOk b
  | .vminIdx a va vb b => below 8 a && below 16 va && below 16 vb && bundleOk b
  | .vmaxaIdx a va vb b => below 8 a && below 16 va && below 16 vb && bundleOk b
  | .aluNop b => bundleOk b
  | .mov rd ra b => below 32 rd && below 32 ra && bundleOk b
  | .add rd ra b => below 32 rd && below 32 ra && bundleOk b
  | .sub rd ra b => below 32 rd && below 32 ra && bundleOk b
  | .adds rd ra b => below 32 rd && below 32 ra && bundleOk b
  | .and rd ra b => below 32 rd && below 32 ra && bundleOk b
  | .or rd ra b => below 32 rd && below 32 ra && bundleOk b
  | .xor rd ra b => below 32 rd && below 32 ra && bundleOk b
  | .sll rd ra b => below 32 rd && below 32 ra && bundleOk b
  | .srl rd ra b => below 32 rd && below 32 ra && bundleOk b
  | .sra rd ra b => below 32 rd && below 32 ra && bundleOk b
  | .min rd ra b => below 32 rd && below 32 ra && bundleOk b
  | .max rd ra b => below 32 rd && below 32 ra && bundleOk b
  | .mul rd ra b => below 32 rd && below 32 ra && bundleOk b
  | .movp rd ra b => below 16 rd && below 32 ra && bundleOk b
  | .movm rd ra b => below 16 rd && below 32 ra && bundleOk b
  | .rdp rd ra b => below 32 rd && below 16 ra && bundleOk b
  | .rdm rd ra b => below 32 rd && below 16 ra && bundleOk b
  | .vlane rd ra lane b => below 32 rd && below 16 ra && below 4 lane && bundleOk b
  | .vins rd ra lane b => below 16 rd && below 32 ra && below 4 lane && bundleOk b
  | .vsplat rd ra b => below 16 rd && below 32 ra && bundleOk b
  | .vadds rd ra b => below 16 rd && below 16 ra && bundleOk b
  | .vsubs rd ra b => below 16 rd && below 16 ra && bundleOk b
  | .vabs rd ra b => below 16 rd && below 16 ra && bundleOk b
  | .vmaxv rd ra b => below 16 rd && below 16 ra && bundleOk b
  | .vminv rd ra b => below 16 rd && below 16 ra && bundleOk b
  | .vredmax rd ra b => below 32 rd && below 16 ra && bundleOk b
  | .vredmin rd ra b => below 32 rd && below 16 ra && bundleOk b
  | .mfs rd ra b => below 32 rd && below 32 ra && bundleOk b
  | .mts rd ra b => below 32 rd && below 32 ra && bundleOk b
  | .addi rd ra imm b => below 32 rd && below 32 ra && below 262144 imm && bundleOk b
  | .andi rd ra imm b => below 32 rd && below 32 ra && below 262144 imm && bundleOk b
  | .ori rd ra imm b => below 32 rd && below 32 ra && below 262144 imm && bundleOk b
  | .xori rd ra imm b => below 32 rd && below 32 ra && below 262144 imm && bundleOk b
  | .slli rd ra imm b => below 32 rd && below 32 ra && below 32 imm && bundleOk b
  | .srli rd ra imm b => below 32 rd && below 32 ra && below 32 imm && bundleOk b
  | .srai rd ra imm b => below 32 rd && below 32 ra && below 32 imm && bundleOk b
  | .beq rd ra imm b => below 32 rd && below 32 ra && below 262144 imm && bundleOk b
  | .bne rd ra imm b => below 32 rd && below 32 ra && below 262144 imm && bundleOk b
  | .blt rd ra imm b => below 32 rd && below 32 ra && below 262144 imm && bundleOk b
  | .bge rd ra imm b => below 32 rd && below 32 ra && below 262144 imm && bundleOk b
  | .bltu rd ra imm b => below 32 rd && below 32 ra && below 262144 imm && bundleOk b
  | .bgeu rd ra imm b => below 32 rd && below 32 ra && below 262144 imm && bundleOk b
  | .jmp off b => below (2 ^ 28) off && bundleOk b
  | .jmpr ra b => below 32 ra && bundleOk b
  | .call off b => below (2 ^ 28) off && bundleOk b
  | .rep count b => repOk count && bundleOk b
  | .repr ra b => below 32 ra && bundleOk b
  | .loopDo count ending b => below (2 ^ 16) count && below 4096 ending && bundleOk b
  | .dor rd ending b => below 32 rd && below 4096 ending && bundleOk b
  | .leave b => bundleOk b
  | .setxi imm b => below (2 ^ 16) imm && bundleOk b
  | .xfer ra b => below 32 ra && bundleOk b
  | .tileTransferComplete core _ => below 16 core
  | .xwait n b => below 16 n && bundleOk b
  | .done ra b => below 32 ra && bundleOk b
  | .idle b => bundleOk b
  | .rti b => bundleOk b
  | .brk b => bundleOk b
  | .asterDbgHalt m core => masterOk m && below 16 core
  | .asterDbgResume m core => masterOk m && below 16 core
  | .asterDbgStep m core => masterOk m && below 16 core
  | .asterDbgDataWrite m core v => masterOk m && below 16 core && below (2 ^ 32) v
  | .correctionTaskComplete side output qn _ => below 2 side && below 512 output && below (2 ^ 40) qn
  | .levelBlockJob output level _ => below 512 output && below 4 level
  | .levelBlockJobComplete output level _ => below 512 output && below 4 level
  | .departure => true
  | .corrBankLoaded output => below 512 output
  | .corrSwapped output => below 512 output
  | .surveyStepEnd _ => true
  | .surveyDone => true
  | .averagingPeriodEnd _ descs _ => descs.all (below (2 ^ 32))
  | .designJobComplete _ _ taps => samplesOk taps
  | .designJobTimeout _ => true
  | .imageLoadTimeout output => below 512 output
  | .decSrcStuck src => below (2 ^ 8) src
  | .decSrcOk src => below (2 ^ 8) src
  | .decConfigComplete ch => below 128 ch
  | .decSwapped ch => below 128 ch
  | .decCoefDataWrite m v => masterOk m && below (2 ^ 32) v
  | .decChCfgWrite m ch word v => masterOk m && below 128 ch && below 3 word && below (2 ^ 32) v
  | .captureBlockWrite stream _ _ => below 8 stream
  | .diagStepEnd ch _ _ _ => below 16 ch
  | .cmRampEnd ch => below 16 ch
  | .currentLimitCrossing x => below 16 x.ch && below 4096 x.mv
  | .drvOvercurrent ch => below 16 ch
  | .railUv rail => below 8 rail
  | .stageFaultInput rail => below 8 rail
  | .staggerLock ch => below 16 ch
  | .drvUnlock ch => below 16 ch
  | .retryDelayExpiry ch => below 16 ch
  | .railRecovered rail => below 8 rail
  | .drvChCfgWrite m _ n v => masterOk m && below 16 n && below (2 ^ 32) v
  | .aportEnable m port v => masterOk m && below 16 port && below (2 ^ 32) v
  | .aportDisable m port v => masterOk m && below 16 port && below (2 ^ 32) v
  | .aportCfgWrite m port v => masterOk m && below 16 port && below (2 ^ 32) v
  | .slotMaskWrite m port dir v => masterOk m && below 16 port && below 2 dir && below (2 ^ 32) v
  | .slotMaskLatch port => below 16 port
  | .frameStart port _ => below 16 port
  | .rxFrame port _ _ _ _ => below 16 port
  | .missingFrame port => below 16 port
  | .portAligned port => below 16 port
  | .periodFaultClear port => below 16 port
  | .aportAsrcLock port ratio => below 16 port && below (2 ^ 32) ratio
  | .aportAsrcUnlock port => below 16 port
  | .aportZcTimeout port dir slot => below 16 port && below 2 dir && below 32 slot
  | .portClocksStop port => below 16 port
  | .listenInsertion => true
  | .listenDetectStep _ => true
  | .listenUnplug => true
  | .listenButton _ => true
  | .micGateEnd => true
  | .listenHpFault => true
  | .netLinkDown port => below 4 port
  | .netLinkUp port => below 4 port
  | .frameReceive port _ _ _ _ _ => below 4 port
  | .controlDatagramReceive ip _ port _ => below (2 ^ 32) ip && below 4 port
  | .controlRateWindow port => below 4 port
  | .pauseHighWatermark port => below 4 port
  | .pauseRepeat port => below 4 port
  | .pauseLowWatermark port => below 4 port
  | .pauseReceive port quanta => below 4 port && below (2 ^ 16) quanta
  | .pauseExpiry port => below 4 port
  | .preemptionVerify port _ => below 4 port
  | .streamPacketSend context _ => below (2 ^ 8) context
  | .launchLimitExpiry port => below 4 port
  | .streamPacketReceive packet => below 4 packet.port
  | .netStreamSelWrite m v => masterOk m && below (2 ^ 32) v
  | .pairForm => true
  | .heartbeatSend => true
  | .pairFrameReceive path _ => below 2 path
  | .digestWaitExpiry qn => below (2 ^ 40) qn
  | .presWaitExpiry qn => below (2 ^ 40) qn
  | .pairPathFault path => below 2 path
  | .pairPathOk path => below 2 path
  | .partnerLost => true
  | .autoResync => true
  | .joinPhaseAdvance _ => true
  | .pairJoinFailed => true
  | .laneLoadWindow _ => true
  | .pairLane => true
  | .pairLaneFail => true
  | .laneRetry _ => true
  | .doorbellWrite offset v => below (2 ^ 32) offset && below (2 ^ 64) v.value && decide (1 ≤ v.bytes) && decide (v.bytes ≤ 8)
  | .ringCfgWrite m ring v => masterOk m && below 74 ring && below (2 ^ 32) v
  | .hostLinkReset _ => true
  | .interruptModerationExpiry ring => below 74 ring
  | .hostAudioFetch ring _ _ _ => below 74 ring
  | .sessionHello port ip _ => below 4 port && below (2 ^ 32) ip
  | .sessionProve port ip _ => below 4 port && below (2 ^ 32) ip
  | .sessionCommand port ip _ => below 4 port && below (2 ^ 32) ip
  | .sessionData port ip _ => below 4 port && below (2 ^ 32) ip
  | .sessionKeepalive port ip _ => below 4 port && below (2 ^ 32) ip
  | .sessionClose port ip _ => below 4 port && below (2 ^ 32) ip
  | .sessionIdleTimeout slot => below 8 slot
  | .helloBanExpiry ip => below (2 ^ 32) ip
  | .sceneCommitted _ => true
  | .autoload => true
  | .autoloadSetModeRetry => true
  | .matrixTimeout master target _ _ _ => below (2 ^ 8) master && below (2 ^ 8) target
  | .rowActivateWindowEnd _ => true
  | .dramRetrain ch temp => below 4 ch && below 8 temp
  | .dramRetrainEnd ch => below 4 ch
  | .sramScrubPeriod _ => true
  | .vaultWiped => true
  | .dmaChProdWrite m ch v => masterOk m && below 64 ch && below (2 ^ 32) v
  | .dmaStop m ch v => masterOk m && below 64 ch && below (2 ^ 32) v
  | .dmaAbort m ch v => masterOk m && below 64 ch && below (2 ^ 32) v
  | .dmaResume m ch v => masterOk m && below 64 ch && below (2 ^ 32) v
  | .dmaSkip m ch v => masterOk m && below 64 ch && below (2 ^ 32) v
  | .dmaDescriptorFetch ch _ _ => below 64 ch
  | .dmaBurstResponse ch _ _ => below 64 ch
  | .dmaEntryComplete ch => below 64 ch
  | .wake cause => below 4 cause
  | .wakeAttemptFail => true
  | .wakeStepComplete => true
  | .refclkLost => true
  | .refclkOk => true
  | .refclkAbsentAlarm => true
  | .clockCheckWindow _ => true
  | .voltageArrival mv => below (2 ^ 16) mv
  | .dvfsSupplyFault => true
  | .avsTimeout => true
  | .thermalWarn temp => signed 16 temp
  | .thermalFault temp => signed 16 temp
  | .pgoodCoreLow => true
  | .supplyMonitorLoss => true
  | .powerOnReset => true
  | .resetNAssert => true
  | .watchdogExpiry => true
  | .debugReset => true
  | .pwrWdtWrite m v => masterOk m && below (2 ^ 32) v
  | .bootStepComplete _ => true
  | .bootRetry => true
  | .secSvnCommit m v => masterOk m && below (2 ^ 32) v
  | .secLcReq m v => masterOk m && below (2 ^ 32) v
  | .tamper cause levels detectors => below 8 cause && below (2 ^ 8) levels && below (2 ^ 8) detectors
  | .ageDailyMeasure => true
  | .ageMeasureComplete _ _ _ => true
  | .flashProgram m => masterOk m
  | .flashEraseSector m => masterOk m
  | .flashEraseBlock m => masterOk m
  | .flashReadStatus m => masterOk m
  | .flashOperationComplete _ => true
  | .i2cTransfer m n v => masterOk m && below 2 n && below (2 ^ 32) v
  | .i2cTransferComplete n result _ => below 2 n && below 3 result
  | .i2cTimeout n => below 2 n
  | .uartTxWrite m v => masterOk m && below (2 ^ 32) v
  | .uartRxPop m v => masterOk m && below (2 ^ 32) v
  | .uartRxByte _ _ => true
  | .pmbTelemetryPoll vout iout temp _ _ _ => below (2 ^ 16) vout && below (2 ^ 32) iout && below (2 ^ 16) temp
  | .resetNRelease => true
  | .supplyRestored => true
  | .thermalWarnRearm temp => signed 16 temp
  | .txFrameBoundary port _ => below 4 port
  | .codeBankWritten => true
  | .decimatorSampleDelivered ch _ => below 128 ch
  | .pcieLinkUp gen width => below (2 ^ 8) gen && below (2 ^ 8) width

end Sys2Proof
end

