-- ==== Sys2Proof/Certificates/Slice0/Obligations.lean ====
section
/-!
DEFINITION. The statements for the provers. `Completes i s P` says that the command answers a next state with P
(`∃ t, exec i s = .next t ∧ P t`).
-/

open Sys2Proof
open Sys2Proof.Machine
open Sys2Proof.Safety

/-! ### Steps -/

/-- A step takes the command at the front of the queue and runs it with the queue's rest (the model's queue, log 2).
-/
def Obligations.StepRunsFrontCommand : Prop :=
  ∀ (c : Instr) (rest : List Instr) (s : State), s.pending = c :: rest → step s = exec c { s with pending := rest }

/-- With no command waiting, no slew, nothing armed, no quantum start and no history record due, a step adds the
addend to the counter and 2 ns to local time, and changes nothing else (R61; the tick on an empty queue is the model's
choice, log 3). Readings and choices of the model: log 30. -/
def Obligations.EmptyQueueTicksTheCounter : Prop :=
  ∀ s : State, s.pending = [] → s.dev.time.slewRem = 0 → s.dev.time.slewAcc = 0 → s.dev.time.holdover = false →
    (∀ n, n < 4 → (pulse s.dev n).armed = false ∧ (pulse s.dev n).fallAt = none ∧ bitAt s.dev (pulseA n) 3 = false) →
    (∀ n, n < 8 → (alarm s.dev n).armed = false) →
    let sum := s.dev.time.frac + rdN s.dev 0x20008
    let pt := (s.dev.time.pt + sum / 2 ^ 28) % ptMod
    let d := { s.dev with time := { s.dev.time with pt := pt, frac := sum % 2 ^ 28, now := s.dev.time.now + 2 } }
    pt / secNs = s.dev.time.pt / secNs → quantumDue d = false → historyDue d = false →
    step s = becomes s d

/-- EVERY COMMAND COMPLETES: each of the 340 commands of the table answers a next state, from every state and with
every operand (no command faults or is refused), and adds, drops or reorders no waiting command. A queue of
well-formed commands stays one at every step. Readings and choices of the model: log 2. -/
def Obligations.TheQueueIsKept : Prop :=
  (∀ (i : Instr) (s : State), Completes i s (fun t => t.pending = s.pending))
  ∧ (∀ s t : State, (∀ c ∈ s.pending, c.wf = true) → step s = .next t → ∀ c ∈ t.pending, c.wf = true)

/-! ### Register accesses -/

/-- A write to a register with no act of its own stores its RW fields, clears the W1C flags written 1, and changes
nothing else (R15). A write to SYS_FAULT_CAUSES clears a cause written 1 when its condition no longer holds, and keeps
every other bit (R35). Readings and choices of the model: log 6, 7, 10. -/
def Obligations.RegisterWritesStoreTheirFields : Prop :=
  (∀ (m : Master) (a v : Nat) (r : RegRow) (s : State), a % 4 = 0 → regRow a = some r →
    lockOpen s.dev m r.lock = true → regAct m r a v s.dev = none → rangesOk r v = true → extraOk s.dev a v = true →
    Completes (.registerWrite m a v) s (fun t =>
      (∀ i, i < 32 → (rdN t.dev a).testBit i =
        (if r.rw.testBit i then v.testBit i else (rdN s.dev a).testBit i && !(r.w1c.testBit i && v.testBit i)))
      ∧ (∀ b, b ≠ a → rdN t.dev b = rdN s.dev b) ∧ t.dev = { s.dev with regs := t.dev.regs } ∧ t.pending = s.pending))
  ∧ (∀ (m : Master) (v : Nat) (s : State),
    Completes (.faultCausesWrite m v) s (fun t =>
      (∀ i, i < 32 → bitAt t.dev 0x230 i = (bitAt s.dev 0x230 i &&
        !(v.testBit i && (decide (i = 0 ∨ i = 2 ∨ i = 5)
          || (decide (i = 1) && timeQualified s.dev && !bitAt s.dev 0x20004 11)
          || (decide (i = 3) && decide (sext 16 (rdN s.dev 0x1001C) < 113 * 256))
          || (decide (i = 4) && clocksGood s.dev)
          || (decide (i = 7) && !s.dev.pwr.pgoodLow)))))
      ∧ (∀ b, b ≠ 0x230 → rdN t.dev b = rdN s.dev b) ∧ t.dev = { s.dev with regs := t.dev.regs }))

/-- A narrow or unaligned access has no effect: a write is discarded, a read returns zero, and no flag is set; every
register holds a 32-bit word (R12). -/
def Obligations.UnalignedAccessHasNoEffect : Prop :=
  ∀ (m : Master) (a size : Nat) (s : State),
    exec (.unalignedRegisterAccess m true a size) s = .next s ∧
    exec (.unalignedRegisterAccess m false a size) s =
      .next { s with dev := { s.dev with out := s.dev.out ++ [.readData m 0] } } ∧
    (∀ b, rdN s.dev b < 2 ^ 32)

/-- UNMAPPED_ACCESS: an access that meets no register completes, from every master and in every state: it sets
SYS_ERR_STATUS.unmapped, records its offset when the flag was clear and keeps the record when it was set, a read
returns zero, and nothing else changes (R20, R60). Readings and choices of the model: log 6. -/
def Obligations.UnmappedAccessIsRecorded : Prop :=
  ∀ (m : Master) (a v : Nat) (write : Bool) (s : State), a % 4 = 0 → regRow a = none →
    Completes (.unmappedAccess m write a v) s (fun t => t.pending = s.pending ∧
      bitAt t.dev 0x100 0 = true
      ∧ rdN t.dev 0x104 = (if bitAt s.dev 0x100 0 then rdN s.dev 0x104 else a % 2 ^ 24 + (if write then 2 ^ 31 else 0))
      ∧ (∀ b, b ≠ 0x100 → b ≠ 0x104 → rdN t.dev b = rdN s.dev b)
      ∧ t.dev = { s.dev with regs := t.dev.regs, out := if write then s.dev.out else s.dev.out ++ [.readData m 0] })

/-- A read of an RC counter returns the count and clears it; an event of the same cycle is kept as a count of 1; a
counter saturates at 0xFFFF_FFFF (R17). Of the counters that the spec does not fill, MATRIX_BUSY, the read gives a
free value. A read of DISP_TAKE by a master other than a control core returns 0xFFFF_FFFF at once and takes no task
(R205). -/
def Obligations.CounterReadsClearAndOtherMastersTakeNoTask : Prop :=
  (∀ (a : Nat) (d : Dev), rdN (incCnt a d) a = Nat.min (rdN d a + 1) 0xFFFFFFFF)
  ∧ ∀ (m : Master) (a : Nat) (event : Bool) (r : RegRow) (s : State), a % 4 = 0 →
    regRow a = some r → r.kind = .rc → (a < 0x1C0100 ∨ 0x1C0160 ≤ a) →
    let d := if a = 0x4002C then waitCount s.dev else s.dev
    Completes (.rcCounterRead m a event) s (fun t =>
      t.dev.out = s.dev.out ++ [.readData m (rdN d a)] ∧ rdN t.dev a = (if event then 1 else 0)
      ∧ (∀ b, b ≠ a → rdN t.dev b = rdN s.dev b)
      ∧ t.dev = { d with regs := t.dev.regs, out := t.dev.out })
  ∧ (∀ (m : Master) (d : Dev), isControl m = false → busRead m 0x40200 d = (0xFFFFFFFF, d))

/-- A read of the lowest word of a wide value returns it and takes the words above into their shadow, so that their
reads return what they were at that read; TIME_NOW_NS is one of them (R18, R63). Readings and choices of the model:
log 8, 9. -/
def Obligations.WideReadTakesTheHigherWords : Prop :=
  (∀ (m : Master) (a words : Nat) (r : RegRow) (s : State), a % 4 = 0 → regRow a = some r → r.kind = .plain →
    a ≠ 0x40200 → a ≠ 0x6003C → wordPlace wideRows a = some (0, words) →
    Completes (.wideLowWordRead m a) s (fun t =>
      t.dev.out = s.dev.out ++ [.readData m (liveWord s.dev m a)]
      ∧ (∀ i, 1 ≤ i → i < words → shadowWord t.dev m (a + 4 * i) = liveWord s.dev m (a + 4 * i) % 2 ^ 32)
      ∧ t.dev = { s.dev with shadow := t.dev.shadow, out := t.dev.out }))
  ∧ (∀ (m : Master) (s : State), s.dev.time.pt < ptMod →
    Completes (.timeNowNsRead m) s (fun t =>
      t.dev.out = s.dev.out ++ [.readData m (s.dev.time.pt % secNs)]
      ∧ shadowWord t.dev m 0x20014 = s.dev.time.pt / secNs % 2 ^ 32
      ∧ shadowWord t.dev m 0x20018 = s.dev.time.pt / secNs / 2 ^ 32
      ∧ t.dev = { s.dev with shadow := t.dev.shadow, out := t.dev.out }))

/-! ### Commands of the host, the sessions and the firmware -/

/-- The checks that come before a command's own, in their order: the role of the session, an unknown or malformed
entry, the mode, reserved parameters. The first that fails decides the completion code, and the command has no other
effect (R426, R428, R438). Readings and choices of the model: log 21. -/
def Obligations.ChecksDecideInTheirOrder : Prop :=
  ∀ (h : CmdHdr) (c : Cmd) (s : State), Acceptable h s.dev → (isMirrored c && pairFormed s.dev) = false →
    let op := cmdOpcode c
    let fails (code : Nat) := exec (issue h c) s = becomes s (completed h c s.dev code 0 s.dev)
    (roleOk s.dev h.src op = false → fails cAuth)
    ∧ (roleOk s.dev h.src op = true → (h.hdrRsvd = true ∨ (h.applyQn ≠ 0 ∧ takesQn op = false)) → fails cFormat)
    ∧ (roleOk s.dev h.src op = true → h.hdrRsvd = false → (h.applyQn = 0 ∨ takesQn op = true) →
        (cmdLegal s.dev c = false → fails cState) ∧ (cmdLegal s.dev c = true → h.parRsvd = true → fails cFormat))

/-- NOP, REG_READ, REG_WRITE, EVENT_MASK, PLAN_DROP, SURVEY_PROGRAM, SESSION_KEY_SET, SCENE_READ: each completes at
once, DONE, with the result that R427 gives it and its effect made (R169, R275, R427, R431, R438). Readings and
choices of the model: log 1, 22, 64. -/
def Obligations.CommandsThatCompleteAtOnce : Prop :=
  (∀ (h : CmdHdr) (s : State), Ready h .nop s.dev →
    exec (.nop h) s = becomes s (completed h .nop s.dev cDone 0 s.dev))
  ∧ (∀ (h : CmdHdr) (a : Nat) (s : State), Ready h (.regRead a) s.dev → a % 8 = 0 → a < 2 ^ 24 →
    let d := accepted h (.regRead a) s.dev
    let lo := busRead (cmdMaster h.src) a d
    let hi := busRead (cmdMaster h.src) (a + 4) lo.2
    exec (.regRead h a) s = becomes s (complete s.dev.host.nextCid cDone 0 (lo.1 + hi.1 * 2 ^ 32) hi.2))
  ∧ (∀ (h : CmdHdr) (a v : Nat) (s : State), Ready h (.regWrite a v) s.dev → a % 4 = 0 → a < 2 ^ 24 →
    exec (.regWrite h a v) s = becomes s
      (complete s.dev.host.nextCid cDone 0 0 (busWrite (cmdMaster h.src) a v (accepted h (.regWrite a v) s.dev))))
  ∧ (∀ (h : CmdHdr) (k mask : Nat) (s : State), h.src = .session k → Ready h (.eventMask mask) s.dev →
    exec (.eventMask h mask) s = becomes s
      (completed h (.eventMask mask) s.dev cDone 0 (putSess k { sess s.dev k with evMask := mask } s.dev)))
  ∧ (∀ (h : CmdHdr) (mask : Nat) (s : State), h.src = .host → Ready h (.eventMask mask) s.dev →
    exec (.eventMask h mask) s = becomes s (completed h (.eventMask mask) s.dev cState 0 s.dev))
  ∧ (∀ (h : CmdHdr) (p : Nat) (s : State), Ready h (.planDrop p) s.dev → planInUse s.dev p = false →
    (fget? s.dev.plan.held p).isSome = true →
    let d := accepted h (.planDrop p) s.dev
    let e := refreshPlanSet { d with plan := { d.plan with held := ferase d.plan.held p } }
    exec (.planDrop h p) s = becomes s (complete s.dev.host.nextCid cDone 0 (planSetId e) e))
  ∧ (∀ (h : CmdHdr) (n : Nat) (x : DRef) (bs : Bytes) (s : State), Ready h (.surveyProgram n x) s.dev → n ≤ 4096 →
    x.len = 32 * n → refBytes s.dev h.src x = some bs →
    let recs := (List.range n).map (fun i => slice bs (32 * i) 32)
    groupedSweep false (recs.map parseStep) = false → recs.all (stepOk s.dev) = true →
    exec (.surveyProgram h n x) s = becomes s (completed h (.surveyProgram n x) s.dev cDone 0
      { s.dev with survey := { s.dev.survey with program := recs.map parseStep, step := 0 } }))
  ∧ (∀ (h : CmdHdr) (k r : Nat) (x : DRef) (key : Bytes) (s : State), Ready h (.sessionKeySet k r x) s.dev → k ≤ 15 →
    r ≤ 3 → x.len = (if r = 0 then 0 else 97) → refBytes s.dev h.src x = some key →
    exec (.sessionKeySet h k r x) s = becomes s
      (complete s.dev.host.nextCid cDone 0 0 (keySet k r key (accepted h (.sessionKeySet k r x) s.dev))))
  ∧ (∀ (h : CmdHdr) (id off : Nat) (x : DRef) (rec : SceneRec) (s : State), Ready h (.sceneRead id off x) s.dev →
    sceneRec s.dev id = some rec → off ≤ rec.length →
    let n := Nat.min x.len (rec.length - off)
    refFits s.dev h.src x.addr n = true →
    exec (.sceneRead h id off x) s = becomes s (complete s.dev.host.nextCid cDone 0 n
      (refPut h.src x.addr (storeRead s.dev (rec.offset + 64 + off) n) (accepted h (.sceneRead id off x) s.dev))))

/-- SET_MODE, REANCHOR_TIME, SET_AIR, SET_OUTPUT_AVAIL, SET_ROUTE_GAIN, SET_ROUTE_SOURCE: a command that passes its
checks stays in flight, and what it asks for waits for its apply QN; nothing else changes (R26, R80, R112, R125, R184,
R185). Readings and choices of the model: log 20, 21. -/
def Obligations.CommandsThatWaitForTheirApplyQn : Prop :=
  (∀ (h : CmdHdr) (m scope q : Nat) (t : Mode) (s : State), Ready h (.setMode m scope) s.dev → Mode.ofCode m = some t →
    scope ≤ 1 → t ≠ .boot → transNow s.dev = none → t ≠ s.dev.sys.mode → modeRow s.dev.sys.mode t = true →
    modePre s.dev t = true → cmdQn s.dev (.setMode m scope) h.applyQn false = some q →
    let d := accepted h (.setMode m scope) s.dev
    exec (.setMode h m scope) s = becomes s { d with
      sys := { d.sys with sched := some ⟨t, q, 2, some s.dev.host.nextCid, .waiting⟩ }
      host := { d.host with startMode := if h.src = .firmware then d.host.startMode else none } })
  ∧ (∀ (h : CmdHdr) (st : Int) (q : Nat) (s : State), Ready h (.reanchorTime st) s.dev →
    cmdQn s.dev (.reanchorTime st) h.applyQn false = some q →
    reanchorFits (ptOfQn s.dev q) s.dev st = true →
    let d := accepted h (.reanchorTime st) s.dev
    exec (.reanchorTime h st) s = becomes s { d with
      time := { d.time with reanchors := d.time.reanchors ++ [⟨q, st, s.dev.host.nextCid⟩] } })
  ∧ (∀ (h : CmdHdr) (t : Int) (r q : Nat) (s : State), Ready h (.setAir t r) s.dev → -10240 ≤ t → t ≤ 15360 → r ≤ 100 →
    cmdQn s.dev (.setAir t r) h.applyQn false = some q →
    let d := accepted h (.setAir t r) s.dev
    exec (.setAir h t r) s = becomes s { d with
      geom := { d.geom with airReqs := d.geom.airReqs ++ [⟨q, t, r, some s.dev.host.nextCid⟩] } })
  ∧ (∀ (h : CmdHdr) (o a q : Nat) (s : State), Ready h (.setOutputAvail o a) s.dev → o ≤ 511 → a ≤ 1 → role s.dev ≠ 1 →
    cmdQn s.dev (.setOutputAvail o a) h.applyQn false = some q → s.dev.geom.nextAct ≤ q →
    let d := accepted h (.setOutputAvail o a) s.dev
    exec (.setOutputAvail h o a) s = becomes s { d with
      geom := { d.geom with
        availReqs := d.geom.availReqs ++ [⟨q, o, decide (a = 1), if a = 1 then 6 else 5, some s.dev.host.nextCid, none⟩] } })
  ∧ (∀ (h : CmdHdr) (e g q : Nat) (s : State), Ready h (.setRouteGain e g) s.dev → gainOk g = true →
    cmdQn s.dev (.setRouteGain e g) h.applyQn false = some q →
    let d := accepted h (.setRouteGain e g) s.dev
    exec (.setRouteGain h e g) s = becomes s { d with
      route := { d.route with gainWaits := d.route.gainWaits ++ [⟨e, sext 24 g, q, s.dev.host.nextCid, none⟩] } })
  ∧ (∀ (h : CmdHdr) (sl c q : Nat) (s : State), Ready h (.setRouteSource sl c) s.dev → sl ≤ 7 → routeSourceOk c = true →
    cmdQn s.dev (.setRouteSource sl c) h.applyQn false = some q →
    let d := accepted h (.setRouteSource sl c) s.dev
    exec (.setRouteSource h sl c) s = becomes s { d with
      route := { d.route with sourceWaits := d.route.sourceWaits ++ [⟨sl, c, q, s.dev.host.nextCid⟩] } })

/-- SET_OPPOINT, PLAN_SWAP, CORR_SWAP, DEC_CONFIG, DEC_COMP_SWAP outside CONFIG, with no such change waiting: what
they schedule, with the effects that they have on their arrival (R172, R178, R243, R271, R298, R299, R488 to R490).
Readings and choices of the model: log 20, 41, 89. -/
def Obligations.CommandsThatScheduleAChange : Prop :=
  (∀ (h : CmdHdr) (p q : Nat) (s : State), Ready h (.setOppoint p) s.dev → s.dev.sys.mode ≠ .config →
    cmdQn s.dev (.setOppoint p) h.applyQn false = some q → oppointCheck s.dev p (some q) = (cDone, false) →
    s.dev.pwr.step = none →
    let d := accepted h (.setOppoint p) s.dev
    let up := decide (p < s.dev.pwr.point)
    let write := up && decide (q ≤ qnNow s.dev + 3)
    exec (.setOppoint h p) s = becomes s { d with
      pwr := { d.pwr with
        step := some ⟨p, q, if up then q else q + fadeN s.dev, up, s.dev.host.nextCid, write, false, false⟩ }
      out := if write then d.out ++ [.avs (targetMv s.dev p)] else d.out })
  ∧ (∀ (h : CmdHdr) (p x q : Nat) (s : State), Ready h (.planSwap p x) s.dev → s.dev.sys.mode ≠ .config →
    (fget? s.dev.plan.held p).isSome = true → x % 32 = 0 → 32 ≤ x → x ≤ 1024 →
    (∀ y, s.dev.plan.active = some y → y.index ≠ p) →
    cmdQn s.dev (.planSwap p x) h.applyQn false = some q → s.dev.plan.running = none → s.dev.plan.pending = none →
    let d := accepted h (.planSwap p x) s.dev
    let r : SwapReq := ⟨p, q, x, some s.dev.host.nextCid, s.dev.plan.swapSeq, false⟩
    exec (.planSwap h p x) s = becomes s (swapTell r (leadStart p { d with
      plan := { d.plan with pending := some r, swapSeq := (s.dev.plan.swapSeq + 1) % 65536 } })))
  ∧ (∀ (h : CmdHdr) (j k x q : Nat) (s : State), Ready h (.corrSwap j k x) s.dev → s.dev.sys.mode ≠ .config →
    swapOutputs s.dev j = [j] → k ≤ 31 → 32 ≤ x → x ≤ 1024 → cmdQn s.dev (.corrSwap j k x) h.applyQn false = some q →
    (corr s.dev j).fade = none → (corr s.dev j).pending = none →
    exec (.corrSwap h j k x) s = becomes s
      (putCorr j { corr s.dev j with pending := some ⟨q, k, x, some s.dev.host.nextCid⟩, inactive := 3 }
        (accepted h (.corrSwap j k x) s.dev)))
  ∧ (∀ (h : CmdHdr) (c w r f q : Nat) (s : State), Ready h (.decConfig c w r f) s.dev → c < 128 →
    applyQn s.dev h.applyQn = some q → decWordsOk s.dev c w r f = true → streamSplit s.dev c r = false →
    (decCh s.dev c).pending = none →
    exec (.decConfig h c w r f) s = becomes s
      (putDec c { decCh s.dev c with pending := some ⟨q, w, r, f, s.dev.host.nextCid⟩ } (accepted h (.decConfig c w r f) s.dev)))
  ∧ (∀ (h : CmdHdr) (c q : Nat) (s : State), Ready h (.decCompSwap c) s.dev → c < 128 →
    applyQn s.dev h.applyQn = some q → (decCh s.dev c).written = true → (decCh s.dev c).swap = none →
    exec (.decCompSwap h c) s = becomes s
      (putDec c { decCh s.dev c with swap := some ⟨q, s.dev.host.nextCid⟩ } (accepted h (.decCompSwap c) s.dev)))

/-- PLAN_LOAD, CORR_LOAD, STREAM_SET, STREAM_CLEAR, DRV_DIAG, DRV_CLEAR, AGE_MEASURE, SCENE_WRITE, SCENE_ERASE: a
command that passes its checks starts its work, or makes it and completes (R168, R270, R315, R321, R361, R440, R508).
Readings and choices of the model: log 20, 35, 60. -/
def Obligations.CommandsThatStartWork : Prop :=
  (∀ (h : CmdHdr) (p r : Nat) (x : DRef) (img : Bytes) (s : State), Ready h (.planLoad p 0 r x) s.dev →
    s.dev.plan.load = none → planInUse s.dev p = false → refBytes s.dev h.src x = some img →
    let d := accepted h (.planLoad p 0 r x) s.dev
    exec (.planLoad h p 0 r x) s = becomes s { d with
      plan := { d.plan with load := some ⟨s.dev.host.nextCid, p, img, img.length⟩ } })
  ∧ (∀ (h : CmdHdr) (j : Nat) (x : DRef) (img : Bytes) (p : Plan) (s : State), Ready h (.corrLoad j x) s.dev → j < 512 →
    refBytes s.dev h.src x = some img → imageOk img = true → s.dev.plan.active = some p → leAt img 4 2 = j →
    leAt img 6 1 = paramTaps (planParam p j) → corrBusy (corr s.dev j) = false →
    exec (.corrLoad h j x) s = becomes s
      (putCorr j { corr s.dev j with
          inactive := 1, loadCid := some s.dev.host.nextCid, loading := bankOf img, autoSwap := false }
        (completeOpt (corr s.dev j).loadCid cSuperseded 0 (setFlag 0xA0004 0 (accepted h (.corrLoad j x) s.dev)))))
  ∧ (∀ (h : CmdHdr) (x : DRef) (b : Bytes) (s : State), Ready h (.streamSet x) s.dev → x.len = 128 →
    refBytes s.dev h.src x = some b → ctxLocked s.dev (decide (dDir b = 1)) (leAt b 20 4) = false →
    descFormatOk b = true → descRangeOk s.dev b = true →
    exec (.streamSet h x) s = becomes s (completed h (.streamSet x) s.dev cDone 0
      (putCtx (decide (dDir b = 1)) (leAt b 20 4) { desc := b } s.dev)))
  ∧ (∀ (h : CmdHdr) (c v : Nat) (s : State), Ready h (.streamClear c v) s.dev → ctxLocked s.dev (decide (v = 1)) c = false →
    exec (.streamClear h c v) s = becomes s (completed h (.streamClear c v) s.dev cDone 0
      { s.dev with net := { s.dev.net with ctxs := ferase s.dev.net.ctxs (c + 256 * b2n (decide (v = 1))) } }))
  ∧ (∀ (h : CmdHdr) (m : Nat) (s : State), Ready h (.drvDiag m) s.dev →
    let heads := ((setIdx 16 m).map (drvLead s.dev)).eraseDups
    heads ≠ [] → (∀ c ∈ heads, (drvCh s.dev c).state = 0 ∨ drvLatched s.dev c = true) →
    let d := accepted h (.drvDiag m) s.dev
    exec (.drvDiag h m) s = becomes s (forL heads (diagStart .command)
      { d with drv := { d.drv with cmds := d.drv.cmds ++ [⟨s.dev.host.nextCid, setIdx 16 m, 0⟩] } }))
  ∧ (∀ (h : CmdHdr) (m : Nat) (s : State), Ready h (.drvClear m) s.dev →
    let named := setIdx 16 m
    let left := named.filter (fun c => !drvLatched s.dev c)
    let heads := ((named.filter (drvLatched s.dev)).map (drvLead s.dev)).eraseDups
    exec (.drvClear h m) s = becomes s (complete s.dev.host.nextCid (if left = [] then cDone else cPartial) 0
      (left.foldl (fun n c => n + 2 ^ c) 0)
      (forL heads (fun c d => diagStart .retry c (updDrv c (fun x => { x with retries := 0 }) d))
        (accepted h (.drvClear m) s.dev))))
  ∧ (∀ (h : CmdHdr) (s : State), Ready h .ageMeasure s.dev → s.dev.age.measuring = false →
    let d := accepted h .ageMeasure s.dev
    exec (.ageMeasure h) s = becomes s { d with
      age := { d.age with measuring := true, cid := some s.dev.host.nextCid } })
  ∧ (∀ (h : CmdHdr) (id k f : Nat) (x : DRef) (bs : Bytes) (s : State), Ready h (.sceneWrite id k f x) s.dev →
    s.dev.host.sceneOp = none → f ≤ 1 → 1 ≤ id → id ≤ 0xFFFFFFFE → x.len ≤ 2 ^ 26 → refBytes s.dev h.src x = some bs →
    let header (d : Dev) := sceneHeader id k f bs.length (sceneNextGen s.dev id) d.host.sceneWseq (d.time.pt / secNs)
    sceneCheck s.dev (header s.dev) k bs = cDone → sceneFits s.dev id bs.length = true →
    let d := sceneRoom bs.length (accepted h (.sceneWrite id k f x) s.dev)
    let body := header d ++ bs
    exec (.sceneWrite h id k f x) s = becomes s { d with
      flash := (flashProgram (sceneBase + d.host.sceneHead) (body ++ leBytes 4 (crc32c body)) d).flash
      host := { d.host with
        sceneOp := some ⟨some s.dev.host.nextCid, id, k, f, bs, sceneNextGen s.dev id⟩ } })
  ∧ (∀ (h : CmdHdr) (id : Nat) (s : State), Ready h (.sceneErase id) s.dev → s.dev.host.sceneOp = none →
    (sceneRec s.dev id).isSome = true → sceneFits s.dev id 0 = true →
    let d := sceneRoom 0 (accepted h (.sceneErase id) s.dev)
    let head := sceneHeader id 0 0 0 (sceneNextGen s.dev id) d.host.sceneWseq (d.time.pt / secNs)
    exec (.sceneErase h id) s = becomes s { d with
      flash := (flashProgram (sceneBase + d.host.sceneHead) (head ++ leBytes 4 (crc32c head)) d).flash
      host := { d.host with
        sceneOp := some ⟨some s.dev.host.nextCid, id, 0, 0, [], sceneNextGen s.dev id⟩ } })

/-- A mirrored command on a formed pair is judged, and while it stays in flight it is proposed to the partner with its
apply QN; PAIR_RESYNC is one of them: the device that it names goes to SAFE at the apply QN (R390, R391, R403).
COMMAND_FETCH, FETCH_RESUME, FENCE_TIMEOUT, COMPLETION_RELEASE: an entry fetched moves the ring's index and waits with
the commands before it; what may be accepted is; a fence that has held its command for more than 30 s completes
TIMEOUT; a held completion leaves when its ring has room (R416, R417, R425, R430). Readings and choices of the model:
log 20, 64, 76. -/
def Obligations.CommandsAreProposedAndFetchedInOrder : Prop :=
  (∀ (h : CmdHdr) (c : Cmd) (q : Nat) (s : State), Acceptable h s.dev → roleOk s.dev h.src (cmdOpcode c) = true →
    h.hdrRsvd = false → (h.applyQn = 0 ∨ takesQn (cmdOpcode c) = true) → isMirrored c = true → pairFormed s.dev = true →
    mirrorTwin s.dev h c = none → cmdQn s.dev c h.applyQn false = some q →
    let d := judge s.dev.host.nextCid h (some q) false c (accepted h c s.dev)
    exec (issue h c) s = becomes s
      (if stillInFlight d s.dev.host.nextCid then propose s.dev.host.nextCid q h c d else d))
  ∧ (∀ (h : CmdHdr) (v q : Nat) (s : State), Acceptable h s.dev → roleOk s.dev h.src 0x70 = true → h.hdrRsvd = false →
    h.parRsvd = false → s.dev.sys.mode = .central → pairFormed s.dev = true → mirrorTwin s.dev h (.pairResync v) = none →
    cmdQn s.dev (.pairResync v) h.applyQn false = some q → v ≤ 1 → transNow s.dev = none → s.dev.pair.resyncCid = none →
    let d := accepted h (.pairResync v) s.dev
    let own := decide (devIndex s.dev = v)
    exec (.pairResync h v) s = becomes s (propose s.dev.host.nextCid q h (.pairResync v) { d with
      pair := { d.pair with resyncCid := some s.dev.host.nextCid, resyncSelf := own }
      sys := if own then { d.sys with sched := some ⟨.safe, q, 2, none, .waiting⟩ } else d.sys }))
  ∧ (∀ (e host : Bytes) (s : State), ringRunning s.dev 0 = true → ringHeld s.dev 0 ≠ 0 → cmdsRun s.dev = true →
    fetchStalled s.dev = false →
    exec (.commandFetch .host e host false) s = becomes s
      (acceptAll (enqueueEntry .host (padTo 64 e) host (ringAdvance 0 s.dev)))
    ∧ exec (.commandFetch .host e host true) s = becomes s (ringPcieErr 0 s.dev))
  ∧ (∀ (w : Waiting) (s : State), s.dev.host.waitQ = [w] → mayAccept s.dev w = true → inFlightCount s.dev < 64 →
    exec .fetchResume s = becomes s (accept w { s.dev with host := { s.dev.host with waitQ := [] } }))
  ∧ (∀ s : State, (∀ w ∈ s.dev.host.waitQ, mayAccept s.dev w = false) → exec .fetchResume s = .next s)
  ∧ (∀ (w : Waiting) (s : State), s.dev.host.waitQ = [w] → w.hdr.flags.testBit 0 = true →
    sourceBusy s.dev w.hdr.src = true → cmdsRun s.dev = true → w.since + 30 * secNs < s.dev.time.now →
    (∀ f ∈ s.dev.host.inflight, f.cid < s.dev.host.nextCid) →
    exec (.fenceTimeout w.hdr.src) s = becomes s
      (sendCompl ⟨s.dev.host.nextCid, w.hdr.src, w.opcode, w.hdr.cring, w.hdr.tag, false⟩ cTimeout 0 0
        { s.dev with host := { s.dev.host with waitQ := [], nextCid := s.dev.host.nextCid + 1 } }))
  ∧ (∀ (c : Compl) (rest : List Compl) (r : Nat) (s : State), s.dev.host.holding = c :: rest →
    complRing s.dev c.cring = some r →
    (ringFull s.dev r = true → exec .completionRelease s = .next s)
    ∧ (ringFull s.dev r = false → exec .completionRelease s = becomes s
      (ringProduce r (complBytes c) { s.dev with host := { s.dev.host with holding := rest } })))

/-! ### Modes, faults and the render domain -/

/-- TRANSITION_COMPLETE, FAULT_ENTRY_SAFE, QN_NEAR_END, QN_EXHAUSTED, STARTUP_SLOW: a transition whose ramps have
ended takes its mode, its cause and its QN, appends to the mode history and completes DONE; fault causes in a
rendering mode lead to SAFE with the lowest code; the ends of the quantum numbers and slow start-up steps are raised,
and at the last departure boundary itself the device is in SAFE (R23 to R25, R31, R33, R47, R55, R56). Readings and
choices of the model: log 19, 26, 29. -/
def Obligations.ModesChangeAsTransitionsAndFaultsSay : Prop :=
  (∀ (t : Trans) (s : State), s.dev.sys.running = some t → t.phase = .ready → t.target ≠ .stop → t.target ≠ .config →
    s.dev.sys.pendReq = none → s.dev.pair.resyncSelf = false →
    exec .transitionComplete s = becomes s (completeOpt t.cid cDone t.applyQn
      (raiseEvent evModeChanged (leBytes 1 t.target.code ++ leBytes 1 t.cause ++ leBytes 5 t.applyQn) { s.dev with
        sys := { s.dev.sys with running := none, mode := t.target, cause := t.cause, modeQn := t.applyQn }
        host := { s.dev.host with history := s.dev.host.history ++ [(t.target.code, t.cause, t.applyQn)] }
        survey := { s.dev.survey with running := false, step := 0, stepQn := 0, tailQn := 0, heard := [] } })))
  ∧ (∀ (t : Trans) (s : State), s.dev.sys.running = some t → t.phase = .ready → t.target = .config →
    s.dev.sys.pendReq = none → s.dev.pair.resyncSelf = false → s.dev.age.margins = [] → s.dev.age.nextMhz = none →
    Completes .transitionComplete s (fun u => u.dev.sys.mode = .config ∧ u.dev.sys.cause = t.cause
      ∧ u.dev.sys.modeQn = t.applyQn ∧ u.dev.sys.running = none ∧ u.dev.geom = { s.dev.geom with fresh := true }
      ∧ u.dev.host.history = s.dev.host.history ++ [(1, t.cause, t.applyQn)]))
  ∧ (∀ s : State, (∃ c ∈ s.dev.sys.newCauses, c ≠ 3) → rendering s.dev = true → s.dev.pair.join = none →
    s.dev.sys.running = none → s.dev.sys.sched = none → s.dev.sys.pendReq = none →
    Completes .faultEntrySafe s (fun u => u.dev.sys.mode = .safe ∧ u.dev.sys.cause = entryCause s.dev.sys.newCauses
      ∧ u.dev.sys.modeQn = qnNow s.dev ∧ u.dev.sys.newCauses = [] ∧ u.dev.sys.rampUp = false
      ∧ u.dev.sys.rampQn = qnNow s.dev))
  ∧ (∀ s : State, s.dev.sys.newCauses = [] → exec .faultEntrySafe s = .next s)
  ∧ (∀ s : State, s.dev.time.counting = true → s.dev.sys.nearEndNext ≤ s.dev.time.qn →
    let k := (s.dev.time.qn - s.dev.sys.nearEndNext) / 2 ^ 24 + 1
    exec .qnNearEnd s = becomes s (raiseEvent evQnNearEnd [] { s.dev with
      sys := { s.dev.sys with nearEndNext := s.dev.sys.nearEndNext + k * 2 ^ 24 } }))
  ∧ (∀ s : State, s.dev.time.counting = true → 2 ^ 40 - 1 ≤ s.dev.time.qn → bitAt s.dev 0x230 8 = false →
    s.dev.pair.join = none → s.dev.sys.running = none → s.dev.sys.sched = none → s.dev.sys.pendReq = none →
    Completes .qnExhausted s (fun u => bitAt u.dev 0x230 8 = true ∧ u.dev.sys.newCauses = []
      ∧ u.dev.sys.mode = (if rendering s.dev then .safe else s.dev.sys.mode)
      ∧ u.dev.sys.cause = (if rendering s.dev then entryCause (s.dev.sys.newCauses ++ [0x10]) else s.dev.sys.cause)
      ∧ u.dev.sys.modeQn = (if rendering s.dev then qnNow s.dev else s.dev.sys.modeQn)))
  ∧ (∀ (n : Nat) (s : State), 1 ≤ n → n ≤ 10 →
    exec (.startupSlow n) s = becomes s (raiseEvent evStartupSlow (leBytes 1 n) s.dev))

/-- PREROLL_END, OUTPUT_RAMP_END, CM_RAMP_END: what follows when a phase of the running transition ends: the
common-mode ramps, the unmute, or the ready transition (R36, R37, R309, R310). Readings and choices of the model: log
27, 28. -/
def Obligations.RampsLeadToTheNextPhase : Prop :=
  (∀ (t : Trans) (s : State), s.dev.sys.running = some t → t.phase = .preroll →
    let d := transPhase .cmRampUp (drvAllUp s.dev)
    (t.target ≠ .survey → cmBusy d = true → exec .prerollEnd s = becomes s d)
    ∧ (t.target ≠ .survey → cmBusy d = false → exec .prerollEnd s = becomes s (unmute t.target d))
    ∧ (t.target = .survey → exec .prerollEnd s = .next s))
  ∧ (∀ (t : Trans) (s : State), s.dev.sys.running = some t → t.phase = .outputRampUp →
    exec .outputRampEnd s = becomes s { s.dev with
      sys := { s.dev.sys with running := some { t with phase := .ready } } })
  ∧ (∀ (t : Trans) (s : State), s.dev.sys.running = some t → t.phase = .outputRampDown → t.target = .safe →
    exec .outputRampEnd s = becomes s (transPhase .ready (drvIdle s.dev)))
  ∧ (∀ (t : Trans) (s : State), s.dev.sys.running = some t → t.phase = .outputRampDown → t.target ≠ .safe →
    let d := transPhase .cmRampDown (drvAllDown s.dev)
    (cmBusy d = true → exec .outputRampEnd s = becomes s d)
    ∧ (cmBusy d = false → exec .outputRampEnd s
        = becomes s (transPhase (if t.target = .stop then .stopping else .ready) d)))
  ∧ (∀ (c : Nat) (m : CmRamp) (s : State), (drvCh s.dev c).ramp = some m → c ∈ drvMembers s.dev c →
    s.dev.sys.running = none →
    Completes (.cmRampEnd c) s (fun u => (drvCh u.dev c).ramp = none ∧ (drvCh u.dev c).state =
      (if m.up then (if (drvCh s.dev c).retrying && rendering s.dev then 4 else 3) else 0)))

/-- DOMAIN_FRAME_SEND, DOMAIN_FRAME_RECEIVE, DEVICE_ABSENT: a domain frame goes to every port with a link and its
number rises; a received one that fails R41 is counted, one that passes marks its sender as heard; a missing device is
marked absent (R40 to R42, R44). Readings and choices of the model: log 49, 50, 51, 70, 102, 105. -/
def Obligations.DomainFramesTellWhoIsPresent : Prop :=
  (∀ s : State, s.dev.sys.mode = .config ∨ rendering s.dev = true → s.dev.geom.availSent = false →
    s.dev.plan.running = none → s.dev.plan.pending = none → s.dev.plan.heldSwap = none →
    let d := multicast 6 51230 (domainFrame s.dev) s.dev
    exec .domainFrameSend s = becomes s { d with
      sys := { d.sys with domainSeq := (s.dev.sys.domainSeq + 1) % 2 ^ 32 } })
  ∧ (∀ (ip : Nat) (b : Bytes) (s : State), domainOk s.dev b = false →
    exec (.domainFrameReceive ip b) s = becomes s (incCnt 0x220 s.dev))
  ∧ (∀ (ip : Nat) (b : Bytes) (s : State), domainOk s.dev b = true →
    let i := beAt b 3 1 % 64
    i ≠ devIndex s.dev → fget false s.dev.sys.absent i = false → (beAt b 7 1).testBit 1 = false →
    exec (.domainFrameReceive ip b) s = becomes s { s.dev with
      sys := { s.dev.sys with
        heard := fput 0 s.dev.sys.heard i (s.dev.time.now + 1)
        centralAt := if i < 2 then s.dev.time.now + 1 else s.dev.sys.centralAt } })
  ∧ (∀ (i : Nat) (s : State), i < 64 → fget 0 s.dev.sys.heard i ≠ 0 → i ≠ devIndex s.dev → role s.dev ≠ 1 →
    exec (.deviceAbsent i) s = becomes s { s.dev with
      sys := { s.dev.sys with
        heard := fput 0 s.dev.sys.heard i 0
        absent := fput false s.dev.sys.absent i true } })
  ∧ (∀ s : State, fget 0 s.dev.sys.heard (devIndex s.dev) ≠ 0 → devIndex s.dev < 64 →
    exec (.deviceAbsent (devIndex s.dev)) s = becomes s { s.dev with
      sys := { s.dev.sys with
        heard := fput 0 s.dev.sys.heard (devIndex s.dev) 0
        indexConflict := false
        clashNoted := false } })

/-! ### Presentation time -/

/-- TIME_ADDEND_WRITE, TIME_ADJ_WRITE, TIME_SET_COMMIT, TIME_EPOCH_COMMIT, SLEW_COMPLETE: how software steers the
counter: the rate within its range, a slew or a refused jump, a load in CONFIG, the epoch (R62, R73 to R75, R83).
Readings and choices of the model: log 36, 37. -/
def Obligations.SoftwareSteersTheCounter : Prop :=
  (∀ (m : Master) (v : Nat) (s : State), 0x1FFBE76D ≤ v → v ≤ 0x20041893 →
    exec (.timeAddendWrite m v) s = becomes s (wrN 0x20008 v s.dev))
  ∧ (∀ (m : Master) (v : Nat) (s : State), v < 0x1FFBE76D ∨ 0x20041893 < v →
    exec (.timeAddendWrite m v) s = becomes s (setFlag 0x20004 12 s.dev))
  ∧ (∀ (m : Master) (v : Nat) (s : State),
    jumpGuard s.dev = false ∨ (sext 32 v).natAbs ≤ rdN s.dev 0x2000C →
    exec (.timeAdjWrite m v) s = becomes s { s.dev with
      time := { s.dev.time with slewRem := sext 32 v * slewUnit, slewAcc := 0 } })
  ∧ (∀ (m : Master) (v : Nat) (s : State), jumpGuard s.dev = true → rdN s.dev 0x2000C < (sext 32 v).natAbs →
    s.dev.time.qualified = false →
    exec (.timeAdjWrite m v) s
      = becomes s (raiseEvent evTimeJumpRefused (leInt 4 (sext 32 v)) (setFlag 0x20004 8 s.dev)))
  ∧ (∀ (m : Master) (v : Nat) (s : State), rdN s.dev 0x2000C < (sext 32 v).natAbs → s.dev.time.qualified = true →
    Completes (.timeAdjWrite m v) s (fun u => u.dev.time.holdover = true ∧ u.dev.time.pt = s.dev.time.pt
      ∧ u.dev.time.slewRem = s.dev.time.slewRem ∧ bitAt u.dev 0x20004 8 = true))
  ∧ (∀ (m : Master) (v : Nat) (s : State), s.dev.sys.mode = .config → v < secNs →
    let pt := (s.dev.time.setLo + s.dev.time.setHi % 65536 * 2 ^ 32) * secNs + v
    let t := (recountQn { s.dev with time := { s.dev.time with pt := pt } }).time
    Completes (.timeSetCommit m v) s (fun u => u.dev.time.pt = pt ∧ u.dev.time.frac = 0 ∧ u.dev.time.slewRem = 0
      ∧ u.dev.time.qualified = false ∧ u.dev.time.goodSyncs = 0 ∧ u.dev.time.qn = t.qn ∧ u.dev.time.counting = t.counting
      ∧ u.dev.time.epoch = s.dev.time.epoch ∧ u.dev.sys = s.dev.sys ∧ u.dev.mem = s.dev.mem))
  ∧ (∀ (m : Master) (v : Nat) (s : State), s.dev.sys.mode ≠ .config →
    exec (.timeSetCommit m v) s = becomes s (lockedWrite 0x20030 s.dev))
  ∧ (∀ (m : Master) (v : Nat) (s : State), s.dev.sys.mode = .config → v < secNs →
    let e := (rdN s.dev 0x20044 + rdN s.dev 0x20048 % 65536 * 2 ^ 32) * secNs + v
    (s.dev.time.pt - e) * fsHz s.dev / (32 * secNs) < 2 ^ 40 - 2 ^ 31 →
    Completes (.timeEpochCommit m v) s (fun u => u.dev.time.epoch = e ∧ u.dev.time.epochSet = true
      ∧ u.dev.time.pt = s.dev.time.pt ∧ u.dev.time.counting = decide (e ≤ s.dev.time.pt)
      ∧ u.dev.time.qn = (s.dev.time.pt - e) * fsHz s.dev / (32 * secNs)))
  ∧ (∀ (m : Master) (v : Nat) (s : State), s.dev.sys.mode = .config → secNs ≤ v →
    exec (.timeSetCommit m v) s = becomes s (setFlag 0x20004 12 s.dev)
    ∧ exec (.timeEpochCommit m v) s = becomes s (setFlag 0x20004 12 s.dev))
  ∧ (∀ s : State, 0 < slewTick s.dev → s.dev.sys.mode ≠ .stop →
    let n := ceilDiv s.dev.time.slewRem.natAbs (slewTick s.dev)
    let sum : Int := s.dev.time.frac + (n * rdN s.dev 0x20008 : Nat) + (s.dev.time.slewAcc + s.dev.time.slewRem) / 100000
    Completes .slewComplete s (fun u => u.dev.time.slewRem = 0
      ∧ u.dev.time.pt = (s.dev.time.pt + (sum / 2 ^ 28).toNat) % ptMod ∧ u.dev.time.now = s.dev.time.now + 2 * n))

/-- PTP_MESSAGE_RECEIVE, PTP_MESSAGE_SEND, TIME_QUALIFY, ANNOUNCE_RECEIPT_TIMEOUT, HOLDOVER_FOLLOW_SECOND,
HOLDOVER_EXPIRED: the time service measures offsets and delays, sends, qualifies, falls into holdover when a port
leaves SLAVE and follows its partner there (R68 to R70, R72, R76, R77, R79). Readings and choices of the model: log
31, 106. -/
def Obligations.TheTimeServiceFollowsItsMaster : Prop :=
  (∀ (p dom seq origin : Nat) (s : State), ptpTakes s.dev p dom = true → 8 ≤ fget 1 s.dev.time.portStates p →
    s.dev.time.holdover = false →
    let rx := rxStamp s.dev p
    let off := rx - (origin : Int) - (rdN s.dev 0x2002C : Int)
    off.natAbs ≤ 1000 → off.natAbs ≤ rdN s.dev 0x2000C →
    exec (.ptpMessageReceive p (.sync dom seq false origin)) s = becomes s { wrN 0x20028 (wrapN 32 off) s.dev with
      time := { s.dev.time with
        portStates := fput 1 s.dev.time.portStates p 9, lastSlave := p
        ptp := { s.dev.time.ptp with toSlave := fput 0 s.dev.time.ptp.toSlave p (rx - origin) }
        goodSyncs := s.dev.time.goodSyncs + 1, slewRem := -off * slewUnit, slewAcc := 0 } })
  ∧ (∀ (p dom seq origin : Nat) (s : State), ptpTakes s.dev p dom = true →
    exec (.ptpMessageReceive p (.sync dom seq true origin)) s = becomes s { s.dev with
      time := { s.dev.time with
        ptp := { s.dev.time.ptp with syncRx := fins s.dev.time.ptp.syncRx p (seq, rxStamp s.dev p) } } })
  ∧ (∀ (p dom seq origin : Nat) (rx : Int) (s : State), ptpTakes s.dev p dom = true →
    fget? s.dev.time.ptp.syncRx p = some (seq, rx) → 8 ≤ fget 1 s.dev.time.portStates p → s.dev.time.holdover = false →
    let off := rx - (origin : Int) - (rdN s.dev 0x2002C : Int)
    off.natAbs ≤ 1000 → off.natAbs ≤ rdN s.dev 0x2000C →
    exec (.ptpMessageReceive p (.followUp dom seq origin)) s = becomes s { wrN 0x20028 (wrapN 32 off) s.dev with
      time := { s.dev.time with
        portStates := fput 1 s.dev.time.portStates p 9, lastSlave := p
        ptp := { s.dev.time.ptp with
          syncRx := ferase s.dev.time.ptp.syncRx p, toSlave := fput 0 s.dev.time.ptp.toSlave p (rx - origin) }
        goodSyncs := s.dev.time.goodSyncs + 1, slewRem := -off * slewUnit, slewAcc := 0 } })
  ∧ (∀ (p dom seq receive t3 : Nat) (s : State), ptpTakes s.dev p dom = true → bitAt s.dev 0x20000 3 = false →
    sentTime s.dev p 1 seq = some t3 →
    exec (.ptpMessageReceive p (.delayResp dom seq receive)) s = becomes s
      (wrN 0x2002C (min ((fget 0 s.dev.time.ptp.toSlave p + ((receive : Int) - t3)) / 2).toNat 0xFFFFFFFF) s.dev))
  ∧ (∀ (p dom seq t t1 : Nat) (s : State), ptpTakes s.dev p dom = true → bitAt s.dev 0x20000 3 = true →
    sentTime s.dev p 2 seq = some t1 →
    exec (.ptpMessageReceive p (.pdelayResp dom seq false t)) s = becomes s
      (wrN 0x2002C (min ((rxStamp s.dev p - t1 - t) / 2).toNat 0xFFFFFFFF) s.dev))
  ∧ (∀ (p ns : Nat) (s : State), ptpRuns s.dev = true → ns < 2 ^ 32 →
    exec (.ptpMessageReceive p (.pathDelay ns)) s = becomes s (wrN 0x2002C ns s.dev))
  ∧ (∀ (p st : Nat) (s : State), ptpRuns s.dev = true → (st = 6 → bitAt s.dev 0x20000 2 = false) →
    exec (.ptpMessageReceive p (.portState st)) s = becomes s { s.dev with
      time := { s.dev.time with
        portStates := fput 1 s.dev.time.portStates p st
        lastSlave := if 8 ≤ st then p else s.dev.time.lastSlave } })
  ∧ (∀ (p : Nat) (s : State), ptpRuns s.dev = true → s.dev.time.qualified = true → s.dev.time.holdover = false →
    exec (.ptpMessageReceive p .newMaster) s = becomes s (if s.dev.pair.state = 2 then raiseEvent evTimeHoldover [] { s.dev with
      time := { s.dev.time with
        holdover := true, holdAge := 0, holdFrac := 0, holdExpired := false
        thetaPrev := none, thetaSum := 0, thetaCnt := 0 } } else s.dev))
  ∧ (∀ (p : Nat) (b : Bytes) (s : State), ptpRuns s.dev = true → ptpPort s.dev p = true →
    let type := beAt b 0 1 % 16
    (followUpOf type = none →
      exec (.ptpMessageSend p b) s = becomes s (txPush p 7 (if type < 4 then 319 else 320) b s.dev))
    ∧ (∀ k t, followUpOf type = some k → sentTime s.dev p k (beAt b 30 2) = some t →
      exec (.ptpMessageSend p b) s = becomes s (txPush p 7 320 (putStamp t b) s.dev)))
  ∧ (∀ s : State,
    let d := { s.dev with
      time := { s.dev.time with
        qualified := s.dev.time.qualified || (ptpRuns s.dev && decide (16 ≤ s.dev.time.goodSyncs)) } }
    exec .timeQualify s = becomes s
      (if role s.dev = 1 ∧ bitAt s.dev 0x210 9 = true ∧ s.dev.time.qualified = false then startTry d else d))
  ∧ (∀ (p n : Nat) (s : State), ptpRuns s.dev = true → fget 1 s.dev.time.portStates p = 9 → bitAt s.dev 0x20000 2 = true →
    s.dev.time.qualified = true → s.dev.time.holdover = false →
    (∀ e ∈ s.dev.time.ptp.best, e.1 = p) → (∀ k, k < 4 → k ≠ p → fget 1 s.dev.time.portStates k < 8) →
    Completes (.announceReceiptTimeout p n) s (fun u => fget 1 u.dev.time.portStates p = 4 ∧ u.dev.time.lastSlave = p
      ∧ u.dev.time.holdover = true ∧ u.dev.time.holdAge = 0))
  ∧ (∀ (p n : Nat) (s : State), ptpRuns s.dev = true → fget 1 s.dev.time.portStates p = 8 →
    (∀ e ∈ s.dev.time.ptp.best, e.1 = p) → (∀ k, k < 4 → k ≠ p → fget 1 s.dev.time.portStates k < 8) →
    Completes (.announceReceiptTimeout p n) s (fun u => u.dev.time.lastSlave = p
      ∧ fget 1 u.dev.time.portStates p = (if bitAt s.dev 0x20000 2 then 4 else if 4 ≤ n ∧ n ≤ 7 then n else 4)
      ∧ u.dev.time.holdover = s.dev.time.holdover))
  ∧ (∀ s : State, s.dev.time.holdover = true → s.dev.time.thetaCnt ≠ 0 →
    let sum := s.dev.time.thetaSum
    let cnt := s.dev.time.thetaCnt
    let mean := divEven sum cnt
    mean.natAbs ≤ rdN s.dev 0x2000C →
    exec .holdoverFollowSecond s = becomes s { (match s.dev.time.thetaPrev with
        | some x => wrN 0x20008 (followAddend (rdN s.dev 0x20008) sum cnt x.1 x.2) s.dev
        | none => s.dev) with
      time := { s.dev.time with
        thetaSum := 0, thetaCnt := 0, thetaPrev := some (sum, cnt), slewRem := mean * slewUnit, slewAcc := 0 } })
  ∧ (∀ s : State, s.dev.time.holdover = true → s.dev.time.holdExpired = false → rdN s.dev 0x20058 ≤ s.dev.time.holdAge →
    exec .holdoverExpired s = becomes s
      (causeFound 9 (setFlag 0x20004 9 { s.dev with time := { s.dev.time with qualified := false, holdExpired := true } })))

/-- SYNTH_LOCK, SYNTH_A_LOCK_LOSS, SYNTH_B_LOCK_LOSS, PULSE_ARM, PULSE_EDGE, ALARM_ENABLE, TIME_ALARM, TIME_TICK: the
media synthesisers, the pulse outputs, the alarms and the event of each second (R87 to R92). Readings and choices of
the model: log 5, 38, 39. -/
def Obligations.ClocksPulsesAndAlarms : Prop :=
  (∀ s : State, s.dev.sys.mode ≠ .stop →
    (bitAt s.dev 0x20060 0 = true →
      exec (.synthLock true) s = becomes s { s.dev with time := { s.dev.time with lockB := true } })
    ∧ (bitAt s.dev 0x20060 0 = false → exec (.synthLock true) s = .next s)
    ∧ (s.dev.time.lockA = false → Completes (.synthLock false) s (fun u => u.dev.time.lockA = true
        ∧ u.dev.dec.lockedAt = if s.dev.dec.lockedAt = 0 then s.dev.time.now + 1 else s.dev.dec.lockedAt)))
  ∧ (∀ s : State, s.dev.time.lockA = true →
    exec .synthALockLoss s = becomes s
      (causeFound 0xC (setFlag 0x140034 4 { s.dev with time := { s.dev.time with lockA := false } })))
  ∧ (∀ s : State, s.dev.time.lockB = true →
    Completes .synthBLockLoss s (fun u => u.dev.time = { s.dev.time with lockB := false }))
  ∧ (∀ (m : Master) (n v : Nat) (s : State), n < 4 → v % 4 = 1 → v.testBit 3 = true → 2 ^ 16 ≤ v → v < 2 ^ 32 →
    let a := pulseA n
    let start := fget 0 s.dev.time.pulseStart n
    8 ≤ rdN s.dev (a + 0x14) → rdN s.dev (a + 0x14) + 8 ≤ rdN s.dev (a + 0x10) → 1000 ≤ rdN s.dev (a + 0x10) →
    rdN s.dev (a + 0x10) ≤ 4000000000 →
    Completes (.pulseArm m n v) s (fun u => bitAt u.dev a 3 = true ∧
      if start < s.dev.time.pt then bitAt u.dev a 5 = true ∧ (pulse u.dev n).armed = false
        ∧ (pulse u.dev n).fallAt = (pulse s.dev n).fallAt
      else pulse u.dev n
        = ⟨true, 1, start, rdN s.dev (a + 0x10), rdN s.dev (a + 0x14), start, (pulse s.dev n).fallAt⟩))
  ∧ (∀ (n : Nat) (s : State), s.dev.sys.mode ≠ .stop → (pulse s.dev n).armed = true → (pulse s.dev n).mode = 1 →
    (pulse s.dev n).fallAt = none → (pulse s.dev n).next ≤ s.dev.time.pt →
    exec (.pulseEdge n) s = becomes s (putPulse n { pulse s.dev n with
      armed := false, fallAt := some ((pulse s.dev n).next + (pulse s.dev n).width) }
        (emit (.ball "TIME_PULSE" n (pulseLevel s.dev n true)) s.dev)))
  ∧ (∀ (n t : Nat) (s : State), (pulse s.dev n).armed = false → (pulse s.dev n).fallAt = some t → t ≤ s.dev.time.pt →
    exec (.pulseEdge n) s = becomes s (putPulse n { pulse s.dev n with fallAt := none }
        (emit (.ball "TIME_PULSE" n (pulseLevel s.dev n false)) s.dev)))
  ∧ (∀ (m : Master) (n v : Nat) (s : State), n < 8 → v.testBit 0 = true → v.testBit 1 = true → v < 2 ^ 32 →
    Completes (.alarmEnable m n v) s (fun u => alarm u.dev n
      = ⟨true, true, rdN s.dev (alarmA n + 4) + rdN s.dev (alarmA n + 8) % 256 * 2 ^ 32⟩))
  ∧ (∀ (n : Nat) (s : State), n < 8 → (alarm s.dev n).armed = true → (alarm s.dev n).byQn = false →
    bitAt s.dev (alarmA n) 2 = false → (alarm s.dev n).value ≤ s.dev.time.pt →
    Completes (.timeAlarm n) s (fun u => (alarm u.dev n).armed = false ∧ bitAt u.dev (alarmA n) 3 = true
      ∧ bitAt u.dev (alarmA n) 0 = false ∧ u.dev.time.pt = s.dev.time.pt))
  ∧ (∀ (n : Nat) (s : State), n < 8 → (alarm s.dev n).armed = true → (alarm s.dev n).byQn = false →
    s.dev.sys.mode ≠ .stop → s.dev.time.pt < (alarm s.dev n).value →
    let t := ticked s.dev (ticksTo (alarm s.dev n).value s.dev)
    (alarm s.dev n).value ≤ t.pt →
    Completes (.timeAlarm n) s (fun u => (alarm u.dev n).armed = false ∧ bitAt u.dev (alarmA n) 3 = true
      ∧ bitAt u.dev (alarmA n) 0 = false ∧ u.dev.time.pt = t.pt))
  ∧ (∀ s : State, (∀ n, n < 4 → (pulse s.dev n).armed = false ∧ (pulse s.dev n).fallAt = none ∧ bitAt s.dev (pulseA n) 3 = false) →
    (∀ n, n < 8 → (alarm s.dev n).armed = false) →
    let t := ticked s.dev (ticksTo ((s.dev.time.pt / secNs + 1) * secNs) s.dev)
    t.pt / secNs = s.dev.time.pt / secNs + 1 → t.pt % secNs < 3 →
    exec .timeTick s = becomes s (raiseEvent evTimeTick (ptBytes t.pt) { s.dev with time := t }))

/-! ### Quanta, objects and the mask of outputs -/

/-- QUANTUM_START, QUANTUM_ACTIVATION: a media edge counts the next quantum at the first tick at or after it and does
what waits for it; in CONFIG with nothing waiting it only counts; in Stop QN and TIME run alone; an activation
allocates the quantum's tasks, evaluates it and moves to the next (R84, R85, R94, R189, R536). Readings and choices of
the model: log 5, 37, 40. -/
def Obligations.QuantaCountAndActivate : Prop :=
  (∀ s : State,
    let q := if s.dev.time.counting then s.dev.time.qn + 1 else 0
    let d := timeQuantum q (runToThen (reanchorStep q) (edgeOfQn s.dev q) s.dev)
    (q < 2 ^ 40 → d.sys.mode ≠ .stop → exec .quantumStart s = becomes s (alarmWake s.dev (quantumWork q d)))
    ∧ (q < 2 ^ 40 → d.sys.mode = .stop → exec .quantumStart s = becomes s (alarmWake s.dev d))
    ∧ (2 ^ 40 ≤ q → exec .quantumStart s = .next s))
  ∧ (∀ s : State, s.dev.time.counting = true → s.dev.time.qn + 1 < 2 ^ 40 →
    s.dev.sys.mode = .config → s.dev.sys.newCauses = [] → s.dev.sys.sched = none → s.dev.plan.active = none →
    s.dev.plan.running = none → s.dev.plan.pending = none → s.dev.time.reanchors = [] → s.dev.route.gainWaits = [] →
    s.dev.route.sourceWaits = [] → s.dev.dec.chans = [] → s.dev.lupin.corr = [] → s.dev.lupin.finish = [] →
    s.dev.pwr.step = none → s.dev.geom.airReqs = [] → s.dev.geom.availReqs = [] → s.dev.pair = {} →
    s.dev.voice.present = [] → s.dev.voice.stagedUnset = [] → s.dev.voice.badLine = [] → s.dev.disp.store = [] → s.dev.disp.waitFrom = 0 →
    (∀ n, n < 4 → (pulse s.dev n).armed = false) → (∀ n, n < 8 → (alarm s.dev n).armed = false) →
    let d := runTo (edgeOfQn s.dev (s.dev.time.qn + 1)) s.dev
    exec .quantumStart s = becomes s { d with
      time := { d.time with qn := s.dev.time.qn + 1, counting := true }
      route := { d.route with sample := 0 }
      geom := { d.geom with
        nextAct := s.dev.time.qn + 2
        k := slewAt d.geom.kOld d.geom.kNew (s.dev.time.qn + 1) d.geom.slewQn d.geom.slewLen
        w := slewAt d.geom.wOld d.geom.wNew (s.dev.time.qn + 1) d.geom.slewQn d.geom.slewLen } })
  ∧ (∀ s : State, renderRuns s.dev = true → s.dev.time.counting = true → s.dev.geom.nextAct ≤ s.dev.time.qn →
    s.dev.geom.nextAct ≤ 2 ^ 40 - 4 → s.dev.geom.fresh = false →
    let q := s.dev.geom.nextAct
    let d := swapAt q (geomChanges q s.dev)
    (matchFits d q = true →
      let e := geomStep q (allocQuantum q (matchProceed d))
      exec .quantumActivation s = becomes s { e with geom := { e.geom with nextAct := q + 1, seen := e.geom.objs } })
    ∧ (matchFits d q = false → exec .quantumActivation s = becomes s (matchWait q s.dev)))

/-- METADATA_RECORD_RECEIVE, OBJ_FROZEN, MOVE_END: a record that R97 accepts is held for its quantum, one that it does
not accept is counted; an object without records freezes; a move that has had its quanta ends at its target (R97,
R104, R106). AVAIL_REPORT_RECEIVE, AVAIL_RECORD_RECEIVE, SWAP_RECORD_RECEIVE: a central device names the apply QN of a
change of an output and tells the domain; a device takes a newer record and waits for its QN (R125, R126, R178).
Readings and choices of the model: log 50, 52, 53, 43, 107. -/
def Obligations.ObjectsFollowTheirRecords : Prop :=
  (∀ (b : Bytes) (q : Nat) (s : State), bitAt s.dev 0x50000 1 = true → mirrorsInputs s.dev = false → metaAccept s.dev (padTo 32 b) = some q →
    s.dev.geom.nextAct ≤ q →
    exec (.metadataRecordReceive none false b) s
      = becomes s (metaHold (metaObj (padTo 32 b)) (metaRec q (padTo 32 b)) s.dev)
    ∧ ((obj s.dev (metaObj (padTo 32 b))).recs = [] → Completes (.metadataRecordReceive none false b) s (fun u =>
        (obj u.dev (metaObj (padTo 32 b))).recs = [metaRec q (padTo 32 b)] ∧ u.dev.regs = s.dev.regs)))
  ∧ (∀ (b : Bytes) (s : State), bitAt s.dev 0x50000 1 = false → exec (.metadataRecordReceive none false b) s = .next s)
  ∧ (∀ (b : Bytes) (s : State), bitAt s.dev 0x50000 1 = true → mirrorsInputs s.dev = false → metaAccept s.dev (padTo 32 b) = none →
    exec (.metadataRecordReceive none false b) s = becomes s (incCnt 0x50070 s.dev))
  ∧ (∀ (k : Nat) (b : Bytes) (s : State), k < 16 → ringRunning s.dev (17 + k) = true → ringHeld s.dev (17 + k) ≠ 0 →
    exec (.metadataRecordReceive (some k) true b) s = becomes s (ringPcieErr (17 + k) s.dev)
    ∧ (metaFormatOk (padTo 32 b) = true → bitAt s.dev 0x50000 0 = true → mirrorsInputs s.dev = false →
        exec (.metadataRecordReceive (some k) false b) s
          = becomes s (metaReceive none (padTo 32 b) (ringAdvance (17 + k) s.dev))))
  ∧ (∀ (o : Nat) (s : State), (obj s.dev o).inPlan = true → (obj s.dev o).live = true → (obj s.dev o).frozen = false →
    (obj s.dev o).lastRecQn + metaTimeout s.dev ≤ s.dev.geom.nextAct →
    exec (.objFrozen o) s = becomes s (raiseEvent evObjFrozen (leBytes 2 o) (putObj o { obj s.dev o with frozen := true } s.dev)))
  ∧ (∀ (o k q : Nat) (x y z : Int) (s : State), (obj s.dev o).move = .slot k q x y z →
    q + fadeN s.dev ≤ s.dev.geom.nextAct →
    exec (.moveEnd o) s = becomes s (putObj o { obj s.dev o with px := x, py := y, pz := z, move := .none } s.dev))
  ∧ (∀ (o q : Nat) (x y z : Int) (s : State), (obj s.dev o).move = .dip q x y z → q + fadeN s.dev = s.dev.geom.nextAct →
    0 < fadeN s.dev →
    exec (.moveEnd o) s = becomes s (putObj o { obj s.dev o with px := x, py := y, pz := z } s.dev))
  ∧ (∀ (o cause : Nat) (up : Bool) (s : State), role s.dev = 1 → o < 512 →
    let q := availLeadQn s.dev
    (mirrorsInputs s.dev = true → availTwin s.dev o up q = none) → s.dev.geom.nextAct ≤ q →
    let d := { s.dev with
      geom := { s.dev.geom with availReqs := s.dev.geom.availReqs ++ [⟨q, o, up, cause, none, none⟩] } }
    (availNew s.dev o up = true → exec (.availReportReceive o cause up) s = becomes s (availTell o cause up q d))
    ∧ (availNew s.dev o up = false → let e := availSend o cause up q d
        exec (.availReportReceive o cause up) s
          = becomes s (if e.geom.availSent then multicast 6 51231 (controlHead e ++ e.geom.availLast) e else e)))
  ∧ (∀ (o cause : Nat) (up : Bool) (s : State), role s.dev ≠ 1 → exec (.availReportReceive o cause up) s = .next s)
  ∧ (∀ (b : Bytes) (s : State), b.length = 80 → beAt b 0 2 = 0x41 → role s.dev ≠ 1 →
    (∀ r, s.dev.geom.lastAvailSeq = some r → seqNewer 16 (beAt b 2 2) r = true) →
    (∀ r ∈ s.dev.geom.availReqs, ∀ m, r.mask = some m → m.1 ≠ beAt b 2 2) → s.dev.geom.nextAct ≤ beAt b 4 5 →
    let o := beAt b 10 2 % 512
    exec (.availRecordReceive b) s = becomes s { s.dev with
      geom := { s.dev.geom with
        availReqs := s.dev.geom.availReqs
          ++ [⟨beAt b 4 5, o, (leAt b 16 64).testBit o, beAt b 9 1, none, some (beAt b 2 2, leAt b 16 64)⟩] } })
  ∧ (∀ (b : Bytes) (r : Nat) (s : State), s.dev.geom.lastAvailSeq = some r → seqNewer 16 (beAt b 2 2) r = false →
    exec (.availRecordReceive b) s = .next s)
  ∧ (∀ (b : Bytes) (s : State), role s.dev = 2 → beAt b 0 2 = 0x0050 →
    (∀ r, s.dev.plan.lastSwapSeq = some r → seqNewer 16 (beAt b 2 2) r = true) →
    (fget? s.dev.plan.held (beAt b 9 1)).isSome = true → s.dev.geom.nextAct ≤ beAt b 4 5 →
    s.dev.plan.running = none → s.dev.plan.pending = none →
    exec (.swapRecordReceive b) s = becomes s (leadStart (beAt b 9 1) { s.dev with
      plan := { s.dev.plan with
        lastSwapSeq := some (beAt b 2 2)
        pending := some ⟨beAt b 9 1, beAt b 4 5, beAt b 10 2, none, beAt b 2 2, false⟩ } }))

/-! ### The dispatcher -/

/-- GEOM_OPERAND_POST, GEOM_POST_RESUME, OPERAND_POST, DISP_POST, WINDOW_FILL_COMPLETE, VOICE_GROUP_COMPLETE: a block
goes to the buffer when it has room; an operand counts at its entry, or is dropped as an extra or an orphan; a
finished unit frees its entry (R135, R146, R151, R152, R190, R206). Readings and choices of the model: log 46, 47,
107. -/
def Obligations.OperandsReachTheirEntries : Prop :=
  (∀ (q side g : Nat) (ops : List VOp) (rest : List (Nat × Nat × Nat × List VOp)) (s : State),
    s.dev.geom.toPost = (q, side, g, ops) :: rest →
    (∀ a, blockPlace s.dev ops.length = some a →
      let d := postTo (fun e => decide (e.kind = 1) && decide (e.side = side) && decide (e.qn = q) && decide (e.ref = g))
        (memWrite (opAddr a) (ops.flatMap opBytes) { s.dev with
          geom := { s.dev.geom with toPost := rest }
          voice := { s.dev.voice with
            blocks := fins s.dev.voice.blocks ((q * 2 + side) * 4096 + g) ⟨a, ops.map (fun x => x.tag)⟩ } })
      exec .geomOperandPost s = becomes s d ∧ exec .geomPostResume s = becomes s d)
    ∧ (blockPlace s.dev ops.length = none → exec .geomOperandPost s = .next s ∧ exec .geomPostResume s = .next s))
  ∧ (∀ (side task q : Nat) (p : Nat × MatchEnt) (s : State), findEntry s.dev side task q = some p →
    (p.2.arrived + 1 < p.2.declared →
      exec (.operandPost side task q) s = becomes s (putMatch p.1 (some { p.2 with arrived := p.2.arrived + 1 }) s.dev))
    ∧ (p.2.arrived + 1 = p.2.declared →
      exec (.operandPost side task q) s = becomes s (trace 1 unitNone (task16 p.2) p.2.cls p.2.qn p.2.late false
        (putMatch p.1 (some { p.2 with
          arrived := p.2.arrived + 1
          state := 2
          readyAt := s.dev.time.now }) s.dev)))
    ∧ (p.2.declared ≤ p.2.arrived →
      exec (.operandPost side task q) s = becomes s (pairFault 3 (setFlag 0x40004 11 (incCnt 0x40024 s.dev)))))
  ∧ (∀ (side task q : Nat) (s : State), findEntry s.dev side task q = none →
    exec (.operandPost side task q) s
      = becomes s (raiseEvent evDispOrphan [] (pairFault 3 (setFlag 0x40004 10 (incCnt 0x40020 s.dev)))))
  ∧ (∀ (m : Master) (v : Nat) (s : State), exec (.dispPost m v) s = becomes s (postOperand (bits v 13 13) (bits v 12 0)
      (rdN s.dev 0x40218 + rdN s.dev 0x4021C % 256 * 2 ^ 32) s.dev))
  ∧ (∀ (p : Nat × MatchEnt) (s : State), 
    (entries s.dev).find? (fun x => decide (x.2.kind = 0) && decide (x.2.state = 3)) = some p →
    Completes .windowFillComplete s (fun u => matchAt u.dev p.1 = none ∧ u.dev.disp.stagingBusy = false
      ∧ p.2.qn < u.dev.voice.filled))
  ∧ (∀ (i place ce : Nat) (bad : List (Nat × Nat)) (e : MatchEnt) (s : State),
    fget 0 s.dev.disp.peony i = place + 1 → matchAt s.dev place = some e →
    Completes (.voiceGroupComplete i ⟨bad, ce⟩) s (fun u => matchAt u.dev place = none ∧ fget 0 u.dev.disp.peony i = 0))

/-- TASK_DISPATCH, TASK_DONE_WRITE, TAKE, TAKE_TIMEOUT, SWITCH_ENTRY: the first ready task that a unit can take is
placed, else an item is resumed or started; a task word that fits completes its task and one that does not is refused;
TAKE gives the oldest service task or waits (R194 to R205, R207, R208, R247). DISP_BG_SUBMIT, DISP_CQ_PUSH,
DISP_MATCH_SEL_WRITE, DISP_MATCH_PEAK_WRITE: an item enters its queue, or is discarded with its flag; a place of the
matching store is shown; the peak never stands below the present use (R193, R207, R208, R214). Readings and choices of
the model: log 11, 95. -/
def Obligations.TheDispatcherPlacesQueuesAndCompletes : Prop :=
  (∀ (place : Nat) (e : MatchEnt) (w : Placing) (s : State), firstPlacing s.dev (readyTasks s.dev) = some (place, e, w) →
    exec .taskDispatch s = becomes s (placeTask place e w s.dev))
  ∧ (∀ (c : Nat) (s : State), readyTasks s.dev = [] → resumable s.dev = some c →
    exec .taskDispatch s = becomes s (resumeItem c s.dev))
  ∧ (∀ (c : Nat) (it : Item) (s : State), readyTasks s.dev = [] → resumable s.dev = none → nextCompat s.dev = none →
    nextBackground s.dev = some (it, c) →
    exec .taskDispatch s = becomes s (startItem c it true { s.dev with
      disp := { s.dev.disp with bgQ := s.dev.disp.bgQ.erase it } }))
  ∧ (∀ (m : Master) (c w : Nat) (bl : OutCode) (s : State), (box s.dev c).state = 0 ∨ w ≠ (box s.dev c).word →
    exec (.taskDoneWrite m (some c) w bl) s = becomes s (doneMismatch (unitByte 2 c) s.dev))
  ∧ (∀ (m : Master) (c w : Nat) (bl : OutCode) (s : State), (box s.dev c).state ≠ 0 → w = (box s.dev c).word →
    w.testBit 14 = true ∨ w.testBit 15 = true → bitAt s.dev 0x40000 1 = false →
    exec (.taskDoneWrite m (some c) w bl) s = becomes s (coreFreed c s.dev))
  ∧ (∀ (k w place : Nat) (e : MatchEnt) (bl : OutCode) (s : State), w = (fget {} s.dev.disp.ctl k).word →
    runningEntry s.dev 4 k w = some (place, e) → bitAt s.dev 0x40000 1 = false →
    exec (.taskDoneWrite (.control k) none w bl) s = becomes s (putMatch place none { s.dev with
      disp := { s.dev.disp with
        ctl := fput {} s.dev.disp.ctl k { fget {} s.dev.disp.ctl k with word := 0xFFFFFFFF } } }))
  ∧ (∀ (k place : Nat) (rest : List Nat) (e : MatchEnt) (s : State), s.dev.disp.serviceQ = place :: rest →
    matchAt s.dev place = some e → exec (.take k) s = becomes s (giveService k place e s.dev))
  ∧ (∀ (k : Nat) (s : State), s.dev.disp.serviceQ = [] → k ∉ s.dev.disp.takers →
    exec (.take k) s = becomes s { s.dev with
      disp := { s.dev.disp with
        takers := s.dev.disp.takers ++ [k]
        ctl := fupd {} s.dev.disp.ctl k (fun x => { x with waiting := true }) } })
  ∧ (∀ (k : Nat) (s : State), k ∈ s.dev.disp.takers →
    exec (.takeTimeout k) s = becomes s (incCnt 0x4003C (emit (.control k 0xFFFFFFFF) { s.dev with
      disp := { s.dev.disp with
        takers := s.dev.disp.takers.filter (· ≠ k)
        ctl := fupd {} s.dev.disp.ctl k (fun x => { x with waiting := false }) } })))
  ∧ (∀ (c w : Nat) (s : State),
    let a := acore s.dev c
    let b := box s.dev c
    b.nextWord = some w → a.status = 1 → a.rep = 0 → a.delay = 0 → b.state = 2 ∨ b.state = 3 →
    exec (.switchEntry c) s = becomes s (preemptTaken c (putCore c { drain a with
      epc := (drain a).pc
      esr := (drain a).sr ||| 4
      sr := setBits (setBits (drain a).sr 1 0 0) 2 2 0
      pc := 0x100
      idle := false
      sig := false } s.dev)))
  ∧ (∀ (m : Master) (v : Nat) (s : State),
    (rdN s.dev 0x40224 % 65536 = 0 → exec (.dispBgSubmit m v) s = becomes s (setFlag 0x40004 14 s.dev))
    ∧ (rdN s.dev 0x40224 % 65536 ≠ 0 → 256 ≤ s.dev.disp.bgQ.length →
      exec (.dispBgSubmit m v) s = becomes s (setFlag 0x40004 13 s.dev))
    ∧ (rdN s.dev 0x40224 % 65536 ≠ 0 → s.dev.disp.bgQ.length < 256 →
      exec (.dispBgSubmit m v) s = becomes s { s.dev with
        disp := { s.dev.disp with
          bgQ := s.dev.disp.bgQ ++ [⟨v, rdN s.dev 0x40220, rdN s.dev 0x40224 % 65536, s.dev.disp.bgSeq⟩]
          bgSeq := s.dev.disp.bgSeq + 1 } }))
  ∧ (∀ (m : Master) (q v : Nat) (s : State), q < 8 →
    (bitAt s.dev 0x40000 0 = false ∨ rdN s.dev 0x40324 % 65536 = 0 →
      exec (.dispCqPush m q v) s = becomes s (setFlag 0x40004 14 s.dev))
    ∧ (bitAt s.dev 0x40000 0 = true → rdN s.dev 0x40324 % 65536 ≠ 0 → (fget [] s.dev.disp.cq q).length < 1024 →
      exec (.dispCqPush m q v) s = becomes s { s.dev with
        disp := { s.dev.disp with
          cq := fupd [] s.dev.disp.cq q (fun l =>
            l ++ [⟨v, rdN s.dev 0x40320, rdN s.dev 0x40324 % 65536, s.dev.disp.cqSeq⟩])
          cqSeq := s.dev.disp.cqSeq + 1 } })
    ∧ (bitAt s.dev 0x40000 0 = true → rdN s.dev 0x40324 % 65536 ≠ 0 → 1024 ≤ (fget [] s.dev.disp.cq q).length →
      exec (.dispCqPush m q v) s = becomes s (raiseEvent evCqOverflow [] (setFlag (0x40340 + 4 * q) 16 s.dev))))
  ∧ (∀ (m : Master) (v : Nat) (s : State), v < 16384 →
    Completes (.dispMatchSelWrite m v) s (fun u => rdN u.dev 0x40400 = v
      ∧ (∀ i, i < 4 → rdN u.dev (0x40404 + 4 * i) = leAt (matchBytes (matchAt s.dev v)) (4 * i) 4)
      ∧ u.dev = { s.dev with regs := u.dev.regs }))
  ∧ (∀ (m : Master) (v : Nat) (s : State), v < 2 ^ 32 →
    s.dev.disp.store.length < 2 ^ 32 →
    Completes (.dispMatchPeakWrite m v) s (fun u => rdN u.dev 0x4000C = Nat.max v s.dev.disp.store.length
      ∧ (∀ a, a ≠ 0x4000C → rdN u.dev a = rdN s.dev a) ∧ u.dev = { s.dev with regs := u.dev.regs }))

/-- ROUTING_PERIOD, GAIN_ZC_TIMEOUT, TASK_DEADLINE, DEPARTURE_CUTOFF, DEADLINE_FAULT: a sample period runs the routing
program and what follows it; a gain that has met no crossing steps all the same; late tasks and late quanta are marked
and counted (R180, R185, R209 to R211). Readings and choices of the model: log 4, 48, 54. -/
def Obligations.SamplesAndDeadlines : Prop :=
  (∀ s : State, s.dev.sys.mode ≠ .boot → s.dev.sys.mode ≠ .stop →
    let k := s.dev.route.sample
    let d := driveSample (listenSample (aportSample (lowKeep k (talkbackSample k (routePeriod (micStep s.dev))))))
    exec .routingPeriod s = becomes s { d with route := { d.route with sample := (k + 1) % 32 } }
    ∧ (s.dev.route.gainWaits = [] → s.dev.route.xfadeN = 0 →
        (routeProgram s.dev (routeGain s.dev) (activeRouting s.dev).program).2 = 0 →
        (routePeriod s.dev).route.outputs = (routeProgram s.dev (routeGain s.dev) (activeRouting s.dev).program).1
        ∧ (routePeriod s.dev).route.sample = k ∧ (routePeriod s.dev).regs = s.dev.regs))
  ∧ (∀ (w : GainWait) (n : Nat) (s : State), s.dev.route.gainWaits = [w] → w.waited = some n → routeT s.dev ≤ n →
    exec (.gainZcTimeout w.entry) s
      = becomes s (gainStep w (raiseEvent evGainZcTimeout (leBytes 1 w.entry) (setFlag 0x80004 25 (incCnt 0x8002C s.dev)))))
  ∧ (∀ (side task q : Nat) (p : Nat × MatchEnt) (s : State), findEntry s.dev side task q = some p → p.2.late = false →
    exec (.taskDeadline side task q) s = becomes s (trace 5 unitNone (task16 p.2) p.2.cls p.2.qn true false
      (putMatch p.1 (some { p.2 with late := true }) (incCnt 0x40018 s.dev))))
  ∧ (∀ (q : Nat) (s : State), s.dev.disp.cutoffQn ≤ q → quantumLate s.dev q = false →
    exec (.departureCutoff q) s = becomes s { s.dev with disp := { s.dev.disp with cutoffQn := q + 1, lateRun := 0 } })
  ∧ (∀ (q : Nat) (s : State), s.dev.disp.cutoffQn ≤ q → quantumLate s.dev q = true →
    Completes (.departureCutoff q) s (fun u => fget false u.dev.disp.suppressed q = true
      ∧ u.dev.disp.lateRun = s.dev.disp.lateRun + 1 ∧ u.dev.disp.cutoffQn = q + 1 ∧ bitAt u.dev 0x40004 9 = true))
  ∧ (∀ s : State, 8 ≤ s.dev.disp.lateRun → exec .deadlineFault s = becomes s (faultCause 0xA s.dev))
  ∧ (∀ s : State, s.dev.disp.lateRun < 8 → exec .deadlineFault s = .next s)

/-! ### The Aster cores -/

/-- ASTER_RUN and every bundle: run going from 0 to 1 resets the core, a task in its mailbox still signalled; a bundle
that meets no fault and waits for nothing issues, and outside its core's registers and counters, its mailbox and the
bytes that it stores it changes nothing; one that meets a fault is stopped; one that waits only counts; its fetch
counts the errors that it corrects (R215, R223, R241, R244, R245, R249). DONE is stated with its completion. Readings
and choices of the model: log 55, 56, 109. -/
def Obligations.BundlesIssueWaitOrFault : Prop :=
  (∀ (m : Master) (c v : Nat) (s : State), c < 16 →
    s.dev.sys.mode = .boot ∨ s.dev.sys.mode = .config →
    bits v 7 4 ≤ 13 → v.testBit 0 = true → bitAt s.dev (asterA c) 0 = false →
    Completes (.asterRun m c v) s (fun t =>
      acore t.dev c = { coreReset (acore s.dev c) with sig := decide ((box s.dev c).state ≠ 0) }
      ∧ (∀ k, k ≠ c → acore t.dev k = acore s.dev k) ∧ rdN t.dev (asterA c) = bits v 7 4 * 16 + bits v 1 0))
  ∧ (∀ (m : Master) (c v : Nat) (s : State), c < 16 → s.dev.sys.mode = .boot ∨ s.dev.sys.mode = .config →
    bits v 7 4 ≤ 13 → v.testBit 0 = false → bitAt s.dev (asterA c) 0 = true →
    Completes (.asterRun m c v) s (fun t => (acore t.dev c).status = 0 ∧ (acore t.dev c).queueD = []
      ∧ (acore t.dev c).queueB = [] ∧ (∀ k, k ≠ c → acore t.dev k = acore s.dev k)
      ∧ rdN t.dev (asterA c) = bits v 7 4 * 16 + bits v 1 0))
  ∧ (∀ (m : Master) (c v : Nat) (s : State), c < 16 → s.dev.sys.mode = .boot ∨ s.dev.sys.mode = .config →
    13 < bits v 7 4 → exec (.asterRun m c v) s = becomes s (setFlag (asterA c + 4) 9 s.dev))
  ∧ (∀ (m : Master) (c v : Nat) (s : State), c < 16 → s.dev.sys.mode ≠ .boot → s.dev.sys.mode ≠ .config →
    exec (.asterRun m c v) s = becomes s (lockedWrite (asterA c) s.dev))
  ∧ (∀ (i : Instr) (b : Bundle) (s : State), bundleOf i = some b → Issuable b s → b.alu.kind ≠ .done →
    Completes i s (fun t =>
      t.dev = { s.dev with
        regs := t.dev.regs
        mem := t.dev.mem
        aster := { s.dev.aster with cores := t.dev.aster.cores }
        disp := { s.dev.disp with cores := t.dev.disp.cores } }
      ∧ (acore t.dev b.core).n = (acore s.dev b.core).n + 1
      ∧ (∀ k, k ≠ b.core → acore t.dev k = acore s.dev k ∧ box t.dev k = box s.dev k)
      ∧ (∀ x, x < 2 ^ 40 →
          (∀ p bs, lsStore (coreOf b s) b.x = some (p, bs) ∨ lsStore (coreOf b s) b.y = some (p, bs) →
            x < tileAddr b.core p ∨ tileAddr b.core p + bs.length ≤ x) →
          memByte t.dev x = memByte s.dev x)))
  ∧ (∀ (i : Instr) (b : Bundle) (cause addr : Nat) (s : State), bundleOf i = some b → b.core < 16 →
    (acore s.dev b.core).status = 1 → (acore s.dev b.core).idle = false →
    bundleFault (landed b s) b.core (coreOf b s) b = some (cause, addr) →
    exec i s = becomes s (issueFault b.core (coreOf b s) b cause addr (fetched b s)))
  ∧ (∀ (i : Instr) (b : Bundle) (s : State), bundleOf i = some b → b.core < 16 → (acore s.dev b.core).status = 1 →
    (acore s.dev b.core).idle = false → bundleFault (landed b s) b.core (coreOf b s) b = none →
    bundleWaits (landed b s) b.core b = true →
    exec i s = becomes s (incCnt (asterA b.core + 0x28) (countCycle b.core (fetched b s))))
  ∧ (∀ (i : Instr) (b : Bundle) (s : State), bundleOf i = some b →
    (acore s.dev b.core).status ≠ 1 ∨ (acore s.dev b.core).idle = true → exec i s = .next s)

/-- LD_V, LD_W, LD_B, ST_V, ST_W, LI: a load is read four bundles later, a store is in tile memory at once, and a
pointer takes its new value for the next bundle (R218, R219, R223, R225, R229). A sub-operation Y of the same bundle
that loads the same register comes after one of X, so a form X is stated with Y empty. Readings and choices of the
model: log 55. -/
def Obligations.LoadsAndStoresReachTheTile : Prop :=
  ∀ (y : Bool) (mode k r : Nat) (b : Bundle) (s : State), (y = true ∨ b.y.kind = .none) →
    let l (x : LsKind) : Ls := ⟨x, mode, k, r⟩
    let bb (x : LsKind) : Bundle := b.withLs y (l x)
    let p (x : LsKind) : Nat := fget 0 (coreOf (bb x) s).p k
    let word (x : LsKind) (i : Nat) : Int := leVal (memRead s.dev (tileAddr b.core (p x + 4 * i)) 4)
    (Issuable (bb .ldV) s → GivesLanes (.ldV y mode k r b) s b.core 4 r (word .ldV))
    ∧ (Issuable (bb .ldB) s → GivesLanes (.ldB y mode k r b) s b.core 4 r (fun _ => word .ldB 0))
    ∧ (Issuable (bb .ldW) s → GivesScalar (.ldW y mode k r b) s b.core 4 r (word .ldW 0))
    ∧ (Issuable (bb .stV) s → b.alu.kind ≠ .done → Completes (.stV y mode k r b) s (fun t =>
        memRead t.dev (tileAddr b.core (p .stV)) 16
          = (List.range 4).flatMap (fun i => leBytes 4 (fget 0 (coreOf (bb .stV) s).v (4 * r + i)))))
    ∧ (Issuable (bb .stW) s → b.alu.kind ≠ .done → Completes (.stW y mode k r b) s (fun t =>
        memRead t.dev (tileAddr b.core (p .stW)) 4 = leBytes 4 (rg (coreOf (bb .stW) s) r)))
    ∧ (∀ q, Issuable (bb .ldW) s → newPointer (coreOf (bb .ldW) s) (l .ldW) = some q →
        Completes (.ldW y mode k r b) s (fun t => fget 0 (seen t b.core 1).p k = wrapN 32 (q : Int)))
    ∧ (∀ rd imm, Issuable (b.withAlu ⟨.li, rd, 0, imm, 0⟩) s → GivesScalar (.li rd imm b) s b.core 1 rd (imm : Int))

/-- VMUL, VMAC, VMSU, VMACB, VDOT, VDOTA, VCLR, VLDA, VWRA: the accumulators take products, sums and lanes, modulo
2^72 (R220, R223, R231). VEXT, VEXT_T, VEXT1, VEXT1_T, VRDA, VMAX_IDX, VMIN_IDX, VMAXA_IDX: extraction rounds or
truncates and saturates, and the running extremes take a lane with its index where their test holds and leave the
others (R220, R223, R232, R238). An ALU operation of the same bundle that writes the same register wins (R224).
Readings and choices of the model: log 55. -/
def Obligations.AccumulatorsExtractionsAndExtremes : Prop :=
  (∀ (n va vb : Nat) (b : Bundle) (s : State),
    let bb (k : MacKind) : Bundle := b.withMac ⟨k, n, va, vb⟩
    let a (k : MacKind) : AsterCore := coreOf (bb k) s
    let prod (k : MacKind) (i : Nat) : Int := rv (a k) va i * rv (a k) vb i
    let dot (k : MacKind) : Int := prod k 0 + prod k 1 + prod k 2 + prod k 3
    let u (i : Nat) : Nat := wrapN 32 (rv (a .vwra) va i)
    (Issuable (bb .vmul) s → GivesSums (.vmul n va vb b) s b.core n 4 (prod .vmul))
    ∧ (Issuable (bb .vmac) s → GivesSums (.vmac n va vb b) s b.core n 4 (fun i => racc (a .vmac) (n + i) + prod .vmac i))
    ∧ (Issuable (bb .vmsu) s → GivesSums (.vmsu n va vb b) s b.core n 4 (fun i => racc (a .vmsu) (n + i) - prod .vmsu i))
    ∧ (Issuable (bb .vmacb) s → GivesSums (.vmacb n va vb b) s b.core n 4 (fun i =>
        racc (a .vmacb) (n + i) + rv (a .vmacb) va i * rv (a .vmacb) vb 0))
    ∧ (Issuable (bb .vdot) s → GivesSums (.vdot n va vb b) s b.core n 1 (fun _ => dot .vdot))
    ∧ (Issuable (bb .vdota) s → GivesSums (.vdota n va vb b) s b.core n 1 (fun _ => racc (a .vdota) n + dot .vdota))
    ∧ (Issuable (bb .vclr) s → GivesSums (.vclr n va vb b) s b.core n 4 (fun _ => 0))
    ∧ (Issuable (bb .vlda) s → GivesSums (.vlda n va vb b) s b.core n 4 (fun i =>
        rv (a .vlda) va i * ((2 ^ srAsh (a .vlda) : Nat) : Int)))
    ∧ (Issuable (bb .vwra) s → GivesSums (.vwra n va vb b) s b.core n 1 (fun _ =>
        ((u 2 % 256 * 2 ^ 64 + u 1 * 2 ^ 32 + u 0 : Nat) : Int))))
  ∧ (∀ (n va vb : Nat) (b : Bundle) (s : State), (b.alu.kind = .nop ∨ (b.alu.rd ≠ vb ∧ b.alu.rd ≠ vb + 1)) →
    let bb (k : MacKind) : Bundle := b.withMac ⟨k, n, va, vb⟩
    let a (k : MacKind) : AsterCore := coreOf (bb k) s
    let ash : Nat := 2 ^ srAsh (a .vextT)
    let w : Nat := wrapN 72 (raccExt (a .vrda) n)
    let takes (k : MacKind) (i : Instr) : Prop := Completes i s (fun t => ∀ l, l < 4 →
      match (extremeRun (a k) ⟨k, n, va, vb⟩).1.getD l none with
      | some x => rv (seen t b.core 2) vb l = sext 32 (wrapN 32 x.1) ∧ rv (seen t b.core 2) (vb + 1) l = sext 32 (wrapN 32 x.2)
      | none => (a k).inflight = [] → rv (seen t b.core 2) vb l = rv (a k) vb l
          ∧ rv (seen t b.core 2) (vb + 1) l = rv (a k) (vb + 1) l)
    (Issuable (bb .vext) s → GivesLanes (.vext n va vb b) s b.core 2 vb (fun i =>
      satI 32 (rndEven (raccExt (a .vext) (n + i)) (srAsh (a .vext)))))
    ∧ (Issuable (bb .vextT) s → GivesLanes (.vextT n va vb b) s b.core 2 vb (fun i =>
        satI 32 (raccExt (a .vextT) (n + i) / (ash : Int))))
    ∧ (Issuable (bb .vext1) s → Completes (.vext1 n va vb b) s (fun t =>
        rv (seen t b.core 2) vb va = sext 32 (wrapN 32 (satI 32 (rndEven (raccExt (a .vext1) n) (srAsh (a .vext1)))))))
    ∧ (Issuable (bb .vext1T) s → Completes (.vext1T n va vb b) s (fun t =>
        rv (seen t b.core 2) vb va = sext 32 (wrapN 32 (satI 32 (raccExt (a .vext1T) n / ((2 ^ srAsh (a .vext1T) : Nat) : Int))))))
    ∧ (Issuable (bb .vrda) s → Completes (.vrda n va vb b) s (fun t =>
        rv (seen t b.core 2) vb 0 = sext 32 (w % 2 ^ 32) ∧ rv (seen t b.core 2) vb 1 = sext 32 (w / 2 ^ 32 % 2 ^ 32)
        ∧ rv (seen t b.core 2) vb 2 = sext 8 (w / 2 ^ 64) ∧ rv (seen t b.core 2) vb 3 = 0))
    ∧ (Issuable (bb .vmaxIdx) s → takes .vmaxIdx (.vmaxIdx n va vb b))
    ∧ (Issuable (bb .vminIdx) s → takes .vminIdx (.vminIdx n va vb b))
    ∧ (Issuable (bb .vmaxaIdx) s → takes .vmaxaIdx (.vmaxaIdx n va vb b)))

/-- The scalar operations of the short slot: NOP, MOV, ADD, SUB, ADDS, AND, OR, XOR, SLL, SRL, SRA, MIN, MAX, MUL, and
those of the pointers and modifiers (R221, R223, R233). The vector operations of the short slot, and the system
registers: VLANE, VINS, VSPLAT, VADDS, VSUBS, VABS, VMAXV, VMINV, VREDMAX, VREDMIN, MFS, MTS (R217, R221, R223, R233,
R239). Readings and choices of the model: log 55. -/
def Obligations.ScalarAndVectorOperationsGiveTheirResults : Prop :=
  (∀ (rd ra : Nat) (b : Bundle) (s : State),
    let bb (k : AluKind) : Bundle := b.withAlu ⟨k, rd, ra, 0, 0⟩
    let x (k : AluKind) : Int := sext 32 (rg (coreOf (bb k) s) rd)
    let y (k : AluKind) : Int := sext 32 (rg (coreOf (bb k) s) ra)
    let ux (k : AluKind) : Nat := rg (coreOf (bb k) s) rd
    let uy (k : AluKind) : Nat := rg (coreOf (bb k) s) ra
    (Issuable (b.withAlu ⟨.nop, 0, 0, 0, 0⟩) s → Completes (.aluNop b) s (fun t =>
      (acore t.dev b.core).n = (acore s.dev b.core).n + 1))
    ∧ (Issuable (bb .mov) s → GivesScalar (.mov rd ra b) s b.core 1 rd (y .mov))
    ∧ (Issuable (bb .add) s → GivesScalar (.add rd ra b) s b.core 1 rd (x .add + y .add))
    ∧ (Issuable (bb .sub) s → GivesScalar (.sub rd ra b) s b.core 1 rd (x .sub - y .sub))
    ∧ (Issuable (bb .adds) s → GivesScalar (.adds rd ra b) s b.core 1 rd (satI 32 (x .adds + y .adds))
        ∧ (satOvf 32 (x .adds + y .adds) = true →
            Completes (.adds rd ra b) s (fun t => (acore t.dev b.core).sr.testBit 16 = true)))
    ∧ (Issuable (bb .and) s → GivesScalar (.and rd ra b) s b.core 1 rd ((ux .and &&& uy .and : Nat) : Int))
    ∧ (Issuable (bb .or) s → GivesScalar (.or rd ra b) s b.core 1 rd ((ux .or ||| uy .or : Nat) : Int))
    ∧ (Issuable (bb .xor) s → GivesScalar (.xor rd ra b) s b.core 1 rd ((ux .xor ^^^ uy .xor : Nat) : Int))
    ∧ (Issuable (bb .sll) s → GivesScalar (.sll rd ra b) s b.core 1 rd ((ux .sll * 2 ^ (uy .sll % 32) : Nat) : Int))
    ∧ (Issuable (bb .srl) s → GivesScalar (.srl rd ra b) s b.core 1 rd ((ux .srl / 2 ^ (uy .srl % 32) : Nat) : Int))
    ∧ (Issuable (bb .sra) s → GivesScalar (.sra rd ra b) s b.core 1 rd (x .sra / ((2 ^ (uy .sra % 32) : Nat) : Int)))
    ∧ (Issuable (bb .min) s → GivesScalar (.min rd ra b) s b.core 1 rd (if x .min ≤ y .min then x .min else y .min))
    ∧ (Issuable (bb .max) s → GivesScalar (.max rd ra b) s b.core 1 rd (if x .max ≤ y .max then y .max else x .max))
    ∧ (Issuable (bb .mul) s → GivesScalar (.mul rd ra b) s b.core 3 rd (x .mul * y .mul))
    ∧ (Issuable (bb .movp) s → Completes (.movp rd ra b) s (fun t => fget 0 (seen t b.core 2).p rd = wrapN 32 (y .movp)))
    ∧ (Issuable (bb .movm) s → Completes (.movm rd ra b) s (fun t => fget 0 (seen t b.core 2).m rd = wrapN 32 (y .movm)))
    ∧ (Issuable (bb .rdp) s → GivesScalar (.rdp rd ra b) s b.core 1 rd ((fget 0 (coreOf (bb .rdp) s).p ra : Nat) : Int))
    ∧ (Issuable (bb .rdm) s → GivesScalar (.rdm rd ra b) s b.core 1 rd ((fget 0 (coreOf (bb .rdm) s).m ra : Nat) : Int)))
  ∧ (∀ (rd ra lane : Nat) (b : Bundle) (s : State),
    let bb (k : AluKind) : Bundle := b.withAlu ⟨k, rd, ra, 0, 0⟩
    let bl (k : AluKind) : Bundle := b.withAlu ⟨k, rd, ra, lane, 0⟩
    let vx (k : AluKind) (i : Nat) : Int := rv (coreOf (bb k) s) rd i
    let vy (k : AluKind) (i : Nat) : Int := rv (coreOf (bb k) s) ra i
    let uy : Nat := rg (coreOf (bb .mts) s) ra % 2 ^ 32
    (Issuable (bl .vlane) s → GivesScalar (.vlane rd ra lane b) s b.core 1 rd (rv (coreOf (bl .vlane) s) ra lane))
    ∧ (Issuable (bl .vins) s → Completes (.vins rd ra lane b) s (fun t =>
        rv (seen t b.core 2) rd lane = sext 32 (rg (coreOf (bl .vins) s) ra)))
    ∧ (Issuable (bb .vsplat) s → GivesLanes (.vsplat rd ra b) s b.core 2 rd (fun _ => sext 32 (rg (coreOf (bb .vsplat) s) ra)))
    ∧ (Issuable (bb .vadds) s → GivesLanes (.vadds rd ra b) s b.core 2 rd (fun i => satI 32 (vx .vadds i + vy .vadds i)))
    ∧ (Issuable (bb .vsubs) s → GivesLanes (.vsubs rd ra b) s b.core 2 rd (fun i => satI 32 (vx .vsubs i - vy .vsubs i)))
    ∧ (Issuable (bb .vabs) s → GivesLanes (.vabs rd ra b) s b.core 2 rd (fun i => satI 32 ((vy .vabs i).natAbs : Int)))
    ∧ (Issuable (bb .vmaxv) s → GivesLanes (.vmaxv rd ra b) s b.core 2 rd (fun i =>
        if vx .vmaxv i ≤ vy .vmaxv i then vy .vmaxv i else vx .vmaxv i))
    ∧ (Issuable (bb .vminv) s → GivesLanes (.vminv rd ra b) s b.core 2 rd (fun i =>
        if vx .vminv i ≤ vy .vminv i then vx .vminv i else vy .vminv i))
    ∧ (Issuable (bb .vredmax) s →
        let m := reduceLanes (coreOf (bb .vredmax) s) ra true
        GivesScalar (.vredmax rd ra b) s b.core 2 rd m.1 ∧ GivesScalar (.vredmax rd ra b) s b.core 2 (rd + 1) m.2
        ∧ (∀ i, i < 4 → vy .vredmax i ≤ m.1))
    ∧ (Issuable (bb .vredmin) s →
        let m := reduceLanes (coreOf (bb .vredmin) s) ra false
        GivesScalar (.vredmin rd ra b) s b.core 2 rd m.1 ∧ GivesScalar (.vredmin rd ra b) s b.core 2 (rd + 1) m.2
        ∧ (∀ i, i < 4 → m.1 ≤ vy .vredmin i))
    ∧ (Issuable (bb .mfs) s → GivesScalar (.mfs rd ra b) s b.core 1 rd ((sysRead (landed (bb .mfs) s) b.core ra : Nat) : Int))
    ∧ (Issuable (bb .mts) s → b.mac.kind = .none → Completes (.mts rd ra b) s (fun t =>
        let a := seen t b.core 2
        (rd = 0 → a.sr = srMask (if (box s.dev b.core).state = 2 ∨ (box s.dev b.core).state = 3 then uy ||| 4 else uy))
        ∧ (rd = 1 → a.esr = uy) ∧ (rd = 2 → a.epc = uy) ∧ (3 ≤ rd → rd ≤ 5 → fget 0 a.lc (rd - 3) = uy)
        ∧ (6 ≤ rd → rd ≤ 8 → fget 0 a.la (rd - 6) = uy % 2 ^ 20)
        ∧ (9 ≤ rd → rd ≤ 11 → fget 0 a.ls (rd - 9) = uy % 2 ^ 20) ∧ (rd = 12 → a.xi = uy % 65536))))

/-- The immediate operations and the branches of the long slot: ADDI, ANDI, ORI, XORI, SLLI, SRLI, SRAI, SETXI, and
BEQ, BNE, BLT, BGE, BLTU, BGEU, JMP, JMPR, CALL, whose target issues after two delay slots; no branch is under way, as
in no state that a run reaches when one may issue (R222, R223, R226). REP, REPR, DO, DOR, LEAVE, RTI: a repetition or
a loop level opens with its count, a level closes, and RTI returns to epc with sr from esr (R222, R234, R236, R248).
No branch is under way; a loop that opens, and the pc after LEAVE, are stated where the bundle does not end a body.
Readings and choices of the model: log 55. -/
def Obligations.ImmediatesBranchesAndLoops : Prop :=
  (∀ (rd ra imm : Nat) (b : Bundle) (s : State),
    let bb (k : AluKind) : Bundle := b.withAlu ⟨k, rd, ra, imm, 0⟩
    let x (k : AluKind) : Int := sext 32 (rg (coreOf (bb k) s) rd)
    let y (k : AluKind) : Int := sext 32 (rg (coreOf (bb k) s) ra)
    let ux (k : AluKind) : Nat := rg (coreOf (bb k) s) rd
    let uy (k : AluKind) : Nat := rg (coreOf (bb k) s) ra
    let pc : Nat := (acore s.dev b.core).pc
    let goes (i : Instr) (dest : Option Nat) : Prop := (acore s.dev b.core).br = none → Completes i s (fun t =>
      (acore t.dev b.core).pc = (pc + 8) % 2 ^ 20 ∧ (acore t.dev b.core).br = dest.map (fun a => (a, 2)))
    let rel (w : Nat) : Nat := wrapN 20 ((pc : Int) + 8 * sext w imm)
    let on (p : Bool) : Option Nat := if p then some (rel 18) else none
    (Issuable (bb .addi) s → GivesScalar (.addi rd ra imm b) s b.core 1 rd (y .addi + sext 18 imm))
    ∧ (Issuable (bb .andi) s → GivesScalar (.andi rd ra imm b) s b.core 1 rd ((uy .andi &&& imm : Nat) : Int))
    ∧ (Issuable (bb .ori) s → GivesScalar (.ori rd ra imm b) s b.core 1 rd ((uy .ori ||| imm : Nat) : Int))
    ∧ (Issuable (bb .xori) s → GivesScalar (.xori rd ra imm b) s b.core 1 rd ((uy .xori ^^^ imm : Nat) : Int))
    ∧ (Issuable (bb .slli) s → GivesScalar (.slli rd ra imm b) s b.core 1 rd ((uy .slli * 2 ^ imm : Nat) : Int))
    ∧ (Issuable (bb .srli) s → GivesScalar (.srli rd ra imm b) s b.core 1 rd ((uy .srli / 2 ^ imm : Nat) : Int))
    ∧ (Issuable (bb .srai) s → GivesScalar (.srai rd ra imm b) s b.core 1 rd (y .srai / ((2 ^ imm : Nat) : Int)))
    ∧ (Issuable (b.withAlu ⟨.setxi, 0, 0, imm, 0⟩) s → Completes (.setxi imm b) s (fun t => (seen t b.core 1).xi = imm))
    ∧ (Issuable (bb .beq) s → goes (.beq rd ra imm b) (on (decide (x .beq = y .beq))))
    ∧ (Issuable (bb .bne) s → goes (.bne rd ra imm b) (on (decide (x .bne ≠ y .bne))))
    ∧ (Issuable (bb .blt) s → goes (.blt rd ra imm b) (on (decide (x .blt < y .blt))))
    ∧ (Issuable (bb .bge) s → goes (.bge rd ra imm b) (on (decide (y .bge ≤ x .bge))))
    ∧ (Issuable (bb .bltu) s → goes (.bltu rd ra imm b) (on (decide (ux .bltu < uy .bltu))))
    ∧ (Issuable (bb .bgeu) s → goes (.bgeu rd ra imm b) (on (decide (uy .bgeu ≤ ux .bgeu))))
    ∧ (Issuable (b.withAlu ⟨.jmp, 0, 0, imm, 0⟩) s → goes (.jmp imm b) (some (rel 28)))
    ∧ (Issuable (b.withAlu ⟨.jmpr, 0, ra, 0, 0⟩) s →
        goes (.jmpr ra b) (some (rg (coreOf (b.withAlu ⟨.jmpr, 0, ra, 0, 0⟩) s) ra)))
    ∧ (Issuable (b.withAlu ⟨.call, 0, 0, imm, 0⟩) s → goes (.call imm b) (some (rel 28))
        ∧ GivesScalar (.call imm b) s b.core 1 31 ((pc + 24 : Nat) : Int)))
  ∧ (∀ (rd ra n stop : Nat) (b : Bundle) (s : State), (acore s.dev b.core).br = none →
    let bb (u : Alu) : Bundle := b.withAlu u
    let pc : Nat := (acore s.dev b.core).pc
    let level (c : AsterCore) : Nat := srLp c
    let opens (i : Instr) (u : Alu) (count : Nat) : Prop :=
      let a := coreOf (bb u) s
      let e := (pc + 8 * stop) % 2 ^ 20
      Issuable (bb u) s → loopEnd a ≠ some pc →
      Completes i s (fun t =>
        let c := acore t.dev b.core
        if count = 0 then c.pc = (e + 8) % 2 ^ 20 ∧ level c = level a
        else c.pc = (pc + 8) % 2 ^ 20 ∧ level c = level a + 1 ∧ fget 0 c.ls (level a) = (pc + 8) % 2 ^ 20
          ∧ fget 0 c.la (level a) = e ∧ fget 0 c.lc (level a) = count)
    (Issuable (bb ⟨.rep, 0, 0, 0, n⟩) s → Completes (.rep n b) s (fun t => (acore t.dev b.core).rep = n
      ∧ (acore t.dev b.core).pc = (pc + 8) % 2 ^ 20))
    ∧ (Issuable (bb ⟨.repr, 0, ra, 0, 0⟩) s →
        let u := rg (coreOf (bb ⟨.repr, 0, ra, 0, 0⟩) s) ra % 8192
        Completes (.repr ra b) s (fun t => (acore t.dev b.core).rep = (if u ≤ 4096 then u else 4096)
          ∧ (acore t.dev b.core).pc = (pc + if u = 0 then 16 else 8) % 2 ^ 20
          ∧ (4096 < u → (acore t.dev b.core).sr.testBit 18 = true)))
    ∧ opens (.loopDo n stop b) ⟨.loopDo, 0, 0, stop, n⟩ n
    ∧ opens (.dor rd stop b) ⟨.dor, rd, 0, stop, 0⟩ (rg (coreOf (bb ⟨.dor, rd, 0, stop, 0⟩) s) rd)
    ∧ (Issuable (bb ⟨.leave, 0, 0, 0, 0⟩) s →
        Completes (.leave b) s (fun t => level (acore t.dev b.core) = level (coreOf (bb ⟨.leave, 0, 0, 0, 0⟩) s) - 1
          ∧ (loopEnd (coreOf (bb ⟨.leave, 0, 0, 0, 0⟩) s) ≠ some pc → (acore t.dev b.core).pc = (pc + 8) % 2 ^ 20)))
    ∧ (Issuable (bb ⟨.rti, 0, 0, 0, 0⟩) s → Completes (.rti b) s (fun t =>
        (acore t.dev b.core).br = some ((coreOf (bb ⟨.rti, 0, 0, 0, 0⟩) s).epc % 2 ^ 20 / 8 * 8, 2)
        ∧ (seen t b.core 3).sr = srMask (seen t b.core 3).esr)))

/-- XFER, TILE_TRANSFER_COMPLETE, XWAIT, DONE, IDLE, BRK: a transfer is queued and moves its data when it finishes, or
is tried again; DONE completes the task; IDLE stops issue until a signal; BRK halts in BOOT and CONFIG (R244 to R246,
R251). ASTER_DBG_HALT, ASTER_DBG_RESUME, ASTER_DBG_STEP, ASTER_DBG_DATA_WRITE, CODE_BANK_WRITTEN: in BOOT and CONFIG a
core is halted, resumed and stepped by one bundle, and a halted core's registers are written; a bank write that ends
makes side 1 ready (R243, R251). Readings and choices of the model: log 55, 57, 104. -/
def Obligations.TransfersEndsOfWorkAndDebug : Prop :=
  (∀ (ra : Nat) (b : Bundle) (s : State), Issuable (b.withAlu ⟨.xfer, 0, ra, 0, 0⟩) s →
    let x := xferAt s.dev b.core (rg (coreOf (b.withAlu ⟨.xfer, 0, ra, 0, 0⟩) s) ra)
    Completes (.xfer ra b) s (fun t => presentQueue t.dev b.core = presentQueue s.dev b.core ++ [x]))
  ∧ (∀ (c : Nat) (x : Xfer) (s : State), headXfer (acore s.dev c) = some x → x.kind = 0 →
    inRange x.remote x.length 0 (dramBytes s.dev) = true → s.dev.memory.population ≤ 4 →
    let d := wordsGood c x.tile x.length (putCore c (setHead (acore s.dev c) none) s.dev)
    exec (.tileTransferComplete c .ok) s = becomes s (memWrite (tileAddr c x.tile) (memRead d x.remote x.length) d)
    ∧ (x.errors < 3 → exec (.tileTransferComplete c .error) s
        = becomes s (putCore c (setHead (acore s.dev c) (some { x with errors := x.errors + 1 })) s.dev)))
  ∧ (∀ (c : Nat) (x : Xfer) (s : State), headXfer (acore s.dev c) = some x → x.kind = 4 →
    exec (.tileTransferComplete c .ok) s = becomes s (memWrite (tileAddr c x.tile) (zeros x.length)
      (wordsGood c x.tile x.length (putCore c (setHead (acore s.dev c) none) s.dev))))
  ∧ (∀ (n : Nat) (b : Bundle) (s : State), Issuable (b.withAlu ⟨.xwait, 0, 0, n, 0⟩) s →
    Completes (.xwait n b) s (fun t => (presentQueue t.dev b.core).length ≤ n
      ∧ (acore t.dev b.core).n = (acore s.dev b.core).n + 1))
  ∧ (∀ (ra : Nat) (b : Bundle) (s : State), Issuable (b.withAlu ⟨.done, 0, ra, 0, 0⟩) s →
    let w := rg (coreOf (b.withAlu ⟨.done, 0, ra, 0, 0⟩) s) ra
    (box s.dev b.core).state ≠ 0 → (box s.dev b.core).word = w → w.testBit 14 = true ∨ w.testBit 15 = true →
    (box s.dev b.core).nextWord = none →
    Completes (.done ra b) s (fun t => (box t.dev b.core).state = 0 ∧ (box t.dev b.core).word = 0xFFFFFFFF))
  ∧ (∀ (b : Bundle) (s : State), Issuable (b.withAlu ⟨.idle, 0, 0, 0, 0⟩) s →
    Completes (.idle b) s (fun t => (acore t.dev b.core).sig = false
      ∧ (acore t.dev b.core).idle = !(acore s.dev b.core).sig))
  ∧ (∀ (b : Bundle) (s : State), Issuable (b.withAlu ⟨.brk, 0, 0, 0, 0⟩) s →
    Completes (.brk b) s (fun t => (acore t.dev b.core).status = 3))
  ∧ (∀ (m : Master) (c : Nat) (s : State), c < 16 → s.dev.sys.mode = .boot ∨ s.dev.sys.mode = .config →
    ((acore s.dev c).status = 1 ∨ (acore s.dev c).status = 3 →
      exec (.asterDbgHalt m c) s = becomes s (putCore c { acore s.dev c with status := 3 } s.dev))
    ∧ ((acore s.dev c).status ≠ 1 → (acore s.dev c).status ≠ 3 →
      exec (.asterDbgHalt m c) s = becomes s (setFlag (asterA c + 4) 9 s.dev))
    ∧ ((acore s.dev c).status = 3 →
      exec (.asterDbgResume m c) s = becomes s (putCore c { acore s.dev c with status := 1 } s.dev))
    ∧ ((acore s.dev c).status ≠ 3 → exec (.asterDbgResume m c) s = becomes s (setFlag (asterA c + 4) 9 s.dev)
      ∧ ∀ v, exec (.asterDbgDataWrite m c v) s = becomes s (setFlag (asterA c + 4) 9 s.dev)))
  ∧ (∀ (m : Master) (c : Nat) (b : Bundle) (s : State), c < 16 → s.dev.sys.mode = .boot ∨ s.dev.sys.mode = .config →
    (acore s.dev c).status = 3 → bundleHere s.dev c = some b → b.core = c →
    bundleFault (landed b s) c (coreOf b s) b = none → bundleWaits (landed b s) c b = false → b.alu.kind ≠ .brk →
    b.alu.kind ≠ .done →
    Completes (.asterDbgStep m c) s (fun t => (acore t.dev c).status = 3 ∧ (acore t.dev c).n = (acore s.dev c).n + 1))
  ∧ (∀ (m : Master) (c v r : Nat) (s : State), c < 16 → (acore s.dev c).status = 3 → v < 2 ^ 32 → 1 ≤ r → r < 32 →
    fld s.dev (asterA c + 0x40) 7 0 = r →
    Completes (.asterDbgDataWrite m c v) s (fun t => rg (acore t.dev c) r = v ∧ t.dev = { s.dev with aster := t.dev.aster }))
  ∧ (∀ (i : Nat) (s : State), s.dev.aster.writing = some i → s.dev.plan.running = none →
    Completes .codeBankWritten s (fun t => t.dev.aster.writing = none ∧ t.dev.aster.side1 = true
      ∧ t.dev.plan.pending = s.dev.plan.pending.map (fun r => if r.plan = i then { r with banksReady := true } else r)))

/-! ### Correction, survey and design -/

/-- CORRECTION_TASK_COMPLETE, LEVEL_BLOCK_JOB, LEVEL_BLOCK_JOB_COMPLETE, DEPARTURE: a correction task frees its entry,
and the last one of an output and quantum corrects the block; a task that waits for a level block is counted late
once; the jobs of a level queue up and finish oldest first; an error of the convolution store is recorded and raised;
a quantum departs once at its boundary (R261, R262, R265, R267). Readings and choices of the model: log 58, 59. -/
def Obligations.CorrectionsFinishAndDepart : Prop :=
  (∀ (side j q : Nat) (p : Nat × MatchEnt) (ecc : Bool) (s : State),
    (entries s.dev).find? (fun e => decide (e.2.side = side) && decide (e.2.kind = 3) && decide (e.2.ref = j)
      && decide (e.2.qn = q) && decide (e.2.state = 3)) = some p → levelWait s.dev j q = false →
    let d := freeEntry p.1 p.2 (unitByte 3 0) { s.dev with
      lupin := { s.dev.lupin with lateSeen := fput false s.dev.lupin.lateSeen (512 * q + j) false }
      disp := { s.dev.disp with lupinQ := s.dev.disp.lupinQ.filter (· ≠ p.1) } }
    let more := (entries d).any (fun x => decide (x.2.kind = 3) && decide (x.2.qn = q) && decide (x.2.ref = j))
    let d := if ecc then lupinEcc d else d
    exec (.correctionTaskComplete side j q ecc) s
      = becomes s (digestStep q (if more then d else correctOutput j q ecc d)))
  ∧ (∀ (side j q : Nat) (p : Nat × MatchEnt) (ecc : Bool) (s : State), mirrorsInputs s.dev = false →
    (entries s.dev).find? (fun e => decide (e.2.side = side) && decide (e.2.kind = 3) && decide (e.2.ref = j)
      && decide (e.2.qn = q) && decide (e.2.state = 3)) = some p → levelWait s.dev j q = true →
    Completes (.correctionTaskComplete side j q ecc) s (fun u =>
      fget false u.dev.lupin.lateSeen (512 * q + j) = true ∧ u.dev.disp = s.dev.disp
      ∧ rdN u.dev 0xA0018 = (if fget false s.dev.lupin.lateSeen (512 * q + j) then rdN s.dev 0xA0018
          else satInc (rdN s.dev 0xA0018) 1)))
  ∧ (∀ (j k b : Nat) (s : State), 1 ≤ k → k ≤ 3 → usedParts (corr s.dev j).tapUnits k ≠ 0 →
    exec (.levelBlockJob j k b) s = becomes s { s.dev with
      lupin := { s.dev.lupin with
        jobs := fput [] s.dev.lupin.jobs (4 * j + k) (fget [] s.dev.lupin.jobs (4 * j + k) ++ [b]) } })
  ∧ (∀ (j k b : Nat) (rest : List Nat) (s : State), fget [] s.dev.lupin.jobs (4 * j + k) = b :: rest →
    let d := { s.dev with lupin := { s.dev.lupin with jobs := fput [] s.dev.lupin.jobs (4 * j + k) rest } }
    exec (.levelBlockJobComplete j k false) s = becomes s d
    ∧ exec (.levelBlockJobComplete j k true) s
        = becomes s (faultCause 8 (raiseEvent evLupinEcc []
            (sramUe 1 (takeFree (2 ^ 24) d).1 (takeFree (2 ^ 24) d).2))))
  ∧ (∀ s : State, renderRuns s.dev = true → s.dev.geom.fresh = false → s.dev.time.counting = true →
    s.dev.net.departFirst + 3 ≤ s.dev.time.qn → s.dev.route.departQn ≠ s.dev.time.qn + 1 →
    let n := s.dev.time.qn
    exec .departure s = becomes s (forN 512 (departOutput (n - 3)) { s.dev with
      net := { s.dev.net with departNext := n - 2 }
      route := { s.dev.route with departQn := n + 1, departing := [], departUnset := [] }
      disp := { s.dev.disp with suppressed := s.dev.disp.suppressed.filter (fun e => n ≤ e.1 + 64) } }))

/-- CORR_BANK_LOADED, CORR_SWAPPED, IMAGE_LOAD_TIMEOUT, PLAN_LOAD_COMPLETE: a bank that has been transformed is loaded
and its command completes, and one that a design made is swapped by the firmware; a crossfade that has ended makes the
new bank active and empties the old one, and a command that named it completes when its last sample departs; a bank
that a plan swap waits for is loaded then; an image that the partner does not load ends the swap, on either device; a
plan that passes its checks is held, one that does not fails with its reason (R168, R270, R272, R273, R286).
SURVEY_STEP_END, SURVEY_DONE, AVERAGING_PERIOD_END, DESIGN_JOB_COMPLETE, DESIGN_JOB_TIMEOUT: a group that has run its
length ends and its responses are written; after the tail the device returns to CONFIG; a live period writes the
responses of its pairs but for those of an excluded microphone, and hands outputs over for design; a design writes its
image, or fails with its status (R276, R279, R282, R284, R285). Readings and choices of the model: log 41, 42, 60, 61,
110. -/
def Obligations.BanksPlansAndSurveys : Prop :=
  (∀ (j : Nat) (s : State), (corr s.dev j).inactive = 1 →
    let c := corr s.dev j
    let d := putCorr j { setOther c.loading c with
      inactive := if c.planUnits.isSome then 3 else 2, loadCid := none, loading := {} } (incCnt 0xA001C s.dev)
    let busy := (List.range 512).any (fun i => decide ((corr d i).inactive = 1))
    let e := heldProposals (completeOpt c.loadCid cDone 0 (if busy then d else clrFlag 0xA0004 0 d))
    exec (.corrBankLoaded j) s = becomes s (if c.autoSwap then
      firmwareCmd 0 (.corrSwap j 0 1024) (putCorr j { corr e j with autoSwap := false } e) else e))
  ∧ (∀ (j : Nat) (f : BankFade) (s : State), (corr s.dev j).fade = some f → (corr s.dev j).held = none →
    (f.n0 + f.xfade - 1) / 32 < (corr s.dev j).doneQn →
    let c := corr s.dev j
    let d := putCorr j { setOther {} { c with activeB := !c.activeB } with
      fade := none, inactive := 0, tapUnits := (otherBank c).units, planBank := false } (incCnt 0xA0020 s.dev)
    let d := if c.planBank then d else raiseEvent evCorrSwapped (leBytes 2 j ++ leBytes 8 f.n0) d
    let d := { d with lupin := { d.lupin with
      finish := d.lupin.finish ++ (f.cid.toList.map (fun cid => ((f.n0 + f.xfade - 1) / 32 + 3, cid))) } }
    exec (.corrSwapped j) s
      = becomes s (if c.planUnits.isSome then planBankLoad (c.planUnits.getD 0) j d else d))
  ∧ (∀ (j : Nat) (f : BankFade) (h : BankSwap) (s : State), (corr s.dev j).fade = some f →
    (corr s.dev j).held = some h → (corr s.dev j).planUnits = none → (f.n0 + f.xfade - 1) / 32 < (corr s.dev j).doneQn →
    Completes (.corrSwapped j) s (fun u => (corr u.dev j).fade = none ∧ (corr u.dev j).held = none
      ∧ (corr u.dev j).activeB = !(corr s.dev j).activeB ∧ activeBank (corr u.dev j) = otherBank (corr s.dev j)
      ∧ otherBank (corr u.dev j) = activeBank (corr s.dev j) ∧ (corr u.dev j).inactive = 3
      ∧ (corr u.dev j).pending = some (heldMoved f h)))
  ∧ (∀ (j n x : Nat) (p : Proposal) (s : State), s.dev.pair.proposals = [p] → s.dev.pair.heldProps = [] →
    p.cmd = .corrSwap j n x → p.reply ≠ some cDone →
    exec (.imageLoadTimeout j) s = becomes s (disagree p 0xFF (pairSendSeq 7 (beBytes 4 p.pid) (some p.applyQn)
      { s.dev with pair := { s.dev.pair with proposals := [] } })))
  ∧ (∀ (j n x : Nat) (pb : Bytes) (s : State), s.dev.pair.proposals = [] → s.dev.pair.heldProps = [pb] →
    entryCmd (slice pb 12 64) [] = some (.corrSwap j n x) →
    exec (.imageLoadTimeout j) s = becomes s (replySend (beAt pb 0 4) cTimeout
      { s.dev with pair := { s.dev.pair with heldProps := [] } }))
  ∧ (∀ (l : PlanLoad) (s : State), s.dev.plan.load = some l →
    let held := refreshPlanSet { s.dev with
      plan := { s.dev.plan with load := none, held := fins s.dev.plan.held l.plan l.image } }
    exec .planLoadComplete s = becomes s (match checkPlan s.dev l.image l.plan l.supplied with
      | none => complete l.cid cDone 0 (planSetId held) held
      | some (reason, sect, record, code) =>
        let d := wrN 0x80008 (reason + sect % 256 * 256 + record % 65536 * 65536)
          { s.dev with plan := { s.dev.plan with load := none } }
        complete l.cid code reason 0 (setFlag 0x80004 24 d)))
  ∧ (∀ (rs : List IrResult) (p : Plan) (s : State), s.dev.survey.stepQn ≠ 0 → s.dev.plan.active = some p →
    s.dev.survey.stepQn - 1 + groupQuanta (presentGroup s.dev) ≤ qnNow s.dev →
    let g := presentGroup s.dev
    let last := s.dev.survey.stepQn - 1 + groupQuanta g
    let found := irAll rs (groupPairs s.dev p g) s.dev
    let d := forL found.1 (irWrite p 1 last) found.2
    exec (.surveyStepEnd rs) s = becomes s { d with
      survey := { d.survey with
        step := d.survey.step + g.length
        stepQn := 0
        tailQn := if d.survey.step + g.length < d.survey.program.length then 0 else last + 513 } })
  ∧ (∀ s : State, s.dev.sys.mode = .survey → transNow s.dev = none → s.dev.survey.program ≠ [] →
    s.dev.survey.tailQn ≠ 0 → s.dev.survey.tailQn ≤ qnNow s.dev + 1 →
    exec .surveyDone s = becomes s (transStart (transPlan .config (qnNow s.dev) 6 none { s.dev with
      survey := { s.dev.survey with running := false, step := 0, stepQn := 0, tailQn := 0 } })))
  ∧ (∀ (p : Plan) (rs : List IrResult) (descs : List Nat) (designs : List DesignForm) (s : State), s.dev.plan.active = some p →
    identifies s.dev = true → bitAt s.dev 0xB0000 1 = false → pairFormed s.dev = false →
    let ok := (List.range 72).filter (fun m => micOn s.dev m && !(fget {} s.dev.survey.heard m).out)
    let found := irAll rs (periodPairs s.dev p)
      { s.dev with survey := { s.dev.survey with micOk := ok.map (fun m => (m, true)), heard := [] } }
    let d := forL found.1 (irWrite p 2 (qnNow s.dev)) found.2
    let next := d.survey.pairGroup + 1
    let d := { d with survey := { d.survey with pairGroup := if next < pairGroups d p then next else 0 } }
    exec (.averagingPeriodEnd rs descs designs) s = becomes s
      (if bitAt d 0xB0000 2 then forL (allFresh d p).zipIdx (fun x => designSubmit x.1 descs[x.2]? designs[x.2]?) d
        else d))
  ∧ (∀ (desc mics : Nat) (taps : List Int) (s : State), pairFormed s.dev = false → bitAt s.dev 0xB0000 2 = false →
    designRefused s.dev desc = none →
    let img := designImage (takeFree (2 ^ 64) s.dev).2 desc taps (takeFree (2 ^ 64) s.dev).1
    let d := memWrite (leVal (memRead s.dev (desc + 40) 8) % 2 ^ 40) img (takeFree (2 ^ 64) s.dev).2
    let d := memWrite (desc + 52) (leBytes 4 (ct32 s.dev)) (memWrite (desc + 48) (leBytes 1 1 ++ leBytes 1 mics) d)
    exec (.designJobComplete desc mics taps) s = becomes s (raiseEvent evCorrImageReady [] { d with
      survey := { d.survey with jobs := d.survey.jobs.filter (fun x => x.desc ≠ desc) } }))
  ∧ (∀ (desc : Nat) (s : State), (∃ x ∈ s.dev.survey.jobs, x.desc = desc) →
    let d := memWrite (desc + 52) (leBytes 4 (ct32 s.dev)) (memWrite (desc + 48) (leBytes 1 4) s.dev)
    let d := setFlag 0xB0004 10 (incCnt 0xB0028 d)
    exec (.designJobTimeout desc) s = becomes s (raiseEvent evCorrDesignFail (leBytes 1 4) { d with
      survey := { d.survey with jobs := d.survey.jobs.filter (fun x => x.desc ≠ desc) } }))

/-! ### Decimators and capture -/

/-- DEC_SRC_STUCK, DEC_SRC_OK, DEC_CONFIG_COMPLETE, DEC_SWAPPED, DEC_COEF_DATA_WRITE, DEC_CH_CFG_WRITE: a stuck
source, which latches the channel that it senses, and its end; the completion of a channel's configuration and the
exchange of its coefficient banks; coefficients go to the bank that is not active; a channel is set up in CONFIG
within the ranges and the load (R291, R292, R294, R298, R299, R303). DECIMATOR_SAMPLE_DELIVERED, CAPTURE_BLOCK_WRITE:
a running channel computes its next sample from the modulator bits, into its register and the routing inputs; a stream
writes the block that all its channels have delivered into its buffer or the entry that the host posted, or drops it
when its buffer is full (R293, R295, R297, R301, R302). Readings and choices of the model: log 62, 63, 65. -/
def Obligations.DecimatorChannelsAreConfiguredAndDeliver : Prop :=
  (∀ (src : Nat) (s : State), src < 0x70 → fget 0 s.dev.dec.stuck src = 0 → sourceIdle (drvChRuns s.dev) src = false →
    let d := raiseEvent evDecSrcStuck (leBytes 1 src) (setFlag 0x160004 10 { s.dev with
      dec := { s.dev.dec with stuck := fput 0 s.dev.dec.stuck src (modClock s.dev (fMod s.dev src) + 1) } })
    exec (.decSrcStuck src) s
      = becomes s (transAdvance (if 0x48 ≤ src ∧ src < 0x68 ∧
          (drvSwitches d ((src - 0x48) % 16) = true ∨ latchedNow d ((src - 0x48) % 16) = true) then
          drvLatch ((src - 0x48) % 16) 8 d else d)))
  ∧ (∀ (src : Nat) (s : State), fget 0 s.dev.dec.stuck src ≠ 0 →
    exec (.decSrcOk src) s = becomes s
      (forN 128 (fun c d => if chOn d c && decide (cfgSource (chCfg d c) = src) then chStartNow c d else d)
        (raiseEvent evDecSrcOk []
          { s.dev with dec := { s.dev.dec with stuck := fput 0 s.dev.dec.stuck src 0 } })))
  ∧ (∀ (c cid q : Nat) (s : State), (decCh s.dev c).applied = some (cid, q) → (decCh s.dev c).delivered = true →
    exec (.decConfigComplete c) s = becomes s (complete cid cDone 0 q (putDec c { decCh s.dev c with applied := none } s.dev)))
  ∧ (∀ (c : Nat) (r : DecSwap) (s : State), (decCh s.dev c).swap = some r → r.applyQn ≤ qnNow s.dev →
    s.dev.time.counting = true → chOn s.dev c = true → decRuns s.dev = true →
    exec (.decSwapped c) s = becomes s (complete r.cid cDone 0 r.applyQn (raiseEvent evDecSwapped []
      (incCnt 0x16000C (putDec c { decCh s.dev c with
        activeB := !(decCh s.dev c).activeB
        swapAt := clockOfQn s.dev (fMod s.dev (cfgSource (chCfg s.dev c))) r.applyQn, written := false, swap := none } s.dev)))))
  ∧ (∀ (m : Master) (v : Nat) (s : State),
    let sel := rdN s.dev 0x160040
    let c := bits sel 22 16
    let bank (x : DecCh) (b : Bool) := if b then x.bankB else x.bankA
    (sel.testBit 8 = (decCh s.dev c).activeB → exec (.decCoefDataWrite m v) s = becomes s (setFlag 0x160004 8 s.dev))
    ∧ (sel.testBit 8 = !(decCh s.dev c).activeB →
      Completes (.decCoefDataWrite m v) s (fun u => (decCh u.dev c).written = true
        ∧ fget 0 (bank (decCh u.dev c) (sel.testBit 8)) (bits sel 5 0) = sext 32 v
        ∧ (∀ k, k ≠ bits sel 5 0 → fget 0 (bank (decCh u.dev c) (sel.testBit 8)) k
            = fget 0 (bank (decCh s.dev c) (sel.testBit 8)) k)
        ∧ bank (decCh u.dev c) (decCh s.dev c).activeB = bank (decCh s.dev c) (decCh s.dev c).activeB
        ∧ fld u.dev 0x160040 5 0 = (bits sel 5 0 + 1) % 64)))
  ∧ (∀ (m : Master) (c v : Nat) (s : State), c < 128 → v < 2 ^ 32 →
    let rate := rdN s.dev (decA c + 4)
    let phase := rdN s.dev (decA c + 8)
    (s.dev.sys.mode ≠ .config → exec (.decChCfgWrite m c 0 v) s = becomes s (lockedWrite (decA c) s.dev))
    ∧ (s.dev.sys.mode = .config → decWordsOk s.dev c (v % 2 ^ 30) rate phase = false →
      exec (.decChCfgWrite m c 0 v) s = becomes s (setFlag 0x160004 8 s.dev))
    ∧ (s.dev.sys.mode = .config → decWordsOk s.dev c (v % 2 ^ 30) rate phase = true →
      exec (.decChCfgWrite m c 0 v) s
        = becomes s (if v % 2 ^ 30 = chCfg s.dev c then s.dev else chApply c (v % 2 ^ 30) rate phase none s.dev)))
  ∧ (∀ (c : Nat) (given : List Bool) (s : State), c < 128 → chOn s.dev c = true → decRuns s.dev = true →
    (decCh s.dev c).started = true →
    let x := decCh s.dev c
    let src := cfgSource (chCfg s.dev c)
    let idle := sourceIdle (drvChRuns s.dev) src
    let n := clockOf s.dev c x.m + 1 - x.clk
    let r := chClocks (chCfg s.dev c) (chBits idle (chHeld s.dev c) (fget 0 s.dev.dec.stuck src) x.clk n given) x
    let y := resampleOut s.dev c x.m r.1.u
    Completes (.decimatorSampleDelivered c given) s (fun t =>
      rdN t.dev (decA c + 0x14) = wrapN 32 y.1 ∧ fget 0 t.dev.route.inputs (0x200 + c) = y.1
      ∧ (decCh t.dev c).m = x.m + 1 ∧ (decCh t.dev c).clk = r.1.clk ∧ (decCh t.dev c).settle = x.settle - 1
      ∧ (decCh t.dev c).flagged = (idle || decide (0 < x.settle)) ∧ (decCh t.dev c).delivered = true))
  ∧ (∀ (n m0 : Nat) (es rest : List Bytes) (e : Bytes) (err : Bool) (s : State), n < 8 → capOn s.dev n = true →
    let live := (capMembers s.dev n).filter (fun c => chOn s.dev c && (decCh s.dev c).started)
    let done := live.foldl (fun k c => min k (decCh s.dev c).m) ((decCh s.dev (live.headD 0)).m)
    let whole (m : Nat) := ∀ c ∈ live, (fget (0, 0, false) (decCh s.dev c).recent ((m + 31) % 64)).1 = m + 32
    live ≠ [] → m0 % 32 = 0 → m0 + 32 ≤ done →
    ((capSt s.dev n).next = m0 ∧ m0 ≠ 0 ∨
      (capSt s.dev n).next = 0 ∧ whole m0 ∧ done < m0 + 96
        ∧ (m0 + 64 ≤ done ∨ m0 = 0 ∨ ¬ whole (m0 - 32))) →
    (∀ c ∈ live, (decCh s.dev c).m ≤ m0 + 64) →
    let a := 0x160100 + 0x40 * n
    let b := capBlock s.dev n m0
    let wr := rdN s.dev (a + 0x20)
    b.2 = 0 →
    let d := putCap n { capSt s.dev n with next := m0 + 32 } s.dev
    (bitAt s.dev a 1 = false → rdN s.dev (a + 0x1C) ≤ subMod 32 wr (rdN s.dev (a + 0x24)) →
      exec (.captureBlockWrite n es err) s = becomes s (capDrop n d))
    ∧ (bitAt s.dev a 1 = false → subMod 32 wr (rdN s.dev (a + 0x24)) < rdN s.dev (a + 0x1C) →
      exec (.captureBlockWrite n es err) s = becomes s (wrN (a + 0x20) (wr + 1) (putCap n { capSt s.dev n with
        next := m0 + 32, seq := ((capSt s.dev n).seq + 1) % 65536, gap := false }
          (memWrite (addr64 s.dev (a + 0x14) + wr % rdN s.dev (a + 0x1C) * b.1.length) b.1 d))))
    ∧ (bitAt s.dev a 1 = true → es = e :: rest → err = false →
        (ringRunning s.dev (65 + n) = true ∨ (0 < (capSt s.dev n).placed ∧ ringHalted s.dev (65 + n) = false)) →
        ringHeld s.dev (65 + n) ≠ 0 → entryReserved false false e = true →
        entryOk false (leAt e 14 1 * b.1.length) e = true →
        let x := capSt s.dev n
        let full := decide (x.placed + 1 ≥ leAt e 14 1)
        let d := putCap n { x with
          next := m0 + 32, seq := (x.seq + 1) % 65536, gap := false, placed := if full then 0 else x.placed + 1
          partly := x.partly && !full } (emit (.hostWrite (leAt e 0 8 + x.placed * b.1.length) b.1) d)
        exec (.captureBlockWrite n es err) s
          = becomes s (if full then entryFinish (65 + n) (if x.partly then 2 else 1) d else d)))

/-! ### Direct drive -/

/-- DRV_OVERCURRENT, RAIL_UV, STAGE_FAULT_INPUT, CURRENT_LIMIT_CROSSING, RETRY_DELAY_EXPIRY, RAIL_RECOVERED: a cause
in play latches a channel: its gates go low, its status shows the cause, it is counted; a latched channel retries
after its delay, or waits for its rail (R313, R317 to R321). Readings and choices of the model: log 65, 66. -/
def Obligations.CausesLatchAndRetriesFollow : Prop :=
  (∀ (c : Nat) (s : State), c < 16 → drvSwitches s.dev c = true → (drvCh s.dev c).state ≠ 1 →
    s.dev.plan.active = none → s.dev.sys.running = none →
    let l := drvLead s.dev c
    2 ≤ (drvCh s.dev l).state → (drvCh s.dev l).state ≤ 5 →
    Completes (.drvOvercurrent c) s (fun u =>
      (∀ i ∈ drvMembers s.dev l, (drvCh u.dev i).state = 6 ∧ (drvCh u.dev i).fault = 5
        ∧ (drvCh u.dev i).ramp = none ∧ bitAt u.dev (drvA i + 0x10) 16 = true)
      ∧ bitAt u.dev 0x170004 9 = true ∧ rdN u.dev 0x170014 = satInc (rdN s.dev 0x170014) 1
      ∧ (∀ i, i ∉ drvMembers s.dev l → drvCh u.dev i = drvCh s.dev i)))
  ∧ (∀ (c : Nat) (s : State),
    let l := drvLead s.dev c
    let x := drvCh s.dev c
    (x.state = 1 ∧ (x.step = 2 ∨ x.step = 3) → exec (.drvOvercurrent c) s = becomes s
      (transAdvance (diagEnd l (if x.step = 2 then 1 else 4) (diagZ l none s.dev))))
    ∧ (¬ (x.state = 1 ∧ (x.step = 2 ∨ x.step = 3)) → (drvSwitches s.dev c = true ∨ latchedNow s.dev c = true) →
      exec (.drvOvercurrent c) s = becomes s (transAdvance (drvLatch c 5 s.dev))))
  ∧ (∀ (r : Nat) (s : State), fld s.dev (railA r + 4) 15 0 ≠ 0 → bitAt s.dev (railA r) 7 = true →
    (drvRail s.dev r).volts < fld s.dev (railA r + 4) 15 0 →
    exec (.railUv r) s = becomes s
      (transAdvance (forL ((railChans s.dev r).filter (fun c => decide ((drvCh s.dev c).state = 4) || latchedNow s.dev c))
        (fun c d => drvLatch c 6 d) (putRail r { drvRail s.dev r with blocked := true } s.dev))))
  ∧ (∀ (r : Nat) (s : State),
    exec (.stageFaultInput r) s = becomes s
      (transAdvance (forL (railChans s.dev r) (fun c d => drvLatch c 7 d)
        (putRail r { drvRail s.dev r with blocked := true } s.dev))))
  ∧ (∀ (c mv : Nat) (s : State), drvSwitches s.dev c = true →
    fld s.dev (drvA c + 8) 11 0 ≤ (if (drvCh s.dev c).state = 1 then 4 * mv else mv) →
    exec (.currentLimitCrossing ⟨c, mv⟩) s
      = becomes s (incCnt (drvA c + 0x1C) (emit (.turn c (deadNs s.dev c)) s.dev)))
  ∧ (∀ (c : Nat) (s : State),
    let l := drvLead s.dev c
    (drvCh s.dev l).state = 6 → (∀ i ∈ drvMembers s.dev l, (drvCh s.dev i).state = 6) → bitAt s.dev 0x170000 2 = true →
    (drvCh s.dev l).retries < fld s.dev 0x17000C 11 8 → s.dev.sys.mode ≠ .boot → s.dev.sys.mode ≠ .stop →
    exec (.retryDelayExpiry c) s = becomes s (updDrv l (fun x =>
      if railHolds s.dev l then { x with state := 7 }
      else { x with state := 1, step := 1, why := .retry, was := 6, ran := false, ramp := none }) s.dev))
  ∧ (∀ (r : Nat) (s : State), (drvRail s.dev r).blocked = true →
    (fld s.dev (railA r + 4) 15 0 = 0 ∨ fld s.dev (railA r + 4) 15 0 < (drvRail s.dev r).volts) →
    (∀ c, (drvCh s.dev c).state ≠ 7) →
    exec (.railRecovered r) s = becomes s (putRail r { drvRail s.dev r with blocked := false } s.dev))

/-- DIAG_STEP_END, STAGGER_LOCK, DRV_UNLOCK, DRV_CH_CFG_WRITE: a step of the load diagnostics passes to the next,
fails with its code, or ends the run; the stagger lock; the setup of channels and rails (R305, R308, R311, R314, R315,
R325). Readings and choices of the model: log 27, 66. -/
def Obligations.DiagnosticsStaggerAndSetup : Prop :=
  (∀ (c node n : Nat) (s : State), (∀ t, s.dev.sys.running = some t → t.phase ≠ .cmRampUp) →
    let l := drvLead s.dev c
    (drvCh s.dev l).state = 1 → (drvCh s.dev l).step = n →
    (∀ i ∈ drvMembers s.dev l, (drvCh s.dev i).state = 1 ∧ (drvCh s.dev i).step = n) →
    ((n = 1 ∧ 2 * node ≤ (drvRail s.dev (railOf s.dev l)).volts ∧ senseStuck s.dev l = false) ∨ (n = 2 ∧ 200 ≤ node)) →
    Completes (.diagStepEnd c node false none) s (fun u =>
      (∀ i ∈ drvMembers s.dev l, drvCh u.dev i = { drvCh s.dev i with
        step := n + 1
        locked := decide (n = 2) && (drvCh s.dev i).locked
        unlockRaised := decide (n = 2) && (drvCh s.dev i).unlockRaised })
      ∧ u.dev.out = s.dev.out ++ (if n = 1 then (drvMembers s.dev l).map (fun i => .ball "DRV" i 1) else [])))
  ∧ (∀ (c node : Nat) (z : Option Nat) (limit : Bool) (s : State), c < 16 → s.dev.plan.active = none →
    (∀ t, s.dev.sys.running = some t → t.phase ≠ .cmRampUp ∧ (t.phase = .preroll → t.target ≠ .survey)) →
    let l := drvLead s.dev c
    let code := diagJudge s.dev l (drvCh s.dev l).step node limit z
    (drvCh s.dev l).state = 1 → code ≠ 0 →
    Completes (.diagStepEnd c node limit z) s (fun u =>
      (∀ i ∈ drvMembers s.dev l, (drvCh u.dev i).state = 6 ∧ (drvCh u.dev i).fault = code ∧ (drvCh u.dev i).code = code
        ∧ (drvCh u.dev i).ran = true ∧ (drvCh u.dev i).step = 0)
      ∧ rdN u.dev 0x170018 = satInc (rdN s.dev 0x170018) 1))
  ∧ (∀ (c node : Nat) (z : Option Nat) (limit : Bool) (s : State),
    (∀ t, s.dev.sys.running = some t → t.phase ≠ .cmRampUp ∧ (t.phase = .preroll → t.target ≠ .survey)) →
    let l := drvLead s.dev c
    (drvCh s.dev l).state = 1 → (drvCh s.dev l).step = 4 → ((drvCh s.dev l).why = .retry → s.dev.sys.mode = .config) →
    Completes (.diagStepEnd c node limit z) s (fun u => ∀ i ∈ drvMembers s.dev l,
      (drvCh u.dev i).state = (if (drvCh s.dev l).why = .command ∧ ((drvCh s.dev l).was = 6 ∨ (drvCh s.dev l).was = 7) then
          (drvCh s.dev l).was else 0)
      ∧ (drvCh u.dev i).code = 0 ∧ (drvCh u.dev i).ran = true ∧ (drvCh u.dev i).step = 0))
  ∧ (∀ (c : Nat) (s : State), drvSwitches s.dev c = true → bitAt s.dev 0x170000 1 = true →
    exec (.staggerLock c) s = becomes s (putDrv c { drvCh s.dev c with locked := true } s.dev))
  ∧ (∀ (c : Nat) (s : State), drvSwitches s.dev c = true → bitAt s.dev 0x170000 1 = true →
    (drvCh s.dev c).ref = 0 → (drvCh s.dev c).locked = false → (drvCh s.dev c).unlockRaised = false →
    exec (.drvUnlock c) s = becomes s (raiseEvent evDrvUnlock (leBytes 1 c)
      (setFlag 0x170004 11 (setFlag (drvA c + 0x10) 17 (putDrv c { drvCh s.dev c with unlockRaised := true } s.dev)))))
  ∧ (∀ (m : Master) (c v : Nat) (s : State), c < 16 → v < 2 ^ 32 →
    (s.dev.sys.mode ≠ .config → exec (.drvChCfgWrite m false c v) s = becomes s (lockedWrite (drvA c) s.dev))
    ∧ (s.dev.sys.mode = .config → drvCfgOk s.dev c (v % 2 ^ 30) = true →
      exec (.drvChCfgWrite m false c v) s = becomes s (wrN (drvA c) (v % 2 ^ 30) s.dev))
    ∧ (s.dev.sys.mode = .config → drvCfgOk s.dev c (v % 2 ^ 30) = false →
      exec (.drvChCfgWrite m false c v) s = becomes s (setFlag 0x170004 8 s.dev)))
  ∧ (∀ (m : Master) (r v : Nat) (s : State), r < 8 → s.dev.sys.mode = .config → 100 ≤ bits v 31 16 →
    cfgSource (chCfg s.dev (bits v 6 0)) = 0x68 + r → v.testBit 7 = true →
    exec (.drvChCfgWrite m true r v) s
      = becomes s (wrN (railA r) (bits v 7 0 + bits v 31 16 * 2 ^ 16) s.dev))

/-! ### Serial ports and the listen port -/

/-- APORT_ENABLE, APORT_DISABLE, APORT_CFG_WRITE, SLOT_MASK_WRITE, SLOT_MASK_LATCH, APORT_ZC_TIMEOUT,
PORT_CLOCKS_STOP: the slots of a port start and stop, its setup is kept to the rules, new masks come into force at a
frame start, and its clocks stop when every slot is silent (R326, R327, R338, R340, R341, R348). FRAME_START,
RX_FRAME, MISSING_FRAME, PORT_ALIGNED, PERIOD_FAULT_CLEAR, APORT_ASRC_LOCK, APORT_ASRC_UNLOCK: a frame takes in the
samples on its line, brings the masks into force and sends; a frame that is short or missing is lost and breaks the
run of aligned frames; a locked slave is aligned after sixteen frames; a converter locks at a ratio in range (R330 to
R335, R338). Readings and choices of the model: log 67, 68, 111. -/
def Obligations.PortsKeepTheirSetupAndCarryFrames : Prop :=
  (∀ (m : Master) (p v : Nat) (s : State), p < 16 → s.dev.sys.mode ≠ .boot → s.dev.sys.mode ≠ .stop → v < 2 ^ 32 →
    let ok := aportCfgOk s.dev (rdN s.dev (aportA p))
    let d := wrN (aportA p + 4) ((v ||| 1) % 4) s.dev
    (ok = false → exec (.aportEnable m p v) s = becomes s (setFlag (aportA p + 8) 12 s.dev))
    ∧ (ok = true → bitAt s.dev (aportA p + 4) 0 = false →
      exec (.aportEnable m p v) s = becomes s (putAport p (eachSlot d p slotBegin (aport d p)) d))
    ∧ (ok = true → bitAt s.dev (aportA p + 4) 0 = true → exec (.aportEnable m p v) s = becomes s d))
  ∧ (∀ (m : Master) (p v : Nat) (s : State), p < 16 → s.dev.sys.mode ≠ .boot → s.dev.sys.mode ≠ .stop →
    let d := wrN (aportA p + 4) ((v &&& 0xFFFFFFFE) % 4) s.dev
    (bitAt s.dev (aportA p + 4) 0 = true →
      exec (.aportDisable m p v) s = becomes s (putAport p (eachSlot d p (slotEnd (aportStarting (aport s.dev p))) (aport d p)) d))
    ∧ (bitAt s.dev (aportA p + 4) 0 = false → exec (.aportDisable m p v) s = becomes s d))
  ∧ (∀ (m : Master) (p v : Nat) (s : State), p < 16 → v < 2 ^ 32 →
    (s.dev.sys.mode ≠ .config → exec (.aportCfgWrite m p v) s = becomes s (lockedWrite (aportA p) s.dev))
    ∧ (s.dev.sys.mode = .config → aportCfgOk s.dev (v % 2 ^ 21) = false →
      exec (.aportCfgWrite m p v) s = becomes s (setFlag (aportA p + 8) 12 s.dev))
    ∧ (s.dev.sys.mode = .config → aportCfgOk s.dev (v % 2 ^ 21) = true →
      exec (.aportCfgWrite m p v) s = becomes s (wrN (aportA p) (v % 2 ^ 21) s.dev)))
  ∧ (∀ (m : Master) (p dir v : Nat) (s : State), p < 16 → dir < 2 → s.dev.sys.mode ≠ .boot → s.dev.sys.mode ≠ .stop →
    exec (.slotMaskWrite m p dir v) s = becomes s (wrN (aportA p + 0xC + 4 * dir) v s.dev))
  ∧ (∀ (p : Nat) (s : State), p < 16 →
    Completes (.slotMaskLatch p) s (fun u => ∀ dir, dir < 2 →
      let new := rdN s.dev (aportA p + 0xC + 4 * dir)
      let old := maskNow s.dev p dir
      maskNow u.dev p dir = new
      ∧ ∀ k, k < 32 → slotOf (aport u.dev p) dir k =
        (if new.testBit k = old.testBit k then slotOf (aport s.dev p) dir k
         else if old.testBit k ∨ bitAt s.dev (aportA p + 4) 0 = false then {}
         else { phase := if dir = 1 ∨ (aport s.dev p).framed = false then .starting else .running })))
  ∧ (∀ (p dir k : Nat) (s : State), routeT s.dev ≤ (slotOf (aport s.dev p) dir k).waited →
    let y := slotOf (aport s.dev p) dir k
    y.phase = .starting ∨ y.phase = .stopping →
    let next := { y with phase := if y.phase = .starting then .running else .silent, waited := 0 }
    exec (.aportZcTimeout p dir k) s = becomes s (raiseEvent evAportZcTimeout (leBytes 1 p)
      (setFlag (aportA p + 8) 11 (incCnt (aportA p + 0x2C)
        (putAport p (putSlot dir k next (aport s.dev p)) s.dev)))))
  ∧ (∀ (p : Nat) (s : State), (aport s.dev p).running = true → fld s.dev (aportA p + 4) 1 0 = 0 →
    aportSilent (aport s.dev p) = true →
    exec (.portClocksStop p) s = becomes s (putAport p { aport s.dev p with
      running := false, framed := false, aligned := false, run := 0, locked := false, frameNo := 0, lost := 0 } (wrN (aportA p + 0x1C) 0 s.dev)))
  ∧ (∀ (p : Nat) (line : List Bool) (s : State), aportRole s.dev p < 2 →
    bitAt s.dev (aportA p + 4) 0 = true ∨ (aport s.dev p).running = true →
    s.dev.sys.mode ≠ .boot → s.dev.sys.mode ≠ .stop →
    (∀ m, portFrame s.dev p = some m → (aport s.dev p).frameNo ≠ m + 1) →
    let d := if (aport s.dev p).framed = false ∨ aportAsrc s.dev p = true then s.dev
      else rxSamples p (sampleNow s.dev - 1) (rxLine s.dev p line) (!aportClock s.dev p) 0 s.dev
    let e := maskLatch p d
    exec (.frameStart p line) s = becomes s (txFrame p (putAport p { aport e p with
      running := true, framed := true, frameNo := ((portFrame e p).map (· + 1)).getD 0 } e)))
  ∧ (∀ (p m : Nat) (line : List Bool) (s : State), portFrame s.dev p = some m → (aport s.dev p).frameNo = m + 1 →
    exec (.frameStart p line) s = .next s)
  ∧ (∀ (p clocks : Nat) (line : List Bool) (before now : Bool) (off ppm : Int) (s : State), aportRole s.dev p = 2 →
    aportAsrc s.dev p = true → bitAt s.dev (aportA p + 4) 0 = true → frameOpens (rdN s.dev (aportA p)) before now = true →
    s.dev.sys.mode ≠ .boot → s.dev.sys.mode ≠ .stop → -1000 ≤ ppm → ppm ≤ 1000 →
    let cfg := rdN s.dev (aportA p)
    let whole := clocks = slotsOf cfg * slotWidth cfg
    let d := if whole then ratioTrack p ppm s.dev
      else putAport p { aport s.dev p with lost := (aport s.dev p).lost + fsHz s.dev }
        (incCnt (aportA p + 0x28) (setFlag (aportA p + 8) 9 s.dev))
    exec (.rxFrame p ⟨line, before, now⟩ off clocks ppm) s = becomes s
      (if ¬ whole ∧ (aport s.dev p).running = false then d else txFrame p
        (putAport p { aport (maskLatch p d) p with running := true, framed := true } (maskLatch p d))))
  ∧ (∀ (p : Nat) (line : List Bool) (before now : Bool) (off ppm : Int) (s : State), aportRole s.dev p = 3 →
    aportAsrc s.dev p = false → bitAt s.dev (aportA p + 4) 0 = true → frameOpens (rdN s.dev (aportA p)) before now = true →
    s.dev.sys.mode ≠ .boot → s.dev.sys.mode ≠ .stop → -1000 ≤ ppm → ppm ≤ 1000 → -4 ≤ off → off ≤ 4 →
    (aport s.dev p).periodBad = false → (aport s.dev p).aligned = true →
    let cfg := rdN s.dev (aportA p)
    let d := rxSamples p (sampleNow s.dev - 1) (rxLine s.dev p line) false 0
      (putAport p { aport s.dev p with run := (aport s.dev p).run + 1 } s.dev)
    exec (.rxFrame p ⟨line, before, now⟩ off (slotsOf cfg * slotWidth cfg) ppm) s = becomes s (txFrame p
      (putAport p { aport (maskLatch p d) p with running := true, framed := true } (maskLatch p d))))
  ∧ (∀ (p : Nat) (s : State), 2 ≤ aportRole s.dev p → (aport s.dev p).running = true → aportAsrc s.dev p = true →
    exec (.missingFrame p) s = becomes s (putAport p { aport s.dev p with
      run := 0, lost := (aport s.dev p).lost + fsHz s.dev } (incCnt (aportA p + 0x28) s.dev)))
  ∧ (∀ (p : Nat) (s : State), 2 ≤ aportRole s.dev p → (aport s.dev p).running = true → aportAsrc s.dev p = false →
    exec (.missingFrame p) s = becomes s (rxSamples p (sampleNow s.dev - 1) (fun _ => 0) true 4
      (incCnt (aportA p + 0x28) (putAport p { aport s.dev p with run := 0 } s.dev))))
  ∧ (∀ (p : Nat) (s : State), 16 ≤ (aport s.dev p).run →
    exec (.portAligned p) s = becomes s (putAport p { aport s.dev p with aligned := true } s.dev))
  ∧ (∀ (p : Nat) (s : State),
    exec (.periodFaultClear p) s = becomes s (putAport p { aport s.dev p with periodBad := false } s.dev))
  ∧ (∀ (p ratio : Nat) (s : State), aportAsrc s.dev p = true → (aport s.dev p).running = true →
    (aport s.dev p).locked = false → (aport s.dev p).periodBad = false → 2 ^ 22 ≤ ratio → ratio ≤ 2 ^ 26 →
    exec (.aportAsrcLock p ratio) s = becomes s (raiseEvent evAportAsrcLock (leBytes 1 p)
      (wrN (aportA p + 0x20) 8192 (wrN (aportA p + 0x1C) ratio
        (putAport p { aport s.dev p with locked := true, settle := 32 } s.dev)))))
  ∧ (∀ (p : Nat) (s : State), (aport s.dev p).locked = true →
    exec (.aportAsrcUnlock p) s = becomes s (raiseEvent evAportAsrcUnlock (leBytes 1 p)
      (wrN (aportA p + 0x1C) 0 (putAport p { aport s.dev p with locked := false } s.dev))))

/-- LISTEN_INSERTION, LISTEN_DETECT_STEP, LISTEN_UNPLUG, LISTEN_BUTTON, MIC_GATE_END, LISTEN_HP_FAULT: detection steps
from insertion to a reported accessory, removal, a button's press and release with the gate of the microphone, and the
mute of a headphone fault (R343 to R347). Readings and choices of the model: log 69. -/
def Obligations.TheListenPortDetectsAndMutes : Prop :=
  (∀ s : State, listenOff s.dev = false →
    exec .listenInsertion s
      = becomes s (putListen { s.dev.aport.listen with step := 1, plugged := false, accessory := 0 } s.dev))
  ∧ (∀ (x n : Nat) (s : State), listenOff s.dev = false → s.dev.aport.listen.step = n →
    let window := 300 ≤ x ∧ x ≤ 2400
    (n = 1 → exec (.listenDetectStep x) s
      = becomes s (putListen { s.dev.aport.listen with step := 2, plugged := true } s.dev))
    ∧ (n = 2 → x < 50 → exec (.listenDetectStep x) s = becomes s (listenReport 1 s.dev))
    ∧ (n = 2 → 50 ≤ x → exec (.listenDetectStep x) s = becomes s (putListen { s.dev.aport.listen with step := 3 } s.dev))
    ∧ (n = 3 → window → exec (.listenDetectStep x) s = becomes s (listenReport 2 s.dev))
    ∧ (n = 3 → ¬window → exec (.listenDetectStep x) s = becomes s (putListen { s.dev.aport.listen with step := 4 } s.dev))
    ∧ (n = 4 → window → exec (.listenDetectStep x) s = becomes s (listenReport 3 s.dev))
    ∧ (n = 4 → ¬window → exec (.listenDetectStep x) s = becomes s (listenReport 4 s.dev)))
  ∧ (∀ s : State, listenOff s.dev = false →
    exec .listenUnplug s = becomes s (raiseEvent evListenUnplug [] (setFlag 0x180004 16 (wrN 0x180010 0xFFFFFFFF
      (putListen { s.dev.aport.listen with
        step := 0, plugged := false, accessory := 0, button := 0, gate := false, ramp := 0 } s.dev)))))
  ∧ (∀ (mv b : Nat) (s : State), headsetBiased s.dev = true → s.dev.aport.listen.button = 0 →
    let r := lineOhms mv
    buttonOf (wrN 0x180010 r s.dev) r = some b →
    exec (.listenButton ⟨mv, true⟩) s = becomes s (raiseEvent evListenButton (leBytes 1 b ++ leBytes 1 1) (setFlag 0x180004 17
      (putListen { s.dev.aport.listen with button := b + 1, gate := false } (wrN 0x180010 r s.dev)))))
  ∧ (∀ (mv b : Nat) (s : State), headsetBiased s.dev = true → s.dev.aport.listen.button = b + 1 →
    let r := lineOhms mv
    buttonOf (wrN 0x180010 r s.dev) r = none → buttonTop (wrN 0x180010 r s.dev) < r →
    exec (.listenButton ⟨mv, true⟩) s = becomes s (raiseEvent evListenButton (leBytes 1 b ++ leBytes 1 0) (setFlag 0x180004 17
      (putListen { s.dev.aport.listen with button := 0, gate := true } (wrN 0x180010 r s.dev)))))
  ∧ (∀ (mv : Nat) (s : State), headsetBiased s.dev = true →
    exec (.listenButton ⟨mv, false⟩) s = becomes s (wrN 0x180010 (lineOhms mv) s.dev))
  ∧ (∀ s : State, exec .micGateEnd s = becomes s (putListen { s.dev.aport.listen with gate := false } s.dev))
  ∧ (∀ s : State, listenPlays s.dev = true →
    exec .listenHpFault s = becomes s (raiseEvent evListenHpFault []
      (setFlag 0x180004 18 (putListen { s.dev.aport.listen with muted := true } s.dev))))

/-! ### The network -/

/-- NET_LINK_DOWN, NET_LINK_UP, TX_FRAME_BOUNDARY, PREEMPTION_VERIFY, PAUSE_HIGH_WATERMARK, PAUSE_REPEAT,
PAUSE_LOW_WATERMARK, PAUSE_RECEIVE, PAUSE_EXPIRY: links, the frame sent at a boundary, a PTP event message with the
time at which it crosses and the UDP checksum 0 that it has over IPv4, verification of preemption, and PAUSE in both
directions (R70, R71, R351, R354, R358). FRAME_RECEIVE, CONTROL_RATE_WINDOW, CONTROL_DATAGRAM_RECEIVE: the checks of a
received frame in their order, the counter of the one that drops it, the allowance of control frames, and a datagram
that is not well formed (R93, R352, R356, R357, R360). Readings and choices of the model: log 70, 71, 32. -/
def Obligations.FramesGoAndComeOnTheLinks : Prop :=
  (∀ (p : Nat) (s : State), p < 4 → linkIsUp s.dev p = true →
    Completes (.netLinkDown p) s (fun u => linkIsUp u.dev p = false ∧ (netPort u.dev p).paused = false
      ∧ (netPort u.dev p).verifies = 0
      ∧ u.dev.sys = s.dev.sys ∧ u.dev.time = s.dev.time ∧ u.dev.mem = s.dev.mem))
  ∧ (∀ (p : Nat) (s : State), p < 4 → bitAt s.dev (netA p) 0 = true → bitAt s.dev (netA p + 4) 0 = false →
    nearStop s.dev = false →
    Completes (.netLinkUp p) s (fun u => linkIsUp u.dev p = true
      ∧ bitAt u.dev (netA p + 4) 8 = bitAt s.dev (netA p + 4) 8
      ∧ fld u.dev (netA p + 4) 2 1 = fld s.dev (netA p) 2 1
      ∧ rdN u.dev (netA p + 0x38) = b2n (bitAt s.dev (netA p + 0x34) 0)
      ∧ fld u.dev (0x20080 + 8 * p) 15 0 = Config.pcsLatency (fld s.dev (netA p) 2 1) 0 % 2 ^ 16))
  ∧ (∀ (p q : Nat) (f : TxFrame) (pre : Bool) (s : State), p < 4 → linkIsUp s.dev p = true →
    (netPort s.dev p).paused = false → txHead s.dev p = some (q, f) → s.dev.sys.mode ≠ .stop →
    (f.proto ≠ 319 ∨ f.ctx.isSome = true) → (pre = false ∨ q < 6 ∨ fld s.dev (netA p + 0x38) 1 0 ≠ 2) →
    exec (.txFrameBoundary p pre) s
      = becomes s (emit (.frame p q (wireFrame s.dev p q f)) (incCnt (netA p + 0x128) (packetSent f (txPop p q s.dev)))))
  ∧ (∀ (p q : Nat) (f : TxFrame) (s : State), p < 4 → linkIsUp s.dev p = true → (netPort s.dev p).paused = false →
    txHead s.dev p = some (q, f) → s.dev.sys.mode ≠ .stop → (f.proto ≠ 319 ∨ f.ctx.isSome = true) →
    6 ≤ q → fld s.dev (netA p + 0x38) 1 0 = 2 →
    let d := incCnt (netA p + 0x130) s.dev
    exec (.txFrameBoundary p true) s = becomes s
      (emit (.frame p q (wireFrame d p q f)) (incCnt (netA p + 0x128) (packetSent f (txPop p q d)))))
  ∧ (∀ (p q : Nat) (f : TxFrame) (s : State), p < 4 → linkIsUp s.dev p = true → (netPort s.dev p).paused = false →
    txHead s.dev p = some (q, f) → s.dev.sys.mode ≠ .stop → f.proto = 319 → f.ctx = none →
    let t := beAt f.bytes 0 1 % 16
    let at' := txStamp s.dev p
    let d := putPtp (fun x => { x with sent := fins x.sent (16 * p + t) (beAt f.bytes 30 2, at') }) s.dev
    let body := if bitAt d 0x20000 6 = true ∧ (t = 0 ∨ t = 3) then stampBody (bitAt d 0x20000 7) at' f.bytes else f.bytes
    exec (.txFrameBoundary p false) s
      = becomes s (emit (.eventFrame p q (if bitAt s.dev 0x20000 7 then none else some 0)
          (withFcs (ownFrame s.dev p q f body)))
          (incCnt (netA p + 0x128) (txPop p q d))))
  ∧ (∀ (p : Nat) (s : State), fld s.dev (netA p + 0x38) 1 0 = 1 →
    exec (.preemptionVerify p true) s = becomes s (wrN (netA p + 0x38) 2 s.dev)
    ∧ (let n := (netPort s.dev p).verifies + 1
       let d := putNetPort p { netPort s.dev p with verifies := n } s.dev
       exec (.preemptionVerify p false) s = becomes s (if n < 3 then d else wrN (netA p + 0x38) 3 d)))
  ∧ (∀ (p : Nat) (s : State), linkIsUp s.dev p = true → bitAt s.dev (netA p) 7 = true →
    exec (.pauseHighWatermark p) s = becomes s (emit (.pauseFrame p (fld s.dev (netA p + 0x28) 15 0))
      (incCnt (netA p + 0x12C) (putNetPort p { netPort s.dev p with pausing := true } s.dev))))
  ∧ (∀ (p : Nat) (s : State), (netPort s.dev p).pausing = true →
    exec (.pauseRepeat p) s
      = becomes s (emit (.pauseFrame p (fld s.dev (netA p + 0x28) 15 0)) (incCnt (netA p + 0x12C) s.dev))
    ∧ exec (.pauseLowWatermark p) s = becomes s (emit (.pauseFrame p 0)
        (incCnt (netA p + 0x12C) (putNetPort p { netPort s.dev p with pausing := false } s.dev))))
  ∧ (∀ (p quanta : Nat) (s : State), linkIsUp s.dev p = true →
    let d := incCnt (netA p + 0x120) s.dev
    exec (.pauseReceive p quanta) s = becomes s (if bitAt d (netA p) 6 then
      putNetPort p { netPort s.dev p with paused := decide (quanta ≠ 0) } d else d))
  ∧ (∀ (p : Nat) (s : State),
    exec (.pauseExpiry p) s = becomes s (putNetPort p { netPort s.dev p with paused := false } s.dev))
  ∧ (∀ (p : Nat) (f : Bytes) (fcs mp : Bool) (sh rs : Nat) (s : State), p < 4 → linkIsUp s.dev p = true →
    nearStop s.dev = false →
    let h := frameHead f
    let len := f.length + 4
    let n := (netPort s.dev p).ctrlCount
    let wrong := len < 64 ∨ 1522 < len ∨ 2 ≤ h.tags
    let drops (a : Nat) := exec (.frameReceive p f ⟨fcs, false⟩ mp sh rs) s = becomes s (incCnt (netA p + a) s.dev)
    exec (.frameReceive p f ⟨fcs, true⟩ mp sh rs) s = becomes s (incCnt (netA p + 0x124) s.dev)
    ∧ (fcs = false → drops 0x104)
    ∧ (fcs = true → wrong → drops 0x108)
    ∧ (fcs = true → ¬wrong → isPause f = true → exec (.frameReceive p f ⟨fcs, false⟩ mp sh rs) s = .next s)
    ∧ (fcs = true → ¬wrong → isPause f = false → (macAccepted s.dev p (beAt f 0 6) = false ∨ isWakeFrame s.dev p f = true) →
        drops 0x10C)
    ∧ (fcs = true → ¬wrong → isPause f = false → macAccepted s.dev p (beAt f 0 6) = true → isWakeFrame s.dev p f = false →
        (h.sumsOk = false → drops 0x118)
        ∧ (h.sumsOk = true → controlPort h.udp = true → rdN s.dev (netA p + 0x44) / 100 ≤ n →
            exec (.frameReceive p f ⟨fcs, false⟩ mp sh rs) s
              = becomes s (setFlag (netA p + 4) 11 (incCnt (netA p + 0x11C) s.dev)))
        ∧ (h.sumsOk = true → controlPort h.udp = true → n < rdN s.dev (netA p + 0x44) / 100 →
            exec (.frameReceive p f ⟨fcs, false⟩ mp sh rs) s = becomes s (rxBuffer p (rxExpress mp h) len sh rs
              (putNetPort p { netPort s.dev p with ctrlCount := n + 1 } s.dev)))
        ∧ (h.sumsOk = true → controlPort h.udp = false →
            exec (.frameReceive p f ⟨fcs, false⟩ mp sh rs) s = becomes s (rxBuffer p (rxExpress mp h) len sh rs s.dev))))
  ∧ (∀ (p : Nat) (s : State),
    exec (.controlRateWindow p) s = becomes s (putNetPort p { netPort s.dev p with ctrlCount := 0 } s.dev))
  ∧ (∀ (ip p : Nat) (b : Bytes) (s : State),
    let well := decide (8 ≤ b.length) && decide (beAt b 0 2 = 0x5943) && decide (beAt b 2 1 = 1)
      && decide (beAt b 4 2 = fld s.dev 0x210 31 16) && decide (1 ≤ beAt b 3 1) && decide (beAt b 3 1 ≤ 32)
    let records := if well then controlRecords (beAt b 3 1) (b.drop 8) else none
    exec (.controlDatagramReceive ip false p b) s = becomes s (incCnt (netA p + 0x118) s.dev)
    ∧ (records = none → exec (.controlDatagramReceive ip true p b) s = becomes s (incCnt 0x220 s.dev))
    ∧ (∀ rs, records = some rs →
        exec (.controlDatagramReceive ip true p b) s = becomes s (forL rs (controlRecord ip) s.dev)))

/-- STREAM_PACKET_SEND, LAUNCH_LIMIT_EXPIRY, STREAM_PACKET_RECEIVE, NET_STREAM_SEL_WRITE: a packet goes once its
quanta have departed, on the legs this device sends; one that cannot begin in time is dropped and counted late; a
received packet is judged by its format and its position, and an accepted one is staged; a context is shown and its
counts cleared (R361, R363 to R365, R369 to R371, R377). Readings and choices of the model: log 72, 73. -/
def Obligations.StreamPacketsGoAndComeInTime : Prop :=
  (∀ (c pk : Nat) (p : Plan) (x : StreamCtx) (s : State), s.dev.plan.active = some p → ctx? s.dev false c = some x →
    streamsRun s.dev = true → x.next ≤ pk →
    let qs := packetQuanta s.dev x.desc pk
    qs.2 < s.dev.net.departNext → s.dev.net.departFirst ≤ qs.1 →
    (∀ i, i ≤ qs.2 - qs.1 → fget false s.dev.disp.suppressed (qs.1 + i) = false) →
    (rtpPacket s.dev p x.desc pk).2 = 0 →
    exec (.streamPacketSend c pk) s = becomes s (forL [false, true] (fun l d =>
        if legSends d x.desc l then
          txFramePush (legPort x.desc l) 5 {
            proto := leAt x.desc (legOff l + 10) 2
            bytes := streamFrame d x.desc l (rtpPacket s.dev p x.desc pk).1
            ctx := some c, at' := nowNs d, packet := pk } d
        else d)
      (putCtx false c { x with next := pk + 1 } s.dev)))
  ∧ (∀ (p c : Nat) (f : TxFrame) (x : StreamCtx) (s : State),
    let l := fget [] s.dev.net.txq (8 * p + 5)
    l.find? (fun g => g.ctx.isSome) = some f → f.ctx = some c → ctx? s.dev false c = some x →
    exec (.launchLimitExpiry p) s = becomes s (putCtx false c { x with late := satInc x.late 1 }
      (incCnt (netA p + 0x134) { s.dev with
        net := { s.dev.net with txq := fput [] s.dev.net.txq (8 * p + 5) (l.erase f) } })))
  ∧ (∀ (k : RxPacket) (s : State), packetCtx s.dev k = none →
    let d := incCnt (netA k.port + 0x10C) s.dev
    exec (.streamPacketReceive k) s = becomes s (if role s.dev = 2 then startTry d else d))
  ∧ (∀ (k : RxPacket) (c : Nat) (legB : Bool) (x : StreamCtx) (s : State), packetCtx s.dev k = some (c, legB, x) →
    let n := packetPos s.dev x.desc k.rtp
    let last := n + (packetSamples s.dev x.desc : Int) - 1
    let early := 32 * qnNow s.dev + 287
    let arrives (d : Dev) := exec (.streamPacketReceive k) s = becomes s (if role s.dev = 2 then startTry d else d)
    let counted (y : StreamCtx) := arrives (putCtx true c y s.dev)
    (packetOk s.dev x.desc k.rtp = false → counted { x with format := satInc x.format 1 })
    ∧ (packetOk s.dev x.desc k.rtp = true → packetLate s.dev x.desc n = true →
        counted { x with late := satInc x.late 1 })
    ∧ (packetOk s.dev x.desc k.rtp = true → packetLate s.dev x.desc n = false →
        (early : Int) < last → counted { x with early := satInc x.early 1 })
    ∧ (packetOk s.dev x.desc k.rtp = true → packetLate s.dev x.desc n = false →
        last ≤ (early : Int) → dNative x.desc = false →
        packetRepeats s.dev x n.toNat (packetSamples s.dev x.desc) = false →
        let q0 := n.toNat / 32
        let q1 := (n.toNat + packetSamples s.dev x.desc - 1) / 32
        arrives (packetStage x.desc k.rtp n.toNat (putCtx true c { x with
          packets := satInc x.packets 1
          takenB := if legB then satInc x.takenB 1 else x.takenB
          high := none
          window := []
          starts := n.toNat :: x.starts.filter (fun m => !packetLate s.dev x.desc (m : Int))
          delivered := ((List.range (q1 - q0 + 1)).foldl (fun m i => fput false m (q0 + i) true) x.delivered).filter
            (fun e => decide (e.1 + 8 ≥ s.dev.geom.nextAct)) } s.dev))))
  ∧ (∀ (m : Master) (v : Nat) (s : State), v < 512 →
    (∀ x, ctx? s.dev (decide (256 ≤ v)) (v % 256) = some x →
      Completes (.netStreamSelWrite m v) s (fun u => rdN u.dev 0x108000 = v
        ∧ (∀ i, i < 32 → rdN u.dev (0x108004 + 4 * i) = leAt x.desc (4 * i) 4)
        ∧ rdN u.dev 0x108100 = x.packets % 2 ^ 32 ∧ rdN u.dev 0x108104 = x.late % 2 ^ 32
        ∧ ctx? u.dev (decide (256 ≤ v)) (v % 256) = some { x with
            packets := 0, late := 0, early := 0, dups := 0, dupMismatch := 0, takenB := 0, format := 0 }))
    ∧ (ctx? s.dev (decide (256 ≤ v)) (v % 256) = none →
      Completes (.netStreamSelWrite m v) s (fun u => rdN u.dev 0x108000 = v
        ∧ (∀ i, i < 32 → rdN u.dev (0x108004 + 4 * i) = 0) ∧ (∀ i, i < 8 → rdN u.dev (0x108100 + 4 * i) = 0))))

/-! ### Lockstep pairs -/

/-- PAIR_FORM, HEARTBEAT_SEND, PAIR_FRAME_RECEIVE, DIGEST_WAIT_EXPIRY, PRES_WAIT_EXPIRY, PAIR_PATH_FAULT,
PAIR_PATH_OK, PARTNER_LOST, AUTO_RESYNC: device 0 names the quantum of formation; a heartbeat goes out on both paths;
a frame that fails its checks is counted; quanta whose digest or presence does not come are marked; paths fail and
recover, and a fault of the pair path ends a join; a lost partner leaves the device alone (R378, R388, R392, R395,
R399 to R401). Readings and choices of the model: log 74, 75, 77. -/
def Obligations.PairsFormBeatAndPart : Prop :=
  (∀ s : State, formReady s.dev = true → devIndex s.dev = 0 → s.dev.pair.formQn = none →
    let q := qnNow s.dev + cmdLead s.dev
    exec .pairForm s = becomes s (pairSendSeq 8 (beBytes 5 q ++ zeros 3) (some q)
      { s.dev with pair := { s.dev.pair with formQn := some q } }))
  ∧ (∀ s : State, pairOn s.dev = true → s.dev.sys.mode ≠ .boot → s.dev.sys.mode ≠ .stop →
    Completes .heartbeatSend s (fun u => u.dev = resend (heartbeatOn 1 (heartbeatOn 0 (cfgCheck s.dev)))
      ∧ (∀ p, p < 2 → (pathSt u.dev p).txSeq = ((pathSt s.dev p).txSeq + 1) % 2 ^ 32)
      ∧ u.dev.sys = s.dev.sys ∧ u.dev.time = s.dev.time))
  ∧ (∀ (path : Nat) (b : Bytes) (s : State), pairOn s.dev = true → path ≤ 1 →
    (pairFrameOk s.dev path b = false → exec (.pairFrameReceive path b) s = becomes s (incCnt 0x14007C s.dev))
    ∧ (pairFrameOk s.dev path b = true → exec (.pairFrameReceive path b) s
        = becomes s (pairRecordsTake b.length path (slice b 8 (beAt b 6 2)) s.dev)))
  ∧ (∀ (q : Nat) (s : State), (∃ x ∈ s.dev.pair.digests, x.qn = q) → fget false s.dev.pair.compared q = false →
    exec (.digestWaitExpiry q) s = becomes s { s.dev with
      pair := { s.dev.pair with skipped := fput false s.dev.pair.skipped q true } })
  ∧ (∀ (q : Nat) (s : State), s.dev.pair.state = 2 → fget false s.dev.pair.presWhole q = false → s.dev.voice.filled ≤ q →
    exec (.presWaitExpiry q) s = becomes s (setFlag 0x140004 11 (incCnt 0x140070 { s.dev with
      pair := { s.dev.pair with presSolo := fput false s.dev.pair.presSolo q true } })))
  ∧ (∀ s : State, (pathSt s.dev 0).good = true ∨ (pathSt s.dev 0).run ≠ 0 →
    exec (.pairPathFault 0) s = becomes s (raiseEvent evPairPathFault (leBytes 1 0)
      (putPath 0 { pathSt s.dev 0 with good := false, run := 0, since := 0 }
        (setFlag 0x140004 8 (incCnt 0x140068 s.dev)))))
  ∧ (∀ s : State, (pathSt s.dev 1).good = true ∨ (pathSt s.dev 1).run ≠ 0 →
    let d := raiseEvent evPairPathFault (leBytes 1 1)
      (putPath 1 { pathSt s.dev 1 with good := false, run := 0, since := 0 }
        (setFlag 0x140004 8 (incCnt 0x140064 s.dev)))
    exec (.pairPathFault 1) s = becomes s (forN 16 (fun i d =>
        if aportForeign d i then raiseEvent evPairFwdLost (leBytes 1 i) d else d)
      (joinFail { d with time := { d.time with thetaSum := 0, thetaCnt := 0, thetaPrev := none } })))
  ∧ (∀ (p : Nat) (s : State), p ≤ 1 → (pathSt s.dev p).good = false → 10 ≤ (pathSt s.dev p).run →
    exec (.pairPathOk p) s
      = becomes s (raiseEvent evPairPathOk [] (putPath p { pathSt s.dev p with good := true } s.dev)))
  ∧ (∀ s : State, pairOn s.dev = true → (pathSt s.dev 0).heardAt + 3000000 ≤ nowNs s.dev + 1 →
    (pathSt s.dev 1).heardAt + 3000000 ≤ nowNs s.dev + 1 →
    ((pathSt s.dev 0).heardAt ≠ 0 ∨ (pathSt s.dev 1).heardAt ≠ 0) →
    let d := { s.dev with pair := { s.dev.pair with
      proposals := [], unacked := [], txSeq := 1, rxAck := 0, rxHigh := 0, rxSeen := [], partnerMode := 0
      partnerHears := false, heldProps := [], joinWait := false } }
    let d := putPath 0 { pathSt d 0 with heardAt := 0, since := 0, run := 0 } d
    let d := putPath 1 { pathSt d 1 with heardAt := 0, since := 0, run := 0 } d
    let d := joinFail (forL s.dev.pair.proposals (fun p d => disagree p 0xFF d) d)
    exec .partnerLost s = becomes s (raiseEvent evPartnerLost []
      (setFlag 0x140004 9 (if d.pair.state = 2 then setPairState 0 d else d))))
  ∧ (∀ s : State, bitAt s.dev 0x140000 2 = true → devIndex s.dev = 1 → s.dev.pair.diverged = true →
    s.dev.pair.state = 2 → fld s.dev 0x140034 4 0 = 0 → s.dev.pair.partnerFault = false → s.dev.pair.divergedAt ≠ 0 →
    s.dev.pair.divergedAt + 1000000000 ≤ nowNs s.dev + 1 →
    exec .autoResync s = becomes s (firmwareCmd 0 (.pairResync 1)
      { s.dev with pair := { s.dev.pair with divergedAt := 0 } }))

/-- JOIN_PHASE_ADVANCE, PAIR_JOIN_FAILED, LANE_LOAD_WINDOW, PAIR_LANE, PAIR_LANE_FAIL, LANE_RETRY: the phases of a
join follow each other and a joiner takes over the copied state; a join that fails returns the joiner to CONFIG; lanes
switch at their time, fail and are tried again (R403 to R409). Readings and choices of the model: log 74, 75, 78. -/
def Obligations.JoinsAdvanceAndLanesSwitch : Prop :=
  (∀ (x : Join) (copy : JoinCopy) (s : State), s.dev.pair.join = some x → x.joiner = false → 2 ≤ x.phase → x.phase ≤ 5 →
    x.qn ≤ qnNow s.dev → s.dev.pair.l4 = true →
    let d := if x.phase = 2 then delaySend s.dev else s.dev
    let q := qnNow s.dev + (if x.phase = 5 then 2 else 1)
    (x.step + 1 < joinSteps d x.phase → exec (.joinPhaseAdvance copy) s
      = becomes s (putJoin (some { x with step := x.step + 1, qn := qnNow s.dev + 1 }) d))
    ∧ (joinSteps d x.phase ≤ x.step + 1 →
      exec (.joinPhaseAdvance copy) s = becomes s (pairSendSeq 11 (beBytes 1 (x.phase + 1) ++ zeros 3 ++ beBytes 5 q ++ zeros 3)
        none (putJoin (some { x with
          step := 0, phase := x.phase + 1, qn := q, j := if x.phase = 5 then some q else x.j }) d))))
  ∧ (∀ (x : Join) (copy : JoinCopy) (s : State), s.dev.pair.join = some x → 2 ≤ x.phase → x.phase < 6 →
    s.dev.pair.l4 = false → exec (.joinPhaseAdvance copy) s = .next s)
  ∧ (∀ (x : Join) (copy : JoinCopy) (s : State), s.dev.pair.join = some x → x.joiner = true → x.phase = 2 →
    x.qn ≤ qnNow s.dev → s.dev.pair.l4 = true →
    let d := forL copy.staging (fun e => memWrite (stagingAddr e.1) (leInt 4 e.2))
      (memClear 0x90000000 (1088 * 2 ^ 20) s.dev)
    exec (.joinPhaseAdvance copy) s = becomes s { d with
      voice := { d.voice with
        present := copy.present, window := copy.window.foldl (fun m e => fput 0 m e.1 e.2) d.voice.window }
      lupin := { d.lupin with bulk := copy.bulk, input := copy.input, corr := copy.banks }
      pair := { d.pair with join := some { x with step := 0, phase := 3, qn := qnNow s.dev + 1 } } })
  ∧ (∀ (x : Join) (copy : JoinCopy) (s : State), s.dev.pair.join = some x → x.joiner = true → x.phase = 3 →
    x.qn ≤ qnNow s.dev → s.dev.pair.l4 = true →
    Completes (.joinPhaseAdvance copy) s (fun u =>
      u.dev.pair.join = some { x with step := 0, phase := 4, qn := qnNow s.dev + 1 }
      ∧ u.dev.geom = { copy.geom with fresh := false } ∧ u.dev.voice.shed = copy.shed
      ∧ u.dev.route.gains = copy.gains ∧ u.dev.route.slots = copy.slots
      ∧ u.dev.plan.active = heldPlan s.dev copy.planIndex ∧ u.dev.plan.pending = none ∧ u.dev.plan.heldSwap = none))
  ∧ (∀ (x : Join) (copy : JoinCopy) (s : State), s.dev.pair.join = some x → x.joiner = true → 4 ≤ x.phase → x.phase ≤ 5 →
    x.qn ≤ qnNow s.dev → s.dev.pair.l4 = true →
    let rs := joinRecords s.dev x.step
    let js := (List.range 16).map (fun i => 16 * x.step + i)
    let e := forL js (fun j d => memClear (accAddr 0 j 0) 256 (memClear (accAddr 1 j 0) 256 d)) s.dev
    let d := if x.phase = 4 then forL (copy.voices.filter (fun v => rs.contains v.1)) (fun v => putVoiceState false v.1 v.2) s.dev
      else { e with lupin := { e.lupin with
        chains := js.foldl (fun m j => fput {} m j (fget {} copy.chains j)) e.lupin.chains } }
    let j := x.j.getD (qnNow s.dev + 2)
    exec (.joinPhaseAdvance copy) s = becomes s (putJoin (some (
      if x.step + 1 < joinSteps d x.phase then { x with step := x.step + 1, qn := qnNow s.dev + 1 }
      else if x.phase = 4 then { x with step := 0, phase := 5, qn := qnNow s.dev + 1 }
      else { x with step := 0, phase := 6, qn := j, j := some j })) d))
  ∧ (∀ (x : Join) (s : State), s.dev.pair.join = some x → x.joiner = false →
    exec .pairJoinFailed s = becomes s (completeOpt s.dev.pair.resyncCid cHwFault 0 { s.dev with
      pair := { s.dev.pair with state := 0, join := none, resyncCid := none, resyncSelf := false } }))
  ∧ (∀ (x : Join) (s : State), s.dev.pair.join = some x → x.joiner = true → s.dev.sys.running = none →
    s.dev.age.margins = [] → s.dev.age.nextMhz = none → s.dev.sys.pendReq = none →
    Completes .pairJoinFailed s (fun u => u.dev.pair.join = none ∧ u.dev.sys.mode = .config ∧ u.dev.sys.cause = 5
      ∧ bitAt u.dev 0x140004 13 = true))
  ∧ (∀ (load : Nat) (s : State), devIndex s.dev = 0 → pairOn s.dev = true → s.dev.pair.lane = none →
    let low := decide (load < 300) && !wantsL4 s.dev
    let since := if low then (if s.dev.pair.lowSince = 0 then nowNs s.dev + 1 else s.dev.pair.lowSince) else 0
    let d := { s.dev with pair := { s.dev.pair with lowSince := since } }
    let done := decide (since ≠ 0) && decide (since + 1000000000 ≤ nowNs s.dev + 1)
    let want := (decide (600 < load) || wantsL4 s.dev) && decide (s.dev.pair.laneFailAt = 0)
    exec (.laneLoadWindow load) s = becomes s (if s.dev.pair.l4 && done then laneSend false d
      else if !s.dev.pair.l4 && want then laneSend true d else d))
  ∧ (∀ (x : LaneSwitch) (s : State), s.dev.pair.lane = some x → x.l4 ≠ s.dev.pair.l4 → s.dev.time.pt = x.pt →
    Completes .pairLane s (fun u => u.dev.pair.l4 = x.l4 ∧ u.dev.pair.lane = none ∧ u.dev.time = s.dev.time))
  ∧ (∀ s : State,
    exec .pairLaneFail s = becomes s (raiseEvent evPairLaneFail [] (setFlag 0x140004 14 { s.dev with
      pair := { s.dev.pair with lane := none, l4 := false, laneFailAt := nowNs s.dev + 1 } })))
  ∧ (∀ (load : Nat) (s : State), s.dev.pair.laneFailAt ≠ 0 → s.dev.pair.laneFailAt + 1000000000 ≤ nowNs s.dev + 1 →
    let d := { s.dev with pair := { s.dev.pair with laneFailAt := 0 } }
    exec (.laneRetry load) s
      = becomes s (if devIndex d = 0 ∧ (600 < load ∨ wantsL4 d = true) then laneSend true d else d))

/-! ### Rings, the host link, sessions and the scene store -/

/-- DOORBELL_WRITE, RING_CFG_WRITE, HOST_LINK_RESET, INTERRUPT_MODERATION_EXPIRY, HOST_AUDIO_FETCH, PCIE_LINK_UP: a
doorbell in order moves the host's index and one out of order halts the ring; a ring is set up, and every ring is
disabled by a reset of the host link; a count that waits is signalled; an entry that cannot be used is marked and
consumed (R412, R415, R417 to R420, R422). Readings and choices of the model: log 64, 81, 82. -/
def Obligations.RingsFollowTheirDoorbells : Prop :=
  (∀ (r v : Nat) (s : State), r < 74 →
    let w := v % 2 ^ 32
    let first := if 33 ≤ r ∧ r ≤ 64 ∧ ringHeld s.dev r = 0 then
        { s.dev with aport := { s.dev.aport with rxNext := fput 0 s.dev.aport.rxNext r (qnNow s.dev + 1) } }
      else s.dev
    (ringRunning s.dev r = false → exec (.doorbellWrite (4 * r) ⟨v, 4⟩) s = becomes s (wrN (ringA r + 0x1C) w s.dev))
    ∧ (ringRunning s.dev r = true → doorbellOk s.dev r w = false →
      exec (.doorbellWrite (4 * r) ⟨v, 4⟩) s = becomes s (raiseEvent evHostRingErr (leBytes 1 r ++ leBytes 4 w)
        (setFlag (ringA r + 0x20) 8 (setFlag (ringA r + 0x20) 1 (entryAnew r s.dev)))))
    ∧ (ringRunning s.dev r = true → doorbellOk s.dev r w = true → bitAt s.dev 0x30000 0 = false →
      w ≠ ringDev s.dev r → exec (.doorbellWrite (4 * r) ⟨v, 4⟩) s = becomes s (wrN (ringA r + 0x1C) w first))
    ∧ (ringRunning s.dev r = true → doorbellOk s.dev r w = true → bitAt s.dev 0x30000 0 = false →
      w = ringDev s.dev r → exec (.doorbellWrite (4 * r) ⟨v, 4⟩) s
        = becomes s (putRing r { ringSt s.dev r with signalled := false } (wrN (ringA r + 0x1C) w first)))
    ∧ (ringRunning s.dev r = true → doorbellOk s.dev r w = true → bitAt s.dev 0x30000 0 = true →
      let n := fld s.dev (ringA r) 24 16 % 16
      let d := wrN (ringA r + 0x1C) w first
      let e := if w = ringDev s.dev r then putRing r { ringSt s.dev r with signalled := false } d else d
      exec (.doorbellWrite (4 * r) ⟨v, 4⟩) s
        = becomes s (if irqLevel e n ≠ irqLevel s.dev n then emit (.ball "IRQ_N" n (irqLevel e n)) e else e)))
  ∧ (∀ (off : Nat) (v : BarWrite) (s : State), v.bytes ≠ 4 ∨ off % 4 ≠ 0 ∨ 74 ≤ off / 4 →
    exec (.doorbellWrite off v) s = .next s)
  ∧ (∀ (m : Master) (r v : Nat) (s : State), r < 74 → v < 2 ^ 32 →
    let w := bits v 4 0 + bits v 24 8 * 2 ^ 8
    (ringCfgOk r w = false ∨ (ringEnabled s.dev r = true ∧ v.testBit 8 = true) →
      exec (.ringCfgWrite m r v) s = becomes s (setFlag 0x30004 9 s.dev))
    ∧ (ringCfgOk r w = true → v.testBit 8 = false → exec (.ringCfgWrite m r v) s = becomes s (wrN (ringA r) w s.dev))
    ∧ (ringCfgOk r w = true → v.testBit 8 = true → ringEnabled s.dev r = false →
      Completes (.ringCfgWrite m r v) s (fun u => ringRunning u.dev r = true ∧ rdN u.dev (ringA r) = w
        ∧ ringDev u.dev r = ringHost s.dev r ∧ ringHost u.dev r = ringHost s.dev r
        ∧ fget 0 u.dev.aport.placed r = (if 33 ≤ r ∧ r ≤ 64 then 0 else fget 0 s.dev.aport.placed r))))
  ∧ (∀ (down : Bool) (s : State),
    Completes (.hostLinkReset down) s (fun u => bitAt u.dev 0x30004 8 = true
      ∧ (∀ r, r < 74 → ringEnabled u.dev r = false ∧ ringDev u.dev r = 0 ∧ ringHost u.dev r = 0)
      ∧ u.dev.aport.placed = [] ∧ u.dev.host.pcie = {}
      ∧ (∀ f ∈ u.dev.host.inflight, f.src = .host → f.dropped = true)
      ∧ (∀ w ∈ u.dev.host.waitQ, w.hdr.src ≠ .host)
      ∧ (∀ a, a ≠ 0x30004 → a ≠ 0x30008 → a < 0x31000 ∨ 0x31000 + 0x40 * 74 ≤ a → rdN u.dev a = rdN s.dev a)
      ∧ (down = true → bitAt u.dev 0x30004 0 = false ∧ rdN u.dev 0x30008 = 0)
      ∧ u.dev.sys = s.dev.sys ∧ u.dev.plan = s.dev.plan ∧ u.dev.mem = s.dev.mem ∧ u.dev.out = s.dev.out))
  ∧ (∀ (r : Nat) (s : State), fld s.dev (ringA r + 4) 31 16 ≠ 0 → (ringSt s.dev r).count ≠ 0 →
    (ringSt s.dev r).since + 1000 * fld s.dev (ringA r + 4) 31 16 ≤ nowNs s.dev →
    exec (.interruptModerationExpiry r) s = becomes s (ringSignal r s.dev))
  ∧ (∀ (r : Nat) (e buf : Bytes) (b : Block) (s : State), 33 ≤ r → r ≤ 64 → ringHeld s.dev r ≠ 0 →
    let kind := fld s.dev (ringA r) 11 10
    ringRunning s.dev r = true ∨ (kind = 1 ∧ 0 < fget 0 s.dev.aport.placed r ∧ ringHalted s.dev r = false) →
    let n := leAt e 14 1
    let need := if kind = 0 then n * 32 * leAt e 12 2 * 4 else n * 4288
    let reserved := entryReserved (decide (kind = 0)) (decide (kind ≠ 1)) e
    (reserved = false ∨ entryOk (decide (kind = 0)) need e = false →
      exec (.hostAudioFetch r e buf false) s = becomes s (entryBad r reserved s.dev))
    ∧ (reserved = true → entryOk (decide (kind = 0)) need e = true →
      exec (.hostAudioFetch r e buf true) s = becomes s (ringPcieErr r (entryFinish r 4 s.dev)))
    ∧ (reserved = true → entryOk (decide (kind = 0)) need e = true → kind = 0 → leAt e 16 5 ≤ qnNow s.dev + 2 →
      let x := hostObjects (r - 33) (leAt e 16 5) (leAt e 12 2) n buf s.dev
      exec (.hostAudioFetch r e buf false) s = becomes s (entryFinish r (if x.1 then 2 else 1) x.2))
    ∧ (reserved = true → entryOk (decide (kind = 0)) need e = true → kind = 1 →
      (aport s.dev (fld s.dev (ringA r) 15 12)).done = some b →
      let i := fget 0 s.dev.aport.placed r
      let d := emit (.hostWrite (leAt e 0 8 + 4288 * i) (blockBytes b)) s.dev
      let d := { d with aport := { d.aport with
        rxNext := fput 0 d.aport.rxNext r (b.qn + 1), placed := fput 0 d.aport.placed r (if n ≤ i + 1 then 0 else i + 1) } }
      (b.qn < fget 0 s.dev.aport.rxNext r → exec (.hostAudioFetch r e buf false) s = .next s)
      ∧ (fget 0 s.dev.aport.rxNext r ≤ b.qn →
        exec (.hostAudioFetch r e buf false) s = becomes s (if n ≤ i + 1 then entryFinish r 1 d else d)))
    ∧ (reserved = true → entryOk (decide (kind = 0)) need e = true → kind = 2 →
      let p := fld s.dev (ringA r) 15 12
      let blocks := forN n (fun i m => fins m (leAt e 16 5 + i) (parseBlock (leAt e 16 5 + i) (buf.drop (4288 * i))))
        (aport s.dev p).host
      exec (.hostAudioFetch r e buf false) s = becomes s (entryFinish r 1 (putAport p { aport s.dev p with
        host := blocks.filter (fun h => decide (qnNow s.dev ≤ h.1)) } s.dev))))
  ∧ (∀ (gen width : Nat) (s : State),
    exec (.pcieLinkUp gen width) s = becomes s (setFlag 0x30004 0 (wrN 0x30008 (gen + 16 * width) s.dev)))

/-- SESSION_HELLO, SESSION_PROVE, SESSION_COMMAND, SESSION_DATA, SESSION_KEEPALIVE, SESSION_CLOSE,
SESSION_IDLE_TIMEOUT, HELLO_BAN_EXPIRY: a HELLO gets a CHALLENGE, a PROVE that verifies opens the session, a message
that is accepted acts, one with a bad mac is counted and does not, and a session closes (R433 to R437). Readings and
choices of the model: log 33, 83, 97. -/
def Obligations.SessionsOpenActAndClose : Prop :=
  (∀ (port ip : Nat) (m body : Bytes) (k : Nat) (s : State), messageBody 1 m = some body → body.length = 114 →
    beAt m 4 4 = 0 → helloBanned s.dev ip = false → s.dev.sec.lifeCycle ≠ 2 → s.dev.sys.mode ≠ .boot →
    s.dev.sys.mode ≠ .stop → helloRecord s.dev = some k →
    ((keySlot s.dev (beAt body 0 1)).role = 0 → exec (.sessionHello port ip m) s = becomes s (authFail ip s.dev))
    ∧ ((keySlot s.dev (beAt body 0 1)).role ≠ 0 →
      let r1 := takeRandom 48 s.dev
      let r2 := takeRandom 16 r1.2
      let r3 := takeRandom 48 r2.2
      let priv := beVal r1.1 % p384N
      let head := p384Bytes (p384Mul 385 priv p384G) ++ r2.1
      let challenge := head ++ ecdsaSign Config.identityKey (beVal r3.1) (body ++ head)
      exec (.sessionHello port ip m) s = becomes s (sessionPush port ip (sessionMsgHead 2 (k + 1) 1 challenge ++ zeros 16)
        (putSess k { used := true, slot := beAt body 0 1, ip := ip, port := port, helloBody := body, challenge := challenge
                     ephPriv := priv, rxCounter := messageCounter m, txCounter := 1 } r3.2))))
  ∧ (∀ (port ip : Nat) (m body : Bytes) (k : Nat) (s : State), messageBody 3 m = some body → messageSlot m = some k →
    let x := sess s.dev k
    x.used = true → x.isOpen = false → x.rxCounter < messageCounter m →
    let good := ecdsaVerify (keySlot s.dev x.slot).key (x.helloBody ++ x.challenge) body
      && decide ((keySlot s.dev x.slot).role ≠ 0)
    (good = false → exec (.sessionProve port ip m) s = becomes s (authFail ip s.dev))
    ∧ (good = true →
      let key := sha384 (ecdhX x.ephPriv (slice x.helloBody 1 97) ++ slice x.helloBody 98 16 ++ slice x.challenge 97 16)
      exec (.sessionProve port ip m) s = becomes s (raiseEvent evSessionOpen (leBytes 4 (k + 1) ++ leBytes 1 x.slot)
        (putSess k { x with
          isOpen := true, port := port, ip := ip, key := key, rxCounter := messageCounter m, lastAt := nowNs s.dev } s.dev))))
  ∧ (∀ (port ip : Nat) (m : Bytes) (s : State),
    (sessionJudge s.dev 4 m = .bad → exec (.sessionCommand port ip m) s = becomes s (acceptAll (authFail ip s.dev)))
    ∧ (sessionJudge s.dev 7 m = .bad → exec (.sessionData port ip m) s = becomes s (authFail ip s.dev))
    ∧ (sessionJudge s.dev 8 m = .bad → exec (.sessionKeepalive port ip m) s = becomes s (authFail ip s.dev))
    ∧ (sessionJudge s.dev 9 m = .bad → exec (.sessionClose port ip m) s = becomes s (authFail ip s.dev)))
  ∧ (∀ (port ip k : Nat) (m body : Bytes) (s : State), sessionJudge s.dev 4 m = .yes k body → body.length = 64 →
    let d := sessionHeard k port ip m s.dev
    exec (.sessionCommand port ip m) s = becomes s (acceptAll (enqueueEntry (.session k) body [] (putSess k { sess d k with
      accepted := (⟨messageCounter m, body, leAt body 4 4, none⟩ :: (sess d k).accepted).take 32 } d))))
  ∧ (∀ (port ip k : Nat) (m body : Bytes) (s : State), sessionJudge s.dev 7 m = .yes k body → 4 ≤ body.length →
    let d := sessionHeard k port ip m s.dev
    exec (.sessionData port ip m) s = becomes s (memWrite (stagingBase d k + beAt body 0 4)
      ((body.drop 4).take (2 ^ 26 - beAt body 0 4)) d))
  ∧ (∀ (port ip k : Nat) (m body : Bytes) (s : State), sessionJudge s.dev 8 m = .yes k body →
    exec (.sessionKeepalive port ip m) s = becomes s (sessionHeard k port ip m s.dev))
  ∧ (∀ (port ip k : Nat) (m body : Bytes) (s : State), sessionJudge s.dev 9 m = .yes k body →
    exec (.sessionClose port ip m) s = becomes s (sessionShut k (sessionHeard k port ip m s.dev)))
  ∧ (∀ (k : Nat) (s : State), k < 8 → (sess s.dev k).isOpen = true →
    (sess s.dev k).lastAt + 10 * secNs ≤ nowNs s.dev →
    Completes (.sessionIdleTimeout k) s (fun u => (sess u.dev k).isOpen = false
      ∧ (∀ f ∈ u.dev.host.inflight, f.src = .session k → f.dropped = true)
      ∧ (∀ w ∈ u.dev.host.waitQ, w.hdr.src ≠ .session k) ∧ u.dev.sys = s.dev.sys))
  ∧ (∀ (ip : Nat) (s : State), helloBanned s.dev ip = false → exec (.helloBanExpiry ip) s = becomes s { s.dev with
      host := { s.dev.host with banned := fput 0 s.dev.host.banned ip 0 } })

/-- SCENE_COMMITTED, AUTOLOAD, AUTOLOAD_SET_MODE_RETRY: the commit word makes a record stand and its command completes
with its generation, or HW_FAULT; at the first entry into CONFIG the autoload records are applied kind by kind, once;
the start-up mode is asked for as soon as it may be entered (R440, R444). Readings and choices of the model: log 84,
85. -/
def Obligations.ScenesCommitAndLoad : Prop :=
  (∀ (op : SceneOp) (s : State), s.dev.host.sceneOp = some op →
    let off := s.dev.host.sceneHead
    let d := { s.dev with
      host := { s.dev.host with
        sceneOp := none
        sceneHead := off + sceneSectors op.payload.length
        sceneWseq := s.dev.host.sceneWseq + 1 } }
    (exec (.sceneCommitted false) s = becomes s (completeOpt op.cid cHwFault 0 d))
    ∧ (let e := flashProgram (sceneBase + off + 68 + op.payload.length) (leBytes 4 0xA5C30F96) d
       let r : SceneRec := ⟨op.kind, op.flags, op.payload.length, op.generation, s.dev.host.sceneWseq, off⟩
       exec (.sceneCommitted true) s = becomes s (completeOpt op.cid cDone op.generation
         (raiseEvent evSceneCommitted (leBytes 4 op.record ++ leBytes 4 op.generation)
           { e with host := { e.host with scene := fins e.host.scene op.record r } }))))
  ∧ (∀ s : State, s.dev.sys.mode = .config → s.dev.host.autoloaded = false →
    exec .autoload s = becomes s (startTry (forL [7, 2, 3, 1, 8, 4] autoKind { s.dev with
      host := { s.dev.host with autoloaded := true, fwCode := cDone } })))
  ∧ (∀ s : State, s.dev.host.autoloaded = true → exec .autoload s = .next s)
  ∧ (∀ (m : Mode) (s : State), s.dev.host.startMode = some m → startReady s.dev m = true →
    let d := firmwareCmd 0 (.setMode m.code (if bitAt s.dev 0x210 8 && decide (m = .central) && pairFormed s.dev then 0 else 1)) s.dev
    exec .autoloadSetModeRetry s = becomes s
      (if (transNow d).isSome then { d with host := { d.host with startMode := none } } else d))
  ∧ (∀ (m : Mode) (s : State), s.dev.host.startMode = some m → startReady s.dev m = false →
    exec .autoloadSetModeRetry s = .next s)

/-! ### Memory, the matrix and DMA -/

/-- MATRIX_TIMEOUT, ROW_ACTIVATE_WINDOW_END, DRAM_RETRAIN, DRAM_RETRAIN_END, SRAM_SCRUB_PERIOD, VAULT_WIPED: an access
without an answer is recorded and raised, a late answer only counted; the activate counts of a window clear; a retrain
runs one channel at a time; what the scrubber finds is corrected or faulted; the end of a wipe is raised with its
causes (R455 to R457, R459, R463, R469). Readings and choices of the model: log 88. -/
def Obligations.MemoryErrorsAreRecorded : Prop :=
  (∀ (m t a : Nat) (w late : Bool) (s : State), m < 32 → t < 32 → a < 2 ^ 40 →
    (late = true → exec (.matrixTimeout m t a w late) s = becomes s (setFlag 0x1C0004 2 (incCnt 0x1C0018 s.dev)))
    ∧ (late = false → Completes (.matrixTimeout m t a w late) s (fun u => bitAt u.dev 0x1C0004 0 = true
        ∧ rdN u.dev 0x1C0010 = satInc (rdN s.dev 0x1C0010) 1
        ∧ (fld s.dev 0x1C0004 1 0 = 0 → rdN u.dev 0x1C0008 = a % 2 ^ 32 ∧ rdN u.dev 0x1C000C = a / 2 ^ 32
            ∧ fld u.dev 0x1C0004 12 8 = m ∧ fld u.dev 0x1C0004 20 16 = t ∧ bitAt u.dev 0x1C0004 24 = w)
        ∧ (fld s.dev 0x1C0004 1 0 ≠ 0 → rdN u.dev 0x1C0008 = rdN s.dev 0x1C0008
            ∧ rdN u.dev 0x1C000C = rdN s.dev 0x1C000C ∧ fld u.dev 0x1C0004 12 8 = fld s.dev 0x1C0004 12 8))))
  ∧ (∀ (acts : List (Nat × Nat × Nat)) (s : State),
    Completes (.rowActivateWindowEnd acts) s (fun u => u.dev.memory = { s.dev.memory with rows := [] }
      ∧ (acts = [] → u.dev.regs = s.dev.regs)))
  ∧ (∀ (ch temp : Nat) (s : State), ch < 4 → ch < s.dev.memory.population → s.dev.memory.retraining = none →
    Completes (.dramRetrain ch temp) s (fun u => u.dev.memory.retraining = some ch ∧ bitAt u.dev 0x1A0004 10 = true
      ∧ rdN u.dev (dramA ch + 0x10) = satInc (rdN s.dev (dramA ch + 0x10)) 1
      ∧ rdN u.dev (dramA ch + 0x14) = temp % 8))
  ∧ (∀ (ch : Nat) (s : State), s.dev.memory.retraining = some ch →
    exec (.dramRetrainEnd ch) s = becomes s { s.dev with memory := { s.dev.memory with retraining := none } })
  ∧ (∀ (r off : Nat) (s : State), 1 ≤ r → r ≤ 4 →
    exec (.sramScrubPeriod [⟨r, off, true⟩]) s = becomes s (regionUe r off s.dev)
    ∧ exec (.sramScrubPeriod [⟨r, off, false⟩]) s = becomes s (regionCe r off s.dev)
    ∧ (s.dev.memory.corrected = [] → (regionCe r off s.dev).memory.corrected = [⟨r, off, [nowNs s.dev]⟩]
        ∧ rdN (regionCe r off s.dev) (0x1B0100 + 0x10 * r) = satInc (rdN s.dev (0x1B0100 + 0x10 * r)) 1
        ∧ bitAt (regionCe r off s.dev) 0x1B0004 8 = true))
  ∧ (∀ (c : Nat) (s : State), s.dev.memory.wipes = [c] →
    exec .vaultWiped s = becomes s (raiseEvent evVaultWiped (leBytes 1 c)
      { s.dev with memory := { s.dev.memory with wipes := [] } }))

/-- DMA_CH_PROD_WRITE, DMA_STOP, DMA_ABORT, DMA_RESUME, DMA_SKIP: the producer index moves within the ring or halts
the channel; a channel stops, is aborted, resumes and skips by its state; a host write to a channel of the control
subsystem is refused (R471, R473, R475, R478). DMA_DESCRIPTOR_FETCH, DMA_BURST_RESPONSE, DMA_ENTRY_COMPLETE: a channel
with entries held takes its next descriptor, moves its bytes burst by burst on the port that serves it, counts what
memory corrects, retries and halts on errors, and ends its entry with the status and its consumer index (R472 to
R477). Readings and choices of the model: log 86, 87, 111. -/
def Obligations.DmaChannelsObeyAndMove : Prop :=
  (∀ (m : Master) (c v : Nat) (s : State), c < 64 → v < 2 ^ 32 →
    (dmaGuard m c = true → exec (.dmaChProdWrite m c v) s = becomes s (setFlag 0x190004 8 s.dev))
    ∧ (dmaGuard m c = false →
      let free := (dmaCh s.dev c).state = .disabled ∨ (dmaCh s.dev c).state = .halted
      let fits := dmaHeld s.dev c + subMod 32 v (rdN s.dev (dmaA c + 0x1C)) ≤ 2 ^ fld s.dev (dmaA c) 4 0
      (free ∨ fits → exec (.dmaChProdWrite m c v) s = becomes s (wrN (dmaA c + 0x1C) v s.dev))
      ∧ (¬free → ¬fits →
        exec (.dmaChProdWrite m c v) s = becomes s (dmaHalt c 0 0 (setFlag (dmaA c + 8) 18 s.dev)))))
  ∧ (∀ (m : Master) (c : Nat) (s : State), c < 64 → dmaGuard m c = true →
    exec (.dmaStop m c 1) s = becomes s (setFlag 0x190004 8 s.dev)
    ∧ exec (.dmaAbort m c 1) s = becomes s (setFlag 0x190004 8 s.dev)
    ∧ exec (.dmaResume m c 1) s = becomes s (setFlag 0x190004 8 s.dev)
    ∧ exec (.dmaSkip m c 1) s = becomes s (setFlag 0x190004 8 s.dev))
  ∧ (∀ (m : Master) (c : Nat) (s : State), c < 64 → dmaGuard m c = false → bitAt s.dev (dmaA c + 4) 0 = true →
    let d := wrN (dmaA c + 4) 1 s.dev
    let x := dmaCh s.dev c
    (x.state = .running → exec (.dmaStop m c 1) s = becomes s (putDma c { x with state := .stopping } d))
    ∧ (x.state = .idle → exec (.dmaStop m c 1) s
        = becomes s (putDma c { x with state := .stopped, cur := dmaEntryAddr d c, desc := none } d))
    ∧ (x.state = .running ∨ x.state = .stopping → x.desc = none → exec (.dmaAbort m c 1) s = becomes s (putDma c { x with
        state := .stopped, desc := none, done := 0, tries := 0, used := 0, ended := false } d))
    ∧ (x.state = .stopped → exec (.dmaResume m c 1) s = becomes s (putDma c { x with
        state := if x.chained = false ∧ dmaHeld d c = 0 then .idle else .running
        desc := none, done := 0, tries := 0, used := 0, ended := false } d))
    ∧ (x.state = .halted → exec (.dmaResume m c 1) s = becomes s (putDma c { x with
        state := .running, desc := none, done := 0, tries := 0, used := 0, ended := false } d))
    ∧ (x.state = .halted → exec (.dmaSkip m c 1) s
        = becomes s (putDma c { state := .idle } (wrN (dmaA c + 0x20) ((rdN d (dmaA c + 0x20) + 1) % 2 ^ 32) d))))
  ∧ (∀ (c : Nat) (host : Bytes) (s : State), c < 64 → bitAt s.dev 0x190000 0 = true → (dmaCh s.dev c).state = .idle →
    dmaHeld s.dev c ≠ 0 → (dmaCh s.dev c).desc = none → (dmaEntryAddr s.dev c).testBit 63 = false →
    let a := dmaEntryAddr s.dev c
    let b := padTo 32 host
    let x : DmaCh := { dmaCh s.dev c with
      state := .running, cur := a, chained := false, tries := 0, used := 0, done := 0, ended := false
      recent := [a], hops := 1 }
    (dmaDescOk b = true → Completes (.dmaDescriptorFetch c host .ok) s (fun u =>
      dmaCh u.dev c = { x with desc := some b } ∧ rdN u.dev (dmaA c + 0x2C) = leAt b 16 4
      ∧ (∀ i, i ≠ c → dmaCh u.dev i = dmaCh s.dev i) ∧ u.dev.mem = s.dev.mem ∧ u.dev.out = s.dev.out))
    ∧ (dmaDescOk b = false → Completes (.dmaDescriptorFetch c host .ok) s (fun u =>
      (dmaCh u.dev c).state = .halted ∧ fld u.dev (dmaA c + 8) 15 8 = 5 ∧ bitAt u.dev (dmaA c + 8) 16 = true)))
  ∧ (∀ (c port : Nat) (b host : Bytes) (s : State), c < 64 → (dmaCh s.dev c).desc = some b → (dmaCh s.dev c).ended = false →
    (dmaCh s.dev c).state = .running →
    let x := dmaCh s.dev c
    let n := burstSize b x.done
    dmaBound (dmaArbitrate s.dev) c = some port → burstDecode s.dev b x.done n = none →
    let d := wrN (dmaA c + 0x2C) (leAt b 16 4 - (x.done + n)) (dmaArbitrate s.dev)
    (exec (.dmaBurstResponse c .ok host) s = becomes s (burstDone c port b n (burstMove c b x.done n host d)))
    ∧ exec (.dmaBurstResponse c .corrected host) s
        = becomes s (burstDone c port b n (burstMove c b x.done n host (burstCe b x.done d)))
    ∧ exec (.dmaBurstResponse c .uncorrectable host) s = becomes s
        (burstFail c 2 ((leAt b 8 8 + x.done) % 2 ^ 40) (decide (leAt b 16 4 ≤ x.done + n)) (burstUe b x.done d))
    ∧ (x.tries < fld s.dev (dmaA c) 15 12 → x.done + n < leAt b 16 4 →
      exec (.dmaBurstResponse c .error host) s = becomes s (putDma c { x with tries := x.tries + 1, used := x.used + 1 }
        (setFlag (dmaA c + 8) 17 (incCnt (dmaA c + 0x3C) d))))
    ∧ (x.tries < fld s.dev (dmaA c) 15 12 → leAt b 16 4 ≤ x.done + n →
      exec (.dmaBurstResponse c .error host) s = becomes s (putDma c { x with tries := x.tries + 1, used := x.used + 1 }
        (setFlag (dmaA c + 8) 17 (incCnt (dmaA c + 0x3C) (dmaStatus c 2 d)))))
    ∧ (fld s.dev (dmaA c) 15 12 ≤ x.tries → x.done + n < leAt b 16 4 →
      exec (.dmaBurstResponse c .error host) s
        = becomes s (dmaHalt c 2 ((leAt b 8 8 + x.done) % 2 ^ 40) (dmaStatus c 2 d))))
  ∧ (∀ (c : Nat) (s : State), c < 64 → (dmaCh s.dev c).ended = true → (dmaCh s.dev c).state = .running →
    let d := dmaStatus c 1 s.dev
    let idx := (rdN d (dmaA c + 0x20) + 1) % 2 ^ 32
    exec (.dmaEntryComplete c) s = becomes s (putDma c { state := .idle, cur := (dmaCh s.dev c).cur }
      (burstWrite (.dma c) (addr64 (wrN (dmaA c + 0x20) idx d) (dmaA c + 0x14)) (leBytes 4 idx)
        (wrN (dmaA c + 0x20) idx d))))

/-! ### Wake, clocks, supply and temperature -/

/-- WAKE, WAKE_ATTEMPT_FAIL, WAKE_STEP_COMPLETE, REFCLK_ABSENT_ALARM: an enabled cause wakes a stopped device; the
stages of a wake follow each other, a failed attempt pauses or gives up with its code; PWR_WAKE_CAUSE records the
causes and the attempts, and a cause that comes during the attempts starts nothing further (R483 to R486). Readings
and choices of the model: log 4, 94. -/
def Obligations.WakesFollowTheirStages : Prop :=
  (∀ (i : Nat) (s : State), i ≤ 3 → bitAt s.dev 0x10020 i = true → s.dev.sys.mode = .stop → s.dev.pwr.wake = .none →
    s.dev.pwr.causes.testBit i = false →
    Completes (.wake i) s (fun u => u.dev.pwr.causes = s.dev.pwr.causes + 2 ^ i
      ∧ (s.dev.pwr.refLost = true → u.dev.pwr.wake = .refclk ∧ u.dev.pwr.attempts = 0 ∧ u.dev.out = s.dev.out)
      ∧ (s.dev.pwr.refLost = false → u.dev.pwr.wake = .supply ∧ u.dev.pwr.attempts = 1
          ∧ u.dev.out = s.dev.out ++ [.avs (targetMv s.dev (fld s.dev 0x10000 1 0))])
      ∧ rdN u.dev 0x10024 = (s.dev.pwr.causes + 2 ^ i) % 16 + 256 * u.dev.pwr.attempts
      ∧ u.dev.sys = s.dev.sys ∧ (∀ a, a ≠ 0x10024 → rdN u.dev a = rdN s.dev a)))
  ∧ (∀ (i : Nat) (s : State), bitAt s.dev 0x10020 i = false → exec (.wake i) s = .next s)
  ∧ (∀ s : State, s.dev.pwr.wake = .supply → s.dev.pwr.attempts < 4 →
    exec .wakeAttemptFail s = becomes s { s.dev with
      out := s.dev.out ++ [.avs 0], pwr := { s.dev.pwr with wake := .pause } })
  ∧ (∀ s : State, s.dev.pwr.wake = .supply → 4 ≤ s.dev.pwr.attempts →
    Completes .wakeAttemptFail s (fun u => u.dev.pwr.wake = .failed ∧ u.dev.pwr.wakeFault = true ∧ u.dev.pwr.causes = 0
      ∧ rdN u.dev 0x10028 = 6 + 256 * (s.dev.pwr.attempts % 256) + 2 ^ 16))
  ∧ (∀ s : State, s.dev.pwr.wake = .supply →
    Completes .wakeStepComplete s (fun u => u.dev.pwr.wake = .plls ∧ u.dev.pwr.pgoodLow = false
      ∧ rdN u.dev 0x10010 = targetMv s.dev (fld s.dev 0x10000 1 0)))
  ∧ (∀ s : State, s.dev.pwr.wake = .pause → exec .wakeStepComplete s
      = becomes s (wrN 0x10024 (s.dev.pwr.causes % 16 + 256 * (s.dev.pwr.attempts + 1)) { s.dev with
        out := s.dev.out ++ [.avs (targetMv s.dev (fld s.dev 0x10000 1 0))]
        pwr := { s.dev.pwr with wake := .supply, attempts := s.dev.pwr.attempts + 1 } }))
  ∧ (∀ s : State,
    (s.dev.pwr.wake = .plls →
      exec .wakeStepComplete s = becomes s { s.dev with pwr := { s.dev.pwr with wake := .sram } })
    ∧ (s.dev.pwr.wake = .sram →
      exec .wakeStepComplete s = becomes s { s.dev with pwr := { s.dev.pwr with wake := .dram } }))
  ∧ (∀ s : State, s.dev.pwr.wake = .refclk →
    exec .refclkAbsentAlarm s = becomes s (wrN 0x10028 (1 + 2 ^ 16)
      { s.dev with pwr := { s.dev.pwr with wakeFault := true } }))
  ∧ (∀ (i : Nat) (s : State), i ≤ 3 → bitAt s.dev 0x10020 i = true → s.dev.sys.mode = .stop → s.dev.pwr.wake = .supply →
    s.dev.pwr.causes.testBit i = false →
    exec (.wake i) s = becomes s (wrN 0x10024 ((s.dev.pwr.causes + 2 ^ i) % 16 + 256 * s.dev.pwr.attempts)
      { s.dev with pwr := { s.dev.pwr with causes := s.dev.pwr.causes + 2 ^ i } }))

/-- REFCLK_LOST, REFCLK_OK, CLOCK_CHECK_WINDOW, VOLTAGE_ARRIVAL, DVFS_SUPPLY_FAULT, AVS_TIMEOUT, PGOOD_CORE_LOW,
SUPPLY_MONITOR_LOSS, SUPPLY_RESTORED, THERMAL_WARN, THERMAL_WARN_REARM, THERMAL_FAULT: clocks, voltages and
temperatures that leave their limits are recorded and become fault causes; an operating point that waits for its
voltage completes, or ends TIMEOUT or HW_FAULT (R489 to R496, R522). Readings and choices of the model: log 89, 94. -/
def Obligations.SupplyClocksAndTemperature : Prop :=
  (∀ s : State, s.dev.pwr.refLost = false → s.dev.sys.mode ≠ .stop →
    Completes .refclkLost s (fun u => u.dev.pwr.refLost = true ∧ u.dev.time.refclkFallback = true
      ∧ u.dev.time.qualified = false ∧ u.dev.time.goodSyncs = 0 ∧ bitAt u.dev 0x10004 10 = true
      ∧ bitAt u.dev 0x230 4 = true ∧ u.dev.sys.newCauses = s.dev.sys.newCauses ++ [0xC]))
  ∧ (∀ s : State, s.dev.pwr.refLost = true → s.dev.pwr.wake ≠ .refclk →
    exec .refclkOk s = becomes s (raiseEvent evRefclkOk [] { s.dev with
      pwr := { s.dev.pwr with refLost := false }, time := { s.dev.time with refclkFallback := false } }))
  ∧ (∀ (ks : List Nat) (s : State), s.dev.sys.mode ≠ .stop → s.dev.pwr.badWindows = [] → s.dev.pwr.clockFailed = [] →
    (∀ i, i < 5 → countOk (clockCount s.dev i) (ks.getD i 0) = true) → exec (.clockCheckWindow ks) s = .next s)
  ∧ (∀ (ks : List Nat) (s : State), s.dev.sys.mode ≠ .stop → s.dev.sys.mode ≠ .boot →
    countOk (clockCount s.dev 0) (ks.getD 0 0) = false → fget 0 s.dev.pwr.badWindows 0 = 1 →
    Completes (.clockCheckWindow ks) s (fun u => fget false u.dev.pwr.clockFailed 0 = true ∧ bitAt u.dev 0x230 4 = true
      ∧ u.dev.sys.newCauses = s.dev.sys.newCauses ++ [0xC]))
  ∧ (∀ (mv : Nat) (s : State), s.dev.pwr.step = none → mv < 2 ^ 32 →
    Completes (.voltageArrival mv) s (fun u => rdN u.dev 0x10010 = mv
      ∧ u.dev.pwr = { s.dev.pwr with
          pgoodLow := s.dev.pwr.pgoodLow && !decide (targetMv s.dev s.dev.pwr.point ≤ mv + 5) }
      ∧ (∀ a, a ≠ 0x10010 → rdN u.dev a = rdN s.dev a)))
  ∧ (∀ (p : OpStep) (mv : Nat) (s : State), s.dev.pwr.step = some p → p.raising = true → p.applied = true →
    p.stepped = false → targetMv s.dev p.target ≤ mv + 5 → mv < 2 ^ 32 → s.dev.pwr.pend = none →
    s.dev.pwr.offsetDue = false →
    Completes (.voltageArrival mv) s (fun u => u.dev.pwr.point = p.target ∧ u.dev.pwr.step = none
      ∧ rdN u.dev 0x10010 = mv))
  ∧ (∀ (p : OpStep) (s : State), s.dev.pwr.step = some p → p.raising = true → p.applied = true → p.stepped = false →
    s.dev.plan.active = none → s.dev.pwr.pend = none → s.dev.pwr.offsetDue = false → s.dev.sys.mode ≠ .stop →
    p.applyQn + fadeN s.dev ≤ qnNow s.dev →
    Completes .dvfsSupplyFault s (fun u => u.dev.pwr.step = none ∧ u.dev.pwr.point = s.dev.pwr.point
      ∧ bitAt u.dev 0x230 7 = true ∧ u.dev.sys.newCauses = s.dev.sys.newCauses ++ [0xF]))
  ∧ (∀ (p : OpStep) (s : State), s.dev.pwr.step = some p → p.raising = false → p.stepped = true →
    exec .avsTimeout s = becomes s (stepEndOnce cTimeout (raiseEvent evDvfsSlow (leBytes 1 p.target) s.dev)))
  ∧ (∀ s : State, s.dev.sys.mode ≠ .stop →
    exec .pgoodCoreLow s
      = becomes s (transAdvance (faultCause 0xF (drvLow { s.dev with pwr := { s.dev.pwr with pgoodLow := true } }))))
  ∧ (∀ (t : Int) (s : State), s.dev.pwr.warnArmed = true → (rdN s.dev 0x10018 : Int) ≤ t →
    exec (.thermalWarn t) s = becomes s (raiseEvent evThermalWarn (leInt 2 (satI 16 t)) (setFlag 0x10004 9
      { tempStore t s.dev with pwr := { s.dev.pwr with warnArmed := false } })))
  ∧ (∀ (t : Int) (s : State), t + 512 ≤ (rdN s.dev 0x10018 : Int) →
    exec (.thermalWarnRearm t) s = becomes s { tempStore t s.dev with pwr := { s.dev.pwr with warnArmed := true } })
  ∧ (∀ (t : Int) (s : State), 118 * 256 < t → s.dev.sys.mode ≠ .stop →
    exec (.thermalFault t) s = becomes s (faultCause 0xB (tempStore t s.dev)))
  ∧ (∀ s : State, s.dev.pwr.resetLow = false → s.dev.pwr.supplyLost = true → s.dev.sys.mode = .boot →
    s.dev.pwr.boot.step = 0 →
    Completes .supplyRestored s (fun u => u.dev.pwr.supplyLost = false ∧ u.dev.pwr.boot.step = 1
      ∧ u.dev.out = s.dev.out ++ [.avs (targetMv s.dev 0)]))
  ∧ (∀ (ks : List Nat) (s : State), s.dev.sys.mode = .stop →
    exec .pgoodCoreLow s = becomes s (transAdvance s.dev) ∧ exec (.clockCheckWindow ks) s = .next s)
  ∧ (∀ s : State, s.dev.pwr.refLost = true → exec .refclkLost s = .next s)
  ∧ (∀ s : State, s.dev.pwr.refLost = false → s.dev.sys.mode = .stop →
    exec .refclkLost s = becomes s (raiseEvent evRefclkLost [] (setFlag 0x10004 10 { s.dev with
      pwr := { s.dev.pwr with refLost := true }, time := { s.dev.time with refclkFallback := true } })))
  ∧ (∀ s : State, s.dev.pwr.refLost = false → s.dev.pwr.wake ≠ .refclk → exec .refclkOk s = .next s)
  ∧ (∀ s : State, s.dev.pwr.refLost = true → s.dev.pwr.wake = .refclk →
    Completes .refclkOk s (fun u => u.dev.pwr.refLost = false ∧ u.dev.time.refclkFallback = false
      ∧ u.dev.pwr.wake = .supply ∧ u.dev.pwr.attempts = s.dev.pwr.attempts + 1))
  ∧ (∀ (t : Int) (s : State), s.dev.pwr.warnArmed = false ∨ t < (rdN s.dev 0x10018 : Int) →
    exec (.thermalWarn t) s = becomes s (tempStore t s.dev))
  ∧ (∀ (t : Int) (s : State), (rdN s.dev 0x10018 : Int) < t + 512 →
    exec (.thermalWarnRearm t) s = becomes s (tempStore t s.dev))
  ∧ (∀ (t : Int) (s : State), t ≤ 118 * 256 → exec (.thermalFault t) s = becomes s (tempStore t s.dev))
  ∧ (∀ (p : OpStep) (mv : Nat) (s : State), s.dev.pwr.step = some p → p.raising = false → p.stepped = true →
    targetMv s.dev p.target ≤ mv + 5 → mv ≤ targetMv s.dev p.target + 5 → mv < 2 ^ 32 → s.dev.pwr.pend = none →
    s.dev.pwr.offsetDue = false →
    Completes (.voltageArrival mv) s (fun u => u.dev.pwr.point = s.dev.pwr.point ∧ u.dev.pwr.step = none
      ∧ rdN u.dev 0x10010 = mv))
  ∧ (∀ (p : OpStep) (mv : Nat) (s : State), s.dev.pwr.step = some p → p.raising = true → p.stepped = false →
    p.applied = false ∨ mv + 5 < targetMv s.dev p.target → mv < 2 ^ 32 →
    Completes (.voltageArrival mv) s (fun u => u.dev.pwr.point = s.dev.pwr.point ∧ u.dev.pwr.step = some p
      ∧ rdN u.dev 0x10010 = mv))
  ∧ (∀ (p : OpStep) (s : State), s.dev.pwr.step = some p →
    (p.raising = true ∨ p.stepped = false → exec .avsTimeout s = .next s)
    ∧ (p.raising = false ∨ p.applied = false ∨ p.stepped = true ∨ qnNow s.dev < p.applyQn + fadeN s.dev →
      exec .dvfsSupplyFault s = .next s))
  ∧ (∀ s : State, s.dev.pwr.step = none → exec .avsTimeout s = .next s ∧ exec .dvfsSupplyFault s = .next s)

/-- A reset returns every register to its reset value, the TIME counter included, but for PWR_WAKE_CAUSE,
PWR_FAIL_CODE, PWR_RESET_CAUSE and PWR_BOOT, which only power-on clears; it wipes the vault with cause 0x09 (R498). -/
def Obligations.ResetClearsEveryRegisterButTheAlwaysOn : Prop :=
  let cleared (s u : State) : Prop :=
    (∀ a, a ≠ 0x10024 → a ≠ 0x10028 → a ≠ 0x1002C → a ≠ 0x10038 → rdN u.dev a = (regReset a).toNat)
    ∧ rdN u.dev 0x10024 = rdN s.dev 0x10024 ∧ rdN u.dev 0x10028 = rdN s.dev 0x10028 ∧ rdN u.dev 0x10038 = rdN s.dev 0x10038
    ∧ (∀ i, bitAt s.dev 0x1002C i = true → bitAt u.dev 0x1002C i = true)
    ∧ u.dev.time.pt = 0 ∧ u.dev.time.frac = 0
    ∧ u.dev.memory.wipes = [9] ∧ (∀ a, 0x1002000000 ≤ a → a < 0x1002200000 → memByte u.dev a = 0)
  (∀ s : State, Completes .resetNAssert s (cleared s))
  ∧ (∀ s : State, Completes .supplyMonitorLoss s (cleared s))
  ∧ (∀ s : State, bitAt s.dev 0x10000 2 = true → s.dev.sys.mode ≠ .boot → s.dev.sys.mode ≠ .stop →
      s.dev.pwr.wdtAt + 1000000 * rdN s.dev 0x10030 ≤ nowNs s.dev → Completes .watchdogExpiry s (cleared s))
  ∧ (∀ s : State, s.dev.sec.lifeCycle ≠ 1 → Completes .debugReset s (cleared s))
  ∧ (∀ s : State, Completes .powerOnReset s (fun u => (∀ a, rdN u.dev a = (regReset a).toNat)
      ∧ u.dev.time.pt = 0 ∧ u.dev.time.frac = 0
      ∧ u.dev.memory.wipes = [9] ∧ (∀ a, 0x1002000000 ≤ a → a < 0x1002200000 → memByte u.dev a = 0)))

/-- POWER_ON_RESET, RESET_N_ASSERT, RESET_N_RELEASE, SUPPLY_MONITOR_LOSS, WATCHDOG_EXPIRY, DEBUG_RESET, PWR_WDT_WRITE:
a reset returns the device to BOOT with nothing planned or in flight, sets the bit of its source, and keeps the flash,
the fuses and, unless a supply is lost, the memory outside the vault; the watchdog acts when it is enabled and is
restarted by its word (R497, R521, R522). Readings and choices of the model: log 91. -/
def Obligations.ResetsReturnToBoot : Prop :=
  let back (s u : State) (keep : Bool) : Prop := u.dev.sys = {} ∧ u.dev.plan = {} ∧ u.dev.disp = {} ∧ u.dev.aster = {}
    ∧ u.dev.flash = s.dev.flash ∧ u.dev.sec.fused = s.dev.sec.fused ∧ u.dev.sec.svn = s.dev.sec.svn
    ∧ u.dev.host = {} ∧ u.dev.time.epochSet = false
    ∧ (keep = true → ∀ a, 0x1002000000 ≤ a ∨ memByte u.dev a = memByte s.dev a)
  let source (s u : State) (bit : Nat) : Prop := rdN u.dev 0x1002C = rdN s.dev 0x1002C ||| 2 ^ bit
  (∀ s : State, Completes .resetNAssert s (fun u => back s u true ∧ source s u 1 ∧ u.dev.pwr.resetLow = true))
  ∧ (∀ s : State, Completes .supplyMonitorLoss s (fun u => back s u false ∧ source s u 1 ∧ u.dev.pwr.supplyLost = true))
  ∧ (∀ s : State, Completes .powerOnReset s (fun u => back s u false ∧ u.dev.pwr.resetLow = true
      ∧ rdN u.dev 0x1002C = 1))
  ∧ (∀ s : State, bitAt s.dev 0x10000 2 = true → s.dev.sys.mode ≠ .boot → s.dev.sys.mode ≠ .stop →
      s.dev.pwr.wdtAt + 1000000 * rdN s.dev 0x10030 ≤ nowNs s.dev → Completes .watchdogExpiry s (fun u => back s u true ∧ source s u 2))
  ∧ (∀ s : State, s.dev.sec.lifeCycle ≠ 1 → Completes .debugReset s (fun u => back s u true ∧ source s u 3))
  ∧ (∀ s : State, s.dev.sec.lifeCycle = 1 → exec .debugReset s = .next s)
  ∧ (∀ s : State, s.dev.pwr.supplyLost = false → s.dev.sys.mode = .boot → s.dev.pwr.boot.step = 0 →
    Completes .resetNRelease s (fun u => u.dev.pwr.resetLow = false ∧ u.dev.pwr.boot.step = 1
      ∧ u.dev.out = s.dev.out ++ [.avs (targetMv s.dev 0)] ∧ u.dev.sys = s.dev.sys ∧ u.dev.regs = s.dev.regs))
  ∧ (∀ s : State, bitAt s.dev 0x10000 2 = false ∨ s.dev.sys.mode = .boot ∨ s.dev.sys.mode = .stop
      ∨ nowNs s.dev < s.dev.pwr.wdtAt + 1000000 * rdN s.dev 0x10030 → exec .watchdogExpiry s = .next s)
  ∧ (∀ s : State, s.dev.pwr.supplyLost = true → exec .resetNRelease s
      = becomes s { s.dev with pwr := { s.dev.pwr with resetLow := false } })
  ∧ (∀ (m : Master) (v : Nat) (s : State), exec (.pwrWdtWrite m v) s
      = (if v = 0xA55A then becomes s { s.dev with pwr := { s.dev.pwr with wdtAt := nowNs s.dev } } else .next s))

/-! ### Boot, security, ageing and peripherals -/

/-- BOOT_STEP_COMPLETE, BOOT_RETRY: the steps of the boot follow each other; a supply, a slot, a memory or an image
that fails gives its code, another slot, a repetition or a stop (R500). Readings and choices of the model: log 35, 93.
-/
def Obligations.BootStepsFollowEachOther : Prop :=
  (∀ (x : BootSeen) (s : State), s.dev.sys.mode = .boot → s.dev.pwr.boot.stopped = false →
    s.dev.pwr.boot.waiting = false → s.dev.pwr.boot.step = 1 →
    (s.dev.pwr.refLost = true → exec (.bootStepComplete x) s = becomes s (wrN 0x10028 (1 + 2 ^ 16) s.dev))
    ∧ (s.dev.pwr.refLost = false → x.supplyOk = false →
      exec (.bootStepComplete x) s = becomes s (wrN 0x10028 (7 + 2 ^ 16) s.dev))
    ∧ (s.dev.pwr.refLost = false → x.supplyOk = true → x.flashMib < 2 ^ 32 →
      Completes (.bootStepComplete x) s (fun u => u.dev.pwr.boot = { s.dev.pwr.boot with step := 2 }
        ∧ u.dev.pwr.pgoodLow = false ∧ rdN u.dev 0x10010 = targetMv s.dev 0
        ∧ rdN u.dev 0x1F0010 = x.flashId % 2 ^ 24 ∧ rdN u.dev 0x1F0014 = x.flashMib)))
  ∧ (∀ (x : BootSeen) (s : State), s.dev.sys.mode = .boot → s.dev.pwr.boot.stopped = false →
    s.dev.pwr.boot.waiting = false → s.dev.pwr.boot.step = 2 →
    let b := s.dev.pwr.boot
    exec (.bootStepComplete x) s = becomes s (match (slotOrder s.dev).find? (fun i => !b.tried.contains i) with
      | some k => putBoot { b with step := 3, slot := k, first := some (b.first.getD k) } s.dev
      | none =>
        if b.tried = [] then wrN 0x10028 (2 + 2 ^ 16) (putBoot { b with stopped := true } s.dev)
        else if b.repeated = true then wrN 0x10028 (3 + 2 ^ 16) (putBoot { b with stopped := true } s.dev)
        else wrN 0x10028 (3 + 2 ^ 16) (putBoot { b with waiting := true, tried := [] } s.dev)))
  ∧ (∀ (x : BootSeen) (s : State), s.dev.sys.mode = .boot → s.dev.pwr.boot.stopped = false →
    s.dev.pwr.boot.waiting = false →
    let b := s.dev.pwr.boot
    (b.step = 3 → exec (.bootStepComplete x) s = becomes s (if slotAuth s.dev b.slot = true then
        memWrite 0x1001000000 (flashRead s.dev (slotBase b.slot + 192) (leAt (slotHeader s.dev b.slot) 8 4))
          (putBoot { b with step := 4 } s.dev)
      else bootNext (wrN 0x10028 (3 + 2 ^ 16) (putBoot { b with tried := b.tried ++ [b.slot] } s.dev))))
    ∧ (b.step = 4 → x.dramOk = true → exec (.bootStepComplete x) s = becomes s (putBoot { b with step := 5 } s.dev))
    ∧ (b.step = 4 → x.dramOk = false → exec (.bootStepComplete x) s
        = becomes s (wrN 0x10028 (5 + 256 * (x.channel % 256) + 2 ^ 16) (putBoot { b with stopped := true } s.dev)))
    ∧ (b.step = 5 → exec (.bootStepComplete x) s = becomes s
        (if sha384 (slotMain s.dev b.slot) = slice (slotHeader s.dev b.slot) 129 48 then
          memWrite 0 (slotMain s.dev b.slot) (putBoot { b with step := 6 } s.dev)
        else deviceReset none true (wrN 0x10028 (3 + 2 ^ 16) (setFld 0x10038 1 1 (1 - b.slot) s.dev))))
    ∧ (b.step = 6 → s.dev.age.margins = [] → s.dev.age.nextMhz = none → s.dev.sys.pendReq = none →
        Completes (.bootStepComplete x) s (fun u => u.dev.sys.mode = .config ∧ u.dev.sys.cause = 1
          ∧ u.dev.pwr.boot.step = 0 ∧ u.dev.sec.runSvn = leAt (slotHeader s.dev b.slot) 6 1)))
  ∧ (∀ s : State, s.dev.pwr.boot.waiting = true →
    exec .bootRetry s
      = becomes s (putBoot { s.dev.pwr.boot with waiting := false, repeated := true, step := 2 } s.dev))
  ∧ (∀ s : State, s.dev.pwr.boot.waiting = false → exec .bootRetry s = .next s)
  ∧ (∀ (x : BootSeen) (s : State), s.dev.sys.mode ≠ .boot ∨ s.dev.pwr.boot.stopped = true ∨ s.dev.pwr.boot.waiting = true →
    exec (.bootStepComplete x) s = .next s)

/-- SEC_SVN_COMMIT, SEC_LC_REQ, TAMPER: the security version is committed only in CONFIG, for the running image and
upwards; a life-cycle request acts in its order, wiping the vault, or is refused; a tamper source that acts wipes the
vault, sets its bit and is a fault (R501, R509 to R511). AGE_DAILY_MEASURE, AGE_MEASURE_COMPLETE: the daily
measurement starts in Run when it is set to; its readings and its time are shown and the command that asked completes
(R504, R508). Readings and choices of the model: log 92, 35. -/
def Obligations.SecurityTamperAndAgeing : Prop :=
  (∀ (m : Master) (v : Nat) (s : State), v < 64 →
    (s.dev.sys.mode = .config ∧ v = s.dev.sec.runSvn ∧ s.dev.sec.svn < v →
      exec (.secSvnCommit m v) s = becomes s { s.dev with sec := { s.dev.sec with svn := v } })
    ∧ (¬(s.dev.sys.mode = .config ∧ v = s.dev.sec.runSvn ∧ s.dev.sec.svn < v) →
      exec (.secSvnCommit m v) s = becomes s (setFlag 0x1D0000 16 s.dev)))
  ∧ (∀ (m : Master) (v : Nat) (s : State), s.dev.sys.mode ≠ .config →
    exec (.secLcReq m v) s = becomes s (lockedWrite 0x1D0004 s.dev))
  ∧ (∀ (m : Master) (s : State), s.dev.sys.mode = .config →
    (s.dev.sec.fused = 0 → Completes (.secLcReq m 1) s (fun u => u.dev.sec = { s.dev.sec with fused := 1 }
      ∧ u.dev.host.keys = [] ∧ u.dev.memory.wipes = s.dev.memory.wipes ++ [8]
      ∧ (∀ a, 0x1002000000 ≤ a → a < 0x1002200000 → memByte u.dev a = 0)
      ∧ (∀ k, k < 8 → (sess u.dev k).isOpen = false)))
    ∧ (s.dev.sec.fused ≠ 0 → exec (.secLcReq m 1) s = becomes s (setFlag 0x1D0000 16 s.dev))
    ∧ (s.dev.sec.fused ≠ 1 → exec (.secLcReq m 2) s = becomes s (setFlag 0x1D0000 16 s.dev))
    ∧ (s.dev.sec.fused = 1 → exec (.secLcReq m 2) s = becomes s (if tokenOk s.dev = true then
        raiseEvent evLcRequested (leBytes 1 2) (wipeAll 8 { s.dev with sec := { s.dev.sec with fused := 2 } })
      else setFlag 0x1D0000 16 s.dev))
    ∧ (∀ v, v % 4 = 0 ∨ v % 4 = 3 → exec (.secLcReq m v) s = becomes s (setFlag 0x1D0000 16 s.dev)))
  ∧ (∀ (cause levels detectors : Nat) (s : State), 1 ≤ cause → cause ≤ 7 →
    (cause ≤ 4 → bitAt s.dev 0x1D0008 (cause - 1) = true) → s.dev.sys.mode ≠ .stop →
    Completes (.tamper cause levels detectors) s (fun u => bitAt u.dev 0x1D000C (cause - 1) = true
      ∧ u.dev.memory.wipes = s.dev.memory.wipes ++ [cause] ∧ u.dev.host.keys = []
      ∧ (∀ a, 0x1002000000 ≤ a → a < 0x1002200000 → memByte u.dev a = 0) ∧ bitAt u.dev 0x230 6 = true
      ∧ u.dev.sys.newCauses = s.dev.sys.newCauses ++ [0xE] ∧ u.dev.sec.levels = levels % 16))
  ∧ (∀ (cause levels detectors : Nat) (s : State), 1 ≤ cause → cause ≤ 4 → bitAt s.dev 0x1D0008 (cause - 1) = false →
    exec (.tamper cause levels detectors) s = becomes s { s.dev with
      sec := { s.dev.sec with levels := levels % 16, detectors := detectors % 8 } })
  ∧ (∀ s : State, bitAt s.dev 0x1E0000 0 = true → s.dev.age.measuring = false → s.dev.sys.mode ≠ .stop →
    s.dev.sys.mode ≠ .boot →
    exec .ageDailyMeasure s
      = becomes s { s.dev with age := { s.dev.age with measuring := true, cid := none } })
  ∧ (∀ s : State, bitAt s.dev 0x1E0000 0 = false ∨ s.dev.age.measuring = true ∨ s.dev.sys.mode = .stop
      ∨ s.dev.sys.mode = .boot → exec .ageDailyMeasure s = .next s)
  ∧ (∀ (ps vs : List Nat) (ls : List (Nat × Nat)) (s : State), s.dev.age.measuring = false →
    exec (.ageMeasureComplete ps vs ls) s = .next s)
  ∧ (∀ (ps vs : List Nat) (ls : List (Nat × Nat)) (s : State), s.dev.age.measuring = true →
    (∀ x ∈ ps, x < 2 ^ 32) → (∀ x ∈ vs, x < 2 ^ 32) →
    Completes (.ageMeasureComplete ps vs ls) s (fun u => u.dev.age.measuring = false ∧ u.dev.age.cid = none
      ∧ (∀ i, i < 64 → rdN u.dev (0x1E0100 + 4 * i) = ps.getD i 0)
      ∧ (∀ i, i < 8 → rdN u.dev (0x1E0200 + 4 * i) = vs.getD i 0)
      ∧ rdN u.dev 0x1E0014 = ct32 s.dev ∧ u.dev.sys = s.dev.sys))

/-- FLASH_PROGRAM, FLASH_ERASE_SECTOR, FLASH_ERASE_BLOCK, FLASH_READ_STATUS, FLASH_OPERATION_COMPLETE: only the
control subsystem starts an operation, one at a time; a program puts its bytes with the ones that stand, an erase
leaves 0xFF, and every other byte of the flash stays (R534). I2C_TRANSFER, I2C_TRANSFER_COMPLETE, I2C_TIMEOUT,
UART_TX_WRITE, UART_RX_POP, UART_RX_BYTE, PMB_TELEMETRY_POLL: transfers start and end with their flag; bytes enter and
leave the FIFOs of the UART, or are lost with a flag; a poll stores its readings or the flag of what went wrong
(R534). Readings and choices of the model: log 24. -/
def Obligations.FlashAndPeripherals : Prop :=
  (∀ (m : Master) (s : State), isControl m = false →
    exec (.flashProgram m) s = becomes s (setFlag 0x1F0000 8 s.dev)
    ∧ exec (.flashEraseSector m) s = becomes s (setFlag 0x1F0000 8 s.dev)
    ∧ exec (.flashEraseBlock m) s = becomes s (setFlag 0x1F0000 8 s.dev)
    ∧ exec (.flashReadStatus m) s = becomes s (setFlag 0x1F0000 8 s.dev))
  ∧ (∀ (m : Master) (s : State), isControl m = true →
    let a := flashAddr s.dev
    let n := rdN s.dev 0x1F0030
    let starts (op : FlashOp) := becomes s { s.dev with periph := { s.dev.periph with flash := some op } }
    (s.dev.periph.flash = none → 1 ≤ n → a % 256 + n ≤ 256 → exec (.flashProgram m) s
      = starts (.program a (addrRead s.dev (addr64 s.dev 0x1F0028 % 2 ^ 40) n)))
    ∧ (s.dev.periph.flash ≠ none ∨ n = 0 ∨ 256 < a % 256 + n →
      exec (.flashProgram m) s = becomes s (setFlag 0x1F0000 8 s.dev))
    ∧ (s.dev.periph.flash = none →
      exec (.flashEraseSector m) s = starts (.erase (a / 4096 * 4096) 4096)
      ∧ exec (.flashEraseBlock m) s = starts (.erase (a / 65536 * 65536) 65536))
    ∧ (s.dev.periph.flash ≠ none → exec (.flashEraseSector m) s = becomes s (setFlag 0x1F0000 8 s.dev)
      ∧ exec (.flashEraseBlock m) s = becomes s (setFlag 0x1F0000 8 s.dev))
    ∧ exec (.flashReadStatus m) s = .next s)
  ∧ (∀ (a n : Nat) (ok : Bool) (s : State), s.dev.periph.flash = some (.erase a n) →
    Completes (.flashOperationComplete ok) s (fun u => u.dev.periph.flash = none
      ∧ (∀ b, fget 0xFF u.dev.flash b = (if a ≤ b ∧ b < a + n then 0xFF else fget 0xFF s.dev.flash b))
      ∧ (ok = false → bitAt u.dev 0x1F0000 9 = true) ∧ u.dev.mem = s.dev.mem))
  ∧ (∀ (a : Nat) (bs : Bytes) (ok : Bool) (s : State), s.dev.periph.flash = some (.program a bs) →
    Completes (.flashOperationComplete ok) s (fun u => u.dev.periph.flash = none
      ∧ (∀ b, fget 0xFF u.dev.flash b = (if a ≤ b ∧ b < a + bs.length
          then fget 0xFF s.dev.flash b &&& bs.getD (b - a) 0xFF else fget 0xFF s.dev.flash b))
      ∧ (ok = false → bitAt u.dev 0x1F0000 9 = true) ∧ u.dev.mem = s.dev.mem))
  ∧ (∀ (m : Master) (n v : Nat) (s : State), n < 2 → v < 2 ^ 32 →
    let len := bits v 15 8
    let ok := isControl m = true ∧ 1 ≤ len ∧ len ≤ 32 ∧ i2cOp s.dev n = none ∧ bitAt s.dev (i2cA n) 8 = true
    (¬ok → exec (.i2cTransfer m n v) s = becomes s (setFlag 0x1F0000 8 s.dev))
    ∧ (ok → Completes (.i2cTransfer m n v) s (fun u => i2cOp u.dev n = some (v.testBit 7, len)
      ∧ u.dev.out = s.dev.out ++ (.wire (1 + n) (2 * bits v 6 0 + b2n (v.testBit 7)) ::
          (if v.testBit 7 then [] else (i2cData s.dev n len).map (fun b => .wire (1 + n) b.toNat)))
      ∧ u.dev.regs = s.dev.regs)))
  ∧ (∀ (n len r : Nat) (rd : Bool) (data : Bytes) (s : State), n < 2 → i2cOp s.dev n = some (rd, len) →
    (rd = false ∨ r % 3 ≠ 0 → exec (.i2cTransferComplete n r data) s
      = becomes s (setFlag (i2cA n + 0x28) (8 + r % 3) (putI2c n none s.dev)))
    ∧ exec (.i2cTimeout n) s = becomes s (setFlag (i2cA n + 0x28) 11 (putI2c n none s.dev))
    ∧ (rd = true → len = 32 → data.length = 32 → Completes (.i2cTransferComplete n 0 data) s (fun u =>
        i2cOp u.dev n = none ∧ bitAt u.dev (i2cA n + 0x28) 8 = true
        ∧ ∀ i, i < 8 → rdN u.dev (i2cA n + 8 + 4 * i) = leAt data (4 * i) 4)))
  ∧ (∀ (m : Master) (v : Nat) (s : State),
    (isControl m = false → exec (.uartTxWrite m v) s = becomes s (setFlag 0x1F0000 8 s.dev)
      ∧ exec (.uartRxPop m v) s = becomes s (setFlag 0x1F0000 8 s.dev))
    ∧ (isControl m = true → 64 ≤ (uartPending s.dev).length →
        exec (.uartTxWrite m v) s = becomes s (setFlag 0x1F0210 8 s.dev))
    ∧ (isControl m = true → (uartPending s.dev).length < 64 → Completes (.uartTxWrite m v) s (fun u =>
        u.dev.out = s.dev.out ++ [.wire 0 (v % 256)] ∧ u.dev.periph.txEnds.length = (uartPending s.dev).length + 1))
    ∧ (isControl m = true → exec (.uartRxPop m v) s = becomes s { s.dev with
        periph := { s.dev.periph with rxFifo := s.dev.periph.rxFifo.drop 1 } }))
  ∧ (∀ (b : Byte) (s : State),
    exec (.uartRxByte b false) s = becomes s (setFlag 0x1F0210 10 s.dev)
    ∧ (64 ≤ s.dev.periph.rxFifo.length → exec (.uartRxByte b true) s = becomes s (setFlag 0x1F0210 9 s.dev))
    ∧ (s.dev.periph.rxFifo.length < 64 → exec (.uartRxByte b true) s
        = becomes s { s.dev with periph := { s.dev.periph with rxFifo := s.dev.periph.rxFifo ++ [b] } }))
  ∧ (∀ (vo io t : Nat) (nack pec alert : Bool) (s : State),
    let d := { s.dev with periph := { s.dev.periph with alert := alert } }
    exec (.pmbTelemetryPoll vo io t nack pec alert) s = becomes s (if bitAt s.dev 0x1F0300 8 = false then d
      else if nack then setFlag 0x1F0310 8 d
      else if pec then setFlag 0x1F0310 9 d
      else wrN 0x1F0304 vo (wrN 0x1F0308 io (wrN 0x1F030C (t % 65536) d))))

/-! ### Encodings, stores and events -/

/-- Command entries: what an entry spells is the command that was written into it, for every command with operands
that its fields hold; and an entry with no reserved bit is the one that its command writes (R424, R427). Readings and
choices of the model: log 1. -/
def Obligations.CommandEntriesAreReadAsWritten : Prop :=
  (∀ (h : CmdHdr) (c : Cmd), hdrEncodes h = true → cmdEncodes c = true →
    (cmdBody h c).length = 64 ∧ entryCmd (cmdBody h c) (cmdHost c) = some c ∧ entryHdr h.src (cmdBody h c) = h)
  ∧ (∀ (src : Source) (e host : Bytes) (c : Cmd), e.length = 64 → entryCmd e host = some c →
    (entryHdr src e).hdrRsvd = false → (entryHdr src e).parRsvd = false → cmdBody (entryHdr src e) c = e)

/-- Aster bundles: the word of a bundle that a format encodes decodes to that bundle, and two bundles of a core that a
format encodes have different words (R218 to R222). -/
def Obligations.BundlesAreReadAsWritten : Prop :=
  (∀ b : Bundle, bundleEncodes b = true → encodeBundle b < 2 ^ 64 ∧ decodeBundle b.core (encodeBundle b) = some b)
  ∧ (∀ a b : Bundle, bundleEncodes a = true → bundleEncodes b = true → a.core = b.core → encodeBundle a = encodeBundle b →
    a = b)

/-- Device memory and register words: a read after a write gives what was written, every other byte and register reads
as before, and each write keeps the store's canonical form (R12, R449; the form is the model's, log 16). -/
def Obligations.StoresReadBackWhatWasWritten : Prop :=
  (∀ (a : Nat) (bs : Bytes) (d : Dev), bs.length ≤ 2 ^ 40 →
    (∀ i, i < bs.length → memByte (memWrite a bs d) (a + i) = bs.getD i 0)
    ∧ (∀ b, (∀ i, i < bs.length → (a + i) % 2 ^ 40 ≠ b % 2 ^ 40) → memByte (memWrite a bs d) b = memByte d b)
    ∧ (Canonical d = true → Canonical (memWrite a bs d) = true))
  ∧ (∀ (a v : Nat) (d : Dev), rdN (wrN a v d) a = v % 2 ^ 32 ∧ (∀ b, b ≠ a → rdN (wrN a v d) b = rdN d b)
    ∧ (Canonical d = true → Canonical (wrN a v d) = true))

/-- The register words, device memory and the flash stay in canonical form at every step, whatever the command (the
form is the model's, log 16). -/
def Obligations.StepKeepsTheStoresCanonical : Prop :=
  ∀ s t : State, Canonical s.dev = true → step s = .next t → Canonical t.dev = true

/-- An event takes the device's next seq, goes to the event ring that runs and selects its group when the ring has
room, is dropped, counted and marked as a gap there when it has none, and goes nowhere else (R431, R432). Readings and
choices of the model: log 14. -/
def Obligations.EventsReachTheRingsThatSelectThem : Prop :=
  (∀ (code r : Nat) (args : Bytes) (d : Dev), 1 ≤ r → r ≤ 16 → ringRunning d r = true → bitAt d (ringA r) 9 = true →
    bitAt d (ringA r + 0x24) (code / 256 - 1) = true →
    (∀ i, 1 ≤ i → i ≤ 16 → i ≠ r → ringRunning d i = false) → (∀ k, k < 8 → (sess d k).isOpen = false) →
    let seq := d.host.evSeq
    let counts (e : Dev) : Dev := { e with host := { e.host with evSeq := (seq + 1) % 65536 } }
    (ringHeld d r = ringSize d r → raiseEvent code args d
      = counts (putRing r { ringSt d r with gap := true } (setFlag (ringA r + 0x20) 11 (incCnt 0x30014 d))))
    ∧ (ringHeld d r ≠ ringSize d r →
      let e := ringProduce r (eventBytes seq code (ct32 d) (qnNow d) (ringSt d r).gap args) d
      raiseEvent code args d = counts (putRing r { ringSt e r with gap := false } e)))
  ∧ (∀ (code : Nat) (args : Bytes) (d : Dev), (∀ i, 1 ≤ i → i ≤ 16 → ringRunning d i = false) →
    (∀ k, k < 8 → (sess d k).isOpen = false) →
    raiseEvent code args d = { d with host := { d.host with evSeq := (d.host.evSeq + 1) % 65536 } })

/-- After reset no command waits or is in flight, the device is in BOOT, held by RESET_N, no plan is held, every store
is canonical, and every register reads its reset value, among them the ones written out here; in reset the balls stand
as R49 says, in SAFE FAULT_N is low and enabled ports whose ramp has ended send zero data, and JTAG_TRST_N low for 100
ns resets the TAP (R27, R49, R358, R497, R498, R533; what memory reads as that nothing has written is the model's
choice, log 16). Readings and choices of the model: log 17, 112. -/
def Obligations.ResetIsAsTheSpecSays : Prop :=
  State.reset.pending = [] ∧ Canonical State.reset.dev = true ∧ State.reset.dev.sys.mode = .boot
  ∧ State.reset.dev.pwr.resetLow = true ∧ State.reset.dev.host.inflight = [] ∧ State.reset.dev.host.waitQ = []
  ∧ State.reset.dev.plan.held = [] ∧ State.reset.dev.plan.active = none ∧ State.reset.dev.time.pt = 0
  ∧ (∀ a, rdN State.reset.dev a = (regReset a).toNat ∧ memByte State.reset.dev a = 0)
  ∧ rdN State.reset.dev 0 = 0x51200100 ∧ rdN State.reset.dev 0x10018 = 110 * 256 ∧ rdN State.reset.dev 0x20008 = 2 ^ 29
  ∧ rdN State.reset.dev 0x40010 = 20000 ∧ (∀ p, p < 4 → rdN State.reset.dev (netA p + 0x2C) = 192
    ∧ rdN State.reset.dev (netA p + 0x30) = 64)
  ∧ (∀ d : Dev, d.pwr.resetLow = true → ballState d .faultN = .low
    ∧ ∀ n, ballState d (.drv n) = .low ∧ ballState d (.tdmSdout n) = .pulledDown ∧ ballState d (.ethTx n) = .electricalIdle
      ∧ ballState d (.pairTx n) = .electricalIdle ∧ ballState d (.lsnOut n) = .grounded)
  ∧ (∀ d : Dev, d.pwr.resetLow = false → d.pwr.supplyLost = false → d.sys.mode = .safe → ballState d .faultN = .low
    ∧ ∀ n, (ballState d (.drv n) = .switching ↔ drvSwitches d n = true) ∧ ballState d (.lsnOut n) = .muted)
  ∧ (∀ (n : Nat) (d : Dev), d.pwr.resetLow = false → d.pwr.supplyLost = false → d.sys.mode = .safe →
    bitAt d (aportA n + 4) 0 = true → rampShows d = false → ballState d (.tdmSdout n) = .zeroData)
  ∧ (∀ (ns : Nat) (d : Dev), 100 ≤ ns → (tapTrst ns d).periph.tap = {})
end

