-- ==== Sys2Proof/Laws/Commands.lean ====
section
/-!
SUPPORT. What the acceptance and the completion of a command do.
-/

namespace Sys2Proof.Laws

open Machine Safety

/-- A command that may be accepted and meets no command before it is accepted, and only it. -/
theorem submit_acceptable (h : CmdHdr) (c : Cmd) (d : Dev) (ha : Acceptable h d) :
    submit h c d = accept ⟨h, some c, cmdOpcode c, nowNs d⟩ d := by
  obtain ⟨hw, hr, hf, hs, -⟩ := ha
  have hcount : decide (64 ≤ inFlightCount d) = false := by
    rw [fetchStalled, Bool.or_eq_false_iff] at hs
    exact hs.1
  have hdev : { d with host := { d.host with waitQ := [] } } = d := by rw [← hw]
  have hm : mayAccept { d with host := { d.host with waitQ := [⟨h, some c, cmdOpcode c, nowNs d⟩] } }
      ⟨h, some c, cmdOpcode c, nowNs d⟩ = true := by
    show (cmdsRun d && !(h.flags.testBit 0 && sourceBusy d h.src) && (match h.src with
      | .host => !fetchStalled d
      | _ => true)) = true
    rw [hr, hf, hs]
    cases h.src <;> rfl
  have hq : enqueue h (some c) (cmdOpcode c) d
      = { d with host := { d.host with waitQ := [⟨h, some c, cmdOpcode c, nowNs d⟩] } } := by
    rw [enqueue, hw]
    rfl
  rw [submit, hq, acceptAll]
  simp only [List.length_singleton, pump, firstWaiting, List.contains_nil, Bool.false_eq_true, if_false, List.find?, hm]
  have hd : dropWaiting ⟨h, some c, cmdOpcode c, nowNs d⟩
      { d with host := { d.host with waitQ := [⟨h, some c, cmdOpcode c, nowNs d⟩] } } = d := by
    simp only [dropWaiting, List.erase_cons_head]
    exact hdev
  have hfull : decide (64 ≤ inFlightCount
      { d with host := { d.host with waitQ := [⟨h, some c, cmdOpcode c, nowNs d⟩] } }) = false := hcount
  rw [acceptNext, hfull, hd]
  cases h.src <;> rfl

/-- A command that comes to the checks of its own rule does what that rule says, with its record in flight. -/
theorem submit_ready (h : CmdHdr) (c : Cmd) (d : Dev) (hr : Ready h c d) :
    submit h c d = perform d.host.nextCid h.src h.applyQn (cmdQn (accepted h c d) c h.applyQn false) false c (accepted h c d) := by
  obtain ⟨ha, hrole, hrs, hps, hq, hl, hj, hm⟩ := hr
  rw [submit_acceptable h c d ha]
  have h1 : roleOk (accepted h c d) h.src (cmdOpcode c) = true := hrole
  have h2 : cmdLegal (accepted h c d) c = true := by
    rw [← hl]
    cases c <;> rfl
  have h3 : joinHolds (accepted h c d) c = false := hj
  have h4 : (isMirrored c && pairFormed (accepted h c d)) = false := hm
  have h5 : (h.hdrRsvd || (decide (h.applyQn ≠ 0) && !takesQn (cmdOpcode c))) = false := by
    rw [hrs]
    rcases hq with e | e <;> simp [e]
  show (if roleOk (accepted h c d) h.src (cmdOpcode c) = false then _ else
    if (h.hdrRsvd || (decide (h.applyQn ≠ 0) && !takesQn (cmdOpcode c))) = true then _ else
      runCmd d.host.nextCid h c (accepted h c d)) = _
  rw [h1, h5, runCmd]
  simp only [h4, judge, h2, h3, hps]
  rfl

/-- The completion of the command just accepted, after effects that leave the commands in flight. -/
theorem complete_accepted (h : CmdHdr) (c : Cmd) (d e : Dev) (code result : Nat) (ha : Acceptable h d)
    (hi : e.host.inflight = d.host.inflight) :
    complete d.host.nextCid code 0 result
      { e with host := { e.host with nextCid := d.host.nextCid + 1, inflight := d.host.inflight ++ [flight h c d] } }
      = completed h c d code result e := by
  obtain ⟨-, -, -, -, hc⟩ := ha
  have hne : ∀ f ∈ d.host.inflight, decide (f.cid = d.host.nextCid) = false := fun f hf =>
    decide_eq_false (Nat.ne_of_lt (hc f hf))
  have hfind : (d.host.inflight ++ [flight h c d]).find? (fun f => decide (f.cid = d.host.nextCid)) = some (flight h c d) := by
    rw [List.find?_append, List.find?_eq_none.2 (fun f hf => by simp [hne f hf])]
    simp [flight]
  have hfilter : (d.host.inflight ++ [flight h c d]).filter (fun g => decide (g.cid ≠ d.host.nextCid)) = d.host.inflight := by
    rw [List.filter_append, List.filter_eq_self.2]
    · simp [flight]
    · intro f hf
      simpa using Nat.ne_of_lt (hc f hf)
  rw [complete]
  simp only [hfind, hfilter]
  rw [completed]
  congr 1
  rw [← hi]

end Sys2Proof.Laws
end

