-- ==== Sys2Proof/Laws/Store.lean ====
section
/-!
SUPPORT. Laws of the sparse stores: a read after a write, and the canonical form.
-/

namespace Sys2Proof.Laws

open Machine

variable {α : Type} [DecidableEq α]

omit [DecidableEq α] in
@[simp] theorem fget_nil (dflt : α) (k : Nat) : fget dflt [] k = dflt := rfl

omit [DecidableEq α] in
theorem fget_fins_same (dflt : α) (m : FMap α) (k : Nat) (v : α) : fget dflt (fins m k v) k = v := by
  induction m with
  | nil => simp [fins, fget]
  | cons e rest ih =>
    obtain ⟨j, w⟩ := e
    by_cases h : k < j
    · simp [fins, h, fget]
    · by_cases h' : j = k
      · simp [fins, h', fget]
      · simp [fins, h, h', fget, ih]

omit [DecidableEq α] in
theorem fget_fins_other (dflt : α) (m : FMap α) (k i : Nat) (v : α) (h : i ≠ k) :
    fget dflt (fins m k v) i = fget dflt m i := by
  induction m with
  | nil => simp [fins, fget, Ne.symm h]
  | cons e rest ih =>
    obtain ⟨j, w⟩ := e
    by_cases hk : k < j
    · simp [fins, hk, fget, Ne.symm h]
    · by_cases hj : j = k
      · subst hj
        simp [fins, fget, Ne.symm h]
      · by_cases hi : j = i
        · simp only [fins, hk, hj, if_false, fget, if_pos hi]
        · simp [fins, hk, hj, fget, hi, ih]

omit [DecidableEq α] in
theorem fget?_fins_same (m : FMap α) (k : Nat) (v : α) : fget? (fins m k v) k = some v := by
  induction m with
  | nil => simp [fins, fget?]
  | cons e rest ih =>
    obtain ⟨j, w⟩ := e
    by_cases h : k < j
    · simp [fins, h, fget?]
    · by_cases h' : j = k
      · simp [fins, h', fget?]
      · simp [fins, h, h', fget?, ih]

omit [DecidableEq α] in
theorem fget?_fins_other (m : FMap α) (k i : Nat) (v : α) (h : i ≠ k) : fget? (fins m k v) i = fget? m i := by
  induction m with
  | nil => simp [fins, fget?, Ne.symm h]
  | cons e rest ih =>
    obtain ⟨j, w⟩ := e
    by_cases hk : k < j
    · simp [fins, hk, fget?, Ne.symm h]
    · by_cases hj : j = k
      · subst hj
        simp [fins, fget?, Ne.symm h]
      · by_cases hi : j = i
        · simp only [fins, hk, hj, if_false, fget?, if_pos hi]
        · simp [fins, hk, hj, fget?, hi, ih]

/-- The canonical form from a lower bound holds from every smaller one. -/
theorem fwfFrom_mono (dflt : α) (m : FMap α) (a b : Nat) (hab : a ≤ b) (h : fwfFrom dflt b m = true) :
    fwfFrom dflt a m = true := by
  cases m with
  | nil => rfl
  | cons e rest =>
    obtain ⟨j, w⟩ := e
    simp only [fwfFrom, Bool.and_eq_true, decide_eq_true_eq] at h ⊢
    exact ⟨⟨by omega, h.1.2⟩, h.2⟩

/-- A key below the bound of a canonical store is not listed. -/
theorem fget_below (dflt : α) (m : FMap α) (lo k : Nat) (h : fwfFrom dflt lo m = true) (hk : k < lo) :
    fget dflt m k = dflt := by
  induction m generalizing lo with
  | nil => rfl
  | cons e rest ih =>
    obtain ⟨j, w⟩ := e
    simp only [fwfFrom, Bool.and_eq_true, decide_eq_true_eq] at h
    have hj : j ≠ k := by omega
    simp only [fget, hj, if_false]
    exact ih (j + 1) h.2 (by omega)

omit [DecidableEq α] in
theorem fget?_none_of_ferase (m : FMap α) (k i : Nat) (h : i ≠ k) : fget? (ferase m k) i = fget? m i := by
  induction m with
  | nil => rfl
  | cons e rest ih =>
    obtain ⟨j, w⟩ := e
    by_cases hj : j = k
    · subst hj
      simp [ferase, fget?, Ne.symm h, ih]
    · by_cases hi : j = i
      · simp only [ferase, hj, if_false, fget?, if_pos hi]
      · simp [ferase, hj, fget?, hi, ih]

omit [DecidableEq α] in
theorem fget_ferase_other (dflt : α) (m : FMap α) (k i : Nat) (h : i ≠ k) :
    fget dflt (ferase m k) i = fget dflt m i := by
  induction m with
  | nil => rfl
  | cons e rest ih =>
    obtain ⟨j, w⟩ := e
    by_cases hj : j = k
    · subst hj
      simp [ferase, fget, Ne.symm h, ih]
    · by_cases hi : j = i
      · simp only [ferase, hj, if_false, fget, if_pos hi]
      · simp [ferase, hj, fget, hi, ih]

omit [DecidableEq α] in
theorem fget_ferase_same (dflt : α) (m : FMap α) (k : Nat) : fget dflt (ferase m k) k = dflt := by
  induction m with
  | nil => rfl
  | cons e rest ih =>
    obtain ⟨j, w⟩ := e
    by_cases hj : j = k
    · simp only [ferase, hj, if_true, ih]
    · simp only [ferase, hj, if_false, fget, ih]

omit [DecidableEq α] in
theorem fget?_ferase_same (m : FMap α) (k : Nat) : fget? (ferase m k) k = none := by
  induction m with
  | nil => rfl
  | cons e rest ih =>
    obtain ⟨j, w⟩ := e
    by_cases hj : j = k
    · simp only [ferase, hj, if_true, ih]
    · simp only [ferase, hj, if_false, fget?, ih]

/-- A read after a write to the same key gives the value. -/
theorem fget_fput_same (dflt : α) (m : FMap α) (k : Nat) (v : α) : fget dflt (fput dflt m k v) k = v := by
  unfold fput
  split
  · rename_i hv
    rw [hv]
    exact fget_ferase_same dflt m k
  · exact fget_fins_same dflt m k v

/-- A write leaves every other key alone. -/
theorem fget_fput_other (dflt : α) (m : FMap α) (k i : Nat) (v : α) (h : i ≠ k) :
    fget dflt (fput dflt m k v) i = fget dflt m i := by
  unfold fput
  split
  · exact fget_ferase_other dflt m k i h
  · exact fget_fins_other dflt m k i v h

theorem ferase_wf (dflt : α) (m : FMap α) (k lo : Nat) (h : fwfFrom dflt lo m = true) :
    fwfFrom dflt lo (ferase m k) = true := by
  induction m generalizing lo with
  | nil => rfl
  | cons e rest ih =>
    obtain ⟨j, w⟩ := e
    simp only [fwfFrom, Bool.and_eq_true, decide_eq_true_eq] at h
    by_cases hj : j = k
    · simp only [ferase, hj, if_true]
      exact fwfFrom_mono dflt _ lo (j + 1) (by omega) (ih (j + 1) h.2)
    · simp only [ferase, hj, if_false, fwfFrom, Bool.and_eq_true, decide_eq_true_eq]
      exact ⟨h.1, ih (j + 1) h.2⟩

theorem fins_wf (dflt : α) (m : FMap α) (k lo : Nat) (v : α) (hv : v ≠ dflt) (hk : lo ≤ k)
    (h : fwfFrom dflt lo m = true) : fwfFrom dflt lo (fins m k v) = true := by
  induction m generalizing lo with
  | nil => simp [fins, fwfFrom, hv, hk]
  | cons e rest ih =>
    obtain ⟨j, w⟩ := e
    simp only [fwfFrom, Bool.and_eq_true, decide_eq_true_eq] at h
    by_cases hlt : k < j
    · simp only [fins, hlt, if_true, fwfFrom, Bool.and_eq_true, decide_eq_true_eq]
      exact ⟨⟨hk, hv⟩, ⟨⟨by omega, h.1.2⟩, h.2⟩⟩
    · by_cases hj : j = k
      · subst hj
        simp only [fins, hlt, if_false, if_true, fwfFrom, Bool.and_eq_true, decide_eq_true_eq]
        exact ⟨⟨hk, hv⟩, h.2⟩
      · simp only [fins, hlt, hj, if_false, fwfFrom, Bool.and_eq_true, decide_eq_true_eq]
        exact ⟨h.1, ih (j + 1) (by omega) h.2⟩

/-- A write keeps the canonical form. -/
theorem fput_wf (dflt : α) (m : FMap α) (k : Nat) (v : α) (h : fwf dflt m = true) : fwf dflt (fput dflt m k v) = true := by
  unfold fput
  split
  · exact ferase_wf dflt m k 0 h
  · rename_i hv
    exact fins_wf dflt m k 0 v hv (Nat.zero_le k) h

/-- Leaving out entries keeps the canonical form. -/
theorem filter_wf (dflt : α) (m : FMap α) (p : Nat × α → Bool) (lo : Nat) (h : fwfFrom dflt lo m = true) :
    fwfFrom dflt lo (m.filter p) = true := by
  induction m generalizing lo with
  | nil => rfl
  | cons e rest ih =>
    obtain ⟨j, w⟩ := e
    simp only [fwfFrom, Bool.and_eq_true, decide_eq_true_eq] at h
    have ht := ih (j + 1) h.2
    by_cases hp : p (j, w) = true
    · simp only [List.filter, hp, fwfFrom, Bool.and_eq_true, decide_eq_true_eq]
      exact ⟨h.1, ht⟩
    · simp only [List.filter, Bool.not_eq_true] at hp ⊢
      rw [hp]
      exact fwfFrom_mono dflt _ lo (j + 1) (by omega) ht

end Sys2Proof.Laws
end

