-- ==== Sys2Proof/Laws/Device.lean ====
section
/-!
SUPPORT. Laws of register words, device memory and flash: a read after a write, frames, and the canonical form that every
memory operation keeps.
-/

namespace Sys2Proof.Laws

open Machine Safety

/-! ### Registers -/

theorem regsFrom_mono (m : FMap Word) (a b : Nat) (hab : a ≤ b) (h : regsFrom b m = true) : regsFrom a m = true := by
  cases m with
  | nil => rfl
  | cons e rest =>
    obtain ⟨j, w⟩ := e
    simp only [regsFrom, Bool.and_eq_true, decide_eq_true_eq] at h ⊢
    exact ⟨⟨by omega, h.1.2⟩, h.2⟩

/-- A register reads as it was written. -/
theorem reg_setReg_same (a : Nat) (w : Word) (d : Dev) : reg (setReg a w d) a = w := by
  unfold setReg
  split
  · rename_i hw
    simp only [reg, fget?_ferase_same d.regs a]
    exact hw.symm
  · simp only [reg, fget?_fins_same]

/-- A write leaves every other register alone. -/
theorem reg_setReg_other (a b : Nat) (w : Word) (d : Dev) (h : b ≠ a) : reg (setReg a w d) b = reg d b := by
  unfold setReg
  split
  · simp only [reg, fget?_none_of_ferase d.regs a b h]
  · simp only [reg, fget?_fins_other d.regs a b w h]

theorem rdN_wrN_same (a v : Nat) (d : Dev) : rdN (wrN a v d) a = v % 2 ^ 32 := by
  simp [rdN, wrN, reg_setReg_same a _ d, BitVec.toNat_ofNat]

theorem rdN_wrN_other (a b v : Nat) (d : Dev) (h : b ≠ a) : rdN (wrN a v d) b = rdN d b := by
  simp [rdN, wrN, reg_setReg_other a b _ d h]

theorem regs_ferase_wf (m : FMap Word) (k lo : Nat) (h : regsFrom lo m = true) : regsFrom lo (ferase m k) = true := by
  induction m generalizing lo with
  | nil => rfl
  | cons e rest ih =>
    obtain ⟨j, w⟩ := e
    simp only [regsFrom, Bool.and_eq_true, decide_eq_true_eq] at h
    by_cases hj : j = k
    · simp only [ferase, hj, if_true]
      exact regsFrom_mono _ lo (j + 1) (by omega) (ih (j + 1) h.2)
    · simp only [ferase, hj, if_false, regsFrom, Bool.and_eq_true, decide_eq_true_eq]
      exact ⟨h.1, ih (j + 1) h.2⟩

theorem regs_fins_wf (m : FMap Word) (k lo : Nat) (v : Word) (hv : v ≠ regReset k) (hk : lo ≤ k)
    (h : regsFrom lo m = true) : regsFrom lo (fins m k v) = true := by
  induction m generalizing lo with
  | nil => simp [fins, regsFrom, hv, hk]
  | cons e rest ih =>
    obtain ⟨j, w⟩ := e
    simp only [regsFrom, Bool.and_eq_true, decide_eq_true_eq] at h
    by_cases hlt : k < j
    · simp only [fins, hlt, if_true, regsFrom, Bool.and_eq_true, decide_eq_true_eq]
      exact ⟨⟨hk, hv⟩, ⟨⟨by omega, h.1.2⟩, h.2⟩⟩
    · by_cases hj : j = k
      · subst hj
        simp only [fins, hlt, if_false, if_true, regsFrom, Bool.and_eq_true, decide_eq_true_eq]
        exact ⟨⟨hk, hv⟩, h.2⟩
      · simp only [fins, hlt, hj, if_false, regsFrom, Bool.and_eq_true, decide_eq_true_eq]
        exact ⟨h.1, ih (j + 1) (by omega) h.2⟩

/-- A register write keeps the canonical form. -/
theorem setReg_regs (a : Nat) (w : Word) (d : Dev) (h : regsFrom 0 d.regs = true) : regsFrom 0 (setReg a w d).regs = true := by
  unfold setReg
  split
  · exact regs_ferase_wf d.regs a 0 h
  · rename_i hw
    exact regs_fins_wf d.regs a 0 w hw (Nat.zero_le a) h

/-- A register write keeps everything but the register words. -/
theorem setReg_frame (a : Nat) (w : Word) (d : Dev) : ∃ m, setReg a w d = { d with regs := m } := by
  unfold setReg
  split
  · exact ⟨_, rfl⟩
  · exact ⟨_, rfl⟩

@[simp] theorem setReg_mem (a : Nat) (w : Word) (d : Dev) : (setReg a w d).mem = d.mem := by unfold setReg; split <;> rfl
@[simp] theorem setReg_flash (a : Nat) (w : Word) (d : Dev) : (setReg a w d).flash = d.flash := by
  unfold setReg; split <;> rfl
@[simp] theorem setReg_out (a : Nat) (w : Word) (d : Dev) : (setReg a w d).out = d.out := by unfold setReg; split <;> rfl
@[simp] theorem setReg_sys (a : Nat) (w : Word) (d : Dev) : (setReg a w d).sys = d.sys := by unfold setReg; split <;> rfl
@[simp] theorem setReg_time (a : Nat) (w : Word) (d : Dev) : (setReg a w d).time = d.time := by
  unfold setReg; split <;> rfl

/-! ### Device memory -/

theorem memByte_memPut_same (a : Nat) (b : Byte) (d : Dev) : memByte (memPut a b d) a = b :=
  fget_fput_same 0 d.mem (a % 2 ^ 40) b

theorem memByte_memPut_other (a c : Nat) (b : Byte) (d : Dev) (h : c % 2 ^ 40 ≠ a % 2 ^ 40) :
    memByte (memPut a b d) c = memByte d c :=
  fget_fput_other 0 d.mem (a % 2 ^ 40) (c % 2 ^ 40) b h

theorem memPut_wf (a : Nat) (b : Byte) (d : Dev) (h : Memory.wf d = true) : Memory.wf (memPut a b d) = true :=
  fput_wf 0 d.mem (a % 2 ^ 40) b h

@[simp] theorem memPut_regs (a : Nat) (b : Byte) (d : Dev) : (memPut a b d).regs = d.regs := rfl
@[simp] theorem memPut_flash (a : Nat) (b : Byte) (d : Dev) : (memPut a b d).flash = d.flash := rfl

/-- A write of a byte string keeps the canonical form of device memory. -/
theorem memWrite_wf (bs : Bytes) : ∀ (a : Nat) (d : Dev), Memory.wf d = true → Memory.wf (memWrite a bs d) = true := by
  induction bs with
  | nil => intro a d h; exact h
  | cons b rest ih => intro a d h; exact ih (a + 1) (memPut a b d) (memPut_wf a b d h)

/-- A write of a byte string leaves every byte outside it alone. -/
theorem memByte_memWrite_other (bs : Bytes) : ∀ (a c : Nat) (d : Dev),
    (∀ i, i < bs.length → c % 2 ^ 40 ≠ (a + i) % 2 ^ 40) → memByte (memWrite a bs d) c = memByte d c := by
  induction bs with
  | nil => intro a c d _; rfl
  | cons b rest ih =>
    intro a c d h
    have h0 := h 0 (by simp)
    have hr : ∀ i, i < rest.length → c % 2 ^ 40 ≠ (a + 1 + i) % 2 ^ 40 := by
      intro i hi
      have := h (i + 1) (by simpa using hi)
      rwa [show a + (i + 1) = a + 1 + i by omega] at this
    rw [show memWrite a (b :: rest) d = memWrite (a + 1) rest (memPut a b d) from rfl, ih (a + 1) c _ hr]
    exact memByte_memPut_other a c b d (by simpa using h0)

/-- Clearing a range keeps the canonical form of device memory. -/
theorem memClear_wf (lo n : Nat) (d : Dev) (h : Memory.wf d = true) : Memory.wf (memClear lo n d) = true :=
  filter_wf 0 d.mem _ 0 h

/-! ### Flash -/

/-- A program operation keeps the canonical form of the flash. -/
theorem flashProgram_wf (bs : Bytes) : ∀ (a : Nat) (d : Dev),
    fwf 0xFF d.flash = true → fwf 0xFF (flashProgram a bs d).flash = true := by
  induction bs with
  | nil => intro a d h; exact h
  | cons b rest ih =>
    intro a d h
    exact ih (a + 1) _ (fput_wf 0xFF d.flash a _ h)

/-- An erase keeps the canonical form of the flash, and the erased bytes read 0xFF. -/
theorem flashErase_wf (a n : Nat) (d : Dev) (h : fwf 0xFF d.flash = true) : fwf 0xFF (flashErase a n d).flash = true :=
  filter_wf 0xFF d.flash _ 0 h

/-- The stores of the state after reset are in canonical form. -/
theorem reset_canonical : Canonical State.reset.dev = true := by decide

end Sys2Proof.Laws
end

