-- ==== Sys2Proof/Laws/Events.lean ====
section
/-!
SUPPORT. What raising an event and completing a command can change, said once: registers of the host interface, the rings
and sessions of the host's state, transmit queues, and what the block sends.
-/

namespace Sys2Proof.Laws

open Machine

/-- `e` is `d` but for what is sent: the host's records, the network's queues, the outputs, and registers of the host
interface. -/
structure Sends (d e : Dev) : Prop where
  frame : e = { d with regs := e.regs, host := e.host, net := e.net, out := e.out }
  regs : ∀ a, a < 0x30000 ∨ 0x40000 ≤ a → reg e a = reg d a
  host : ∃ r s h q c f, e.host = { d.host with
    rings := r, sessions := s, holding := h, evSeq := q, fwCode := c, inflight := f }
  net : ∃ q, e.net = { d.net with txq := q }

theorem Sends.refl (d : Dev) : Sends d d := ⟨rfl, fun _ _ => rfl, ⟨_, _, _, _, _, _, rfl⟩, ⟨_, rfl⟩⟩

theorem Sends.trans {a b c : Dev} (h : Sends a b) (k : Sends b c) : Sends a c := by
  refine ⟨?_, fun x hx => (k.regs x hx).trans (h.regs x hx), ?_, ?_⟩
  · have hk := k.frame
    rw [h.frame] at hk
    exact hk
  · obtain ⟨_, _, _, _, _, _, e⟩ := h.host
    obtain ⟨_, _, _, _, _, _, e'⟩ := k.host
    rw [e] at e'
    exact ⟨_, _, _, _, _, _, e'⟩
  · obtain ⟨_, e⟩ := h.net
    obtain ⟨_, e'⟩ := k.net
    rw [e] at e'
    exact ⟨_, e'⟩

/-- A write of a register of the host interface. -/
theorem sends_setReg (a : Nat) (w : Word) (d : Dev) (h : 0x30000 ≤ a ∧ a < 0x40000) : Sends d (setReg a w d) := by
  obtain ⟨m, hm⟩ := setReg_frame a w d
  refine ⟨by rw [hm], fun b hb => reg_setReg_other a b w d (by omega), ?_, ?_⟩
  · rw [hm]; exact ⟨_, _, _, _, _, _, rfl⟩
  · rw [hm]; exact ⟨_, rfl⟩

theorem sends_wrN (a v : Nat) (d : Dev) (h : 0x30000 ≤ a ∧ a < 0x40000) : Sends d (wrN a v d) := sends_setReg a _ d h

theorem sends_setFlag (a i : Nat) (d : Dev) (h : 0x30000 ≤ a ∧ a < 0x40000) : Sends d (setFlag a i d) :=
  sends_setReg a _ d h

theorem sends_incCnt (a : Nat) (d : Dev) (h : 0x30000 ≤ a ∧ a < 0x40000) : Sends d (incCnt a d) := sends_setReg a _ d h

theorem sends_emit (o : Output) (d : Dev) : Sends d (emit o d) :=
  ⟨rfl, fun _ _ => rfl, ⟨_, _, _, _, _, _, rfl⟩, ⟨_, rfl⟩⟩

theorem sends_putRing (r : Nat) (x : RingSt) (d : Dev) : Sends d (putRing r x d) :=
  ⟨rfl, fun _ _ => rfl, ⟨_, _, _, _, _, _, rfl⟩, ⟨_, rfl⟩⟩

theorem sends_putSess (k : Nat) (x : Session) (d : Dev) : Sends d (putSess k x d) :=
  ⟨rfl, fun _ _ => rfl, ⟨_, _, _, _, _, _, rfl⟩, ⟨_, rfl⟩⟩

theorem sends_txFramePush (p q : Nat) (f : TxFrame) (d : Dev) : Sends d (txFramePush p q f d) := by
  unfold txFramePush
  split
  · exact ⟨rfl, fun _ _ => rfl, ⟨_, _, _, _, _, _, rfl⟩, ⟨_, rfl⟩⟩
  · exact Sends.refl d

theorem sends_sendSession (k type : Nat) (body : Bytes) (d : Dev) : Sends d (sendSession k type body d) :=
  (sends_putSess k _ d).trans (sends_txFramePush _ _ _ _)

theorem field_lt (v : Nat) : v < 2 ^ 32 → bits v 24 16 < 512 := by
  intro h
  simp only [bits]
  omega

theorem rdN_lt (d : Dev) (a : Nat) : rdN d a < 2 ^ 32 := (reg d a).isLt

theorem sends_msixSend (v : Nat) (d : Dev) (h : v < 512) : Sends d (msixSend v d) := by
  unfold msixSend
  split
  · exact sends_setFlag _ _ _ (by omega)
  · exact sends_emit _ _

theorem sends_ringSignal (r : Nat) (d : Dev) : Sends d (ringSignal r d) := by
  unfold ringSignal
  dsimp only
  split
  · exact (sends_putRing _ _ _).trans (sends_emit _ _)
  · exact (sends_putRing _ _ _).trans (sends_msixSend _ _ (field_lt _ (rdN_lt _ _)))

theorem ringA_bound (r : Nat) (h : r < 74) : 0x30000 ≤ ringA r + 0x18 ∧ ringA r + 0x18 < 0x40000 := by
  simp only [ringA]
  omega

theorem sends_ringAdvance (r : Nat) (d : Dev) (h : r < 74) : Sends d (ringAdvance r d) := by
  have step : ∀ (i : Nat) (o : Output) (x : RingSt), Sends d (putRing r x (emit o (wrN (ringA r + 0x18) i d))) :=
    fun i o x => ((sends_wrN _ _ _ (ringA_bound r h)).trans (sends_emit _ _)).trans (sends_putRing _ _ _)
  unfold ringAdvance
  extract_lets idx d1 d2 x c d3 limit
  by_cases hl : limit ≠ 0 ∧ limit ≤ c
  · rw [if_pos hl]
    exact (step _ _ _).trans (sends_ringSignal _ _)
  · rw [if_neg hl]
    exact step _ _ _

theorem sends_ringProduce (r : Nat) (bs : Bytes) (d : Dev) (h : r < 74) : Sends d (ringProduce r bs d) :=
  (sends_emit _ _).trans (sends_ringAdvance r _ h)

theorem sends_eventToRing (r code seq : Nat) (args : Bytes) (d : Dev) (h : r < 74) :
    Sends d (eventToRing r code seq args d) := by
  unfold eventToRing
  split
  · split
    · exact ((sends_incCnt _ _ (by omega)).trans (sends_setFlag _ _ _ (by simp only [ringA]; omega))).trans
        (sends_putRing _ _ _)
    · exact (sends_ringProduce r _ _ h).trans (sends_putRing _ _ _)
  · exact Sends.refl _

theorem sends_eventToSession (k code seq : Nat) (args : Bytes) (d : Dev) : Sends d (eventToSession k code seq args d) := by
  unfold eventToSession
  split
  · exact sends_sendSession _ _ _ _
  · exact Sends.refl _

theorem sends_forN (n : Nat) (f : Nat → Dev → Dev) (d : Dev) (h : ∀ i e, i < n → Sends e (f i e)) :
    Sends d (forN n f d) := by
  induction n with
  | zero => exact Sends.refl d
  | succ k ih => exact (ih (fun i e hi => h i e (by omega))).trans (h k _ (by omega))

theorem sends_evSeq (n : Nat) (d : Dev) : Sends d { d with host := { d.host with evSeq := n } } :=
  ⟨rfl, fun _ _ => rfl, ⟨_, _, _, _, _, _, rfl⟩, ⟨_, rfl⟩⟩

theorem sends_eventRings (n code seq : Nat) (args : Bytes) (d : Dev) (h : n ≤ 16) :
    Sends d (forN n (fun i e => eventToRing (i + 1) code seq args e) d) :=
  sends_forN n _ d (fun i e hi => sends_eventToRing (i + 1) code seq args e (by omega))

theorem sends_eventSessions (n code seq : Nat) (args : Bytes) (d : Dev) :
    Sends d (forN n (fun k e => eventToSession k code seq args e) d) :=
  sends_forN n _ d (fun k e _ => sends_eventToSession k code seq args e)

/-- Raising an event changes only what is sent. -/
theorem sends_raiseEvent (code : Nat) (args : Bytes) (d : Dev) : Sends d (raiseEvent code args d) := by
  have h1 := sends_eventRings 16 code d.host.evSeq args d (Nat.le_refl 16)
  have h2 := h1.trans (sends_eventSessions 8 code d.host.evSeq args _)
  unfold raiseEvent
  dsimp only
  generalize forN 8 _ (forN 16 _ d) = e at h2 ⊢
  exact h2.trans (sends_evSeq _ e)

theorem find_mem_lt (p : Nat → Bool) (l : List Nat) (n r : Nat) (hl : ∀ x ∈ l, x < n) (h : l.find? p = some r) : r < n :=
  hl r (List.mem_of_find?_eq_some h)

theorem complRing_lt (d : Dev) (n r : Nat) (h : complRing d n = some r) : r < 74 := by
  unfold complRing at h
  split at h
  · rename_i hc
    rw [Option.some.injEq] at h
    omega
  · exact find_mem_lt _ _ 74 r (by decide) h

theorem sends_deliverCompl (c : Compl) (d : Dev) : Sends d (deliverCompl c d) := by
  unfold deliverCompl
  split
  · exact sends_incCnt _ _ (by omega)
  · rename_i r hr
    split
    · split
      · exact ⟨rfl, fun _ _ => rfl, ⟨_, _, _, _, _, _, rfl⟩, ⟨_, rfl⟩⟩
      · exact sends_incCnt _ _ (by omega)
    · exact sends_ringProduce r _ _ (complRing_lt d _ r hr)

/-- Filing a cached reply changes nothing but its session. -/
theorem sends_cacheReply (k tag opcode place : Nat) (bs : Bytes) (d : Dev) : Sends d (cacheReply k tag opcode place bs d) := by
  unfold cacheReply
  dsimp only
  split
  · exact Sends.refl d
  · exact sends_putSess _ _ _

/-- Sending a completion changes only what is sent. -/
theorem sends_sendCompl (f : InFlight) (code detail result : Nat) (d : Dev) :
    Sends d (sendCompl f code detail result d) := by
  unfold sendCompl
  dsimp only
  split
  · split
    · exact sends_incCnt _ _ (by omega)
    · exact sends_deliverCompl _ _
  · split
    · exact sends_incCnt _ _ (by omega)
    · exact (sends_cacheReply _ _ _ _ _ _).trans (sends_sendSession _ _ _ _)
  · exact ⟨rfl, fun _ _ => rfl, ⟨_, _, _, _, _, _, rfl⟩, ⟨_, rfl⟩⟩

/-- Completing a command changes only what is sent and the commands in flight. -/
theorem sends_complete (cid code detail result : Nat) (d : Dev) : Sends d (complete cid code detail result d) := by
  unfold complete
  split
  · exact Sends.refl d
  · refine Sends.trans ?_ (sends_sendCompl _ _ _ _ _)
    exact ⟨rfl, fun _ _ => rfl, ⟨_, _, _, _, _, _, rfl⟩, ⟨_, rfl⟩⟩

theorem sends_completeOpt (cid : Option Nat) (code result : Nat) (d : Dev) : Sends d (completeOpt cid code result d) := by
  cases cid with
  | none => exact Sends.refl d
  | some c => exact sends_complete _ _ _ _ _

/-! ### Fields kept -/

theorem Sends.shadow {d e : Dev} (h : Sends d e) : e.shadow = d.shadow := by rw [h.frame]
theorem Sends.mem {d e : Dev} (h : Sends d e) : e.mem = d.mem := by rw [h.frame]
theorem Sends.flash {d e : Dev} (h : Sends d e) : e.flash = d.flash := by rw [h.frame]
theorem Sends.free {d e : Dev} (h : Sends d e) : e.free = d.free := by rw [h.frame]
theorem Sends.sys {d e : Dev} (h : Sends d e) : e.sys = d.sys := by rw [h.frame]
theorem Sends.time {d e : Dev} (h : Sends d e) : e.time = d.time := by rw [h.frame]
theorem Sends.plan {d e : Dev} (h : Sends d e) : e.plan = d.plan := by rw [h.frame]
theorem Sends.route {d e : Dev} (h : Sends d e) : e.route = d.route := by rw [h.frame]
theorem Sends.geom {d e : Dev} (h : Sends d e) : e.geom = d.geom := by rw [h.frame]
theorem Sends.voice {d e : Dev} (h : Sends d e) : e.voice = d.voice := by rw [h.frame]
theorem Sends.disp {d e : Dev} (h : Sends d e) : e.disp = d.disp := by rw [h.frame]
theorem Sends.aster {d e : Dev} (h : Sends d e) : e.aster = d.aster := by rw [h.frame]
theorem Sends.lupin {d e : Dev} (h : Sends d e) : e.lupin = d.lupin := by rw [h.frame]
theorem Sends.survey {d e : Dev} (h : Sends d e) : e.survey = d.survey := by rw [h.frame]
theorem Sends.dec {d e : Dev} (h : Sends d e) : e.dec = d.dec := by rw [h.frame]
theorem Sends.drv {d e : Dev} (h : Sends d e) : e.drv = d.drv := by rw [h.frame]
theorem Sends.aport {d e : Dev} (h : Sends d e) : e.aport = d.aport := by rw [h.frame]
theorem Sends.memory {d e : Dev} (h : Sends d e) : e.memory = d.memory := by rw [h.frame]
theorem Sends.pair {d e : Dev} (h : Sends d e) : e.pair = d.pair := by rw [h.frame]
theorem Sends.pwr {d e : Dev} (h : Sends d e) : e.pwr = d.pwr := by rw [h.frame]
theorem Sends.sec {d e : Dev} (h : Sends d e) : e.sec = d.sec := by rw [h.frame]
theorem Sends.age {d e : Dev} (h : Sends d e) : e.age = d.age := by rw [h.frame]
theorem Sends.periph {d e : Dev} (h : Sends d e) : e.periph = d.periph := by rw [h.frame]

@[simp] theorem raiseEvent_shadow (c : Nat) (a : Bytes) (d : Dev) : (raiseEvent c a d).shadow = d.shadow := (sends_raiseEvent c a d).shadow
@[simp] theorem raiseEvent_mem (c : Nat) (a : Bytes) (d : Dev) : (raiseEvent c a d).mem = d.mem := (sends_raiseEvent c a d).mem
@[simp] theorem raiseEvent_flash (c : Nat) (a : Bytes) (d : Dev) : (raiseEvent c a d).flash = d.flash := (sends_raiseEvent c a d).flash
@[simp] theorem raiseEvent_free (c : Nat) (a : Bytes) (d : Dev) : (raiseEvent c a d).free = d.free := (sends_raiseEvent c a d).free
@[simp] theorem raiseEvent_sys (c : Nat) (a : Bytes) (d : Dev) : (raiseEvent c a d).sys = d.sys := (sends_raiseEvent c a d).sys
@[simp] theorem raiseEvent_time (c : Nat) (a : Bytes) (d : Dev) : (raiseEvent c a d).time = d.time := (sends_raiseEvent c a d).time
@[simp] theorem raiseEvent_plan (c : Nat) (a : Bytes) (d : Dev) : (raiseEvent c a d).plan = d.plan := (sends_raiseEvent c a d).plan
@[simp] theorem raiseEvent_route (c : Nat) (a : Bytes) (d : Dev) : (raiseEvent c a d).route = d.route := (sends_raiseEvent c a d).route
@[simp] theorem raiseEvent_geom (c : Nat) (a : Bytes) (d : Dev) : (raiseEvent c a d).geom = d.geom := (sends_raiseEvent c a d).geom
@[simp] theorem raiseEvent_voice (c : Nat) (a : Bytes) (d : Dev) : (raiseEvent c a d).voice = d.voice := (sends_raiseEvent c a d).voice
@[simp] theorem raiseEvent_disp (c : Nat) (a : Bytes) (d : Dev) : (raiseEvent c a d).disp = d.disp := (sends_raiseEvent c a d).disp
@[simp] theorem raiseEvent_aster (c : Nat) (a : Bytes) (d : Dev) : (raiseEvent c a d).aster = d.aster := (sends_raiseEvent c a d).aster
@[simp] theorem raiseEvent_lupin (c : Nat) (a : Bytes) (d : Dev) : (raiseEvent c a d).lupin = d.lupin := (sends_raiseEvent c a d).lupin
@[simp] theorem raiseEvent_survey (c : Nat) (a : Bytes) (d : Dev) : (raiseEvent c a d).survey = d.survey := (sends_raiseEvent c a d).survey
@[simp] theorem raiseEvent_dec (c : Nat) (a : Bytes) (d : Dev) : (raiseEvent c a d).dec = d.dec := (sends_raiseEvent c a d).dec
@[simp] theorem raiseEvent_drv (c : Nat) (a : Bytes) (d : Dev) : (raiseEvent c a d).drv = d.drv := (sends_raiseEvent c a d).drv
@[simp] theorem raiseEvent_aport (c : Nat) (a : Bytes) (d : Dev) : (raiseEvent c a d).aport = d.aport := (sends_raiseEvent c a d).aport
@[simp] theorem raiseEvent_memory (c : Nat) (a : Bytes) (d : Dev) : (raiseEvent c a d).memory = d.memory := (sends_raiseEvent c a d).memory
@[simp] theorem raiseEvent_pair (c : Nat) (a : Bytes) (d : Dev) : (raiseEvent c a d).pair = d.pair := (sends_raiseEvent c a d).pair
@[simp] theorem raiseEvent_pwr (c : Nat) (a : Bytes) (d : Dev) : (raiseEvent c a d).pwr = d.pwr := (sends_raiseEvent c a d).pwr
@[simp] theorem raiseEvent_sec (c : Nat) (a : Bytes) (d : Dev) : (raiseEvent c a d).sec = d.sec := (sends_raiseEvent c a d).sec
@[simp] theorem raiseEvent_age (c : Nat) (a : Bytes) (d : Dev) : (raiseEvent c a d).age = d.age := (sends_raiseEvent c a d).age
@[simp] theorem raiseEvent_periph (c : Nat) (a : Bytes) (d : Dev) : (raiseEvent c a d).periph = d.periph := (sends_raiseEvent c a d).periph
theorem raiseEvent_reg (c : Nat) (a : Bytes) (d : Dev) (x : Nat) (h : x < 0x30000 ∨ 0x40000 ≤ x) :
    reg (raiseEvent c a d) x = reg d x := (sends_raiseEvent c a d).regs x h

@[simp] theorem complete_shadow (c k n r : Nat) (d : Dev) : (complete c k n r d).shadow = d.shadow := (sends_complete c k n r d).shadow
@[simp] theorem complete_mem (c k n r : Nat) (d : Dev) : (complete c k n r d).mem = d.mem := (sends_complete c k n r d).mem
@[simp] theorem complete_flash (c k n r : Nat) (d : Dev) : (complete c k n r d).flash = d.flash := (sends_complete c k n r d).flash
@[simp] theorem complete_free (c k n r : Nat) (d : Dev) : (complete c k n r d).free = d.free := (sends_complete c k n r d).free
@[simp] theorem complete_sys (c k n r : Nat) (d : Dev) : (complete c k n r d).sys = d.sys := (sends_complete c k n r d).sys
@[simp] theorem complete_time (c k n r : Nat) (d : Dev) : (complete c k n r d).time = d.time := (sends_complete c k n r d).time
@[simp] theorem complete_plan (c k n r : Nat) (d : Dev) : (complete c k n r d).plan = d.plan := (sends_complete c k n r d).plan
@[simp] theorem complete_route (c k n r : Nat) (d : Dev) : (complete c k n r d).route = d.route := (sends_complete c k n r d).route
@[simp] theorem complete_geom (c k n r : Nat) (d : Dev) : (complete c k n r d).geom = d.geom := (sends_complete c k n r d).geom
@[simp] theorem complete_voice (c k n r : Nat) (d : Dev) : (complete c k n r d).voice = d.voice := (sends_complete c k n r d).voice
@[simp] theorem complete_disp (c k n r : Nat) (d : Dev) : (complete c k n r d).disp = d.disp := (sends_complete c k n r d).disp
@[simp] theorem complete_aster (c k n r : Nat) (d : Dev) : (complete c k n r d).aster = d.aster := (sends_complete c k n r d).aster
@[simp] theorem complete_lupin (c k n r : Nat) (d : Dev) : (complete c k n r d).lupin = d.lupin := (sends_complete c k n r d).lupin
@[simp] theorem complete_survey (c k n r : Nat) (d : Dev) : (complete c k n r d).survey = d.survey := (sends_complete c k n r d).survey
@[simp] theorem complete_dec (c k n r : Nat) (d : Dev) : (complete c k n r d).dec = d.dec := (sends_complete c k n r d).dec
@[simp] theorem complete_drv (c k n r : Nat) (d : Dev) : (complete c k n r d).drv = d.drv := (sends_complete c k n r d).drv
@[simp] theorem complete_aport (c k n r : Nat) (d : Dev) : (complete c k n r d).aport = d.aport := (sends_complete c k n r d).aport
@[simp] theorem complete_memory (c k n r : Nat) (d : Dev) : (complete c k n r d).memory = d.memory := (sends_complete c k n r d).memory
@[simp] theorem complete_pair (c k n r : Nat) (d : Dev) : (complete c k n r d).pair = d.pair := (sends_complete c k n r d).pair
@[simp] theorem complete_pwr (c k n r : Nat) (d : Dev) : (complete c k n r d).pwr = d.pwr := (sends_complete c k n r d).pwr
@[simp] theorem complete_sec (c k n r : Nat) (d : Dev) : (complete c k n r d).sec = d.sec := (sends_complete c k n r d).sec
@[simp] theorem complete_age (c k n r : Nat) (d : Dev) : (complete c k n r d).age = d.age := (sends_complete c k n r d).age
@[simp] theorem complete_periph (c k n r : Nat) (d : Dev) : (complete c k n r d).periph = d.periph := (sends_complete c k n r d).periph
theorem complete_reg (c k n r : Nat) (d : Dev) (x : Nat) (h : x < 0x30000 ∨ 0x40000 ≤ x) :
    reg (complete c k n r d) x = reg d x := (sends_complete c k n r d).regs x h

@[simp] theorem completeOpt_shadow (c : Option Nat) (k r : Nat) (d : Dev) : (completeOpt c k r d).shadow = d.shadow := (sends_completeOpt c k r d).shadow
@[simp] theorem completeOpt_mem (c : Option Nat) (k r : Nat) (d : Dev) : (completeOpt c k r d).mem = d.mem := (sends_completeOpt c k r d).mem
@[simp] theorem completeOpt_flash (c : Option Nat) (k r : Nat) (d : Dev) : (completeOpt c k r d).flash = d.flash := (sends_completeOpt c k r d).flash
@[simp] theorem completeOpt_free (c : Option Nat) (k r : Nat) (d : Dev) : (completeOpt c k r d).free = d.free := (sends_completeOpt c k r d).free
@[simp] theorem completeOpt_sys (c : Option Nat) (k r : Nat) (d : Dev) : (completeOpt c k r d).sys = d.sys := (sends_completeOpt c k r d).sys
@[simp] theorem completeOpt_time (c : Option Nat) (k r : Nat) (d : Dev) : (completeOpt c k r d).time = d.time := (sends_completeOpt c k r d).time
@[simp] theorem completeOpt_plan (c : Option Nat) (k r : Nat) (d : Dev) : (completeOpt c k r d).plan = d.plan := (sends_completeOpt c k r d).plan
@[simp] theorem completeOpt_route (c : Option Nat) (k r : Nat) (d : Dev) : (completeOpt c k r d).route = d.route := (sends_completeOpt c k r d).route
@[simp] theorem completeOpt_geom (c : Option Nat) (k r : Nat) (d : Dev) : (completeOpt c k r d).geom = d.geom := (sends_completeOpt c k r d).geom
@[simp] theorem completeOpt_voice (c : Option Nat) (k r : Nat) (d : Dev) : (completeOpt c k r d).voice = d.voice := (sends_completeOpt c k r d).voice
@[simp] theorem completeOpt_disp (c : Option Nat) (k r : Nat) (d : Dev) : (completeOpt c k r d).disp = d.disp := (sends_completeOpt c k r d).disp
@[simp] theorem completeOpt_aster (c : Option Nat) (k r : Nat) (d : Dev) : (completeOpt c k r d).aster = d.aster := (sends_completeOpt c k r d).aster
@[simp] theorem completeOpt_lupin (c : Option Nat) (k r : Nat) (d : Dev) : (completeOpt c k r d).lupin = d.lupin := (sends_completeOpt c k r d).lupin
@[simp] theorem completeOpt_survey (c : Option Nat) (k r : Nat) (d : Dev) : (completeOpt c k r d).survey = d.survey := (sends_completeOpt c k r d).survey
@[simp] theorem completeOpt_dec (c : Option Nat) (k r : Nat) (d : Dev) : (completeOpt c k r d).dec = d.dec := (sends_completeOpt c k r d).dec
@[simp] theorem completeOpt_drv (c : Option Nat) (k r : Nat) (d : Dev) : (completeOpt c k r d).drv = d.drv := (sends_completeOpt c k r d).drv
@[simp] theorem completeOpt_aport (c : Option Nat) (k r : Nat) (d : Dev) : (completeOpt c k r d).aport = d.aport := (sends_completeOpt c k r d).aport
@[simp] theorem completeOpt_memory (c : Option Nat) (k r : Nat) (d : Dev) : (completeOpt c k r d).memory = d.memory := (sends_completeOpt c k r d).memory
@[simp] theorem completeOpt_pair (c : Option Nat) (k r : Nat) (d : Dev) : (completeOpt c k r d).pair = d.pair := (sends_completeOpt c k r d).pair
@[simp] theorem completeOpt_pwr (c : Option Nat) (k r : Nat) (d : Dev) : (completeOpt c k r d).pwr = d.pwr := (sends_completeOpt c k r d).pwr
@[simp] theorem completeOpt_sec (c : Option Nat) (k r : Nat) (d : Dev) : (completeOpt c k r d).sec = d.sec := (sends_completeOpt c k r d).sec
@[simp] theorem completeOpt_age (c : Option Nat) (k r : Nat) (d : Dev) : (completeOpt c k r d).age = d.age := (sends_completeOpt c k r d).age
@[simp] theorem completeOpt_periph (c : Option Nat) (k r : Nat) (d : Dev) : (completeOpt c k r d).periph = d.periph := (sends_completeOpt c k r d).periph
theorem completeOpt_reg (c : Option Nat) (k r : Nat) (d : Dev) (x : Nat) (h : x < 0x30000 ∨ 0x40000 ≤ x) :
    reg (completeOpt c k r d) x = reg d x := (sends_completeOpt c k r d).regs x h

@[simp] theorem setReg_shadow (a : Nat) (w : Word) (d : Dev) : (setReg a w d).shadow = d.shadow := by
  unfold setReg; split <;> rfl
@[simp] theorem setReg_free (a : Nat) (w : Word) (d : Dev) : (setReg a w d).free = d.free := by
  unfold setReg; split <;> rfl
@[simp] theorem setReg_host (a : Nat) (w : Word) (d : Dev) : (setReg a w d).host = d.host := by
  unfold setReg; split <;> rfl
@[simp] theorem setReg_plan (a : Nat) (w : Word) (d : Dev) : (setReg a w d).plan = d.plan := by
  unfold setReg; split <;> rfl
@[simp] theorem setReg_route (a : Nat) (w : Word) (d : Dev) : (setReg a w d).route = d.route := by
  unfold setReg; split <;> rfl
@[simp] theorem setReg_geom (a : Nat) (w : Word) (d : Dev) : (setReg a w d).geom = d.geom := by
  unfold setReg; split <;> rfl
@[simp] theorem setReg_voice (a : Nat) (w : Word) (d : Dev) : (setReg a w d).voice = d.voice := by
  unfold setReg; split <;> rfl
@[simp] theorem setReg_disp (a : Nat) (w : Word) (d : Dev) : (setReg a w d).disp = d.disp := by
  unfold setReg; split <;> rfl
@[simp] theorem setReg_aster (a : Nat) (w : Word) (d : Dev) : (setReg a w d).aster = d.aster := by
  unfold setReg; split <;> rfl
@[simp] theorem setReg_lupin (a : Nat) (w : Word) (d : Dev) : (setReg a w d).lupin = d.lupin := by
  unfold setReg; split <;> rfl
@[simp] theorem setReg_survey (a : Nat) (w : Word) (d : Dev) : (setReg a w d).survey = d.survey := by
  unfold setReg; split <;> rfl
@[simp] theorem setReg_dec (a : Nat) (w : Word) (d : Dev) : (setReg a w d).dec = d.dec := by
  unfold setReg; split <;> rfl
@[simp] theorem setReg_drv (a : Nat) (w : Word) (d : Dev) : (setReg a w d).drv = d.drv := by
  unfold setReg; split <;> rfl
@[simp] theorem setReg_aport (a : Nat) (w : Word) (d : Dev) : (setReg a w d).aport = d.aport := by
  unfold setReg; split <;> rfl
@[simp] theorem setReg_net (a : Nat) (w : Word) (d : Dev) : (setReg a w d).net = d.net := by
  unfold setReg; split <;> rfl
@[simp] theorem setReg_memory (a : Nat) (w : Word) (d : Dev) : (setReg a w d).memory = d.memory := by
  unfold setReg; split <;> rfl
@[simp] theorem setReg_pair (a : Nat) (w : Word) (d : Dev) : (setReg a w d).pair = d.pair := by
  unfold setReg; split <;> rfl
@[simp] theorem setReg_pwr (a : Nat) (w : Word) (d : Dev) : (setReg a w d).pwr = d.pwr := by
  unfold setReg; split <;> rfl
@[simp] theorem setReg_sec (a : Nat) (w : Word) (d : Dev) : (setReg a w d).sec = d.sec := by
  unfold setReg; split <;> rfl
@[simp] theorem setReg_age (a : Nat) (w : Word) (d : Dev) : (setReg a w d).age = d.age := by
  unfold setReg; split <;> rfl
@[simp] theorem setReg_periph (a : Nat) (w : Word) (d : Dev) : (setReg a w d).periph = d.periph := by
  unfold setReg; split <;> rfl

@[simp] theorem wrN_shadow (a v : Nat) (d : Dev) : (wrN a v d).shadow = d.shadow := setReg_shadow _ _ d
@[simp] theorem wrN_mem (a v : Nat) (d : Dev) : (wrN a v d).mem = d.mem := setReg_mem _ _ d
@[simp] theorem wrN_flash (a v : Nat) (d : Dev) : (wrN a v d).flash = d.flash := setReg_flash _ _ d
@[simp] theorem wrN_out (a v : Nat) (d : Dev) : (wrN a v d).out = d.out := setReg_out _ _ d
@[simp] theorem wrN_free (a v : Nat) (d : Dev) : (wrN a v d).free = d.free := setReg_free _ _ d
@[simp] theorem wrN_sys (a v : Nat) (d : Dev) : (wrN a v d).sys = d.sys := setReg_sys _ _ d
@[simp] theorem wrN_time (a v : Nat) (d : Dev) : (wrN a v d).time = d.time := setReg_time _ _ d
@[simp] theorem wrN_host (a v : Nat) (d : Dev) : (wrN a v d).host = d.host := setReg_host _ _ d
@[simp] theorem wrN_plan (a v : Nat) (d : Dev) : (wrN a v d).plan = d.plan := setReg_plan _ _ d
@[simp] theorem wrN_route (a v : Nat) (d : Dev) : (wrN a v d).route = d.route := setReg_route _ _ d
@[simp] theorem wrN_geom (a v : Nat) (d : Dev) : (wrN a v d).geom = d.geom := setReg_geom _ _ d
@[simp] theorem wrN_voice (a v : Nat) (d : Dev) : (wrN a v d).voice = d.voice := setReg_voice _ _ d
@[simp] theorem wrN_disp (a v : Nat) (d : Dev) : (wrN a v d).disp = d.disp := setReg_disp _ _ d
@[simp] theorem wrN_aster (a v : Nat) (d : Dev) : (wrN a v d).aster = d.aster := setReg_aster _ _ d
@[simp] theorem wrN_lupin (a v : Nat) (d : Dev) : (wrN a v d).lupin = d.lupin := setReg_lupin _ _ d
@[simp] theorem wrN_survey (a v : Nat) (d : Dev) : (wrN a v d).survey = d.survey := setReg_survey _ _ d
@[simp] theorem wrN_dec (a v : Nat) (d : Dev) : (wrN a v d).dec = d.dec := setReg_dec _ _ d
@[simp] theorem wrN_drv (a v : Nat) (d : Dev) : (wrN a v d).drv = d.drv := setReg_drv _ _ d
@[simp] theorem wrN_aport (a v : Nat) (d : Dev) : (wrN a v d).aport = d.aport := setReg_aport _ _ d
@[simp] theorem wrN_net (a v : Nat) (d : Dev) : (wrN a v d).net = d.net := setReg_net _ _ d
@[simp] theorem wrN_memory (a v : Nat) (d : Dev) : (wrN a v d).memory = d.memory := setReg_memory _ _ d
@[simp] theorem wrN_pair (a v : Nat) (d : Dev) : (wrN a v d).pair = d.pair := setReg_pair _ _ d
@[simp] theorem wrN_pwr (a v : Nat) (d : Dev) : (wrN a v d).pwr = d.pwr := setReg_pwr _ _ d
@[simp] theorem wrN_sec (a v : Nat) (d : Dev) : (wrN a v d).sec = d.sec := setReg_sec _ _ d
@[simp] theorem wrN_age (a v : Nat) (d : Dev) : (wrN a v d).age = d.age := setReg_age _ _ d
@[simp] theorem wrN_periph (a v : Nat) (d : Dev) : (wrN a v d).periph = d.periph := setReg_periph _ _ d

@[simp] theorem setFld_shadow (a h l x : Nat) (d : Dev) : (setFld a h l x d).shadow = d.shadow := setReg_shadow _ _ d
@[simp] theorem setFld_mem (a h l x : Nat) (d : Dev) : (setFld a h l x d).mem = d.mem := setReg_mem _ _ d
@[simp] theorem setFld_flash (a h l x : Nat) (d : Dev) : (setFld a h l x d).flash = d.flash := setReg_flash _ _ d
@[simp] theorem setFld_out (a h l x : Nat) (d : Dev) : (setFld a h l x d).out = d.out := setReg_out _ _ d
@[simp] theorem setFld_free (a h l x : Nat) (d : Dev) : (setFld a h l x d).free = d.free := setReg_free _ _ d
@[simp] theorem setFld_sys (a h l x : Nat) (d : Dev) : (setFld a h l x d).sys = d.sys := setReg_sys _ _ d
@[simp] theorem setFld_time (a h l x : Nat) (d : Dev) : (setFld a h l x d).time = d.time := setReg_time _ _ d
@[simp] theorem setFld_host (a h l x : Nat) (d : Dev) : (setFld a h l x d).host = d.host := setReg_host _ _ d
@[simp] theorem setFld_plan (a h l x : Nat) (d : Dev) : (setFld a h l x d).plan = d.plan := setReg_plan _ _ d
@[simp] theorem setFld_route (a h l x : Nat) (d : Dev) : (setFld a h l x d).route = d.route := setReg_route _ _ d
@[simp] theorem setFld_geom (a h l x : Nat) (d : Dev) : (setFld a h l x d).geom = d.geom := setReg_geom _ _ d
@[simp] theorem setFld_voice (a h l x : Nat) (d : Dev) : (setFld a h l x d).voice = d.voice := setReg_voice _ _ d
@[simp] theorem setFld_disp (a h l x : Nat) (d : Dev) : (setFld a h l x d).disp = d.disp := setReg_disp _ _ d
@[simp] theorem setFld_aster (a h l x : Nat) (d : Dev) : (setFld a h l x d).aster = d.aster := setReg_aster _ _ d
@[simp] theorem setFld_lupin (a h l x : Nat) (d : Dev) : (setFld a h l x d).lupin = d.lupin := setReg_lupin _ _ d
@[simp] theorem setFld_survey (a h l x : Nat) (d : Dev) : (setFld a h l x d).survey = d.survey := setReg_survey _ _ d
@[simp] theorem setFld_dec (a h l x : Nat) (d : Dev) : (setFld a h l x d).dec = d.dec := setReg_dec _ _ d
@[simp] theorem setFld_drv (a h l x : Nat) (d : Dev) : (setFld a h l x d).drv = d.drv := setReg_drv _ _ d
@[simp] theorem setFld_aport (a h l x : Nat) (d : Dev) : (setFld a h l x d).aport = d.aport := setReg_aport _ _ d
@[simp] theorem setFld_net (a h l x : Nat) (d : Dev) : (setFld a h l x d).net = d.net := setReg_net _ _ d
@[simp] theorem setFld_memory (a h l x : Nat) (d : Dev) : (setFld a h l x d).memory = d.memory := setReg_memory _ _ d
@[simp] theorem setFld_pair (a h l x : Nat) (d : Dev) : (setFld a h l x d).pair = d.pair := setReg_pair _ _ d
@[simp] theorem setFld_pwr (a h l x : Nat) (d : Dev) : (setFld a h l x d).pwr = d.pwr := setReg_pwr _ _ d
@[simp] theorem setFld_sec (a h l x : Nat) (d : Dev) : (setFld a h l x d).sec = d.sec := setReg_sec _ _ d
@[simp] theorem setFld_age (a h l x : Nat) (d : Dev) : (setFld a h l x d).age = d.age := setReg_age _ _ d
@[simp] theorem setFld_periph (a h l x : Nat) (d : Dev) : (setFld a h l x d).periph = d.periph := setReg_periph _ _ d

@[simp] theorem setFlag_shadow (a i : Nat) (d : Dev) : (setFlag a i d).shadow = d.shadow := setReg_shadow _ _ d
@[simp] theorem setFlag_mem (a i : Nat) (d : Dev) : (setFlag a i d).mem = d.mem := setReg_mem _ _ d
@[simp] theorem setFlag_flash (a i : Nat) (d : Dev) : (setFlag a i d).flash = d.flash := setReg_flash _ _ d
@[simp] theorem setFlag_out (a i : Nat) (d : Dev) : (setFlag a i d).out = d.out := setReg_out _ _ d
@[simp] theorem setFlag_free (a i : Nat) (d : Dev) : (setFlag a i d).free = d.free := setReg_free _ _ d
@[simp] theorem setFlag_sys (a i : Nat) (d : Dev) : (setFlag a i d).sys = d.sys := setReg_sys _ _ d
@[simp] theorem setFlag_time (a i : Nat) (d : Dev) : (setFlag a i d).time = d.time := setReg_time _ _ d
@[simp] theorem setFlag_host (a i : Nat) (d : Dev) : (setFlag a i d).host = d.host := setReg_host _ _ d
@[simp] theorem setFlag_plan (a i : Nat) (d : Dev) : (setFlag a i d).plan = d.plan := setReg_plan _ _ d
@[simp] theorem setFlag_route (a i : Nat) (d : Dev) : (setFlag a i d).route = d.route := setReg_route _ _ d
@[simp] theorem setFlag_geom (a i : Nat) (d : Dev) : (setFlag a i d).geom = d.geom := setReg_geom _ _ d
@[simp] theorem setFlag_voice (a i : Nat) (d : Dev) : (setFlag a i d).voice = d.voice := setReg_voice _ _ d
@[simp] theorem setFlag_disp (a i : Nat) (d : Dev) : (setFlag a i d).disp = d.disp := setReg_disp _ _ d
@[simp] theorem setFlag_aster (a i : Nat) (d : Dev) : (setFlag a i d).aster = d.aster := setReg_aster _ _ d
@[simp] theorem setFlag_lupin (a i : Nat) (d : Dev) : (setFlag a i d).lupin = d.lupin := setReg_lupin _ _ d
@[simp] theorem setFlag_survey (a i : Nat) (d : Dev) : (setFlag a i d).survey = d.survey := setReg_survey _ _ d
@[simp] theorem setFlag_dec (a i : Nat) (d : Dev) : (setFlag a i d).dec = d.dec := setReg_dec _ _ d
@[simp] theorem setFlag_drv (a i : Nat) (d : Dev) : (setFlag a i d).drv = d.drv := setReg_drv _ _ d
@[simp] theorem setFlag_aport (a i : Nat) (d : Dev) : (setFlag a i d).aport = d.aport := setReg_aport _ _ d
@[simp] theorem setFlag_net (a i : Nat) (d : Dev) : (setFlag a i d).net = d.net := setReg_net _ _ d
@[simp] theorem setFlag_memory (a i : Nat) (d : Dev) : (setFlag a i d).memory = d.memory := setReg_memory _ _ d
@[simp] theorem setFlag_pair (a i : Nat) (d : Dev) : (setFlag a i d).pair = d.pair := setReg_pair _ _ d
@[simp] theorem setFlag_pwr (a i : Nat) (d : Dev) : (setFlag a i d).pwr = d.pwr := setReg_pwr _ _ d
@[simp] theorem setFlag_sec (a i : Nat) (d : Dev) : (setFlag a i d).sec = d.sec := setReg_sec _ _ d
@[simp] theorem setFlag_age (a i : Nat) (d : Dev) : (setFlag a i d).age = d.age := setReg_age _ _ d
@[simp] theorem setFlag_periph (a i : Nat) (d : Dev) : (setFlag a i d).periph = d.periph := setReg_periph _ _ d

@[simp] theorem clrFlag_shadow (a i : Nat) (d : Dev) : (clrFlag a i d).shadow = d.shadow := setReg_shadow _ _ d
@[simp] theorem clrFlag_mem (a i : Nat) (d : Dev) : (clrFlag a i d).mem = d.mem := setReg_mem _ _ d
@[simp] theorem clrFlag_flash (a i : Nat) (d : Dev) : (clrFlag a i d).flash = d.flash := setReg_flash _ _ d
@[simp] theorem clrFlag_out (a i : Nat) (d : Dev) : (clrFlag a i d).out = d.out := setReg_out _ _ d
@[simp] theorem clrFlag_free (a i : Nat) (d : Dev) : (clrFlag a i d).free = d.free := setReg_free _ _ d
@[simp] theorem clrFlag_sys (a i : Nat) (d : Dev) : (clrFlag a i d).sys = d.sys := setReg_sys _ _ d
@[simp] theorem clrFlag_time (a i : Nat) (d : Dev) : (clrFlag a i d).time = d.time := setReg_time _ _ d
@[simp] theorem clrFlag_host (a i : Nat) (d : Dev) : (clrFlag a i d).host = d.host := setReg_host _ _ d
@[simp] theorem clrFlag_plan (a i : Nat) (d : Dev) : (clrFlag a i d).plan = d.plan := setReg_plan _ _ d
@[simp] theorem clrFlag_route (a i : Nat) (d : Dev) : (clrFlag a i d).route = d.route := setReg_route _ _ d
@[simp] theorem clrFlag_geom (a i : Nat) (d : Dev) : (clrFlag a i d).geom = d.geom := setReg_geom _ _ d
@[simp] theorem clrFlag_voice (a i : Nat) (d : Dev) : (clrFlag a i d).voice = d.voice := setReg_voice _ _ d
@[simp] theorem clrFlag_disp (a i : Nat) (d : Dev) : (clrFlag a i d).disp = d.disp := setReg_disp _ _ d
@[simp] theorem clrFlag_aster (a i : Nat) (d : Dev) : (clrFlag a i d).aster = d.aster := setReg_aster _ _ d
@[simp] theorem clrFlag_lupin (a i : Nat) (d : Dev) : (clrFlag a i d).lupin = d.lupin := setReg_lupin _ _ d
@[simp] theorem clrFlag_survey (a i : Nat) (d : Dev) : (clrFlag a i d).survey = d.survey := setReg_survey _ _ d
@[simp] theorem clrFlag_dec (a i : Nat) (d : Dev) : (clrFlag a i d).dec = d.dec := setReg_dec _ _ d
@[simp] theorem clrFlag_drv (a i : Nat) (d : Dev) : (clrFlag a i d).drv = d.drv := setReg_drv _ _ d
@[simp] theorem clrFlag_aport (a i : Nat) (d : Dev) : (clrFlag a i d).aport = d.aport := setReg_aport _ _ d
@[simp] theorem clrFlag_net (a i : Nat) (d : Dev) : (clrFlag a i d).net = d.net := setReg_net _ _ d
@[simp] theorem clrFlag_memory (a i : Nat) (d : Dev) : (clrFlag a i d).memory = d.memory := setReg_memory _ _ d
@[simp] theorem clrFlag_pair (a i : Nat) (d : Dev) : (clrFlag a i d).pair = d.pair := setReg_pair _ _ d
@[simp] theorem clrFlag_pwr (a i : Nat) (d : Dev) : (clrFlag a i d).pwr = d.pwr := setReg_pwr _ _ d
@[simp] theorem clrFlag_sec (a i : Nat) (d : Dev) : (clrFlag a i d).sec = d.sec := setReg_sec _ _ d
@[simp] theorem clrFlag_age (a i : Nat) (d : Dev) : (clrFlag a i d).age = d.age := setReg_age _ _ d
@[simp] theorem clrFlag_periph (a i : Nat) (d : Dev) : (clrFlag a i d).periph = d.periph := setReg_periph _ _ d

@[simp] theorem addCnt_shadow (a n : Nat) (d : Dev) : (addCnt a n d).shadow = d.shadow := setReg_shadow _ _ d
@[simp] theorem addCnt_mem (a n : Nat) (d : Dev) : (addCnt a n d).mem = d.mem := setReg_mem _ _ d
@[simp] theorem addCnt_flash (a n : Nat) (d : Dev) : (addCnt a n d).flash = d.flash := setReg_flash _ _ d
@[simp] theorem addCnt_out (a n : Nat) (d : Dev) : (addCnt a n d).out = d.out := setReg_out _ _ d
@[simp] theorem addCnt_free (a n : Nat) (d : Dev) : (addCnt a n d).free = d.free := setReg_free _ _ d
@[simp] theorem addCnt_sys (a n : Nat) (d : Dev) : (addCnt a n d).sys = d.sys := setReg_sys _ _ d
@[simp] theorem addCnt_time (a n : Nat) (d : Dev) : (addCnt a n d).time = d.time := setReg_time _ _ d
@[simp] theorem addCnt_host (a n : Nat) (d : Dev) : (addCnt a n d).host = d.host := setReg_host _ _ d
@[simp] theorem addCnt_plan (a n : Nat) (d : Dev) : (addCnt a n d).plan = d.plan := setReg_plan _ _ d
@[simp] theorem addCnt_route (a n : Nat) (d : Dev) : (addCnt a n d).route = d.route := setReg_route _ _ d
@[simp] theorem addCnt_geom (a n : Nat) (d : Dev) : (addCnt a n d).geom = d.geom := setReg_geom _ _ d
@[simp] theorem addCnt_voice (a n : Nat) (d : Dev) : (addCnt a n d).voice = d.voice := setReg_voice _ _ d
@[simp] theorem addCnt_disp (a n : Nat) (d : Dev) : (addCnt a n d).disp = d.disp := setReg_disp _ _ d
@[simp] theorem addCnt_aster (a n : Nat) (d : Dev) : (addCnt a n d).aster = d.aster := setReg_aster _ _ d
@[simp] theorem addCnt_lupin (a n : Nat) (d : Dev) : (addCnt a n d).lupin = d.lupin := setReg_lupin _ _ d
@[simp] theorem addCnt_survey (a n : Nat) (d : Dev) : (addCnt a n d).survey = d.survey := setReg_survey _ _ d
@[simp] theorem addCnt_dec (a n : Nat) (d : Dev) : (addCnt a n d).dec = d.dec := setReg_dec _ _ d
@[simp] theorem addCnt_drv (a n : Nat) (d : Dev) : (addCnt a n d).drv = d.drv := setReg_drv _ _ d
@[simp] theorem addCnt_aport (a n : Nat) (d : Dev) : (addCnt a n d).aport = d.aport := setReg_aport _ _ d
@[simp] theorem addCnt_net (a n : Nat) (d : Dev) : (addCnt a n d).net = d.net := setReg_net _ _ d
@[simp] theorem addCnt_memory (a n : Nat) (d : Dev) : (addCnt a n d).memory = d.memory := setReg_memory _ _ d
@[simp] theorem addCnt_pair (a n : Nat) (d : Dev) : (addCnt a n d).pair = d.pair := setReg_pair _ _ d
@[simp] theorem addCnt_pwr (a n : Nat) (d : Dev) : (addCnt a n d).pwr = d.pwr := setReg_pwr _ _ d
@[simp] theorem addCnt_sec (a n : Nat) (d : Dev) : (addCnt a n d).sec = d.sec := setReg_sec _ _ d
@[simp] theorem addCnt_age (a n : Nat) (d : Dev) : (addCnt a n d).age = d.age := setReg_age _ _ d
@[simp] theorem addCnt_periph (a n : Nat) (d : Dev) : (addCnt a n d).periph = d.periph := setReg_periph _ _ d

@[simp] theorem incCnt_shadow (a : Nat) (d : Dev) : (incCnt a d).shadow = d.shadow := setReg_shadow _ _ d
@[simp] theorem incCnt_mem (a : Nat) (d : Dev) : (incCnt a d).mem = d.mem := setReg_mem _ _ d
@[simp] theorem incCnt_flash (a : Nat) (d : Dev) : (incCnt a d).flash = d.flash := setReg_flash _ _ d
@[simp] theorem incCnt_out (a : Nat) (d : Dev) : (incCnt a d).out = d.out := setReg_out _ _ d
@[simp] theorem incCnt_free (a : Nat) (d : Dev) : (incCnt a d).free = d.free := setReg_free _ _ d
@[simp] theorem incCnt_sys (a : Nat) (d : Dev) : (incCnt a d).sys = d.sys := setReg_sys _ _ d
@[simp] theorem incCnt_time (a : Nat) (d : Dev) : (incCnt a d).time = d.time := setReg_time _ _ d
@[simp] theorem incCnt_host (a : Nat) (d : Dev) : (incCnt a d).host = d.host := setReg_host _ _ d
@[simp] theorem incCnt_plan (a : Nat) (d : Dev) : (incCnt a d).plan = d.plan := setReg_plan _ _ d
@[simp] theorem incCnt_route (a : Nat) (d : Dev) : (incCnt a d).route = d.route := setReg_route _ _ d
@[simp] theorem incCnt_geom (a : Nat) (d : Dev) : (incCnt a d).geom = d.geom := setReg_geom _ _ d
@[simp] theorem incCnt_voice (a : Nat) (d : Dev) : (incCnt a d).voice = d.voice := setReg_voice _ _ d
@[simp] theorem incCnt_disp (a : Nat) (d : Dev) : (incCnt a d).disp = d.disp := setReg_disp _ _ d
@[simp] theorem incCnt_aster (a : Nat) (d : Dev) : (incCnt a d).aster = d.aster := setReg_aster _ _ d
@[simp] theorem incCnt_lupin (a : Nat) (d : Dev) : (incCnt a d).lupin = d.lupin := setReg_lupin _ _ d
@[simp] theorem incCnt_survey (a : Nat) (d : Dev) : (incCnt a d).survey = d.survey := setReg_survey _ _ d
@[simp] theorem incCnt_dec (a : Nat) (d : Dev) : (incCnt a d).dec = d.dec := setReg_dec _ _ d
@[simp] theorem incCnt_drv (a : Nat) (d : Dev) : (incCnt a d).drv = d.drv := setReg_drv _ _ d
@[simp] theorem incCnt_aport (a : Nat) (d : Dev) : (incCnt a d).aport = d.aport := setReg_aport _ _ d
@[simp] theorem incCnt_net (a : Nat) (d : Dev) : (incCnt a d).net = d.net := setReg_net _ _ d
@[simp] theorem incCnt_memory (a : Nat) (d : Dev) : (incCnt a d).memory = d.memory := setReg_memory _ _ d
@[simp] theorem incCnt_pair (a : Nat) (d : Dev) : (incCnt a d).pair = d.pair := setReg_pair _ _ d
@[simp] theorem incCnt_pwr (a : Nat) (d : Dev) : (incCnt a d).pwr = d.pwr := setReg_pwr _ _ d
@[simp] theorem incCnt_sec (a : Nat) (d : Dev) : (incCnt a d).sec = d.sec := setReg_sec _ _ d
@[simp] theorem incCnt_age (a : Nat) (d : Dev) : (incCnt a d).age = d.age := setReg_age _ _ d
@[simp] theorem incCnt_periph (a : Nat) (d : Dev) : (incCnt a d).periph = d.periph := setReg_periph _ _ d

end Sys2Proof.Laws
end

