-- ==== Sys2Proof/Laws/Flags.lean ====
section
/-!
SUPPORT. Flags and fields of registers: what a read gives after a write of one of them.
-/

namespace Sys2Proof.Laws

open Machine

/-- A field written reads as the value's low bits, and every other bit is kept. -/
theorem testBit_setBits (v hi lo x j : Nat) (h : lo ≤ hi) :
    (setBits v hi lo x).testBit j = if lo ≤ j ∧ j ≤ hi then x.testBit (j - lo) else v.testBit j := by
  have hn : hi + 1 - lo + lo = hi + 1 := by omega
  generalize hnn : hi + 1 - lo = n at hn
  have hv : v = 2 ^ lo * (2 ^ n * (v / 2 ^ lo / 2 ^ n) + v / 2 ^ lo % 2 ^ n) + v % 2 ^ lo := by
    rw [Nat.div_add_mod (v / 2 ^ lo) (2 ^ n), Nat.div_add_mod]
  have hs : setBits v hi lo x = 2 ^ lo * (2 ^ n * (v / 2 ^ lo / 2 ^ n) + x % 2 ^ n) + v % 2 ^ lo := by
    simp only [setBits, bits, hnn, Nat.shiftRight_eq_div_pow]
    generalize v / 2 ^ lo % 2 ^ n = b at hv ⊢
    generalize v % 2 ^ lo = c at hv ⊢
    generalize 2 ^ n * (v / 2 ^ lo / 2 ^ n) = a at hv ⊢
    generalize x % 2 ^ n = y
    rw [Nat.mul_add] at hv ⊢
    rw [Nat.mul_comm b, Nat.mul_comm y]
    omega
  have hc : v % 2 ^ lo < 2 ^ lo := Nat.mod_lt _ (Nat.two_pow_pos lo)
  have hx : x % 2 ^ n < 2 ^ n := Nat.mod_lt _ (Nat.two_pow_pos n)
  have hb : v / 2 ^ lo % 2 ^ n < 2 ^ n := Nat.mod_lt _ (Nat.two_pow_pos n)
  rw [hs, Nat.testBit_two_pow_mul_add _ hc, Nat.testBit_two_pow_mul_add _ hx]
  conv => rhs; rw [hv]
  rw [Nat.testBit_two_pow_mul_add _ hc, Nat.testBit_two_pow_mul_add _ hb, Nat.testBit_mod_two_pow]
  by_cases h1 : j < lo
  · have : ¬ (lo ≤ j ∧ j ≤ hi) := by omega
    simp [h1, this]
  · by_cases h2 : j - lo < n
    · have : lo ≤ j ∧ j ≤ hi := by omega
      simp [h1, h2, this]
    · have : ¬ (lo ≤ j ∧ j ≤ hi) := by omega
      simp [h1, h2, this]

theorem setBits_lt (v hi lo x : Nat) (h : lo ≤ hi) (hh : hi < 32) (hv : v < 2 ^ 32) : setBits v hi lo x < 2 ^ 32 := by
  apply Nat.lt_pow_two_of_testBit
  intro j hj
  rw [testBit_setBits v hi lo x j h]
  have : ¬ (lo ≤ j ∧ j ≤ hi) := by omega
  rw [if_neg this]
  exact Nat.testBit_lt_two_pow (Nat.lt_of_lt_of_le hv (Nat.pow_le_pow_right (by omega) hj))

theorem rdN_setFld (a hi lo x : Nat) (d : Dev) (h : lo ≤ hi) (hh : hi < 32) :
    rdN (setFld a hi lo x d) a = setBits (rdN d a) hi lo x := by
  rw [setFld, rdN_wrN_same, Nat.mod_eq_of_lt (setBits_lt _ _ _ _ h hh (rdN_lt d a))]

theorem rdN_setFld_other (a b hi lo x : Nat) (d : Dev) (h : b ≠ a) : rdN (setFld a hi lo x d) b = rdN d b :=
  rdN_wrN_other a b _ d h

/-- A flag set reads 1, and every other bit of every register is kept. -/
theorem bitAt_setFlag (a i b j : Nat) (d : Dev) (h : i < 32) :
    bitAt (setFlag a i d) b j = (decide (b = a ∧ j = i) || bitAt d b j) := by
  by_cases hb : b = a
  · subst hb
    rw [bitAt, setFlag, rdN_setFld _ _ _ _ _ (Nat.le_refl i) h, testBit_setBits _ _ _ _ _ (Nat.le_refl i)]
    by_cases hj : j = i
    · subst hj; simp
    · have : ¬ (i ≤ j ∧ j ≤ i) := by omega
      simp [hj, this, bitAt]
  · simp [bitAt, setFlag, rdN_setFld_other _ _ _ _ _ _ hb, hb]

/-- A flag cleared reads 0, and every other bit of every register is kept. -/
theorem bitAt_clrFlag (a i b j : Nat) (d : Dev) (h : i < 32) :
    bitAt (clrFlag a i d) b j = (!decide (b = a ∧ j = i) && bitAt d b j) := by
  by_cases hb : b = a
  · subst hb
    rw [bitAt, clrFlag, rdN_setFld _ _ _ _ _ (Nat.le_refl i) h, testBit_setBits _ _ _ _ _ (Nat.le_refl i)]
    by_cases hj : j = i
    · subst hj; simp
    · have : ¬ (i ≤ j ∧ j ≤ i) := by omega
      simp [hj, this, bitAt]
  · simp [bitAt, clrFlag, rdN_setFld_other _ _ _ _ _ _ hb, hb]

theorem rdN_raiseEvent (c : Nat) (l : Bytes) (d : Dev) (a : Nat) (h : a < 0x30000 ∨ 0x40000 ≤ a) :
    rdN (raiseEvent c l d) a = rdN d a := by
  rw [rdN, rdN, raiseEvent_reg c l d a h]

theorem bitAt_raiseEvent (c : Nat) (l : Bytes) (d : Dev) (a i : Nat) (h : a < 0x30000 ∨ 0x40000 ≤ a) :
    bitAt (raiseEvent c l d) a i = bitAt d a i := by
  rw [bitAt, bitAt, rdN_raiseEvent c l d a h]

theorem rdN_completeOpt (c : Option Nat) (k r : Nat) (d : Dev) (a : Nat) (h : a < 0x30000 ∨ 0x40000 ≤ a) :
    rdN (completeOpt c k r d) a = rdN d a := by
  rw [rdN, rdN, completeOpt_reg c k r d a h]

/-- A fault cause that newly holds sets its bit, is raised, and is noted for the entry into SAFE (R32, R35). -/
theorem faultCause_sys (c : Nat) (d : Dev) :
    (faultCause c d).sys = { d.sys with newCauses := d.sys.newCauses ++ [c] } := by
  simp [faultCause]

end Sys2Proof.Laws
end

