-- ==== Sys2Proof/Laws/State.lean ====
section
/-!
SUPPORT. Fields of the state under its updates.
-/

namespace Sys2Proof.Laws

open Machine

@[simp] theorem onDev_eq (f : Dev → Dev) (s : State) : onDev f s = .next { s with dev := f s.dev } := rfl
@[simp] theorem dev_with_dev (s : State) (d : Dev) : { s with dev := d }.dev = d := rfl
@[simp] theorem pending_with_dev (s : State) (d : Dev) : { s with dev := d }.pending = s.pending := rfl
@[simp] theorem dev_with_pending (s : State) (l : List Instr) : { s with pending := l }.dev = s.dev := rfl
@[simp] theorem pending_with_pending (s : State) (l : List Instr) : { s with pending := l }.pending = l := rfl

end Sys2Proof.Laws
end

