-- ==== Sys2Proof/Tests/Slice0.lean ====
section
/-!
SUPPORT. Tests of the model on fixed commands, and for each statement with hypotheses a theorem test_hyps_ and its name:
states and operands that meet the hypotheses of each of its clauses together.
-/

namespace Sys2Proof.Tests

set_option Elab.async false

open Sys2Proof.Machine Sys2Proof.Safety

/-! ### Devices, states and operands of the tests -/

def hostHdr : CmdHdr := ⟨.host, 0, 0, 7, 0, false, false⟩
def withRegs (l : List (Nat × Nat)) (d : Dev) : Dev := l.foldl (fun d p => wrN p.1 p.2 d) d
def baseDev : Dev := { 
  sys := { mode := .central, cause := 2, modeQn := 5 }
  time := { pt := 5000000000, epoch := 4000000000, epochSet := true, counting := true, qualified := true, qn := 1000, now := 10000000 }
  host := { nextCid := 9 }
  pwr := { resetLow := false, causes := 3 }
  free := 3
  shadow := [(0x99, 4)]
  mem := [(5, 7)]
  flash := [(3, 1)]
  out := [.wire 9 9]
  route := { gains := [(3, 5)] }
  voice := { window := [(1, 2)] }
  disp := { takers := [1] }
  net := { sent := [(1, 1)] }
  pair := { nextPid := 4 }
  sec := { svn := 1 }
  age := { margins := [] }
  plan := { held := [(3, zeros 60), (4, leBytes 60 3)], active := some { index := 3, objects := [{}] } } }
def stateOf (d : Dev) : State := { dev := d, pending := [.fetchResume] }
def centralDev : Dev := withRegs [(0x210, 0x50040), (0x208, 1)] baseDev
def configDev : Dev := { centralDev with sys := { centralDev.sys with mode := .config } }
def edgeDev : Dev := withRegs [(0x210, 0x50082)] { baseDev with sys := { baseDev.sys with mode := .edge } }
def sessHdr : CmdHdr := ⟨.session 3, 2, 1, 0xAB, 0, false, false⟩
def hdrAt (q : Nat) : CmdHdr := ⟨.host, 0, 2, 99, q, false, false⟩
def st : Machine.State := { dev := withRegs [(0x20008, 0x50000001)] {centralDev with time := {centralDev.time with frac := 2^28-1, qn := 5000}}, pending := [] }
def pl : Plan := { index := 3 }
def bp : Dev := withRegs [] { centralDev with plan := { centralDev.plan with active := some pl, held := [(3, zeros 60), (4, leBytes 60 3)] } }
def img : Bytes := let b := leBytes 4 0x43464C52 ++ leBytes 2 6 ++ leBytes 1 1 ++ leBytes 1 2 ++ leBytes 4 (crc32c ((List.range 8192).map (fun i => BitVec.ofNat 8 i))) ++ zeros 52; b ++ (List.range 8192).map (fun i => BitVec.ofNat 8 i)
def bl : Dev := { bp with plan := { bp.plan with active := some { pl with outParams := (List.range 8).map (fun _ => { ctrl := 0x10 }) } } }
def desc : Bytes := leBytes 2 7 ++ leBytes 1 0 ++ leBytes 1 0 ++ leBytes 1 0 ++ leBytes 1 2 ++ leBytes 1 96 ++ zeros 1 ++ zeros 8 ++ zeros 4 ++ leBytes 4 5 ++ zeros 104
def pf : Dev := { bp with pair := { bp.pair with state := 2, partnerMode := 2, partnerV := 1 } }
def rb : Dev := withRegs [(ringA 0, 0x100), (ringA 0 + 0x1C, 4), (ringA 0 + 0x18, 2), (ringA 1, 0x104), (ringA 1 + 0x1C, 1), (ringA 1+ 0x18, 3)] bp
def wt : Waiting := ⟨{hostHdr with flags := 1}, some .nop, 0, 1⟩
def cm : Compl := ⟨0, 7, 3, 0, 0, 5⟩
def tr : Trans := ⟨.safe, 900, 5, some 4, .ready⟩
def run (t : Trans) (d : Dev) : Dev := { d with sys := {d.sys with running := some t, rampUp := true}, host := {d.host with inflight := [⟨4,.host,3,0,5,false⟩]} }
def tp (ph : Phase) (m : Mode) : Trans := ⟨m, 900, 5, some 4, ph⟩
def mr (u : Bool) : CmRamp := ⟨u, 100, 50, 7, 1⟩
def dr (u r : Bool) : Dev := withRegs [(drvA 2, 1)] {centralDev with drv := {centralDev.drv with chans := [(2, {ran := true, state := 2, ramp := some (mr u), retrying := r})]}}
def df : Bytes := domainFrame (withRegs [(0x210, 0x50083)] edgeDev)
def tq (q : Bool) (d : Dev) : Dev := withRegs [(0x2000C, 1000)] {d with time := {d.time with qualified := q, slewRem := 77, frac := 5, slewAcc := 3, goodSyncs := 4}}
def pt (d : Dev) : Dev := withRegs [(0x20000, 0xC7), (0x2000C, 100000),(0x2002C, 30)] d
def pp (p : PtpSt) (d : Dev) : Dev := { d with time := {d.time with ptp := p} }
def ps (l : FMap Nat) (d : Dev) : Dev := { d with time := {d.time with portStates := l} }
def pu (st : Nat) (d : Dev) : Dev := withRegs [(pulseA 2 + 0x14, 20), (pulseA 2 + 0x10, 5000), (pulseA 2 + 8, st)] d
def qb (d : Dev) : Dev := { d with time := {d.time with qn := 1500}, geom := {d.geom with nextAct := 1490, fresh := false} }
def bq : Dev := { configDev with plan := {configDev.plan with active := none}, pair := {} }
def mb (o q : Nat) : Bytes := leBytes 4 3 ++ leBytes 6 5 ++ leBytes 2 o ++ leBytes 3 7 ++ leBytes 3 8 ++ leBytes 3 9 ++ leBytes 1 1 ++ leBytes 1 0 ++ leBytes 1 4 ++ leBytes 4 5 ++ leBytes 2 5 ++ leBytes 2 (q+3)
def ob (d : Dev) : Dev := { qb d with geom := { (qb d).geom with objs := [(5, {inPlan := true, live := true, lastRecQn := 4})] } }
def rn (k : Nat) (d : Dev) : Dev := withRegs [(ringA k, 0x100), (ringA k + 0x1C, 4), (ringA k + 0x18, 2)] d
def en (v : Nat) (d : Dev) : Dev := withRegs [(0x50000, v)] d
def mv (m : Move) (d : Dev) : Dev := { d with geom := { d.geom with objs := [(5, {inPlan := true, live := true, lastRecQn := 4, px := 9, qx := 4, move := m})] } }
def av : Bytes := beBytes 2 0x41 ++ beBytes 2 9 ++ beBytes 5 2000 ++ beBytes 1 3 ++ beBytes 2 7 ++ zeros 4 ++ leBytes 64 0xF0F
def sw : Bytes := beBytes 2 0x50 ++ beBytes 2 9 ++ beBytes 5 2000 ++ beBytes 1 4 ++ beBytes 2 64 ++ zeros 4
def vo : VOp := ⟨3, 4, 5, {object := 6}⟩
def me (k st : Nat) : MatchEnt := ⟨1, 7, 1500, 3, 1, 2, k, 4, 0xFFFF, false, st, 0, 0⟩
def di (es : List (Nat × Option MatchEnt)) (d : Dev) : Dev := { d with disp := { d.disp with store := es } }
def tp2 : Dev := { centralDev with geom := {centralDev.geom with toPost := [(1500, 1, 4, [vo, vo]), (1500,0,3,[vo])]} }
def ac (d : Dev) : Dev := {d with aster := {d.aster with cores := [(2, {status := 1, sr := 0x1F4, pc := 0x200})]}}
def bx (b : CoreBox) (d : Dev) : Dev := {d with disp := {d.disp with cores := [(2, b)]}}
def itm : Item := ⟨0x300, 5, 0xFFFF, 3⟩
def pr : Plan := { index := 3, routing := { program := [0x10000000, 0x20002000 + 32*2, 0x30006000], gains := [1,2,0x100000] } }
def br : Dev := { centralDev with plan := {centralDev.plan with active := some pr}, route := {centralDev.route with inputs := [(1, 0x100000)], sample := 31} }
def gw : GainWait := ⟨3, 77, 1400, 4, some 960⟩
def ac2 (a : AsterCore) (d : Dev) : Dev := {d with aster := {d.aster with cores := [(2, a), (3, {status := 1})]}}
def x0 : Xfer := ⟨64, 0, 128, 0x2000000000, 32, 2⟩
def stepD : Dev := (ac2 {status := 3, pc := 64, idle := true, queueB := []} configDev)
def pt2 : Plan := { index := 3, outParams := [{ ctrl := 0x10000 }], outTasks := (List.range 5).map (fun _ => {sink := 0, destIndex := 3}), outputs := (List.range 5).map (fun _ => {}) }
def b0 : Dev := {centralDev with plan := {centralDev.plan with active := some pt2}}
def dj : Dev := { di [(9, some (me 3 3))] b0 with lupin := {centralDev.lupin with jobs := [(17, [5])]} }
def c1 : OutCorr := { tapUnits := 2, inactive := 1, loadCid := some 4, loading := ⟨some [1,2], 3, 4, 2⟩, bankA := ⟨some [5], 6, 7, 1⟩ }
def fl (c : OutCorr) (d : Dev) : Dev := { d with lupin := {d.lupin with corr := [(4, c)]}, host := {d.host with inflight := [⟨4,.host,3,0,5,false⟩]} }
def c2 : OutCorr := { tapUnits := 2, inactive := 3, bankB := ⟨some [1,2], 3, 4, 2⟩, bankA := ⟨some [5], 6, 7, 1⟩, doneQn := 1500, fade := some ⟨3200, 64, none⟩ }
def pp2 : Proposal := { pid := 5, applyQn := 2000, cid := 4, hdr := hostHdr, cmd := .corrSwap 4 0 7, reply := none }
def pv (p : PairSt) (d : Dev) : Dev := fl {} { d with pair := p }
def heldB : Bytes := beBytes 4 9 ++ zeros 8 ++ cmdBody hostHdr (.corrSwap 4 0 7)
def stp : SurveyStep := ⟨1, 2, 0, 0, 2, 16384, 10, 20, 7⟩
def sv : Dev := { b0 with sys := {b0.sys with mode := .survey}, survey := {b0.survey with program := [stp, stp], stepQn := 6, running := true} , time := {b0.time with qn := 5000} }
def pt1 : Plan := { index := 3, outParams := [{ ctrl := 0x10000 }], outTasks := [{sink := 0, destIndex := 3}], outputs := [{owner := 2}] }
def b1 : Dev := {edgeDev with plan := {edgeDev.plan with active := some pt1}}
def dsc : Bytes := designDesc 3 (tapAllot b1 3) ⟨3, 5, 100, 200, 20, 10000, 0, 0x4000⟩
def dd4 (d : Dev) : Dev := withRegs [(0xB0000,1)] <| memWrite (irAddr d 2 3) (leBytes 2 3 ++ leBytes 1 2 ++ leBytes 1 2) <| memWrite 0x1000 dsc {d with survey := {d.survey with jobs := [⟨0x1000, 3, 3, false⟩, ⟨0x2000, 5, 3, false⟩]}}
def cw (src r t n : Nat) (x : Nat) : Nat := src + 128 + n * 256 + r * 2048 + x * 2^20 + t * 2^21
def dc (x : DecCh) (d : Dev) : Dev := { d with dec := {d.dec with chans := [(5, x)]}, host := {d.host with inflight := [⟨4,.host,3,0,5,false⟩]} }
def dec5 (d : Dev) : Dev := withRegs [(0x160000, 1), (decA 5, cw 6 216 3 4 0)] (dc {started := true, clk := 3, m := 64, settle := 2, ints := [1,2,3,4], u := [3,4,5], yc := [1], recent := [(62,(63,7,true)),(63,(64,5,false))]} {d with time := {d.time with lockA := true}})
def cap (d : Dev) : Dev := withRegs [(0x160140, 1), (0x160144, 0x20), (0x160140 + 0x14, 0x8000), (0x160140+0x1C, 4), (0x160140+0x20, 9), (0x160140+0x24, 8)] (dec5 d)
def ce (k : Nat) : Bytes := leBytes 8 0x5000 ++ leBytes 4 (k * (capBlock (cap centralDev) 1 32).1.length) ++ leBytes 2 0 ++ leBytes 1 k ++ zeros 17
def capr (d : Dev) : Dev := withRegs [(0x160140, 3), (ringA 66, 0x101), (ringA 66 + 0x1C, 4), (ringA 66 + 0x18, 2)] (cap d)
def np (d : Dev) : Dev := { d with plan := {d.plan with active := none} }
def dv (l : List (Nat × DrvCh)) (d : Dev) : Dev := { d with drv := {d.drv with chans := l} }
def br2 (d : Dev) : Dev := withRegs [(drvA 2, 3 + 128), (drvA 3, 5 + 128), (railA 1, 0x640080), (railA 1 + 4, 900)] (np d)
def rl (d : Dev) : Dev := {d with drv := {d.drv with rails := [(1, {volts := 1000})]}}
def ap (x : APort) (d : Dev) : Dev := {d with aport := {d.aport with ports := [(3, x)]}}
def m0 (c : Nat) (d : Dev) : Dev := withRegs [(aportA 3, c), (aportA 3 + 0x14, 3), (aportA 3 + 0x18, 1), (aportA 3 + 0xC, 5), (aportA 3 + 0x10, 2)] d
def c96 : Nat := 3*16 + 256 + 2^13
def sl (x : APort) : APort := {x with slots := [(0,{phase := .stopping, waited := 960, prev := 3}), (1, {phase := .running}), (32, {prev := 4})]}
def ls (l : Listen) (d : Dev) : Dev := {d with aport := {d.aport with listen := l}}
def lb (d : Dev) : Dev := withRegs [(0x180000, 3), (0x180020, 0x00640000), (0x180024, 0x00C80070),(0x180028, 0x00C800C9),(0x18002C, 0x00C800C9)] d
def up (p : Nat) (d : Dev) : Dev := withRegs [(netA p, 1), (netA p + 4, 1), (netA p + 8, 0xDDCCBBAA), (netA p + 0xC, 0xFFEE), (netA p + 0x44, 1000)] d
def nq (l : FMap (List TxFrame)) (d : Dev) : Dev := { d with net := { d.net with txq := l } }
def prt (p : Nat) (x : PortSt) (d : Dev) : Dev := { d with net := { d.net with ports := [(p, x)] } }
def fr : TxFrame := { proto := 51230, bytes := [1,2,3], ctx := none, at' := 7 }
def sfr : TxFrame := { proto := 5004, bytes := [1,2,3], ctx := some 4, at' := 7 }
def f0 : Bytes := [0xFF,0xFF,0xFF,0xFF,0xFF,0xFF,1,2,3,4,5,6,0x88,0xB6] ++ zeros 46
def f1 : Bytes := [0xFF,0xFF,0xFF,0xFF,0xFF,0xFF,1,2,3,4,5,6,0x88,0x08,0,1] ++ zeros 44
def f2 : Bytes := [0xFF,0xFF,0xFF,0xFF,0xFF,0xFF,1,2,3,4,5,6,0x88,0xB5] ++ zeros 46
def f3 : Bytes := [0xAA,0xBB,0xCC,0xDD,0xEE,0xFF,1,2,3,4,5,6,0x81,0x00,0xA0,5,0x08,0x00,0x45,0,0,28,0,0,0x40,0,64,17] ++ zeros 50
def ip (port : Nat) (dst : Bytes) : Bytes :=
  let h (c : Nat) : Bytes := [0x45,0,0,28,0,0,0x40,0,64,17] ++ beBytes 2 c ++ [10,0,0,1,10,0,0,2]
  dst ++ [1,2,3,4,5,6,0x08,0] ++ h (inetSum (h 0)) ++ beBytes 2 9999 ++ beBytes 2 port ++ beBytes 2 8 ++ [0,0] ++ zeros 18
def me2 : Bytes := [0xAA,0xBB,0xCC,0xDD,0xEE,0xFF]
def t (f : Bytes) : List Bool := [linkIsUp (up 2 centralDev) 2, macAccepted (up 2 centralDev) 2 (beAt f 0 6), (frameHead f).sumsOk]
def av2 : Bytes := beBytes 2 0x41 ++ beBytes 2 5 ++ beBytes 5 1500 ++ [0] ++ beBytes 2 3 ++ zeros 4 ++ zeros 64
def bl3 (l : List Nat) : Bytes := l.map (BitVec.ofNat 8)
def dg (n : Nat) (r : Bytes) : Bytes := bl3 [0x59,0x43,1,n,0,5,0,0] ++ r
def sd (rx fmt ptime ch : Nat) : Bytes := beBytes 0 0 ++ leBytes 2 9 ++ bl3 [rx, fmt, ptime, ch, 98, 0] ++ leBytes 4 0 ++ leBytes 4 0 ++ leBytes 4 (if rx = 0 then 3 else 0) ++ leBytes 4 4 ++ zeros 8
  ++ (bl3 [1, 1] ++ zeros 2 ++ bl3 [1,0,0x5e,0,0,1] ++ leBytes 2 5004 ++ leBytes 2 5006 ++ bl3 [46,0,239,0,0,1] ++ zeros 12 ++ zeros 16)
  ++ (if rx = 1 then zeros 48 else (bl3 [2, 1] ++ zeros 2 ++ bl3 [1,0,0x5e,0,0,1] ++ leBytes 2 5004 ++ leBytes 2 5006 ++ bl3 [46,0,239,0,0,1] ++ zeros 12 ++ zeros 16))
def tx (x : StreamCtx) (d : Dev) : Dev := { d with net := { d.net with ctxs := [(4, x)], departNext := 400, departFirst := 300, te := 0 } }
def rx (x : StreamCtx) (d : Dev) : Dev := { d with
  plan := { d.plan with active := some { index := 3, objects := [{ srcKind := 1, srcIndex := 9, srcChan := 1}] } }
  geom := { d.geom with objs := [(0, {inPlan := true})], nextAct := 1000 }
  net := { d.net with ctxs := [(260, x)] } }
def up2 (d : Dev) : Dev := up 1 (up 2 (withRegs [(0x80000, 1)] d))
def rtp (ts : Nat) (pt : Nat) : Bytes := bl3 [0x80, pt] ++ beBytes 2 5 ++ beBytes 4 ts ++ beBytes 4 77 ++ bl3 (List.range 72)
def rk (ts pt : Nat) : RxPacket := ⟨1, false, [239,0,0,1], [10,0,0,1], 5004, rtp ts pt⟩
def lu (d : Dev) : Dev := withRegs [(netA 0, 1), (netA 0 + 4, 1), (netA 0 + 8, 0xDDCCBBAA), (netA 0 + 0xC, 0xFFEE), (netA 0 + 0x44, 1000)] d
def pr2 (i : Nat) (p : PairSt) (d : Dev) : Dev := withRegs [(0x210, 0x50140 + i), (0x140000, 1)] { lu d with pair := p }
def hp : PathSt := { good := true, txSeq := 7, rxSeq := some 3, heardAt := 9000000, since := 5 }
def p1 : PairSt := { state := 2, partnerHears := true, paths := [(0, hp), (1, { hp with txSeq := 2^32-1 })], txSeq := 4, unacked := [⟨3, 8, [1], none, 2⟩, ⟨2, 4, [1], some 900, 2⟩] }
def late (d : Dev) : Dev := { d with time := { d.time with now := d.time.now + 900000000 } }
def bf : Dev := late (pr2 0 { p1 with state := 0, partnerMode := 1, paths := [(0, {hp with heardAt := 910000000}), (1, {hp with heardAt := 910000000})] } { configDev with time := { configDev.time with pt := 6000000000 } })
def bfk : Dev := { bf with pair := { bf.pair with partnerCfg := cfgId bf } }
def bd (i path : Nat) (r : Bytes) : Bytes := pairFrameBytes (pr2 (1 - i) p1 centralDev) path r
def jn (x : Join) (p : PairSt) : PairSt := { p with join := some x, state := 4, l4 := true }
def ptj : Plan := { index := 3, groups := [{ index := 70, stateBase := 4 }] }
def rn2 (k c h v : Nat) (d : Dev) : Dev := withRegs [(ringA k, c), (ringA k + 0x1C, h), (ringA k + 0x18, v)] d
def iq (d : Dev) : Dev := { d with host := { d.host with rings := [(3, {count := 2, signalled := true}), (17, {signalled := true})], inflight := [⟨3, .host, 5, 0, 1, false⟩, ⟨4, .session 3, 5, 0, 1, false⟩], waitQ := [⟨hostHdr, some (.pairResync 1), 4, 1⟩, ⟨sessHdr, none, 4, 1⟩] } }
def en2 (_kind chans n qn : Nat) : Bytes := leBytes 8 0x1000 ++ leBytes 4 65536 ++ leBytes 2 chans ++ leBytes 1 n ++ leBytes 1 0 ++ leBytes 5 qn ++ zeros 3 ++ leBytes 4 0 ++ zeros 4
def msgZ (type sid ctr : Nat) (body : Bytes) : Bytes := sessionMsgHead type sid ctr body ++ zeros 16
def msgM (type sid ctr : Nat) (body : Bytes) (mac : Nat) : Bytes := sessionMsgHead type sid ctr body ++ beBytes 16 mac
def hello (slot : Nat) : Bytes := leBytes 1 slot ++ p384Bytes p384G ++ zeros 16
def ks (d : Dev) : Dev := { d with host := { d.host with keys := [(2, ⟨3, p384Bytes (some (0x20fa1ebea46281d08ba57749c705c5d0de7048be3131c924728147664724e94b44cd6598d45eda94196ce0e65784d0d4, 0x815efe33555269c4eeb58eb0ae0b7fea4077739e33fcbf8695fa1914a3312adda68323aa160ee6222477b34b015be49a))⟩)], authFails := [(9, [nowNs d, nowNs d])] } }
def ss : Session := { used := true, slot := 2, ip := 9, port := 2, helloBody := hello 2, challenge := p384Bytes p384G ++ zeros 112, ephPriv := 1, rxCounter := 4, key := bl3 [1,2,3] }
def so : Session := { ss with isOpen := true }
def se (x : Session) (d : Dev) : Dev := { ks d with host := { (ks d).host with sessions := [(3, x)] } }
def sigZ : Nat := 0x77bc45871e71a7ee207ee85d56d4a1bfe14a64e4a7114141377a553a2edd9dfed25f62c6d7696e42b809bb253232499a
def sig : Bytes := beBytes 48 sigZ ++ beBytes 48 sigZ
def ce2 : Bytes := leBytes 2 0xFFFF ++ leBytes 2 0 ++ leBytes 4 5 ++ zeros 56
def scop : SceneOp := ⟨some 4, 7, 2, 0, zeros 4, 3⟩
def sc (d : Dev) : Dev := { iq d with host := { (iq d).host with sceneOp := some scop, sceneHead := 4096, sceneWseq := 8 } }
def sm (m : Mode) (d : Dev) : Dev := {d with host := {d.host with startMode := some m}}
def blk1 : Block := { qn := 7 }
def mm (m : MemSt) (d : Dev) : Dev := { d with memory := m }
def ch (c : Nat) (x : DmaCh) (l : List (Nat × Nat)) (d : Dev) : Dev := withRegs ([(0x190000, 1), (dmaA c, 0x2104), (dmaA c + 4, 1), (dmaA c + 0x1C, 5), (dmaA c + 0x20, 3), (dmaA c + 0x10, 0x80000000), (dmaA c + 0xC, 0x1000),(dmaA c + 0x14, 0x2000),(dmaA c + 0x18, 0x80000000)] ++ l) (mm {dma := [(c, x), (61, {done := 3})]} d)
def dd : Bytes := leBytes 8 (2^63 + 0x3000) ++ leBytes 8 (2^63+0x5000) ++ leBytes 4 700 ++ leBytes 2 2 ++ zeros 2 ++ zeros 8
def dg2 : Bytes := leBytes 8 (2^63 + 0x3000) ++ leBytes 8 (2^63+0x5000) ++ leBytes 4 700 ++ leBytes 2 0 ++ zeros 2 ++ zeros 8
def pw (f : PwrSt → PwrSt) (d : Dev) : Dev := { d with pwr := f d.pwr }
def st2 (d : Dev) : Dev := { d with sys := { d.sys with mode := .stop } }
def os : OpStep := ⟨2, 900, 950, true, 4, true, true, false⟩
def bn (d : Dev) : Dev := {d with plan := {d.plan with active := none}}
def rs (d : Dev) : Dev := withRegs [(0x1002C, 1), (0x10024, 5), (0x10038, 0x502), (0x10028, 7), (0x10018, 9)] { d with mem := [(3,5),(0x1002000003, 4), (0x1002200000, 9)], host := { d.host with keys := [(2, ⟨3, []⟩)] } }
def bo (b : BootSt) (d : Dev) : Dev := pw (fun p => {p with boot := b}) { d with sys := {}, age := {} }
def sn : BootSeen := ⟨true, true, 2, 0x1123456, 256, [1,2,3]⟩
def blank (d : Dev) : Dev := {d with flash := []}
def sec (x : SecSt) (d : Dev) : Dev := {d with sec := x}
def vault (d : Dev) : Dev := {d with mem := [(3,3), (0x1002000003, 4)], host := {d.host with keys := [(1, ⟨2, []⟩)], sessions := [(2, {isOpen := true, used := true})]}}
def fl2 (l : List (Nat × Nat)) (d : Dev) : Dev := withRegs ([(0x1F0020, 0x12345), (0x1F0024, 0), (0x1F0028, 4), (0x1F0030, 5)] ++ l) d
def fo (o : FlashOp) (d : Dev) : Dev := {d with periph := {d.periph with flash := some o}}
def fz (d : Dev) : Dev := {d with flash := [(0, 3), (4095, 4), (4096, 5), (5000, 0xFE)]}
def i2 (o : Option (Bool × Nat)) (d : Dev) : Dev := withRegs [(i2cA 1, 0x100), (i2cA 1 + 8, 0x04030201)] {d with periph := {d.periph with i2c := if o = none then [] else [(1, o)]}}
def ua (n : Nat) (d : Dev) : Dev := {d with periph := {d.periph with txEnds := (List.range n).map (fun i => nowNs d - 2 + 3 * i), rxFifo := (List.replicate n 5)}}
def eb : Bundle := { core := 2 }
def ec (x : AsterCore) : State := stateOf { centralDev with aster := { centralDev.aster with cores := [(2, x)] } }
def e1 : AsterCore := { status := 1, pc := 0x200, n := 4, g := [(1, 0x100), (2, 0x7FFFFFFF), (3, 0x7FFFFFFF)], v := [(8, 5), (9, 7)] }
def sess32 (r : Nat) (d : Dev) : Dev := { d with host := { d.host with
    sessions := [(3, { used := true, isOpen := true, slot := 2, ip := 0x0a000001 })]
    keys := [(2, { role := r, key := leBytes 97 4 })] } }
def bp2 : Dev := { centralDev with plan := { centralDev.plan with active := some pl, held := [(3, zeros 60), (4, leBytes 60 3)] } }
def scn : SceneRec := ⟨0x100, 0, 100, 4, 7, 4096⟩
def scb2 : Dev := { bp2 with host := { bp2.host with scene := [(12, scn)], sceneHead := 8192 } }
def img2 : Bytes := leBytes 4 0x43464C52 ++ leBytes 2 6 ++ leBytes 1 0 ++ leBytes 1 2 ++ leBytes 4 (crc32c []) ++ zeros 52
def sw2 : Dev := { withRegs [(0x1F0014, 64)] scb2 with host := { scb2.host with sceneHead := 8192 } }
def e12 : AsterCore := { status := 1, pc := 0x200, n := 4, g := [(1, 0x100), (2, 0x7FFFFFFF), (3, 0x300)], v := [(8, 5), (9, 7)] }
def wd : Nat := 0x4005
def bx2 : CoreBox := { state := 1, word := wd }
def bcr : Dev := { bp2 with lupin := { bp2.lupin with corr := [(4, { inactive := 2 })] } }
def rb2 : Dev := withRegs [(ringA 0, 0x100), (ringA 0 + 0x1C, 4), (ringA 0 + 0x18, 2), (ringA 1, 0x104), (ringA 1 + 0x1C, 1), (ringA 1+ 0x18, 3)] bp2
def opBlock : List VOp := List.replicate 4096 vo
def rn79 (k c h v : Nat) (d : Dev) : Dev := withRegs [(ringA k, c), (ringA k + 0x1C, h), (ringA k + 0x18, v)] d
def evFull : Dev := withRegs [(ringA 3 + 0x24, 4), (ringA 3 + 4, 1)] (rn79 3 0x304 1 17 centralDev)
def evRoom : Dev := withRegs [(ringA 3 + 0x24, 4)] (rn79 3 0x304 1 3 centralDev)

/-! ### The hypotheses of the statements are met -/

theorem test_hyps_StepRunsFrontCommand :
    ∃ (c : Instr) (rest : List Instr) (s : State),
    (s.pending = c :: rest) :=
  ⟨(.nop hostHdr), [.fetchResume], {stateOf centralDev with pending := [.nop hostHdr, .fetchResume]}, by decide +kernel⟩

theorem test_hyps_EmptyQueueTicksTheCounter :
    ∃ (s : State),
    let sum := s.dev.time.frac + rdN s.dev 0x20008
    let pt := (s.dev.time.pt + sum / 2 ^ 28) % ptMod
    let d := { s.dev with time := { s.dev.time with pt := pt, frac := sum % 2 ^ 28, now := s.dev.time.now + 2 } }
    (s.pending = []) ∧ (s.dev.time.slewRem = 0) ∧ (s.dev.time.slewAcc = 0) ∧ (s.dev.time.holdover = false) ∧ ((∀ n, n < 4 → (pulse s.dev n).armed = false ∧ (pulse s.dev n).fallAt = none ∧ bitAt s.dev (pulseA n) 3 = false)) ∧ ((∀ n, n < 8 → (alarm s.dev n).armed = false)) ∧ (pt / secNs = s.dev.time.pt / secNs) ∧ (quantumDue d = false) ∧ (historyDue d = false) :=
  ⟨st, by decide +kernel⟩

theorem test_hyps_TheQueueIsKept :
    ∃ (s t : State),
    ((∀ c ∈ s.pending, c.wf = true)) ∧ (step s = .next t) :=
  ⟨stateOf {}, _, by decide +kernel, rfl⟩

theorem test_hyps_RegisterWritesStoreTheirFields :
    ∃ (m : Master) (a v : Nat) (r : RegRow) (s : State),
    (a % 4 = 0) ∧ (regRow a = some r) ∧ (lockOpen s.dev m r.lock = true) ∧ (regAct m r a v s.dev = none) ∧ (rangesOk r v = true) ∧ (extraOk s.dev a v = true) :=
  ⟨.host, 131160, 5, (regRow 131160).get (by decide +kernel), stateOf configDev, by decide +kernel⟩

theorem test_hyps_UnmappedAccessIsRecorded :
    ∃ (a : Nat),
    (a % 4 = 0) ∧ (regRow a = none) :=
  ⟨0x5FFFC, by decide +kernel⟩

theorem test_hyps_CounterReadsClearAndOtherMastersTakeNoTask :
    (∃ (a : Nat) (r : RegRow),
    (a % 4 = 0) ∧ (regRow a = some r) ∧ (r.kind = .rc) ∧ ((a < 0x1C0100 ∨ 0x1C0160 ≤ a)))
    ∧ (∃ (m : Master),
    (isControl m = false)) :=
  ⟨⟨544, (regRow 544).get (by decide +kernel), by decide +kernel⟩,
   ⟨.host, by decide +kernel⟩⟩

theorem test_hyps_WideReadTakesTheHigherWords :
    (∃ (a words : Nat) (r : RegRow),
    (a % 4 = 0) ∧ (regRow a = some r) ∧ (r.kind = .plain) ∧ (a ≠ 0x40200) ∧ (a ≠ 0x6003C) ∧ (wordPlace wideRows a = some (0, words)))
    ∧ (∃ (s : State),
    (s.dev.time.pt < ptMod)) :=
  ⟨⟨0x204, (((wordPlace wideRows 0x204)).get (by decide +kernel)).2, (regRow 0x204).get (by decide +kernel), by decide +kernel⟩,
   ⟨(stateOf centralDev), by decide +kernel⟩⟩

theorem test_hyps_ChecksDecideInTheirOrder :
    (∃ (h : CmdHdr) (c : Cmd) (s : State),
    let op := cmdOpcode c
    (Acceptable h s.dev) ∧ ((isMirrored c && pairFormed s.dev) = false) ∧ (roleOk s.dev h.src op = false))
    ∧ (∃ (h : CmdHdr) (c : Cmd) (s : State),
    let op := cmdOpcode c
    (Acceptable h s.dev) ∧ ((isMirrored c && pairFormed s.dev) = false) ∧ (roleOk s.dev h.src op = true) ∧ ((h.hdrRsvd = true ∨ (h.applyQn ≠ 0 ∧ takesQn op = false))))
    ∧ (∃ (h : CmdHdr) (c : Cmd) (s : State),
    let op := cmdOpcode c
    (Acceptable h s.dev) ∧ ((isMirrored c && pairFormed s.dev) = false) ∧ (roleOk s.dev h.src op = true) ∧ (h.hdrRsvd = false) ∧ ((h.applyQn = 0 ∨ takesQn op = true)) ∧ (cmdLegal s.dev c = false))
    ∧ (∃ (h : CmdHdr) (c : Cmd) (s : State),
    let op := cmdOpcode c
    (Acceptable h s.dev) ∧ ((isMirrored c && pairFormed s.dev) = false) ∧ (roleOk s.dev h.src op = true) ∧ (h.hdrRsvd = false) ∧ ((h.applyQn = 0 ∨ takesQn op = true)) ∧ (cmdLegal s.dev c = true) ∧ (h.parRsvd = true)) :=
  ⟨⟨sessHdr, (.setOppoint 1), (stateOf (sess32 1 centralDev)), by decide +kernel⟩,
   ⟨{hostHdr with hdrRsvd := true}, (.setOppoint 1), (stateOf centralDev), by decide +kernel⟩,
   ⟨hostHdr, (.decConfig 0 0 0 0), (stateOf {centralDev with sys := {centralDev.sys with mode := .mirror}}), by decide +kernel⟩,
   ⟨{hostHdr with parRsvd := true}, (.setAir 0 0), (stateOf centralDev), by decide +kernel⟩⟩

theorem test_hyps_CommandsThatCompleteAtOnce :
    (∃ (h : CmdHdr) (s : State),
    (Ready h .nop s.dev))
    ∧ (∃ (h : CmdHdr) (a : Nat) (s : State),
    (Ready h (.regRead a) s.dev) ∧ (a % 8 = 0) ∧ (a < 2 ^ 24))
    ∧ (∃ (h : CmdHdr) (a v : Nat) (s : State),
    (Ready h (.regWrite a v) s.dev) ∧ (a % 4 = 0) ∧ (a < 2 ^ 24))
    ∧ (∃ (h : CmdHdr) (k mask : Nat) (s : State),
    (h.src = .session k) ∧ (Ready h (.eventMask mask) s.dev))
    ∧ (∃ (h : CmdHdr) (mask : Nat) (s : State),
    (h.src = .host) ∧ (Ready h (.eventMask mask) s.dev))
    ∧ (∃ (h : CmdHdr) (p : Nat) (s : State),
    (Ready h (.planDrop p) s.dev) ∧ (planInUse s.dev p = false) ∧ ((fget? s.dev.plan.held p).isSome = true))
    ∧ (∃ (h : CmdHdr) (n : Nat) (x : DRef) (bs : Bytes) (s : State),
    let recs := (List.range n).map (fun i => slice bs (32 * i) 32)
    (Ready h (.surveyProgram n x) s.dev) ∧ (n ≤ 4096) ∧ (x.len = 32 * n) ∧ (refBytes s.dev h.src x = some bs) ∧ (groupedSweep false (recs.map parseStep) = false) ∧ (recs.all (stepOk s.dev) = true))
    ∧ (∃ (h : CmdHdr) (k r : Nat) (x : DRef) (key : Bytes) (s : State),
    (Ready h (.sessionKeySet k r x) s.dev) ∧ (k ≤ 15) ∧ (r ≤ 3) ∧ (x.len = (if r = 0 then 0 else 97)) ∧ (refBytes s.dev h.src x = some key))
    ∧ (∃ (h : CmdHdr) (id off : Nat) (x : DRef) (rec : SceneRec) (s : State),
    let n := Nat.min x.len (rec.length - off)
    (Ready h (.sceneRead id off x) s.dev) ∧ (sceneRec s.dev id = some rec) ∧ (off ≤ rec.length) ∧ (refFits s.dev h.src x.addr n = true)) :=
  ⟨⟨hostHdr, (stateOf centralDev), by decide +kernel⟩,
   ⟨hostHdr, 0x208, (stateOf centralDev), by decide +kernel⟩,
   ⟨hostHdr, 0x208, 5, (stateOf centralDev), by decide +kernel⟩,
   ⟨sessHdr, 3, 5, (stateOf (sess32 3 centralDev)), by decide +kernel⟩,
   ⟨hostHdr, 5, (stateOf centralDev), by decide +kernel⟩,
   ⟨hostHdr, 4, (stateOf bp2), by decide +kernel⟩,
   ⟨hostHdr, 0, ⟨64, 0, []⟩, [], (stateOf configDev), by decide +kernel⟩,
   ⟨sessHdr, 4, 0, ⟨2^63, 0, []⟩, [], (stateOf (sess32 3 centralDev)), by decide +kernel⟩,
   ⟨hostHdr, 12, 40, ⟨64, 100, []⟩, scn, (stateOf scb2), by decide +kernel⟩⟩

theorem test_hyps_CommandsThatWaitForTheirApplyQn :
    (∃ (h : CmdHdr) (m scope q : Nat) (t : Mode) (s : State),
    (Ready h (.setMode m scope) s.dev) ∧ (Mode.ofCode m = some t) ∧ (scope ≤ 1) ∧ (t ≠ .boot) ∧ (transNow s.dev = none) ∧ (t ≠ s.dev.sys.mode) ∧ (modeRow s.dev.sys.mode t = true) ∧ (modePre s.dev t = true) ∧ (cmdQn s.dev (.setMode m scope) h.applyQn false = some q))
    ∧ (∃ (h : CmdHdr) (st : Int) (q : Nat) (s : State),
    (Ready h (.reanchorTime st) s.dev) ∧ (cmdQn s.dev (.reanchorTime st) h.applyQn false = some q) ∧ (reanchorFits (ptOfQn s.dev q) s.dev st = true))
    ∧ (∃ (h : CmdHdr) (t : Int) (r q : Nat) (s : State),
    (Ready h (.setAir t r) s.dev) ∧ (-10240 ≤ t) ∧ (t ≤ 15360) ∧ (r ≤ 100) ∧ (cmdQn s.dev (.setAir t r) h.applyQn false = some q))
    ∧ (∃ (h : CmdHdr) (o a q : Nat) (s : State),
    (Ready h (.setOutputAvail o a) s.dev) ∧ (o ≤ 511) ∧ (a ≤ 1) ∧ (role s.dev ≠ 1) ∧ (cmdQn s.dev (.setOutputAvail o a) h.applyQn false = some q) ∧ (s.dev.geom.nextAct ≤ q))
    ∧ (∃ (h : CmdHdr) (e g q : Nat) (s : State),
    (Ready h (.setRouteGain e g) s.dev) ∧ (gainOk g = true) ∧ (cmdQn s.dev (.setRouteGain e g) h.applyQn false = some q))
    ∧ (∃ (h : CmdHdr) (sl c q : Nat) (s : State),
    (Ready h (.setRouteSource sl c) s.dev) ∧ (sl ≤ 7) ∧ (routeSourceOk c = true) ∧ (cmdQn s.dev (.setRouteSource sl c) h.applyQn false = some q)) :=
  ⟨⟨(hdrAt 1200), 6, 1, 1200, .safe, (stateOf bp2), by decide +kernel⟩,
   ⟨(hdrAt 1200), 5000, 1200, (stateOf bp2), by decide +kernel⟩,
   ⟨(hdrAt 1200), 20, 50, 1200, (stateOf bp2), by decide +kernel⟩,
   ⟨(hdrAt 1200), 5, 0, 1200, (stateOf (withRegs [(0x210, 0x50082)] baseDev)), by decide +kernel⟩,
   ⟨(hdrAt 1200), 6, 0x10000, 1200, (stateOf bp2), by decide +kernel⟩,
   ⟨(hdrAt 1200), 6, 5, 1200, (stateOf bp2), by decide +kernel⟩⟩

theorem test_hyps_CommandsThatScheduleAChange :
    (∃ (h : CmdHdr) (p q : Nat) (s : State),
    (Ready h (.setOppoint p) s.dev) ∧ (s.dev.sys.mode ≠ .config) ∧ (cmdQn s.dev (.setOppoint p) h.applyQn false = some q) ∧ (oppointCheck s.dev p (some q) = (cDone, false)) ∧ (s.dev.pwr.step = none))
    ∧ (∃ (h : CmdHdr) (p x q : Nat) (s : State),
    (Ready h (.planSwap p x) s.dev) ∧ (s.dev.sys.mode ≠ .config) ∧ ((fget? s.dev.plan.held p).isSome = true) ∧ (x % 32 = 0) ∧ (32 ≤ x) ∧ (x ≤ 1024) ∧ ((∀ y, s.dev.plan.active = some y → y.index ≠ p)) ∧ (cmdQn s.dev (.planSwap p x) h.applyQn false = some q) ∧ (s.dev.plan.running = none) ∧ (s.dev.plan.pending = none))
    ∧ (∃ (h : CmdHdr) (j k x q : Nat) (s : State),
    (Ready h (.corrSwap j k x) s.dev) ∧ (s.dev.sys.mode ≠ .config) ∧ (swapOutputs s.dev j = [j]) ∧ (k ≤ 31) ∧ (32 ≤ x) ∧ (x ≤ 1024) ∧ (cmdQn s.dev (.corrSwap j k x) h.applyQn false = some q) ∧ ((corr s.dev j).fade = none) ∧ ((corr s.dev j).pending = none))
    ∧ (∃ (h : CmdHdr) (c w r f q : Nat) (s : State),
    (Ready h (.decConfig c w r f) s.dev) ∧ (c < 128) ∧ (applyQn s.dev h.applyQn = some q) ∧ (decWordsOk s.dev c w r f = true) ∧ (streamSplit s.dev c r = false) ∧ ((decCh s.dev c).pending = none))
    ∧ (∃ (h : CmdHdr) (c q : Nat) (s : State),
    (Ready h (.decCompSwap c) s.dev) ∧ (c < 128) ∧ (applyQn s.dev h.applyQn = some q) ∧ ((decCh s.dev c).written = true) ∧ ((decCh s.dev c).swap = none)) :=
  ⟨⟨(hdrAt 1200), 1, 1200, (stateOf bp2), by decide +kernel⟩,
   ⟨(hdrAt 3000), 4, 64, 3000, (stateOf bp2), by decide +kernel⟩,
   ⟨(hdrAt 3000), 4, 8, 64, 3000, (stateOf bcr), by decide +kernel⟩,
   ⟨(hdrAt 1200), 4, 0, 0, 0, 1200, (stateOf bp2), by decide +kernel⟩,
   ⟨(hdrAt 1200), 4, 1200, (stateOf {bp2 with dec := {bp2.dec with chans := [(4, {written := true})]}}), by decide +kernel⟩⟩

theorem test_hyps_CommandsThatStartWork :
    (∃ (h : CmdHdr) (p r : Nat) (x : DRef) (img : Bytes) (s : State),
    (Ready h (.planLoad p 0 r x) s.dev) ∧ (s.dev.plan.load = none) ∧ (planInUse s.dev p = false) ∧ (refBytes s.dev h.src x = some img))
    ∧ (∃ (h : CmdHdr) (j : Nat) (x : DRef) (img : Bytes) (p : Plan) (s : State),
    (Ready h (.corrLoad j x) s.dev) ∧ (j < 512) ∧ (refBytes s.dev h.src x = some img) ∧ (imageOk img = true) ∧ (s.dev.plan.active = some p) ∧ (leAt img 4 2 = j) ∧ (leAt img 6 1 = paramTaps (planParam p j)) ∧ (corrBusy (corr s.dev j) = false))
    ∧ (∃ (h : CmdHdr) (x : DRef) (b : Bytes) (s : State),
    (Ready h (.streamSet x) s.dev) ∧ (x.len = 128) ∧ (refBytes s.dev h.src x = some b) ∧ (ctxLocked s.dev (decide (dDir b = 1)) (leAt b 20 4) = false) ∧ (descFormatOk b = true) ∧ (descRangeOk s.dev b = true))
    ∧ (∃ (h : CmdHdr) (c v : Nat) (s : State),
    (Ready h (.streamClear c v) s.dev) ∧ (ctxLocked s.dev (decide (v = 1)) c = false))
    ∧ (∃ (h : CmdHdr) (m : Nat) (s : State),
    let heads := ((setIdx 16 m).map (drvLead s.dev)).eraseDups
    (Ready h (.drvDiag m) s.dev) ∧ (heads ≠ []) ∧ ((∀ c ∈ heads, (drvCh s.dev c).state = 0 ∨ drvLatched s.dev c = true)))
    ∧ (∃ (h : CmdHdr) (m : Nat) (s : State),
    (Ready h (.drvClear m) s.dev))
    ∧ (∃ (h : CmdHdr) (s : State),
    (Ready h .ageMeasure s.dev) ∧ (s.dev.age.measuring = false))
    ∧ (∃ (h : CmdHdr) (id k f : Nat) (x : DRef) (bs : Bytes) (s : State),
    let header (d : Dev) := sceneHeader id k f bs.length (sceneNextGen s.dev id) d.host.sceneWseq (d.time.pt / secNs)
    (Ready h (.sceneWrite id k f x) s.dev) ∧ (s.dev.host.sceneOp = none) ∧ (f ≤ 1) ∧ (1 ≤ id) ∧ (id ≤ 0xFFFFFFFE) ∧ (x.len ≤ 2 ^ 26) ∧ (refBytes s.dev h.src x = some bs) ∧ (sceneCheck s.dev (header s.dev) k bs = cDone) ∧ (sceneFits s.dev id bs.length = true))
    ∧ (∃ (h : CmdHdr) (id : Nat) (s : State),
    (Ready h (.sceneErase id) s.dev) ∧ (s.dev.host.sceneOp = none) ∧ ((sceneRec s.dev id).isSome = true) ∧ (sceneFits s.dev id 0 = true)) :=
  ⟨⟨hostHdr, 9, 0, ⟨64, 4, [1,2,3,4]⟩, [1,2,3,4], (stateOf bp2), by decide +kernel⟩,
   ⟨hostHdr, 6, ⟨64, 64, img2⟩, img2, pl, (stateOf bp2), by decide +kernel⟩,
   ⟨hostHdr, ⟨64, 128, desc⟩, desc, (stateOf bp2), by decide +kernel⟩,
   ⟨hostHdr, 5, 1, (stateOf bp2), by decide +kernel⟩,
   ⟨hostHdr, 6, (stateOf configDev), by decide +kernel⟩,
   ⟨hostHdr, 6, (stateOf centralDev), by decide +kernel⟩,
   ⟨hostHdr, (stateOf centralDev), by decide +kernel⟩,
   ⟨hostHdr, 12, 0x100, 1, ⟨64, 4, [1,2,3,4]⟩, [1,2,3,4], (stateOf sw2), by decide +kernel⟩,
   ⟨hostHdr, 12, (stateOf sw2), by decide +kernel⟩⟩

theorem test_hyps_CommandsAreProposedAndFetchedInOrder :
    (∃ (h : CmdHdr) (c : Cmd) (q : Nat) (s : State),
    (Acceptable h s.dev) ∧ (roleOk s.dev h.src (cmdOpcode c) = true) ∧ (h.hdrRsvd = false) ∧ ((h.applyQn = 0 ∨ takesQn (cmdOpcode c) = true)) ∧ (isMirrored c = true) ∧ (pairFormed s.dev = true) ∧ (mirrorTwin s.dev h c = none) ∧ (cmdQn s.dev c h.applyQn false = some q))
    ∧ (∃ (h : CmdHdr) (v q : Nat) (s : State),
    (Acceptable h s.dev) ∧ (roleOk s.dev h.src 0x70 = true) ∧ (h.hdrRsvd = false) ∧ (h.parRsvd = false) ∧ (s.dev.sys.mode = .central) ∧ (pairFormed s.dev = true) ∧ (mirrorTwin s.dev h (.pairResync v) = none) ∧ (cmdQn s.dev (.pairResync v) h.applyQn false = some q) ∧ (v ≤ 1) ∧ (transNow s.dev = none) ∧ (s.dev.pair.resyncCid = none))
    ∧ (∃ (s : State),
    (ringRunning s.dev 0 = true) ∧ (ringHeld s.dev 0 ≠ 0) ∧ (cmdsRun s.dev = true) ∧ (fetchStalled s.dev = false))
    ∧ (∃ (w : Waiting) (s : State),
    (s.dev.host.waitQ = [w]) ∧ (mayAccept s.dev w = true) ∧ (inFlightCount s.dev < 64))
    ∧ (∃ (s : State),
    ((∀ w ∈ s.dev.host.waitQ, mayAccept s.dev w = false)))
    ∧ (∃ (w : Waiting) (s : State),
    (s.dev.host.waitQ = [w]) ∧ (w.hdr.flags.testBit 0 = true) ∧ (sourceBusy s.dev w.hdr.src = true) ∧ (cmdsRun s.dev = true) ∧ (w.since + 30 * secNs < s.dev.time.now) ∧ ((∀ f ∈ s.dev.host.inflight, f.cid < s.dev.host.nextCid)))
    ∧ (∃ (c : Compl) (rest : List Compl) (r : Nat) (s : State),
    (s.dev.host.holding = c :: rest) ∧ (complRing s.dev c.cring = some r) ∧ (ringFull s.dev r = true))
    ∧ (∃ (c : Compl) (rest : List Compl) (r : Nat) (s : State),
    (s.dev.host.holding = c :: rest) ∧ (complRing s.dev c.cring = some r) ∧ (ringFull s.dev r = false)) :=
  ⟨⟨(hdrAt 3000), (.setAir 5 50), 3000, (stateOf pf), by decide +kernel⟩,
   ⟨(hdrAt 3000), 0, 3000, (stateOf pf), by decide +kernel⟩,
   ⟨(stateOf rb), by decide +kernel⟩,
   ⟨{wt with hdr := hostHdr}, (stateOf {rb with host := {rb.host with waitQ := [{wt with hdr := hostHdr}]}}), by decide +kernel⟩,
   ⟨(stateOf {rb with host := {rb.host with waitQ := [wt], inflight := [⟨4,.host,3,0,5,false⟩]}}), by decide +kernel⟩,
   ⟨wt, (stateOf {{rb with time := {rb.time with now := 40000000000}} with host := {rb.host with waitQ := [wt], inflight := [⟨4,.host,3,0,5,false⟩]}}), by decide +kernel⟩,
   ⟨cm, [cm, cm], 1, (stateOf { withRegs [(ringA 1+0x18, 0x11)] rb2 with host := {rb2.host with holding := [cm, cm, cm]}}), by decide +kernel⟩,
   ⟨cm, [cm, cm], 1, (stateOf {rb with host := {rb.host with holding := [cm, cm, cm]}}), by decide +kernel⟩⟩

theorem test_hyps_ModesChangeAsTransitionsAndFaultsSay :
    (∃ (t : Trans) (s : State),
    (s.dev.sys.running = some t) ∧ (t.phase = .ready) ∧ (t.target ≠ .stop) ∧ (t.target ≠ .config) ∧ (s.dev.sys.pendReq = none) ∧ (s.dev.pair.resyncSelf = false))
    ∧ (∃ (t : Trans) (s : State),
    (s.dev.sys.running = some t) ∧ (t.phase = .ready) ∧ (t.target = .config) ∧ (s.dev.sys.pendReq = none) ∧ (s.dev.pair.resyncSelf = false) ∧ (s.dev.age.margins = []) ∧ (s.dev.age.nextMhz = none))
    ∧ (∃ (s : State),
    ((∃ c ∈ s.dev.sys.newCauses, c ≠ 3)) ∧ (rendering s.dev = true) ∧ (s.dev.pair.join = none) ∧ (s.dev.sys.running = none) ∧ (s.dev.sys.sched = none) ∧ (s.dev.sys.pendReq = none))
    ∧ (∃ (s : State),
    (s.dev.sys.newCauses = []))
    ∧ (∃ (s : State),
    (s.dev.time.counting = true) ∧ (s.dev.sys.nearEndNext ≤ s.dev.time.qn))
    ∧ (∃ (s : State),
    (s.dev.time.counting = true) ∧ (2 ^ 40 - 1 ≤ s.dev.time.qn) ∧ (bitAt s.dev 0x230 8 = false) ∧ (s.dev.pair.join = none) ∧ (s.dev.sys.running = none) ∧ (s.dev.sys.sched = none) ∧ (s.dev.sys.pendReq = none))
    ∧ (∃ (n : Nat),
    (1 ≤ n) ∧ (n ≤ 10)) :=
  ⟨⟨tr, (stateOf (run tr centralDev)), by decide +kernel⟩,
   ⟨{tr with target := .config}, (stateOf (run {tr with target := .config} centralDev)), by decide +kernel⟩,
   ⟨(stateOf {centralDev with sys := {centralDev.sys with newCauses := [9, 5], rampUp := true}}), by decide +kernel⟩,
   ⟨(stateOf centralDev), by decide +kernel⟩,
   ⟨(stateOf {centralDev with time := {centralDev.time with qn := 2^40-2^31+3*2^24}}), by decide +kernel⟩,
   ⟨(stateOf {centralDev with time := {centralDev.time with qn := 2^40-1}}), by decide +kernel⟩,
   ⟨10, by decide +kernel⟩⟩

theorem test_hyps_RampsLeadToTheNextPhase :
    (∃ (t : Trans) (s : State),
    let d := transPhase .cmRampUp (drvAllUp s.dev)
    (s.dev.sys.running = some t) ∧ (t.phase = .preroll) ∧ (t.target ≠ .survey) ∧ (cmBusy d = true))
    ∧ (∃ (t : Trans) (s : State),
    let d := transPhase .cmRampUp (drvAllUp s.dev)
    (s.dev.sys.running = some t) ∧ (t.phase = .preroll) ∧ (t.target ≠ .survey) ∧ (cmBusy d = false))
    ∧ (∃ (t : Trans) (s : State),
    (s.dev.sys.running = some t) ∧ (t.phase = .preroll) ∧ (t.target = .survey))
    ∧ (∃ (t : Trans) (s : State),
    (s.dev.sys.running = some t) ∧ (t.phase = .outputRampUp))
    ∧ (∃ (t : Trans) (s : State),
    (s.dev.sys.running = some t) ∧ (t.phase = .outputRampDown) ∧ (t.target = .safe))
    ∧ (∃ (t : Trans) (s : State),
    let d := transPhase .cmRampDown (drvAllDown s.dev)
    (s.dev.sys.running = some t) ∧ (t.phase = .outputRampDown) ∧ (t.target ≠ .safe) ∧ (cmBusy d = true))
    ∧ (∃ (t : Trans) (s : State),
    let d := transPhase .cmRampDown (drvAllDown s.dev)
    (s.dev.sys.running = some t) ∧ (t.phase = .outputRampDown) ∧ (t.target ≠ .safe) ∧ (cmBusy d = false))
    ∧ (∃ (c : Nat) (m : CmRamp) (s : State),
    ((drvCh s.dev c).ramp = some m) ∧ (c ∈ drvMembers s.dev c) ∧ (s.dev.sys.running = none)) :=
  ⟨⟨(tp .preroll .edge), (stateOf (run (tp .preroll .edge) (withRegs [(drvA 2, 1)] {configDev with drv := {configDev.drv with chans := [(2, {ran := true, wantUp := true, retrying := true})]}}))), by decide +kernel⟩,
   ⟨(tp .preroll .central), (stateOf (run (tp .preroll .central) configDev)), by decide +kernel⟩,
   ⟨(tp .preroll .survey), (stateOf (run (tp .preroll .survey) configDev)), by decide +kernel⟩,
   ⟨(tp .outputRampUp .central), (stateOf (run (tp .outputRampUp .central) configDev)), by decide +kernel⟩,
   ⟨(tp .outputRampDown .safe), (stateOf (run (tp .outputRampDown .safe) centralDev)), by decide +kernel⟩,
   ⟨(tp .outputRampDown .config), (stateOf (run (tp .outputRampDown .config) (withRegs [(drvA 2, 1)] {centralDev with drv := {centralDev.drv with chans := [(2, {ran := true, state := 4})]}}))), by decide +kernel⟩,
   ⟨(tp .outputRampDown .config), (stateOf (run (tp .outputRampDown .config) centralDev)), by decide +kernel⟩,
   ⟨2, (mr true), (stateOf (dr true true)), by decide +kernel⟩⟩

theorem test_hyps_DomainFramesTellWhoIsPresent :
    (∃ (s : State),
    (s.dev.sys.mode = .config ∨ rendering s.dev = true) ∧ (s.dev.geom.availSent = false) ∧ (s.dev.plan.running = none) ∧ (s.dev.plan.pending = none) ∧ (s.dev.plan.heldSwap = none))
    ∧ (∃ (b : Bytes) (s : State),
    (domainOk s.dev b = false))
    ∧ (∃ (b : Bytes) (s : State),
    let i := beAt b 3 1 % 64
    (domainOk s.dev b = true) ∧ (i ≠ devIndex s.dev) ∧ (fget false s.dev.sys.absent i = false) ∧ ((beAt b 7 1).testBit 1 = false))
    ∧ (∃ (i : Nat) (s : State),
    (i < 64) ∧ (fget 0 s.dev.sys.heard i ≠ 0) ∧ (i ≠ devIndex s.dev) ∧ (role s.dev ≠ 1))
    ∧ (∃ (s : State),
    (fget 0 s.dev.sys.heard (devIndex s.dev) ≠ 0) ∧ (devIndex s.dev < 64)) :=
  ⟨⟨(stateOf centralDev), by decide +kernel⟩,
   ⟨[1,2], (stateOf centralDev), by decide +kernel⟩,
   ⟨df, (stateOf centralDev), by decide +kernel⟩,
   ⟨4, (stateOf { edgeDev with sys := {edgeDev.sys with heard := [(1, 5), (4, 6)]}}), by decide +kernel⟩,
   ⟨(stateOf { centralDev with sys := {centralDev.sys with heard := [(0, 5), (4, 6)], indexConflict := true}}), by decide +kernel⟩⟩

theorem test_hyps_SoftwareSteersTheCounter :
    (∃ (v : Nat),
    (0x1FFBE76D ≤ v) ∧ (v ≤ 0x20041893))
    ∧ (∃ (v : Nat),
    (v < 0x1FFBE76D ∨ 0x20041893 < v))
    ∧ (∃ (v : Nat) (s : State),
    (jumpGuard s.dev = false ∨ (sext 32 v).natAbs ≤ rdN s.dev 0x2000C))
    ∧ (∃ (v : Nat) (s : State),
    (jumpGuard s.dev = true) ∧ (rdN s.dev 0x2000C < (sext 32 v).natAbs) ∧ (s.dev.time.qualified = false))
    ∧ (∃ (v : Nat) (s : State),
    (rdN s.dev 0x2000C < (sext 32 v).natAbs) ∧ (s.dev.time.qualified = true))
    ∧ (∃ (v : Nat) (s : State),
    (s.dev.sys.mode = .config) ∧ (v < secNs))
    ∧ (∃ (s : State),
    (s.dev.sys.mode ≠ .config))
    ∧ (∃ (v : Nat) (s : State),
    let e := (rdN s.dev 0x20044 + rdN s.dev 0x20048 % 65536 * 2 ^ 32) * secNs + v
    (s.dev.sys.mode = .config) ∧ (v < secNs) ∧ ((s.dev.time.pt - e) * fsHz s.dev / (32 * secNs) < 2 ^ 40 - 2 ^ 31))
    ∧ (∃ (v : Nat) (s : State),
    (s.dev.sys.mode = .config) ∧ (secNs ≤ v))
    ∧ (∃ (s : State),
    (0 < slewTick s.dev) ∧ (s.dev.sys.mode ≠ .stop)) :=
  ⟨⟨0x20041893, by decide +kernel⟩,
   ⟨0x20041894, by decide +kernel⟩,
   ⟨0xFFFFFFF0, (stateOf (tq true centralDev)), by decide +kernel⟩,
   ⟨0xFFFF0000, (stateOf (tq false centralDev)), by decide +kernel⟩,
   ⟨0xFFFF0000, (stateOf (tq true centralDev)), by decide +kernel⟩,
   ⟨5, (stateOf (let d := (tq true configDev); {d with time := {d.time with setLo := 9, setHi := 1}})), by decide +kernel⟩,
   ⟨(stateOf (let d := (tq true centralDev); {d with time := {d.time with setLo := 9, setHi := 1}})), by decide +kernel⟩,
   ⟨5, (stateOf (tq true configDev)), by decide +kernel⟩,
   ⟨1000000000, (stateOf (withRegs [(0x20044, 7)] configDev)), by decide +kernel⟩,
   ⟨(stateOf (tq true configDev)), by decide +kernel⟩⟩

theorem test_hyps_TheTimeServiceFollowsItsMaster :
    (∃ (p dom origin : Nat) (s : State),
    let rx := rxStamp s.dev p
    let off := rx - (origin : Int) - (rdN s.dev 0x2002C : Int)
    (ptpTakes s.dev p dom = true) ∧ (8 ≤ fget 1 s.dev.time.portStates p) ∧ (s.dev.time.holdover = false) ∧ (off.natAbs ≤ 1000) ∧ (off.natAbs ≤ rdN s.dev 0x2000C))
    ∧ (∃ (p dom : Nat) (s : State),
    (ptpTakes s.dev p dom = true))
    ∧ (∃ (p dom seq origin : Nat) (rx : Int) (s : State),
    let off := rx - (origin : Int) - (rdN s.dev 0x2002C : Int)
    (ptpTakes s.dev p dom = true) ∧ (fget? s.dev.time.ptp.syncRx p = some (seq, rx)) ∧ (8 ≤ fget 1 s.dev.time.portStates p) ∧ (s.dev.time.holdover = false) ∧ (off.natAbs ≤ 1000) ∧ (off.natAbs ≤ rdN s.dev 0x2000C))
    ∧ (∃ (p dom seq t3 : Nat) (s : State),
    (ptpTakes s.dev p dom = true) ∧ (bitAt s.dev 0x20000 3 = false) ∧ (sentTime s.dev p 1 seq = some t3))
    ∧ (∃ (p dom seq t1 : Nat) (s : State),
    (ptpTakes s.dev p dom = true) ∧ (bitAt s.dev 0x20000 3 = true) ∧ (sentTime s.dev p 2 seq = some t1))
    ∧ (∃ (ns : Nat) (s : State),
    (ptpRuns s.dev = true) ∧ (ns < 2 ^ 32))
    ∧ (∃ (st : Nat) (s : State),
    (ptpRuns s.dev = true) ∧ ((st = 6 → bitAt s.dev 0x20000 2 = false)))
    ∧ (∃ (s : State),
    (ptpRuns s.dev = true) ∧ (s.dev.time.qualified = true) ∧ (s.dev.time.holdover = false))
    ∧ (∃ (p : Nat) (b : Bytes) (s : State),
    let type := beAt b 0 1 % 16
    (ptpRuns s.dev = true) ∧ (ptpPort s.dev p = true) ∧ (followUpOf type = none))
    ∧ (∃ (p : Nat) (s : State),
    (ptpRuns s.dev = true) ∧ (fget 1 s.dev.time.portStates p = 9) ∧ (bitAt s.dev 0x20000 2 = true) ∧ (s.dev.time.qualified = true) ∧ (s.dev.time.holdover = false) ∧ ((∀ e ∈ s.dev.time.ptp.best, e.1 = p)) ∧ ((∀ k, k < 4 → k ≠ p → fget 1 s.dev.time.portStates k < 8)))
    ∧ (∃ (p : Nat) (s : State),
    (ptpRuns s.dev = true) ∧ (fget 1 s.dev.time.portStates p = 8) ∧ ((∀ e ∈ s.dev.time.ptp.best, e.1 = p)) ∧ ((∀ k, k < 4 → k ≠ p → fget 1 s.dev.time.portStates k < 8)))
    ∧ (∃ (s : State),
    let sum := s.dev.time.thetaSum
    let cnt := s.dev.time.thetaCnt
    let mean := divEven sum cnt
    (s.dev.time.holdover = true) ∧ (s.dev.time.thetaCnt ≠ 0) ∧ (mean.natAbs ≤ rdN s.dev 0x2000C))
    ∧ (∃ (s : State),
    (s.dev.time.holdover = true) ∧ (s.dev.time.holdExpired = false) ∧ (rdN s.dev 0x20058 ≤ s.dev.time.holdAge)) :=
  ⟨⟨1, 0, (5000000000-100), (stateOf (ps [(1,8)] (pt centralDev))), by decide +kernel⟩,
   ⟨1, 0, (stateOf (pt centralDev)), by decide +kernel⟩,
   ⟨1, 0, 6, (5000000000-100), 5000000000, (stateOf (pp {syncRx := [(1,(6,5000000000))]} (ps [(1,9)] (pt centralDev)))), by decide +kernel⟩,
   ⟨1, 0, 6, 4999999000, (stateOf (pp {sent := [(17,(6,4999999000))], toSlave := [(1, 77)]} (pt centralDev))), by decide +kernel⟩,
   ⟨1, 0, 6, 4999999000, (stateOf (pp {sent := [(18,(6,4999999000))]} (withRegs [(0x20000, 0xCF)] (pt centralDev)))), by decide +kernel⟩,
   ⟨77, (stateOf (pt centralDev)), by decide +kernel⟩,
   ⟨9, (stateOf (pt centralDev)), by decide +kernel⟩,
   ⟨(stateOf (pt centralDev)), by decide +kernel⟩,
   ⟨1, (zeros 70), (stateOf (pt centralDev)), by decide +kernel⟩,
   ⟨2, (stateOf (ps [(2,9),(3,6)] (pt centralDev))), by decide +kernel⟩,
   ⟨2, (stateOf (ps [(2,8),(3,6)] (withRegs [(0x20000, 0xC3)] centralDev))), by decide +kernel⟩,
   ⟨(stateOf (pt {centralDev with time := {centralDev.time with holdover := true, thetaCnt := 3, thetaSum := -1000}})), by decide +kernel⟩,
   ⟨(stateOf (withRegs [(0x20058, 5)] (pt {centralDev with time := {centralDev.time with holdover := true, holdAge := 5}}))), by decide +kernel⟩⟩

theorem test_hyps_ClocksPulsesAndAlarms :
    (∃ (s : State),
    (s.dev.sys.mode ≠ .stop) ∧ (bitAt s.dev 0x20060 0 = true))
    ∧ (∃ (s : State),
    (s.dev.sys.mode ≠ .stop) ∧ (bitAt s.dev 0x20060 0 = false))
    ∧ (∃ (s : State),
    (s.dev.sys.mode ≠ .stop) ∧ (s.dev.time.lockA = false))
    ∧ (∃ (s : State),
    (s.dev.time.lockA = true))
    ∧ (∃ (s : State),
    (s.dev.time.lockB = true))
    ∧ (∃ (n v : Nat) (s : State),
    let a := pulseA n
    (n < 4) ∧ (v % 4 = 1) ∧ (v.testBit 3 = true) ∧ (2 ^ 16 ≤ v) ∧ (v < 2 ^ 32) ∧ (8 ≤ rdN s.dev (a + 0x14)) ∧ (rdN s.dev (a + 0x14) + 8 ≤ rdN s.dev (a + 0x10)) ∧ (1000 ≤ rdN s.dev (a + 0x10)) ∧ (rdN s.dev (a + 0x10) ≤ 4000000000))
    ∧ (∃ (n : Nat) (s : State),
    (s.dev.sys.mode ≠ .stop) ∧ ((pulse s.dev n).armed = true) ∧ ((pulse s.dev n).mode = 1) ∧ ((pulse s.dev n).fallAt = none) ∧ ((pulse s.dev n).next ≤ s.dev.time.pt))
    ∧ (∃ (n t : Nat) (s : State),
    ((pulse s.dev n).armed = false) ∧ ((pulse s.dev n).fallAt = some t) ∧ (t ≤ s.dev.time.pt))
    ∧ (∃ (n v : Nat),
    (n < 8) ∧ (v.testBit 0 = true) ∧ (v.testBit 1 = true) ∧ (v < 2 ^ 32))
    ∧ (∃ (n : Nat) (s : State),
    (n < 8) ∧ ((alarm s.dev n).armed = true) ∧ ((alarm s.dev n).byQn = false) ∧ (bitAt s.dev (alarmA n) 2 = false) ∧ ((alarm s.dev n).value ≤ s.dev.time.pt))
    ∧ (∃ (n : Nat) (s : State),
    let t := ticked s.dev (ticksTo (alarm s.dev n).value s.dev)
    (n < 8) ∧ ((alarm s.dev n).armed = true) ∧ ((alarm s.dev n).byQn = false) ∧ (s.dev.sys.mode ≠ .stop) ∧ (s.dev.time.pt < (alarm s.dev n).value) ∧ ((alarm s.dev n).value ≤ t.pt))
    ∧ (∃ (s : State),
    let t := ticked s.dev (ticksTo ((s.dev.time.pt / secNs + 1) * secNs) s.dev)
    ((∀ n, n < 4 → (pulse s.dev n).armed = false ∧ (pulse s.dev n).fallAt = none ∧ bitAt s.dev (pulseA n) 3 = false)) ∧ ((∀ n, n < 8 → (alarm s.dev n).armed = false)) ∧ (t.pt / secNs = s.dev.time.pt / secNs + 1) ∧ (t.pt % secNs < 3)) :=
  ⟨⟨(stateOf (withRegs [(0x20060, 1)] centralDev)), by decide +kernel⟩,
   ⟨(stateOf centralDev), by decide +kernel⟩,
   ⟨(stateOf (withRegs [(0x20060, 1)] centralDev)), by decide +kernel⟩,
   ⟨(stateOf {centralDev with time := {centralDev.time with lockA := true}}), by decide +kernel⟩,
   ⟨(stateOf {configDev with time := {centralDev.time with lockB := true}}), by decide +kernel⟩,
   ⟨2, 0x10009, (stateOf (pu 7 centralDev)), by decide +kernel⟩,
   ⟨2, (stateOf {centralDev with time := {centralDev.time with pulses := [(2, ⟨true, 1, 99, 5000, 20, 99, none⟩)]}}), by decide +kernel⟩,
   ⟨2, 88, (stateOf {centralDev with time := {centralDev.time with pulses := [(2, ⟨false, 1, 99, 5000, 20, 99, some 88⟩)]}}), by decide +kernel⟩,
   ⟨3, 0xF, by decide +kernel⟩,
   ⟨3, (stateOf (withRegs [(alarmA 3, 1)] {centralDev with time := {centralDev.time with alarms := [(3, ⟨true,false,60⟩)]}})), by decide +kernel⟩,
   ⟨3, (stateOf (withRegs [(alarmA 3, 1)] {centralDev with time := {centralDev.time with alarms := [(3, ⟨true,false,6000000000⟩)]}})), by decide +kernel⟩,
   ⟨(stateOf centralDev), by decide +kernel⟩⟩

theorem test_hyps_QuantaCountAndActivate :
    (∃ (s : State),
    let q := if s.dev.time.counting then s.dev.time.qn + 1 else 0
    let d := timeQuantum q (runToThen (reanchorStep q) (edgeOfQn s.dev q) s.dev)
    (q < 2 ^ 40) ∧ (d.sys.mode ≠ .stop))
    ∧ (∃ (s : State),
    let q := if s.dev.time.counting then s.dev.time.qn + 1 else 0
    let d := timeQuantum q (runToThen (reanchorStep q) (edgeOfQn s.dev q) s.dev)
    (q < 2 ^ 40) ∧ (d.sys.mode = .stop))
    ∧ (∃ (s : State),
    let q := if s.dev.time.counting then s.dev.time.qn + 1 else 0
    (2 ^ 40 ≤ q))
    ∧ (∃ (s : State),
    (s.dev.time.counting = true) ∧ (s.dev.time.qn + 1 < 2 ^ 40) ∧ (s.dev.sys.mode = .config) ∧ (s.dev.sys.newCauses = []) ∧ (s.dev.sys.sched = none) ∧ (s.dev.plan.active = none) ∧ (s.dev.plan.running = none) ∧ (s.dev.plan.pending = none) ∧ (s.dev.time.reanchors = []) ∧ (s.dev.route.gainWaits = []) ∧ (s.dev.route.sourceWaits = []) ∧ (s.dev.dec.chans = []) ∧ (s.dev.lupin.corr = []) ∧ (s.dev.lupin.finish = []) ∧ (s.dev.pwr.step = none) ∧ (s.dev.geom.airReqs = []) ∧ (s.dev.geom.availReqs = []) ∧ (s.dev.pair = {}) ∧ (s.dev.voice.present = []) ∧ (s.dev.voice.stagedUnset = []) ∧ (s.dev.voice.badLine = []) ∧ (s.dev.disp.store = []) ∧ (s.dev.disp.waitFrom = 0) ∧ ((∀ n, n < 4 → (pulse s.dev n).armed = false)) ∧ ((∀ n, n < 8 → (alarm s.dev n).armed = false)))
    ∧ (∃ (s : State),
    let q := s.dev.geom.nextAct
    let d := swapAt q (geomChanges q s.dev)
    (renderRuns s.dev = true) ∧ (s.dev.time.counting = true) ∧ (s.dev.geom.nextAct ≤ s.dev.time.qn) ∧ (s.dev.geom.nextAct ≤ 2 ^ 40 - 4) ∧ (s.dev.geom.fresh = false) ∧ (matchFits d q = true))
    ∧ (∃ (s : State),
    let q := s.dev.geom.nextAct
    let d := swapAt q (geomChanges q s.dev)
    (renderRuns s.dev = true) ∧ (s.dev.time.counting = true) ∧ (s.dev.geom.nextAct ≤ s.dev.time.qn) ∧ (s.dev.geom.nextAct ≤ 2 ^ 40 - 4) ∧ (s.dev.geom.fresh = false) ∧ (matchFits d q = false)) :=
  ⟨⟨(stateOf (qb centralDev)), by decide +kernel⟩,
   ⟨(stateOf {centralDev with sys := {centralDev.sys with mode := .stop}}), by decide +kernel⟩,
   ⟨(stateOf {centralDev with time := {centralDev.time with qn := 2^40 - 1}}), by decide +kernel⟩,
   ⟨(stateOf bq), by decide +kernel⟩,
   ⟨(stateOf (qb centralDev)), by decide +kernel⟩,
   ⟨(stateOf { qb centralDev with disp := { centralDev.disp with store := (List.range 16385).map fun i => (i, some (me 1 1)) } }), by decide +kernel⟩⟩

theorem test_hyps_ObjectsFollowTheirRecords :
    (∃ (b : Bytes) (q : Nat) (s : State),
    (bitAt s.dev 0x50000 1 = true) ∧ (mirrorsInputs s.dev = false) ∧ (metaAccept s.dev (padTo 32 b) = some q) ∧ (s.dev.geom.nextAct ≤ q) ∧ ((obj s.dev (metaObj (padTo 32 b))).recs = []))
    ∧ (∃ (s : State),
    (bitAt s.dev 0x50000 1 = false))
    ∧ (∃ (b : Bytes) (s : State),
    (bitAt s.dev 0x50000 1 = true) ∧ (mirrorsInputs s.dev = false) ∧ (metaAccept s.dev (padTo 32 b) = none))
    ∧ (∃ (k : Nat) (b : Bytes) (s : State),
    (k < 16) ∧ (ringRunning s.dev (17 + k) = true) ∧ (ringHeld s.dev (17 + k) ≠ 0) ∧ (metaFormatOk (padTo 32 b) = true) ∧ (bitAt s.dev 0x50000 0 = true) ∧ (mirrorsInputs s.dev = false))
    ∧ (∃ (o : Nat) (s : State),
    ((obj s.dev o).inPlan = true) ∧ ((obj s.dev o).live = true) ∧ ((obj s.dev o).frozen = false) ∧ ((obj s.dev o).lastRecQn + metaTimeout s.dev ≤ s.dev.geom.nextAct))
    ∧ (∃ (o k q : Nat) (x y z : Int) (s : State),
    ((obj s.dev o).move = .slot k q x y z) ∧ (q + fadeN s.dev ≤ s.dev.geom.nextAct))
    ∧ (∃ (o q : Nat) (x y z : Int) (s : State),
    ((obj s.dev o).move = .dip q x y z) ∧ (q + fadeN s.dev = s.dev.geom.nextAct) ∧ (0 < fadeN s.dev))
    ∧ (∃ (o : Nat) (up : Bool) (s : State),
    let q := availLeadQn s.dev
    (role s.dev = 1) ∧ (o < 512) ∧ ((mirrorsInputs s.dev = true → availTwin s.dev o up q = none)) ∧ (s.dev.geom.nextAct ≤ q) ∧ (availNew s.dev o up = true))
    ∧ (∃ (o : Nat) (up : Bool) (s : State),
    let q := availLeadQn s.dev
    (role s.dev = 1) ∧ (o < 512) ∧ ((mirrorsInputs s.dev = true → availTwin s.dev o up q = none)) ∧ (s.dev.geom.nextAct ≤ q) ∧ (availNew s.dev o up = false))
    ∧ (∃ (s : State),
    (role s.dev ≠ 1))
    ∧ (∃ (b : Bytes) (s : State),
    (b.length = 80) ∧ (beAt b 0 2 = 0x41) ∧ (role s.dev ≠ 1) ∧ ((∀ r, s.dev.geom.lastAvailSeq = some r → seqNewer 16 (beAt b 2 2) r = true)) ∧ ((∀ r ∈ s.dev.geom.availReqs, ∀ m, r.mask = some m → m.1 ≠ beAt b 2 2)) ∧ (s.dev.geom.nextAct ≤ beAt b 4 5))
    ∧ (∃ (b : Bytes) (r : Nat) (s : State),
    (s.dev.geom.lastAvailSeq = some r) ∧ (seqNewer 16 (beAt b 2 2) r = false))
    ∧ (∃ (b : Bytes) (s : State),
    (role s.dev = 2) ∧ (beAt b 0 2 = 0x0050) ∧ ((∀ r, s.dev.plan.lastSwapSeq = some r → seqNewer 16 (beAt b 2 2) r = true)) ∧ ((fget? s.dev.plan.held (beAt b 9 1)).isSome = true) ∧ (s.dev.geom.nextAct ≤ beAt b 4 5) ∧ (s.dev.plan.running = none) ∧ (s.dev.plan.pending = none)) :=
  ⟨⟨(mb 5 3), 3000, (stateOf (en 3 (ob centralDev))), by decide +kernel⟩,
   ⟨(stateOf (en 1 (ob centralDev))), by decide +kernel⟩,
   ⟨(mb 6 3), (stateOf (en 3 (ob centralDev))), by decide +kernel⟩,
   ⟨2, (mb 5 3), (stateOf (en 3 (rn 19 (ob centralDev)))), by decide +kernel⟩,
   ⟨5, (stateOf (withRegs [(0x50010, 100)] (ob centralDev))), by decide +kernel⟩,
   ⟨5, 3, 1460, 1, 2, 3, (stateOf (mv (.slot 3 1460 1 2 3) (ob centralDev))), by decide +kernel⟩,
   ⟨5, 1460, 1, 2, 3, (stateOf (mv (.dip 1460 1 2 3) (ob centralDev))), by decide +kernel⟩,
   ⟨7, false, (stateOf (qb {centralDev with pair := {centralDev.pair with state := 2}})), by decide +kernel⟩,
   ⟨7, true, (stateOf (qb centralDev)), by decide +kernel⟩,
   ⟨(stateOf (qb edgeDev)), by decide +kernel⟩,
   ⟨av, (stateOf (qb edgeDev)), by decide +kernel⟩,
   ⟨av, 9, (stateOf (let d := qb edgeDev; {d with geom := {d.geom with lastAvailSeq := some 9}})), by decide +kernel⟩,
   ⟨sw, (stateOf (qb edgeDev)), by decide +kernel⟩⟩

theorem test_hyps_OperandsReachTheirEntries :
    (∃ (q side g : Nat) (ops : List VOp) (rest : List (Nat × Nat × Nat × List VOp)) (s : State),
    (s.dev.geom.toPost = (q, side, g, ops) :: rest) ∧ (blockPlace s.dev ops.length = none))
    ∧ (∃ (side task q : Nat) (p : Nat × MatchEnt) (s : State),
    (findEntry s.dev side task q = some p) ∧ (p.2.arrived + 1 < p.2.declared))
    ∧ (∃ (side task q : Nat) (p : Nat × MatchEnt) (s : State),
    (findEntry s.dev side task q = some p) ∧ (p.2.arrived + 1 = p.2.declared))
    ∧ (∃ (side task q : Nat) (p : Nat × MatchEnt) (s : State),
    (findEntry s.dev side task q = some p) ∧ (p.2.declared ≤ p.2.arrived))
    ∧ (∃ (side task q : Nat) (s : State),
    (findEntry s.dev side task q = none))
    ∧ (∃ (p : Nat × MatchEnt) (s : State),
    ((entries s.dev).find? (fun x => decide (x.2.kind = 0) && decide (x.2.state = 3)) = some p))
    ∧ (∃ (i place : Nat) (e : MatchEnt) (s : State),
    (fget 0 s.dev.disp.peony i = place + 1) ∧ (matchAt s.dev place = some e)) :=
  ⟨⟨1500, 1, 4, [vo], [], (stateOf { centralDev with geom := {centralDev.geom with toPost := [(1500, 1, 4, [vo])]}, voice := {centralDev.voice with blocks := (List.range 96).map fun i => (i, ⟨4096 * i, opBlock.map (·.tag)⟩)} }), by decide +kernel⟩,
   ⟨1, 7, 1500, (3, me 1 1), (stateOf (di [(3, some (me 1 1))] tp2)), by decide +kernel⟩,
   ⟨1, 7, 1500, (3, {me 1 1 with arrived := 2}), (stateOf (di [(3, some {me 1 1 with arrived := 2})] tp2)), by decide +kernel⟩,
   ⟨1, 7, 1500, (3, {me 1 1 with arrived := 3}), (stateOf (di [(3, some {me 1 1 with arrived := 3})] tp2)), by decide +kernel⟩,
   ⟨1, 8, 1500, (stateOf (di [(3, some (me 1 1))] tp2)), by decide +kernel⟩,
   ⟨(3, me 0 3), (stateOf (di [(3, some (me 0 3)), (4, some {me 1 1 with arrived := 2})] tp2)), by decide +kernel⟩,
   ⟨5, 3, (me 1 3), (stateOf (let d := (di [(3, some (me 1 3)), (4, some {me 2 1 with arrived := 2})] tp2); {d with disp := {d.disp with peony := [(5, 4)]}})), by decide +kernel⟩⟩

theorem test_hyps_TheDispatcherPlacesQueuesAndCompletes :
    (∃ (place : Nat) (e : MatchEnt) (w : Placing) (s : State),
    (firstPlacing s.dev (readyTasks s.dev) = some (place, e, w)))
    ∧ (∃ (c : Nat) (s : State),
    (readyTasks s.dev = []) ∧ (resumable s.dev = some c))
    ∧ (∃ (c : Nat) (it : Item) (s : State),
    (readyTasks s.dev = []) ∧ (resumable s.dev = none) ∧ (nextCompat s.dev = none) ∧ (nextBackground s.dev = some (it, c)))
    ∧ (∃ (c w : Nat) (s : State),
    ((box s.dev c).state = 0 ∨ w ≠ (box s.dev c).word))
    ∧ (∃ (c w : Nat) (s : State),
    ((box s.dev c).state ≠ 0) ∧ (w = (box s.dev c).word) ∧ (w.testBit 14 = true ∨ w.testBit 15 = true) ∧ (bitAt s.dev 0x40000 1 = false))
    ∧ (∃ (k w place : Nat) (e : MatchEnt) (s : State),
    (w = (fget {} s.dev.disp.ctl k).word) ∧ (runningEntry s.dev 4 k w = some (place, e)) ∧ (bitAt s.dev 0x40000 1 = false))
    ∧ (∃ (place : Nat) (rest : List Nat) (e : MatchEnt) (s : State),
    (s.dev.disp.serviceQ = place :: rest) ∧ (matchAt s.dev place = some e))
    ∧ (∃ (k : Nat) (s : State),
    (s.dev.disp.serviceQ = []) ∧ (k ∉ s.dev.disp.takers))
    ∧ (∃ (k : Nat) (s : State),
    (k ∈ s.dev.disp.takers))
    ∧ (∃ (c w : Nat) (s : State),
    let a := acore s.dev c
    let b := box s.dev c
    (b.nextWord = some w) ∧ (a.status = 1) ∧ (a.rep = 0) ∧ (a.delay = 0) ∧ (b.state = 2 ∨ b.state = 3))
    ∧ (∃ (s : State),
    (rdN s.dev 0x40224 % 65536 = 0))
    ∧ (∃ (s : State),
    (rdN s.dev 0x40224 % 65536 ≠ 0) ∧ (256 ≤ s.dev.disp.bgQ.length))
    ∧ (∃ (s : State),
    (rdN s.dev 0x40224 % 65536 ≠ 0) ∧ (s.dev.disp.bgQ.length < 256))
    ∧ (∃ (q : Nat) (s : State),
    (q < 8) ∧ (bitAt s.dev 0x40000 0 = false ∨ rdN s.dev 0x40324 % 65536 = 0))
    ∧ (∃ (q : Nat) (s : State),
    (q < 8) ∧ (bitAt s.dev 0x40000 0 = true) ∧ (rdN s.dev 0x40324 % 65536 ≠ 0) ∧ ((fget [] s.dev.disp.cq q).length < 1024))
    ∧ (∃ (q : Nat) (s : State),
    (q < 8) ∧ (bitAt s.dev 0x40000 0 = true) ∧ (rdN s.dev 0x40324 % 65536 ≠ 0) ∧ (1024 ≤ (fget [] s.dev.disp.cq q).length))
    ∧ (∃ (v : Nat),
    (v < 16384))
    ∧ (∃ (v : Nat) (s : State),
    (v < 2 ^ 32) ∧ (s.dev.disp.store.length < 2 ^ 32)) :=
  ⟨⟨3, (me 1 2), (.peony 0), (stateOf (di [(3, some (me 1 2))] tp2)), by decide +kernel⟩,
   ⟨2, (stateOf (bx {heldState := 2, heldWord := 77, heldRef := 3, heldArg := 4} (ac centralDev))), by decide +kernel⟩,
   ⟨2, itm, (stateOf (let d := ac centralDev; {d with disp := {d.disp with bgQ := [itm, itm]}})), by decide +kernel⟩,
   ⟨2, 78, (stateOf (bx {state := 2, word := 77} (ac centralDev))), by decide +kernel⟩,
   ⟨2, 0x4007, (stateOf (bx {state := 2, word := 0x4007} (ac centralDev))), by decide +kernel⟩,
   ⟨3, (taskWord (me 4 3)), 9, ({me 4 3 with unit := 3}), (stateOf (let d := di [(9, some {me 4 3 with unit := 3})] centralDev; {d with disp := {d.disp with ctl := [(3, {word := taskWord (me 4 3), ref := 5})]}})), by decide +kernel⟩,
   ⟨9, [4], (me 4 2), (stateOf (let d := di [(9, some (me 4 2))] centralDev; {d with disp := {d.disp with serviceQ := [9, 4]}})), by decide +kernel⟩,
   ⟨3, (stateOf centralDev), by decide +kernel⟩,
   ⟨1, (stateOf centralDev), by decide +kernel⟩,
   ⟨2, 88, (stateOf (bx {state := 2, word := 77, nextWord := some 88, nextQn := 5, nextRef := 6} (ac centralDev))), by decide +kernel⟩,
   ⟨(stateOf (withRegs [(0x40224, 0x30000), (0x40220, 8)] centralDev)), by decide +kernel⟩,
   ⟨(stateOf (withRegs [(0x40224, 0xFF), (0x40220, 8)] (let d := centralDev; {d with disp := {d.disp with bgQ := List.replicate 256 itm}}))), by decide +kernel⟩,
   ⟨(stateOf (withRegs [(0x40224, 0xFF), (0x40220, 8)] centralDev)), by decide +kernel⟩,
   ⟨7, (stateOf (withRegs [(0x40324, 0xFF), (0x40320, 8)] centralDev)), by decide +kernel⟩,
   ⟨7, (stateOf (withRegs [(0x40000, 1), (0x40324, 0xFF), (0x40320, 8)] centralDev)), by decide +kernel⟩,
   ⟨7, (stateOf (withRegs [(0x40000, 1), (0x40324, 0xFF), (0x40320, 8)] (let d := centralDev; {d with disp := {d.disp with cq := [(7, List.replicate 1024 itm)]}}))), by decide +kernel⟩,
   ⟨9, by decide +kernel⟩,
   ⟨9, (stateOf (withRegs [(0x4000C, 88)] (di [(9, some (me 4 2))] centralDev))), by decide +kernel⟩⟩

theorem test_hyps_SamplesAndDeadlines :
    (∃ (s : State),
    (s.dev.sys.mode ≠ .boot) ∧ (s.dev.sys.mode ≠ .stop) ∧ (s.dev.route.gainWaits = []) ∧ (s.dev.route.xfadeN = 0) ∧ ((routeProgram s.dev (routeGain s.dev) (activeRouting s.dev).program).2 = 0))
    ∧ (∃ (w : GainWait) (n : Nat) (s : State),
    (s.dev.route.gainWaits = [w]) ∧ (w.waited = some n) ∧ (routeT s.dev ≤ n))
    ∧ (∃ (side task q : Nat) (p : Nat × MatchEnt) (s : State),
    (findEntry s.dev side task q = some p) ∧ (p.2.late = false))
    ∧ (∃ (q : Nat) (s : State),
    (s.dev.disp.cutoffQn ≤ q) ∧ (quantumLate s.dev q = false))
    ∧ (∃ (q : Nat) (s : State),
    (s.dev.disp.cutoffQn ≤ q) ∧ (quantumLate s.dev q = true))
    ∧ (∃ (s : State),
    (8 ≤ s.dev.disp.lateRun))
    ∧ (∃ (s : State),
    (s.dev.disp.lateRun < 8)) :=
  ⟨⟨(stateOf br), by decide +kernel⟩,
   ⟨gw, 960, (stateOf {centralDev with route := {centralDev.route with gainWaits := [gw]}, host := {centralDev.host with inflight := [⟨4,.host,3,0,5,false⟩]}}), by decide +kernel⟩,
   ⟨1, 7, 1500, (3, me 1 1), (stateOf (di [(3, some (me 1 1))] tp2)), by decide +kernel⟩,
   ⟨1500, (stateOf {centralDev with disp := {centralDev.disp with lateRun := 3, cutoffQn := 77}}), by decide +kernel⟩,
   ⟨1500, (stateOf (di [(3, some (me 2 1))] {centralDev with disp := {centralDev.disp with lateRun := 3, cutoffQn := 77}})), by decide +kernel⟩,
   ⟨(stateOf (di [(3, some (me 2 1))] {centralDev with disp := {centralDev.disp with lateRun := 8, cutoffQn := 77}})), by decide +kernel⟩,
   ⟨(stateOf (di [(3, some (me 2 1))] {centralDev with disp := {centralDev.disp with lateRun := 7, cutoffQn := 77}})), by decide +kernel⟩⟩

theorem test_hyps_BundlesIssueWaitOrFault :
    (∃ (c v : Nat) (s : State),
    (c < 16) ∧ (s.dev.sys.mode = .boot ∨ s.dev.sys.mode = .config) ∧ (bits v 7 4 ≤ 13) ∧ (v.testBit 0 = true) ∧ (bitAt s.dev (asterA c) 0 = false))
    ∧ (∃ (c v : Nat) (s : State),
    (c < 16) ∧ (s.dev.sys.mode = .boot ∨ s.dev.sys.mode = .config) ∧ (bits v 7 4 ≤ 13) ∧ (v.testBit 0 = false) ∧ (bitAt s.dev (asterA c) 0 = true))
    ∧ (∃ (c v : Nat) (s : State),
    (c < 16) ∧ (s.dev.sys.mode = .boot ∨ s.dev.sys.mode = .config) ∧ (13 < bits v 7 4))
    ∧ (∃ (c : Nat) (s : State),
    (c < 16) ∧ (s.dev.sys.mode ≠ .boot) ∧ (s.dev.sys.mode ≠ .config))
    ∧ (∃ (i : Instr) (b : Bundle) (s : State),
    (bundleOf i = some b) ∧ (Issuable b s) ∧ (b.alu.kind ≠ .done))
    ∧ (∃ (i : Instr) (b : Bundle) (cause addr : Nat) (s : State),
    (bundleOf i = some b) ∧ (b.core < 16) ∧ ((acore s.dev b.core).status = 1) ∧ ((acore s.dev b.core).idle = false) ∧ (bundleFault (landed b s) b.core (coreOf b s) b = some (cause, addr)))
    ∧ (∃ (i : Instr) (b : Bundle) (s : State),
    (bundleOf i = some b) ∧ (b.core < 16) ∧ ((acore s.dev b.core).status = 1) ∧ ((acore s.dev b.core).idle = false) ∧ (bundleFault (landed b s) b.core (coreOf b s) b = none) ∧ (bundleWaits (landed b s) b.core b = true))
    ∧ (∃ (i : Instr) (b : Bundle) (s : State),
    (bundleOf i = some b) ∧ ((acore s.dev b.core).status ≠ 1 ∨ (acore s.dev b.core).idle = true)) :=
  ⟨⟨2, 0x23, (stateOf (ac2 {pc := 8, g := [(1,2)], badWord := [(1, true)]} configDev)), by decide +kernel⟩,
   ⟨2, 0x22, (stateOf (withRegs [(asterA 2, 0x23)] (ac2 {status := 1, pc := 8, g := [(1,2)], badWord := [(1, true)]} configDev))), by decide +kernel⟩,
   ⟨2, 0xE3, (stateOf (ac2 {pc := 8} configDev)), by decide +kernel⟩,
   ⟨2, (stateOf (ac2 {pc := 8} centralDev)), by decide +kernel⟩,
   ⟨(.sub 1 2 eb), (eb.withAlu ⟨.sub, 1, 2, 0, 0⟩), (ec e1), by decide +kernel⟩,
   ⟨(.brk {core := 2}), {core := 2, alu := {kind := .brk}}, fBreak, 0, (stateOf (ac2 {status := 1} centralDev)), by decide +kernel⟩,
   ⟨(.xwait 0 {core := 2}), {core := 2, alu := ⟨.xwait, 0, 0, 0, 0⟩}, (stateOf (ac2 {status := 1, queueB := [⟨64, 0, 128, 0x2000000000, 32, 2⟩]} centralDev)), by decide +kernel⟩,
   ⟨(.aluNop {core := 2}), {core := 2}, (stateOf (ac2 {status := 1, idle := true} centralDev)), by decide +kernel⟩⟩

theorem test_hyps_LoadsAndStoresReachTheTile :
    (∃ (y : Bool) (mode k r : Nat) (b : Bundle) (s : State),
    let l (x : LsKind) : Ls := ⟨x, mode, k, r⟩
    let bb (x : LsKind) : Bundle := b.withLs y (l x)
    ((y = true ∨ b.y.kind = .none)) ∧ (Issuable (bb .ldV) s))
    ∧ (∃ (y : Bool) (mode k r : Nat) (b : Bundle) (s : State),
    let l (x : LsKind) : Ls := ⟨x, mode, k, r⟩
    let bb (x : LsKind) : Bundle := b.withLs y (l x)
    ((y = true ∨ b.y.kind = .none)) ∧ (Issuable (bb .ldB) s))
    ∧ (∃ (y : Bool) (mode k r : Nat) (b : Bundle) (s : State),
    let l (x : LsKind) : Ls := ⟨x, mode, k, r⟩
    let bb (x : LsKind) : Bundle := b.withLs y (l x)
    ((y = true ∨ b.y.kind = .none)) ∧ (Issuable (bb .ldW) s))
    ∧ (∃ (y : Bool) (mode k r : Nat) (b : Bundle) (s : State),
    let l (x : LsKind) : Ls := ⟨x, mode, k, r⟩
    let bb (x : LsKind) : Bundle := b.withLs y (l x)
    ((y = true ∨ b.y.kind = .none)) ∧ (Issuable (bb .stV) s) ∧ (b.alu.kind ≠ .done))
    ∧ (∃ (y : Bool) (mode k r : Nat) (b : Bundle) (s : State),
    let l (x : LsKind) : Ls := ⟨x, mode, k, r⟩
    let bb (x : LsKind) : Bundle := b.withLs y (l x)
    ((y = true ∨ b.y.kind = .none)) ∧ (Issuable (bb .stW) s) ∧ (b.alu.kind ≠ .done)) :=
  ⟨⟨false, 0, 0, 1, eb, (ec e1), by decide +kernel⟩,
   ⟨false, 0, 0, 1, eb, (ec e1), by decide +kernel⟩,
   ⟨false, 0, 0, 1, eb, (ec e1), by decide +kernel⟩,
   ⟨false, 0, 0, 1, eb, (ec e1), by decide +kernel⟩,
   ⟨false, 0, 0, 1, eb, (ec e1), by decide +kernel⟩⟩

theorem test_hyps_AccumulatorsExtractionsAndExtremes :
    (∃ (n va vb : Nat) (b : Bundle) (s : State),
    let bb (k : MacKind) : Bundle := b.withMac ⟨k, n, va, vb⟩
    (Issuable (bb .vmul) s))
    ∧ (∃ (n va vb : Nat) (b : Bundle) (s : State),
    let bb (k : MacKind) : Bundle := b.withMac ⟨k, n, va, vb⟩
    (Issuable (bb .vmac) s))
    ∧ (∃ (n va vb : Nat) (b : Bundle) (s : State),
    let bb (k : MacKind) : Bundle := b.withMac ⟨k, n, va, vb⟩
    (Issuable (bb .vmsu) s))
    ∧ (∃ (n va vb : Nat) (b : Bundle) (s : State),
    let bb (k : MacKind) : Bundle := b.withMac ⟨k, n, va, vb⟩
    (Issuable (bb .vmacb) s))
    ∧ (∃ (n va vb : Nat) (b : Bundle) (s : State),
    let bb (k : MacKind) : Bundle := b.withMac ⟨k, n, va, vb⟩
    (Issuable (bb .vdot) s))
    ∧ (∃ (n va vb : Nat) (b : Bundle) (s : State),
    let bb (k : MacKind) : Bundle := b.withMac ⟨k, n, va, vb⟩
    (Issuable (bb .vdota) s))
    ∧ (∃ (n va vb : Nat) (b : Bundle) (s : State),
    let bb (k : MacKind) : Bundle := b.withMac ⟨k, n, va, vb⟩
    (Issuable (bb .vclr) s))
    ∧ (∃ (n va vb : Nat) (b : Bundle) (s : State),
    let bb (k : MacKind) : Bundle := b.withMac ⟨k, n, va, vb⟩
    (Issuable (bb .vlda) s))
    ∧ (∃ (n va vb : Nat) (b : Bundle) (s : State),
    let bb (k : MacKind) : Bundle := b.withMac ⟨k, n, va, vb⟩
    (Issuable (bb .vwra) s))
    ∧ (∃ (n va vb : Nat) (b : Bundle) (s : State),
    let bb (k : MacKind) : Bundle := b.withMac ⟨k, n, va, vb⟩
    ((b.alu.kind = .nop ∨ (b.alu.rd ≠ vb ∧ b.alu.rd ≠ vb + 1))) ∧ (Issuable (bb .vext) s))
    ∧ (∃ (n va vb : Nat) (b : Bundle) (s : State),
    let bb (k : MacKind) : Bundle := b.withMac ⟨k, n, va, vb⟩
    ((b.alu.kind = .nop ∨ (b.alu.rd ≠ vb ∧ b.alu.rd ≠ vb + 1))) ∧ (Issuable (bb .vextT) s))
    ∧ (∃ (n va vb : Nat) (b : Bundle) (s : State),
    let bb (k : MacKind) : Bundle := b.withMac ⟨k, n, va, vb⟩
    ((b.alu.kind = .nop ∨ (b.alu.rd ≠ vb ∧ b.alu.rd ≠ vb + 1))) ∧ (Issuable (bb .vext1) s))
    ∧ (∃ (n va vb : Nat) (b : Bundle) (s : State),
    let bb (k : MacKind) : Bundle := b.withMac ⟨k, n, va, vb⟩
    ((b.alu.kind = .nop ∨ (b.alu.rd ≠ vb ∧ b.alu.rd ≠ vb + 1))) ∧ (Issuable (bb .vext1T) s))
    ∧ (∃ (n va vb : Nat) (b : Bundle) (s : State),
    let bb (k : MacKind) : Bundle := b.withMac ⟨k, n, va, vb⟩
    ((b.alu.kind = .nop ∨ (b.alu.rd ≠ vb ∧ b.alu.rd ≠ vb + 1))) ∧ (Issuable (bb .vrda) s))
    ∧ (∃ (n va vb : Nat) (b : Bundle) (s : State),
    let bb (k : MacKind) : Bundle := b.withMac ⟨k, n, va, vb⟩
    ((b.alu.kind = .nop ∨ (b.alu.rd ≠ vb ∧ b.alu.rd ≠ vb + 1))) ∧ (Issuable (bb .vmaxIdx) s))
    ∧ (∃ (n va vb : Nat) (b : Bundle) (s : State),
    let bb (k : MacKind) : Bundle := b.withMac ⟨k, n, va, vb⟩
    ((b.alu.kind = .nop ∨ (b.alu.rd ≠ vb ∧ b.alu.rd ≠ vb + 1))) ∧ (Issuable (bb .vminIdx) s))
    ∧ (∃ (n va vb : Nat) (b : Bundle) (s : State),
    let bb (k : MacKind) : Bundle := b.withMac ⟨k, n, va, vb⟩
    ((b.alu.kind = .nop ∨ (b.alu.rd ≠ vb ∧ b.alu.rd ≠ vb + 1))) ∧ (Issuable (bb .vmaxaIdx) s)) :=
  ⟨⟨4, 2, 4, eb, (ec e12), by decide +kernel⟩,
   ⟨4, 2, 4, eb, (ec e12), by decide +kernel⟩,
   ⟨4, 2, 4, eb, (ec e12), by decide +kernel⟩,
   ⟨4, 2, 4, eb, (ec e12), by decide +kernel⟩,
   ⟨3, 2, 4, eb, (ec e1), by decide +kernel⟩,
   ⟨3, 2, 4, eb, (ec e1), by decide +kernel⟩,
   ⟨4, 2, 4, eb, (ec e12), by decide +kernel⟩,
   ⟨4, 2, 4, eb, (ec e12), by decide +kernel⟩,
   ⟨3, 2, 4, eb, (ec e1), by decide +kernel⟩,
   ⟨4, 2, 4, eb, (ec e12), by decide +kernel⟩,
   ⟨4, 2, 4, eb, (ec e12), by decide +kernel⟩,
   ⟨3, 2, 4, eb, (ec e1), by decide +kernel⟩,
   ⟨3, 2, 4, eb, (ec e1), by decide +kernel⟩,
   ⟨3, 2, 4, eb, (ec e1), by decide +kernel⟩,
   ⟨3, 2, 4, eb, (ec e1), by decide +kernel⟩,
   ⟨3, 2, 4, eb, (ec e1), by decide +kernel⟩,
   ⟨3, 2, 4, eb, (ec e1), by decide +kernel⟩⟩

theorem test_hyps_ScalarAndVectorOperationsGiveTheirResults :
    (∃ (b : Bundle) (s : State),
    (Issuable (b.withAlu ⟨.nop, 0, 0, 0, 0⟩) s))
    ∧ (∃ (rd ra : Nat) (b : Bundle) (s : State),
    let bb (k : AluKind) : Bundle := b.withAlu ⟨k, rd, ra, 0, 0⟩
    (Issuable (bb .mov) s))
    ∧ (∃ (rd ra : Nat) (b : Bundle) (s : State),
    let bb (k : AluKind) : Bundle := b.withAlu ⟨k, rd, ra, 0, 0⟩
    (Issuable (bb .add) s))
    ∧ (∃ (rd ra : Nat) (b : Bundle) (s : State),
    let bb (k : AluKind) : Bundle := b.withAlu ⟨k, rd, ra, 0, 0⟩
    (Issuable (bb .sub) s))
    ∧ (∃ (rd ra : Nat) (b : Bundle) (s : State),
    let bb (k : AluKind) : Bundle := b.withAlu ⟨k, rd, ra, 0, 0⟩
    let x (k : AluKind) : Int := sext 32 (rg (coreOf (bb k) s) rd)
    let y (k : AluKind) : Int := sext 32 (rg (coreOf (bb k) s) ra)
    (Issuable (bb .adds) s) ∧ (satOvf 32 (x .adds + y .adds) = true))
    ∧ (∃ (rd ra : Nat) (b : Bundle) (s : State),
    let bb (k : AluKind) : Bundle := b.withAlu ⟨k, rd, ra, 0, 0⟩
    (Issuable (bb .and) s))
    ∧ (∃ (rd ra : Nat) (b : Bundle) (s : State),
    let bb (k : AluKind) : Bundle := b.withAlu ⟨k, rd, ra, 0, 0⟩
    (Issuable (bb .or) s))
    ∧ (∃ (rd ra : Nat) (b : Bundle) (s : State),
    let bb (k : AluKind) : Bundle := b.withAlu ⟨k, rd, ra, 0, 0⟩
    (Issuable (bb .xor) s))
    ∧ (∃ (rd ra : Nat) (b : Bundle) (s : State),
    let bb (k : AluKind) : Bundle := b.withAlu ⟨k, rd, ra, 0, 0⟩
    (Issuable (bb .sll) s))
    ∧ (∃ (rd ra : Nat) (b : Bundle) (s : State),
    let bb (k : AluKind) : Bundle := b.withAlu ⟨k, rd, ra, 0, 0⟩
    (Issuable (bb .srl) s))
    ∧ (∃ (rd ra : Nat) (b : Bundle) (s : State),
    let bb (k : AluKind) : Bundle := b.withAlu ⟨k, rd, ra, 0, 0⟩
    (Issuable (bb .sra) s))
    ∧ (∃ (rd ra : Nat) (b : Bundle) (s : State),
    let bb (k : AluKind) : Bundle := b.withAlu ⟨k, rd, ra, 0, 0⟩
    (Issuable (bb .min) s))
    ∧ (∃ (rd ra : Nat) (b : Bundle) (s : State),
    let bb (k : AluKind) : Bundle := b.withAlu ⟨k, rd, ra, 0, 0⟩
    (Issuable (bb .max) s))
    ∧ (∃ (rd ra : Nat) (b : Bundle) (s : State),
    let bb (k : AluKind) : Bundle := b.withAlu ⟨k, rd, ra, 0, 0⟩
    (Issuable (bb .mul) s))
    ∧ (∃ (rd ra : Nat) (b : Bundle) (s : State),
    let bb (k : AluKind) : Bundle := b.withAlu ⟨k, rd, ra, 0, 0⟩
    (Issuable (bb .movp) s))
    ∧ (∃ (rd ra : Nat) (b : Bundle) (s : State),
    let bb (k : AluKind) : Bundle := b.withAlu ⟨k, rd, ra, 0, 0⟩
    (Issuable (bb .movm) s))
    ∧ (∃ (rd ra : Nat) (b : Bundle) (s : State),
    let bb (k : AluKind) : Bundle := b.withAlu ⟨k, rd, ra, 0, 0⟩
    (Issuable (bb .rdp) s))
    ∧ (∃ (rd ra : Nat) (b : Bundle) (s : State),
    let bb (k : AluKind) : Bundle := b.withAlu ⟨k, rd, ra, 0, 0⟩
    (Issuable (bb .rdm) s))
    ∧ (∃ (rd ra lane : Nat) (b : Bundle) (s : State),
    let bl (k : AluKind) : Bundle := b.withAlu ⟨k, rd, ra, lane, 0⟩
    (Issuable (bl .vlane) s))
    ∧ (∃ (rd ra lane : Nat) (b : Bundle) (s : State),
    let bl (k : AluKind) : Bundle := b.withAlu ⟨k, rd, ra, lane, 0⟩
    (Issuable (bl .vins) s))
    ∧ (∃ (rd ra : Nat) (b : Bundle) (s : State),
    let bb (k : AluKind) : Bundle := b.withAlu ⟨k, rd, ra, 0, 0⟩
    (Issuable (bb .vsplat) s))
    ∧ (∃ (rd ra : Nat) (b : Bundle) (s : State),
    let bb (k : AluKind) : Bundle := b.withAlu ⟨k, rd, ra, 0, 0⟩
    (Issuable (bb .vadds) s))
    ∧ (∃ (rd ra : Nat) (b : Bundle) (s : State),
    let bb (k : AluKind) : Bundle := b.withAlu ⟨k, rd, ra, 0, 0⟩
    (Issuable (bb .vsubs) s))
    ∧ (∃ (rd ra : Nat) (b : Bundle) (s : State),
    let bb (k : AluKind) : Bundle := b.withAlu ⟨k, rd, ra, 0, 0⟩
    (Issuable (bb .vabs) s))
    ∧ (∃ (rd ra : Nat) (b : Bundle) (s : State),
    let bb (k : AluKind) : Bundle := b.withAlu ⟨k, rd, ra, 0, 0⟩
    (Issuable (bb .vmaxv) s))
    ∧ (∃ (rd ra : Nat) (b : Bundle) (s : State),
    let bb (k : AluKind) : Bundle := b.withAlu ⟨k, rd, ra, 0, 0⟩
    (Issuable (bb .vminv) s))
    ∧ (∃ (rd ra : Nat) (b : Bundle) (s : State),
    let bb (k : AluKind) : Bundle := b.withAlu ⟨k, rd, ra, 0, 0⟩
    (Issuable (bb .vredmax) s))
    ∧ (∃ (rd ra : Nat) (b : Bundle) (s : State),
    let bb (k : AluKind) : Bundle := b.withAlu ⟨k, rd, ra, 0, 0⟩
    (Issuable (bb .vredmin) s))
    ∧ (∃ (rd ra : Nat) (b : Bundle) (s : State),
    let bb (k : AluKind) : Bundle := b.withAlu ⟨k, rd, ra, 0, 0⟩
    (Issuable (bb .mfs) s))
    ∧ (∃ (rd ra : Nat) (b : Bundle) (s : State),
    let bb (k : AluKind) : Bundle := b.withAlu ⟨k, rd, ra, 0, 0⟩
    (Issuable (bb .mts) s) ∧ (b.mac.kind = .none)) :=
  ⟨⟨eb, (ec e1), by decide +kernel⟩,
   ⟨3, 2, eb, (ec e1), by decide +kernel⟩,
   ⟨3, 2, eb, (ec e1), by decide +kernel⟩,
   ⟨3, 2, eb, (ec e1), by decide +kernel⟩,
   ⟨3, 2, eb, (ec e1), by decide +kernel⟩,
   ⟨3, 2, eb, (ec e1), by decide +kernel⟩,
   ⟨3, 2, eb, (ec e1), by decide +kernel⟩,
   ⟨3, 2, eb, (ec e1), by decide +kernel⟩,
   ⟨3, 2, eb, (ec e1), by decide +kernel⟩,
   ⟨3, 2, eb, (ec e1), by decide +kernel⟩,
   ⟨3, 2, eb, (ec e1), by decide +kernel⟩,
   ⟨3, 2, eb, (ec e1), by decide +kernel⟩,
   ⟨3, 2, eb, (ec e1), by decide +kernel⟩,
   ⟨3, 2, eb, (ec e1), by decide +kernel⟩,
   ⟨3, 2, eb, (ec e1), by decide +kernel⟩,
   ⟨3, 2, eb, (ec e1), by decide +kernel⟩,
   ⟨3, 2, eb, (ec e1), by decide +kernel⟩,
   ⟨3, 2, eb, (ec e1), by decide +kernel⟩,
   ⟨3, 2, 1, eb, (ec e1), by decide +kernel⟩,
   ⟨3, 2, 1, eb, (ec e1), by decide +kernel⟩,
   ⟨3, 2, eb, (ec e1), by decide +kernel⟩,
   ⟨3, 2, eb, (ec e1), by decide +kernel⟩,
   ⟨3, 2, eb, (ec e1), by decide +kernel⟩,
   ⟨3, 2, eb, (ec e1), by decide +kernel⟩,
   ⟨3, 2, eb, (ec e1), by decide +kernel⟩,
   ⟨3, 2, eb, (ec e1), by decide +kernel⟩,
   ⟨4, 2, eb, (ec e12), by decide +kernel⟩,
   ⟨4, 2, eb, (ec e12), by decide +kernel⟩,
   ⟨3, 2, eb, (ec e1), by decide +kernel⟩,
   ⟨3, 2, eb, (ec e1), by decide +kernel⟩⟩

theorem test_hyps_ImmediatesBranchesAndLoops :
    (∃ (rd ra imm : Nat) (b : Bundle) (s : State),
    let bb (k : AluKind) : Bundle := b.withAlu ⟨k, rd, ra, imm, 0⟩
    (Issuable (bb .addi) s))
    ∧ (∃ (rd ra imm : Nat) (b : Bundle) (s : State),
    let bb (k : AluKind) : Bundle := b.withAlu ⟨k, rd, ra, imm, 0⟩
    (Issuable (bb .andi) s))
    ∧ (∃ (rd ra imm : Nat) (b : Bundle) (s : State),
    let bb (k : AluKind) : Bundle := b.withAlu ⟨k, rd, ra, imm, 0⟩
    (Issuable (bb .ori) s))
    ∧ (∃ (rd ra imm : Nat) (b : Bundle) (s : State),
    let bb (k : AluKind) : Bundle := b.withAlu ⟨k, rd, ra, imm, 0⟩
    (Issuable (bb .xori) s))
    ∧ (∃ (rd ra imm : Nat) (b : Bundle) (s : State),
    let bb (k : AluKind) : Bundle := b.withAlu ⟨k, rd, ra, imm, 0⟩
    (Issuable (bb .slli) s))
    ∧ (∃ (rd ra imm : Nat) (b : Bundle) (s : State),
    let bb (k : AluKind) : Bundle := b.withAlu ⟨k, rd, ra, imm, 0⟩
    (Issuable (bb .srli) s))
    ∧ (∃ (rd ra imm : Nat) (b : Bundle) (s : State),
    let bb (k : AluKind) : Bundle := b.withAlu ⟨k, rd, ra, imm, 0⟩
    (Issuable (bb .srai) s))
    ∧ (∃ (imm : Nat) (b : Bundle) (s : State),
    (Issuable (b.withAlu ⟨.setxi, 0, 0, imm, 0⟩) s))
    ∧ (∃ (rd ra imm : Nat) (b : Bundle) (s : State),
    let bb (k : AluKind) : Bundle := b.withAlu ⟨k, rd, ra, imm, 0⟩
    (Issuable (bb .beq) s))
    ∧ (∃ (rd ra imm : Nat) (b : Bundle) (s : State),
    let bb (k : AluKind) : Bundle := b.withAlu ⟨k, rd, ra, imm, 0⟩
    (Issuable (bb .bne) s))
    ∧ (∃ (rd ra imm : Nat) (b : Bundle) (s : State),
    let bb (k : AluKind) : Bundle := b.withAlu ⟨k, rd, ra, imm, 0⟩
    (Issuable (bb .blt) s))
    ∧ (∃ (rd ra imm : Nat) (b : Bundle) (s : State),
    let bb (k : AluKind) : Bundle := b.withAlu ⟨k, rd, ra, imm, 0⟩
    (Issuable (bb .bge) s))
    ∧ (∃ (rd ra imm : Nat) (b : Bundle) (s : State),
    let bb (k : AluKind) : Bundle := b.withAlu ⟨k, rd, ra, imm, 0⟩
    (Issuable (bb .bltu) s))
    ∧ (∃ (rd ra imm : Nat) (b : Bundle) (s : State),
    let bb (k : AluKind) : Bundle := b.withAlu ⟨k, rd, ra, imm, 0⟩
    (Issuable (bb .bgeu) s))
    ∧ (∃ (imm : Nat) (b : Bundle) (s : State),
    (Issuable (b.withAlu ⟨.jmp, 0, 0, imm, 0⟩) s))
    ∧ (∃ (ra : Nat) (b : Bundle) (s : State),
    (Issuable (b.withAlu ⟨.jmpr, 0, ra, 0, 0⟩) s))
    ∧ (∃ (imm : Nat) (b : Bundle) (s : State),
    (Issuable (b.withAlu ⟨.call, 0, 0, imm, 0⟩) s))
    ∧ (∃ (n : Nat) (b : Bundle) (s : State),
    let bb (u : Alu) : Bundle := b.withAlu u
    ((acore s.dev b.core).br = none) ∧ (Issuable (bb ⟨.rep, 0, 0, 0, n⟩) s))
    ∧ (∃ (ra : Nat) (b : Bundle) (s : State),
    let bb (u : Alu) : Bundle := b.withAlu u
    ((acore s.dev b.core).br = none) ∧ (Issuable (bb ⟨.repr, 0, ra, 0, 0⟩) s))
    ∧ (∃ (b : Bundle) (s : State),
    let bb (u : Alu) : Bundle := b.withAlu u
    ((acore s.dev b.core).br = none) ∧ (Issuable (bb ⟨.leave, 0, 0, 0, 0⟩) s))
    ∧ (∃ (b : Bundle) (s : State),
    let bb (u : Alu) : Bundle := b.withAlu u
    ((acore s.dev b.core).br = none) ∧ (Issuable (bb ⟨.rti, 0, 0, 0, 0⟩) s)) :=
  ⟨⟨3, 2, 17, eb, (ec e1), by decide +kernel⟩,
   ⟨3, 2, 17, eb, (ec e1), by decide +kernel⟩,
   ⟨3, 2, 17, eb, (ec e1), by decide +kernel⟩,
   ⟨3, 2, 17, eb, (ec e1), by decide +kernel⟩,
   ⟨3, 2, 17, eb, (ec e1), by decide +kernel⟩,
   ⟨3, 2, 17, eb, (ec e1), by decide +kernel⟩,
   ⟨3, 2, 17, eb, (ec e1), by decide +kernel⟩,
   ⟨17, eb, (ec e1), by decide +kernel⟩,
   ⟨3, 2, 17, eb, (ec e1), by decide +kernel⟩,
   ⟨3, 2, 17, eb, (ec e1), by decide +kernel⟩,
   ⟨3, 2, 17, eb, (ec e1), by decide +kernel⟩,
   ⟨3, 2, 17, eb, (ec e1), by decide +kernel⟩,
   ⟨3, 2, 17, eb, (ec e1), by decide +kernel⟩,
   ⟨3, 2, 17, eb, (ec e1), by decide +kernel⟩,
   ⟨17, eb, (ec e1), by decide +kernel⟩,
   ⟨3, eb, (ec e12), by decide +kernel⟩,
   ⟨17, eb, (ec e1), by decide +kernel⟩,
   ⟨4, eb, (ec e1), by decide +kernel⟩,
   ⟨2, eb, (ec e1), by decide +kernel⟩,
   ⟨eb, (ec e1), by decide +kernel⟩,
   ⟨eb, (ec e1), by decide +kernel⟩⟩

theorem test_hyps_TransfersEndsOfWorkAndDebug :
    (∃ (ra : Nat) (b : Bundle) (s : State),
    (Issuable (b.withAlu ⟨.xfer, 0, ra, 0, 0⟩) s))
    ∧ (∃ (c : Nat) (x : Xfer) (s : State),
    (headXfer (acore s.dev c) = some x) ∧ (x.kind = 0) ∧ (inRange x.remote x.length 0 (dramBytes s.dev) = true) ∧ (s.dev.memory.population ≤ 4) ∧ (x.errors < 3))
    ∧ (∃ (c : Nat) (x : Xfer) (s : State),
    (headXfer (acore s.dev c) = some x) ∧ (x.kind = 4))
    ∧ (∃ (n : Nat) (b : Bundle) (s : State),
    (Issuable (b.withAlu ⟨.xwait, 0, 0, n, 0⟩) s))
    ∧ (∃ (ra : Nat) (b : Bundle) (s : State),
    let w := rg (coreOf (b.withAlu ⟨.done, 0, ra, 0, 0⟩) s) ra
    (Issuable (b.withAlu ⟨.done, 0, ra, 0, 0⟩) s) ∧ ((box s.dev b.core).state ≠ 0) ∧ ((box s.dev b.core).word = w) ∧ (w.testBit 14 = true ∨ w.testBit 15 = true) ∧ ((box s.dev b.core).nextWord = none))
    ∧ (∃ (b : Bundle) (s : State),
    (Issuable (b.withAlu ⟨.idle, 0, 0, 0, 0⟩) s))
    ∧ (∃ (b : Bundle) (s : State),
    (Issuable (b.withAlu ⟨.brk, 0, 0, 0, 0⟩) s))
    ∧ (∃ (c : Nat) (s : State),
    (c < 16) ∧ (s.dev.sys.mode = .boot ∨ s.dev.sys.mode = .config) ∧ ((acore s.dev c).status = 1 ∨ (acore s.dev c).status = 3))
    ∧ (∃ (c : Nat) (s : State),
    (c < 16) ∧ (s.dev.sys.mode = .boot ∨ s.dev.sys.mode = .config) ∧ ((acore s.dev c).status ≠ 1) ∧ ((acore s.dev c).status ≠ 3))
    ∧ (∃ (c : Nat) (s : State),
    (c < 16) ∧ (s.dev.sys.mode = .boot ∨ s.dev.sys.mode = .config) ∧ ((acore s.dev c).status = 3))
    ∧ (∃ (c : Nat) (b : Bundle) (s : State),
    (c < 16) ∧ (s.dev.sys.mode = .boot ∨ s.dev.sys.mode = .config) ∧ ((acore s.dev c).status = 3) ∧ (bundleHere s.dev c = some b) ∧ (b.core = c) ∧ (bundleFault (landed b s) c (coreOf b s) b = none) ∧ (bundleWaits (landed b s) c b = false) ∧ (b.alu.kind ≠ .brk) ∧ (b.alu.kind ≠ .done))
    ∧ (∃ (c v r : Nat) (s : State),
    (c < 16) ∧ ((acore s.dev c).status = 3) ∧ (v < 2 ^ 32) ∧ (1 ≤ r) ∧ (r < 32) ∧ (fld s.dev (asterA c + 0x40) 7 0 = r))
    ∧ (∃ (i : Nat) (s : State),
    (s.dev.aster.writing = some i) ∧ (s.dev.plan.running = none)) :=
  ⟨⟨1, eb, (stateOf (memWrite (tileAddr 2 0x100) (leBytes 4 0x200 ++ leBytes 5 0x4000 ++ leBytes 1 0 ++ leBytes 2 0 ++ leBytes 4 64) (ec e12).dev)), by decide +kernel⟩,
   ⟨2, {x0 with remote := 0}, (stateOf (ac2 {status := 1, queueB := [{x0 with remote := 0}, x0]} centralDev)), by decide +kernel⟩,
   ⟨2, {x0 with kind := 4}, (stateOf (ac2 {status := 1, queueD := [{x0 with kind := 4}, x0]} centralDev)), by decide +kernel⟩,
   ⟨2, eb, (ec e1), by decide +kernel⟩,
   ⟨1, eb, (stateOf { (ec {e12 with g := [(1, wd)]}).dev with disp := { centralDev.disp with cores := [(2, bx2)] } }), by decide +kernel⟩,
   ⟨eb, (ec e1), by decide +kernel⟩,
   ⟨eb, (stateOf { (ec e12).dev with sys := {centralDev.sys with mode := .config} }), by decide +kernel⟩,
   ⟨2, (stateOf (ac2 {status := 1, queueB := []} configDev)), by decide +kernel⟩,
   ⟨2, (stateOf (ac2 {status := 2, queueB := []} configDev)), by decide +kernel⟩,
   ⟨2, (stateOf (ac2 {status := 3, pc := 64, queueB := []} configDev)), by decide +kernel⟩,
   ⟨2, ((bundleHere stepD 2).getD {core := 0}), (stateOf stepD), by decide +kernel⟩,
   ⟨2, 77, 5, (stateOf (withRegs [(asterA 2 + 0x40, 5)] (ac2 {status := 3, pc := 64, queueB := []} configDev))), by decide +kernel⟩,
   ⟨4, (stateOf {centralDev with plan := {centralDev.plan with pending := some ⟨4,900,64,some 4,1,false⟩}, aster := {centralDev.aster with writing := some 4}}), by decide +kernel⟩⟩

theorem test_hyps_CorrectionsFinishAndDepart :
    (∃ (side j q : Nat) (p : Nat × MatchEnt) (s : State),
    ((entries s.dev).find? (fun e => decide (e.2.side = side) && decide (e.2.kind = 3) && decide (e.2.ref = j) && decide (e.2.qn = q) && decide (e.2.state = 3)) = some p) ∧ (levelWait s.dev j q = false))
    ∧ (∃ (side j q : Nat) (p : Nat × MatchEnt) (s : State),
    (mirrorsInputs s.dev = false) ∧ ((entries s.dev).find? (fun e => decide (e.2.side = side) && decide (e.2.kind = 3) && decide (e.2.ref = j) && decide (e.2.qn = q) && decide (e.2.state = 3)) = some p) ∧ (levelWait s.dev j q = true))
    ∧ (∃ (j k : Nat) (s : State),
    (1 ≤ k) ∧ (k ≤ 3) ∧ (usedParts (corr s.dev j).tapUnits k ≠ 0))
    ∧ (∃ (j k b : Nat) (rest : List Nat) (s : State),
    (fget [] s.dev.lupin.jobs (4 * j + k) = b :: rest))
    ∧ (∃ (s : State),
    (renderRuns s.dev = true) ∧ (s.dev.geom.fresh = false) ∧ (s.dev.time.counting = true) ∧ (s.dev.net.departFirst + 3 ≤ s.dev.time.qn) ∧ (s.dev.route.departQn ≠ s.dev.time.qn + 1)) :=
  ⟨⟨1, 4, 1500, (9, me 3 3), (stateOf (di [(9, some (me 3 3))] b0)), by decide +kernel⟩,
   ⟨1, 4, 1500, (9, me 3 3), (stateOf dj), by decide +kernel⟩,
   ⟨4, 1, (stateOf {b0 with lupin := {b0.lupin with corr := [(4, {tapUnits := 3})]}}), by decide +kernel⟩,
   ⟨4, 2, 5, [6], (stateOf {b0 with lupin := {b0.lupin with jobs := [(17,[5]),(18, [5,6])]}}), by decide +kernel⟩,
   ⟨(stateOf {b0 with geom := {b0.geom with fresh := false}}), by decide +kernel⟩⟩

theorem test_hyps_BanksPlansAndSurveys :
    (∃ (j : Nat) (s : State),
    ((corr s.dev j).inactive = 1))
    ∧ (∃ (j : Nat) (f : BankFade) (s : State),
    ((corr s.dev j).fade = some f) ∧ ((corr s.dev j).held = none) ∧ ((f.n0 + f.xfade - 1) / 32 < (corr s.dev j).doneQn))
    ∧ (∃ (j : Nat) (f : BankFade) (h : BankSwap) (s : State),
    ((corr s.dev j).fade = some f) ∧ ((corr s.dev j).held = some h) ∧ ((corr s.dev j).planUnits = none) ∧ ((f.n0 + f.xfade - 1) / 32 < (corr s.dev j).doneQn))
    ∧ (∃ (j n x : Nat) (p : Proposal) (s : State),
    (s.dev.pair.proposals = [p]) ∧ (s.dev.pair.heldProps = []) ∧ (p.cmd = .corrSwap j n x) ∧ (p.reply ≠ some cDone))
    ∧ (∃ (j n x : Nat) (pb : Bytes) (s : State),
    (s.dev.pair.proposals = []) ∧ (s.dev.pair.heldProps = [pb]) ∧ (entryCmd (slice pb 12 64) [] = some (.corrSwap j n x)))
    ∧ (∃ (l : PlanLoad) (s : State),
    (s.dev.plan.load = some l))
    ∧ (∃ (p : Plan) (s : State),
    (s.dev.survey.stepQn ≠ 0) ∧ (s.dev.plan.active = some p) ∧ (s.dev.survey.stepQn - 1 + groupQuanta (presentGroup s.dev) ≤ qnNow s.dev))
    ∧ (∃ (s : State),
    (s.dev.sys.mode = .survey) ∧ (transNow s.dev = none) ∧ (s.dev.survey.program ≠ []) ∧ (s.dev.survey.tailQn ≠ 0) ∧ (s.dev.survey.tailQn ≤ qnNow s.dev + 1))
    ∧ (∃ (p : Plan) (s : State),
    (s.dev.plan.active = some p) ∧ (identifies s.dev = true) ∧ (bitAt s.dev 0xB0000 1 = false) ∧ (pairFormed s.dev = false))
    ∧ (∃ (desc : Nat) (s : State),
    (pairFormed s.dev = false) ∧ (bitAt s.dev 0xB0000 2 = false) ∧ (designRefused s.dev desc = none))
    ∧ (∃ (desc : Nat) (s : State),
    ((∃ x ∈ s.dev.survey.jobs, x.desc = desc))) :=
  ⟨⟨4, (stateOf (fl c1 b0)), by decide +kernel⟩,
   ⟨4, ⟨3200, 64, none⟩, (stateOf (fl c2 b0)), by decide +kernel⟩,
   ⟨4, ⟨3200, 64, none⟩, ⟨100, 3, 64, none⟩, (stateOf (fl {c2 with held := some ⟨100, 3, 64, none⟩} b0)), by decide +kernel⟩,
   ⟨4, 0, 7, pp2, (stateOf (pv { state := 2, proposals := [pp2] } b0)), by decide +kernel⟩,
   ⟨4, 0, 7, heldB, (stateOf (pv { state := 2, heldProps := [heldB] } b0)), by decide +kernel⟩,
   ⟨⟨4, 9, zeros 4, 4⟩, (stateOf (fl c2 {b0 with plan := {b0.plan with load := some ⟨4, 9, zeros 4, 4⟩}})), by decide +kernel⟩,
   ⟨pt2, (stateOf (withRegs [(0xB100C + 0x20, 0x80)] sv)), by decide +kernel⟩,
   ⟨(stateOf {sv with survey := {sv.survey with step := 2, stepQn := 0, tailQn := 77}}), by decide +kernel⟩,
   ⟨pt1, (stateOf (withRegs [(0xB0000,1),(0xB100C + 0x20, 0x80)] b1)), by decide +kernel⟩,
   ⟨0x1000, (stateOf (dd4 b1)), by decide +kernel⟩,
   ⟨0x1000, (stateOf (memWrite 0x1000 (leBytes 2 4 ++ leBytes 1 1 ++ zeros 37 ++ leBytes 8 0x4000) {b0 with survey := {b0.survey with jobs := [⟨0x1000, 4, 3, false⟩, ⟨0x2000, 5, 3, false⟩]}})), by decide +kernel⟩⟩

theorem test_hyps_DecimatorChannelsAreConfiguredAndDeliver :
    (∃ (src : Nat) (s : State),
    (src < 0x70) ∧ (fget 0 s.dev.dec.stuck src = 0) ∧ (sourceIdle (drvChRuns s.dev) src = false))
    ∧ (∃ (src : Nat) (s : State),
    (fget 0 s.dev.dec.stuck src ≠ 0))
    ∧ (∃ (c cid q : Nat) (s : State),
    ((decCh s.dev c).applied = some (cid, q)) ∧ ((decCh s.dev c).delivered = true))
    ∧ (∃ (c : Nat) (r : DecSwap) (s : State),
    ((decCh s.dev c).swap = some r) ∧ (r.applyQn ≤ qnNow s.dev) ∧ (s.dev.time.counting = true) ∧ (chOn s.dev c = true) ∧ (decRuns s.dev = true))
    ∧ (∃ (s : State),
    let sel := rdN s.dev 0x160040
    let c := bits sel 22 16
    (sel.testBit 8 = (decCh s.dev c).activeB))
    ∧ (∃ (s : State),
    let sel := rdN s.dev 0x160040
    let c := bits sel 22 16
    (sel.testBit 8 = !(decCh s.dev c).activeB))
    ∧ (∃ (c v : Nat) (s : State),
    (c < 128) ∧ (v < 2 ^ 32) ∧ (s.dev.sys.mode ≠ .config))
    ∧ (∃ (c v : Nat) (s : State),
    let rate := rdN s.dev (decA c + 4)
    let phase := rdN s.dev (decA c + 8)
    (c < 128) ∧ (v < 2 ^ 32) ∧ (s.dev.sys.mode = .config) ∧ (decWordsOk s.dev c (v % 2 ^ 30) rate phase = false))
    ∧ (∃ (c v : Nat) (s : State),
    let rate := rdN s.dev (decA c + 4)
    let phase := rdN s.dev (decA c + 8)
    (c < 128) ∧ (v < 2 ^ 32) ∧ (s.dev.sys.mode = .config) ∧ (decWordsOk s.dev c (v % 2 ^ 30) rate phase = true))
    ∧ (∃ (c : Nat) (s : State),
    (c < 128) ∧ (chOn s.dev c = true) ∧ (decRuns s.dev = true) ∧ ((decCh s.dev c).started = true))
    ∧ (∃ (n m0 : Nat) (s : State),
    let live := (capMembers s.dev n).filter (fun c => chOn s.dev c && (decCh s.dev c).started)
    let done := live.foldl (fun k c => min k (decCh s.dev c).m) ((decCh s.dev (live.headD 0)).m)
    let whole (m : Nat) := ∀ c ∈ live, (fget (0, 0, false) (decCh s.dev c).recent ((m + 31) % 64)).1 = m + 32
    let a := 0x160100 + 0x40 * n
    let b := capBlock s.dev n m0
    let wr := rdN s.dev (a + 0x20)
    (n < 8) ∧ (capOn s.dev n = true) ∧ (live ≠ []) ∧ (m0 % 32 = 0) ∧ (m0 + 32 ≤ done) ∧ (((capSt s.dev n).next = m0 ∧ m0 ≠ 0 ∨ (capSt s.dev n).next = 0 ∧ whole m0 ∧ done < m0 + 96 ∧ (m0 + 64 ≤ done ∨ m0 = 0 ∨ ¬ whole (m0 - 32)))) ∧ ((∀ c ∈ live, (decCh s.dev c).m ≤ m0 + 64)) ∧ (b.2 = 0) ∧ (bitAt s.dev a 1 = false) ∧ (rdN s.dev (a + 0x1C) ≤ subMod 32 wr (rdN s.dev (a + 0x24))))
    ∧ (∃ (n m0 : Nat) (s : State),
    let live := (capMembers s.dev n).filter (fun c => chOn s.dev c && (decCh s.dev c).started)
    let done := live.foldl (fun k c => min k (decCh s.dev c).m) ((decCh s.dev (live.headD 0)).m)
    let whole (m : Nat) := ∀ c ∈ live, (fget (0, 0, false) (decCh s.dev c).recent ((m + 31) % 64)).1 = m + 32
    let a := 0x160100 + 0x40 * n
    let b := capBlock s.dev n m0
    let wr := rdN s.dev (a + 0x20)
    (n < 8) ∧ (capOn s.dev n = true) ∧ (live ≠ []) ∧ (m0 % 32 = 0) ∧ (m0 + 32 ≤ done) ∧ (((capSt s.dev n).next = m0 ∧ m0 ≠ 0 ∨ (capSt s.dev n).next = 0 ∧ whole m0 ∧ done < m0 + 96 ∧ (m0 + 64 ≤ done ∨ m0 = 0 ∨ ¬ whole (m0 - 32)))) ∧ ((∀ c ∈ live, (decCh s.dev c).m ≤ m0 + 64)) ∧ (b.2 = 0) ∧ (bitAt s.dev a 1 = false) ∧ (subMod 32 wr (rdN s.dev (a + 0x24)) < rdN s.dev (a + 0x1C)))
    ∧ (∃ (n m0 : Nat) (es rest : List Bytes) (e : Bytes) (err : Bool) (s : State),
    let live := (capMembers s.dev n).filter (fun c => chOn s.dev c && (decCh s.dev c).started)
    let done := live.foldl (fun k c => min k (decCh s.dev c).m) ((decCh s.dev (live.headD 0)).m)
    let whole (m : Nat) := ∀ c ∈ live, (fget (0, 0, false) (decCh s.dev c).recent ((m + 31) % 64)).1 = m + 32
    let a := 0x160100 + 0x40 * n
    let b := capBlock s.dev n m0
    (n < 8) ∧ (capOn s.dev n = true) ∧ (live ≠ []) ∧ (m0 % 32 = 0) ∧ (m0 + 32 ≤ done) ∧ (((capSt s.dev n).next = m0 ∧ m0 ≠ 0 ∨ (capSt s.dev n).next = 0 ∧ whole m0 ∧ done < m0 + 96 ∧ (m0 + 64 ≤ done ∨ m0 = 0 ∨ ¬ whole (m0 - 32)))) ∧ ((∀ c ∈ live, (decCh s.dev c).m ≤ m0 + 64)) ∧ (b.2 = 0) ∧ (bitAt s.dev a 1 = true) ∧ (es = e :: rest) ∧ (err = false) ∧ ((ringRunning s.dev (65 + n) = true ∨ (0 < (capSt s.dev n).placed ∧ ringHalted s.dev (65 + n) = false))) ∧ (ringHeld s.dev (65 + n) ≠ 0) ∧ (entryReserved false false e = true) ∧ (entryOk false (leAt e 14 1 * b.1.length) e = true)) :=
  ⟨⟨0x68, (stateOf centralDev), by decide +kernel⟩,
   ⟨0x6, (stateOf (withRegs [(decA 5, 0x1 + 6*16)] {dc {} centralDev with dec := {centralDev.dec with stuck := [(6, 1)]}})), by decide +kernel⟩,
   ⟨5, 4, 77, (stateOf (dc {applied := some (4, 77), delivered := true} centralDev)), by decide +kernel⟩,
   ⟨5, ⟨900, 4⟩, (stateOf (let d := withRegs [(0x160000, 1), (decA 5, cw 6 216 3 4 0)] (dc {swap := some ⟨900, 4⟩, written := true} centralDev); {d with time := {d.time with lockA := true}})), by decide +kernel⟩,
   ⟨(stateOf (withRegs [(0x160040, 0x5003F)] (dc {bankB := [(1, 2)]} centralDev))), by decide +kernel⟩,
   ⟨(stateOf (withRegs [(0x160040, 0x50103)] (dc {bankB := [(1, 2)]} centralDev))), by decide +kernel⟩,
   ⟨5, 0x40000001, (stateOf centralDev), by decide +kernel⟩,
   ⟨5, (cw 6 216 3 4 0), (stateOf configDev), by decide +kernel⟩,
   ⟨5, 0x40000001, (stateOf configDev), by decide +kernel⟩,
   ⟨5, (stateOf (dec5 centralDev)), by decide +kernel⟩,
   ⟨1, 32, (stateOf (withRegs [(0x160140+0x24, 5)] (cap centralDev))), by decide +kernel⟩,
   ⟨1, 32, (stateOf (cap centralDev)), by decide +kernel⟩,
   ⟨1, 32, [ce 1, ce 1], [ce 1], (ce 1), false, (stateOf (capr centralDev)), by decide +kernel⟩⟩

theorem test_hyps_CausesLatchAndRetriesFollow :
    (∃ (c : Nat) (s : State),
    let l := drvLead s.dev c
    (c < 16) ∧ (drvSwitches s.dev c = true) ∧ ((drvCh s.dev c).state ≠ 1) ∧ (s.dev.plan.active = none) ∧ (s.dev.sys.running = none) ∧ (2 ≤ (drvCh s.dev l).state) ∧ ((drvCh s.dev l).state ≤ 5))
    ∧ (∃ (c : Nat) (s : State),
    let x := drvCh s.dev c
    (x.state = 1 ∧ (x.step = 2 ∨ x.step = 3)))
    ∧ (∃ (c : Nat) (s : State),
    let x := drvCh s.dev c
    (¬ (x.state = 1 ∧ (x.step = 2 ∨ x.step = 3))) ∧ ((drvSwitches s.dev c = true ∨ latchedNow s.dev c = true)))
    ∧ (∃ (r : Nat) (s : State),
    (fld s.dev (railA r + 4) 15 0 ≠ 0) ∧ (bitAt s.dev (railA r) 7 = true) ∧ ((drvRail s.dev r).volts < fld s.dev (railA r + 4) 15 0))
    ∧ (∃ (c mv : Nat) (s : State),
    (drvSwitches s.dev c = true) ∧ (fld s.dev (drvA c + 8) 11 0 ≤ (if (drvCh s.dev c).state = 1 then 4 * mv else mv)))
    ∧ (∃ (c : Nat) (s : State),
    let l := drvLead s.dev c
    ((drvCh s.dev l).state = 6) ∧ ((∀ i ∈ drvMembers s.dev l, (drvCh s.dev i).state = 6)) ∧ (bitAt s.dev 0x170000 2 = true) ∧ ((drvCh s.dev l).retries < fld s.dev 0x17000C 11 8) ∧ (s.dev.sys.mode ≠ .boot) ∧ (s.dev.sys.mode ≠ .stop))
    ∧ (∃ (r : Nat) (s : State),
    ((drvRail s.dev r).blocked = true) ∧ ((fld s.dev (railA r + 4) 15 0 = 0 ∨ fld s.dev (railA r + 4) 15 0 < (drvRail s.dev r).volts)) ∧ ((∀ c, (drvCh s.dev c).state ≠ 7))) :=
  ⟨⟨3, (stateOf (dv [(2, {state:=4, retries := 1, ramp := some ⟨true,1,2,3,4⟩}), (3, {state := 4}), (5, {state := 4})] (br2 centralDev))), by decide +kernel⟩,
   ⟨3, (stateOf (dv [(2, {state:=1, step := 2}), (3, {state := 1, step := 2}), (5, {state := 4})] (br2 centralDev))), by decide +kernel⟩,
   ⟨3, (stateOf (dv [(2, {state:=4, retries := 1}), (3, {state := 4}), (5, {state := 4})] (br2 centralDev))), by decide +kernel⟩,
   ⟨1, (stateOf (dv [(2, {state:=4}), (3, {state := 4}), (5, {state := 4})] (br2 centralDev))), by decide +kernel⟩,
   ⟨2, 5000, (stateOf (dv [(2, {state:=4}), (3, {state := 4}), (5, {state := 4})] (br2 centralDev))), by decide +kernel⟩,
   ⟨3, (stateOf (withRegs [(0x170000, 4), (0x17000C, 0x300)] (dv [(2, {state:=6,fault := 5}), (3, {state := 6}), (5, {state := 4})] (br2 centralDev)))), by decide +kernel⟩,
   ⟨1, stateOf (withRegs [(0x170000, 4), (0x17000C, 0x300)] { centralDev with drv := { centralDev.drv with rails := [(1, { blocked := true, volts := 1000 })] } }), by decide +kernel, by decide +kernel, fun _ => (by decide : (0 : Nat) ≠ 7)⟩⟩

theorem test_hyps_DiagnosticsStaggerAndSetup :
    (∃ (c node n : Nat) (s : State),
    let l := drvLead s.dev c
    ((∀ t, s.dev.sys.running = some t → t.phase ≠ .cmRampUp)) ∧ ((drvCh s.dev l).state = 1) ∧ ((drvCh s.dev l).step = n) ∧ ((∀ i ∈ drvMembers s.dev l, (drvCh s.dev i).state = 1 ∧ (drvCh s.dev i).step = n)) ∧ (((n = 1 ∧ 2 * node ≤ (drvRail s.dev (railOf s.dev l)).volts ∧ senseStuck s.dev l = false) ∨ (n = 2 ∧ 200 ≤ node))))
    ∧ (∃ (c node : Nat) (z : Option Nat) (limit : Bool) (s : State),
    let l := drvLead s.dev c
    let code := diagJudge s.dev l (drvCh s.dev l).step node limit z
    (c < 16) ∧ (s.dev.plan.active = none) ∧ ((∀ t, s.dev.sys.running = some t → t.phase ≠ .cmRampUp ∧ (t.phase = .preroll → t.target ≠ .survey))) ∧ ((drvCh s.dev l).state = 1) ∧ (code ≠ 0))
    ∧ (∃ (c : Nat) (s : State),
    let l := drvLead s.dev c
    ((∀ t, s.dev.sys.running = some t → t.phase ≠ .cmRampUp ∧ (t.phase = .preroll → t.target ≠ .survey))) ∧ ((drvCh s.dev l).state = 1) ∧ ((drvCh s.dev l).step = 4) ∧ (((drvCh s.dev l).why = .retry → s.dev.sys.mode = .config)))
    ∧ (∃ (c : Nat) (s : State),
    (drvSwitches s.dev c = true) ∧ (bitAt s.dev 0x170000 1 = true))
    ∧ (∃ (c : Nat) (s : State),
    (drvSwitches s.dev c = true) ∧ (bitAt s.dev 0x170000 1 = true) ∧ ((drvCh s.dev c).ref = 0) ∧ ((drvCh s.dev c).locked = false) ∧ ((drvCh s.dev c).unlockRaised = false))
    ∧ (∃ (c v : Nat) (s : State),
    (c < 16) ∧ (v < 2 ^ 32) ∧ (s.dev.sys.mode ≠ .config))
    ∧ (∃ (c v : Nat) (s : State),
    (c < 16) ∧ (v < 2 ^ 32) ∧ (s.dev.sys.mode = .config) ∧ (drvCfgOk s.dev c (v % 2 ^ 30) = true))
    ∧ (∃ (c v : Nat) (s : State),
    (c < 16) ∧ (v < 2 ^ 32) ∧ (s.dev.sys.mode = .config) ∧ (drvCfgOk s.dev c (v % 2 ^ 30) = false))
    ∧ (∃ (r v : Nat) (s : State),
    (r < 8) ∧ (s.dev.sys.mode = .config) ∧ (100 ≤ bits v 31 16) ∧ (cfgSource (chCfg s.dev (bits v 6 0)) = 0x68 + r) ∧ (v.testBit 7 = true)) :=
  ⟨⟨3, 500, 1, (stateOf (rl (dv [(2, {state:=1,step:=1,locked := true}), (3, {state := 1,step:=1}), (5, {state := 4})] (br2 centralDev)))), by decide +kernel⟩,
   ⟨3, 501, none, false, (stateOf (rl (dv [(2, {state:=1,step:=1,why := .retry}), (3, {state := 1,step:=1}), (5, {state := 4})] (br2 centralDev)))), by decide +kernel⟩,
   ⟨3, (stateOf (rl (dv [(2, {state:=1,step:=4,why := .command, was := 6}), (3, {state := 1,step:=4}), (5, {state := 4})] (br2 centralDev)))), by decide +kernel⟩,
   ⟨5, (stateOf (withRegs [(0x170000, 2)] (dv [(5, {state := 4})] (br2 centralDev)))), by decide +kernel⟩,
   ⟨5, (stateOf (withRegs [(0x170000, 2)] (dv [(5, {state := 4})] (br2 centralDev)))), by decide +kernel⟩,
   ⟨5, 0x80000001, (stateOf (br2 centralDev)), by decide +kernel⟩,
   ⟨4, (1 + 128 + 5*2^14 + 20*2^21), (stateOf (br2 configDev)), by decide +kernel⟩,
   ⟨5, 0x80000001, (stateOf (br2 configDev)), by decide +kernel⟩,
   ⟨1, 0x640085, (stateOf (withRegs [(decA 5, 0x69)] (br2 configDev))), by decide +kernel⟩⟩

theorem test_hyps_PortsKeepTheirSetupAndCarryFrames :
    (∃ (p v : Nat) (s : State),
    let ok := aportCfgOk s.dev (rdN s.dev (aportA p))
    (p < 16) ∧ (s.dev.sys.mode ≠ .boot) ∧ (s.dev.sys.mode ≠ .stop) ∧ (v < 2 ^ 32) ∧ (ok = false))
    ∧ (∃ (p v : Nat) (s : State),
    let ok := aportCfgOk s.dev (rdN s.dev (aportA p))
    (p < 16) ∧ (s.dev.sys.mode ≠ .boot) ∧ (s.dev.sys.mode ≠ .stop) ∧ (v < 2 ^ 32) ∧ (ok = true) ∧ (bitAt s.dev (aportA p + 4) 0 = false))
    ∧ (∃ (p v : Nat) (s : State),
    let ok := aportCfgOk s.dev (rdN s.dev (aportA p))
    (p < 16) ∧ (s.dev.sys.mode ≠ .boot) ∧ (s.dev.sys.mode ≠ .stop) ∧ (v < 2 ^ 32) ∧ (ok = true) ∧ (bitAt s.dev (aportA p + 4) 0 = true))
    ∧ (∃ (p : Nat) (s : State),
    (p < 16) ∧ (s.dev.sys.mode ≠ .boot) ∧ (s.dev.sys.mode ≠ .stop) ∧ (bitAt s.dev (aportA p + 4) 0 = true))
    ∧ (∃ (p : Nat) (s : State),
    (p < 16) ∧ (s.dev.sys.mode ≠ .boot) ∧ (s.dev.sys.mode ≠ .stop) ∧ (bitAt s.dev (aportA p + 4) 0 = false))
    ∧ (∃ (p v : Nat) (s : State),
    (p < 16) ∧ (v < 2 ^ 32) ∧ (s.dev.sys.mode ≠ .config))
    ∧ (∃ (p v : Nat) (s : State),
    (p < 16) ∧ (v < 2 ^ 32) ∧ (s.dev.sys.mode = .config) ∧ (aportCfgOk s.dev (v % 2 ^ 21) = false))
    ∧ (∃ (p v : Nat) (s : State),
    (p < 16) ∧ (v < 2 ^ 32) ∧ (s.dev.sys.mode = .config) ∧ (aportCfgOk s.dev (v % 2 ^ 21) = true))
    ∧ (∃ (p dir : Nat) (s : State),
    (p < 16) ∧ (dir < 2) ∧ (s.dev.sys.mode ≠ .boot) ∧ (s.dev.sys.mode ≠ .stop))
    ∧ (∃ (p : Nat),
    (p < 16))
    ∧ (∃ (p dir k : Nat) (s : State),
    let y := slotOf (aport s.dev p) dir k
    (routeT s.dev ≤ (slotOf (aport s.dev p) dir k).waited) ∧ (y.phase = .starting ∨ y.phase = .stopping))
    ∧ (∃ (p : Nat) (s : State),
    ((aport s.dev p).running = true) ∧ (fld s.dev (aportA p + 4) 1 0 = 0) ∧ (aportSilent (aport s.dev p) = true))
    ∧ (∃ (p : Nat) (s : State),
    (aportRole s.dev p < 2) ∧ (bitAt s.dev (aportA p + 4) 0 = true ∨ (aport s.dev p).running = true) ∧ (s.dev.sys.mode ≠ .boot) ∧ (s.dev.sys.mode ≠ .stop) ∧ ((∀ m, portFrame s.dev p = some m → (aport s.dev p).frameNo ≠ m + 1)))
    ∧ (∃ (p m : Nat) (s : State),
    (portFrame s.dev p = some m) ∧ ((aport s.dev p).frameNo = m + 1))
    ∧ (∃ (p : Nat) (before now : Bool) (ppm : Int) (s : State),
    (aportRole s.dev p = 2) ∧ (aportAsrc s.dev p = true) ∧ (bitAt s.dev (aportA p + 4) 0 = true) ∧ (frameOpens (rdN s.dev (aportA p)) before now = true) ∧ (s.dev.sys.mode ≠ .boot) ∧ (s.dev.sys.mode ≠ .stop) ∧ (-1000 ≤ ppm) ∧ (ppm ≤ 1000))
    ∧ (∃ (p : Nat) (before now : Bool) (off ppm : Int) (s : State),
    (aportRole s.dev p = 3) ∧ (aportAsrc s.dev p = false) ∧ (bitAt s.dev (aportA p + 4) 0 = true) ∧ (frameOpens (rdN s.dev (aportA p)) before now = true) ∧ (s.dev.sys.mode ≠ .boot) ∧ (s.dev.sys.mode ≠ .stop) ∧ (-1000 ≤ ppm) ∧ (ppm ≤ 1000) ∧ (-4 ≤ off) ∧ (off ≤ 4) ∧ ((aport s.dev p).periodBad = false) ∧ ((aport s.dev p).aligned = true))
    ∧ (∃ (p : Nat) (s : State),
    (2 ≤ aportRole s.dev p) ∧ ((aport s.dev p).running = true) ∧ (aportAsrc s.dev p = true))
    ∧ (∃ (p : Nat) (s : State),
    (2 ≤ aportRole s.dev p) ∧ ((aport s.dev p).running = true) ∧ (aportAsrc s.dev p = false))
    ∧ (∃ (p : Nat) (s : State),
    (16 ≤ (aport s.dev p).run))
    ∧ (∃ (p ratio : Nat) (s : State),
    (aportAsrc s.dev p = true) ∧ ((aport s.dev p).running = true) ∧ ((aport s.dev p).locked = false) ∧ ((aport s.dev p).periodBad = false) ∧ (2 ^ 22 ≤ ratio) ∧ (ratio ≤ 2 ^ 26))
    ∧ (∃ (p : Nat) (s : State),
    ((aport s.dev p).locked = true)) :=
  ⟨⟨3, 1, (stateOf (m0 c96 centralDev)), by decide +kernel⟩,
   ⟨3, 0, (stateOf (m0 (c96+128) centralDev)), by decide +kernel⟩,
   ⟨3, 2, (stateOf (withRegs [(aportA 3 + 4, 1)] (m0 (c96+128) centralDev))), by decide +kernel⟩,
   ⟨3, (stateOf (withRegs [(aportA 3 + 4, 1)] (ap {slots := [(0,{phase := .stopping}), (1, {phase := .running}), (32, {})]} (m0 c96 centralDev)))), by decide +kernel⟩,
   ⟨3, (stateOf (ap {slots := [(0,{phase := .stopping}), (1, {phase := .running}), (32, {})]} (m0 c96 centralDev))), by decide +kernel⟩,
   ⟨3, c96, (stateOf centralDev), by decide +kernel⟩,
   ⟨3, c96, (stateOf configDev), by decide +kernel⟩,
   ⟨3, (128 + c96), (stateOf configDev), by decide +kernel⟩,
   ⟨3, 1, (stateOf centralDev), by decide +kernel⟩,
   ⟨3, by decide +kernel⟩,
   ⟨3, 0, 0, (stateOf (ap {slots := [(0,{phase := .stopping, waited := 960, prev := 3}), (1, {phase := .running}), (32, {prev := 4})]} (m0 c96 centralDev))), by decide +kernel⟩,
   ⟨3, (stateOf (ap {running := true, framed := true, run := 4, settle := 3, slots := [(32, {prev := 4})]} (m0 c96 centralDev))), by decide +kernel⟩,
   ⟨3, (stateOf (withRegs [(aportA 3 + 4, 1)] (ap (sl {framed := true}) (m0 c96 centralDev)))), by decide +kernel⟩,
   ⟨3, ((portFrame (m0 c96 centralDev) 3).getD 0), (stateOf (withRegs [(aportA 3 + 4, 1)] (ap (sl {framed := true, frameNo := (portFrame (m0 c96 centralDev) 3).getD 0 + 1}) (m0 c96 centralDev)))), by decide +kernel⟩,
   ⟨3, true, false, 7, (stateOf (withRegs [(aportA 3 + 4, 1)] (ap (sl {framed := true}) (m0 (8 + 128 + c96) centralDev)))), by decide +kernel⟩,
   ⟨3, true, false, 3, 7, (stateOf (withRegs [(aportA 3 + 4, 1)] (ap (sl {framed := true, aligned := true, run := 17}) (m0 (12 + c96) centralDev)))), by decide +kernel⟩,
   ⟨3, (stateOf (ap {running := true, run := 5} (m0 (8 + 128 + c96) centralDev))), by decide +kernel⟩,
   ⟨3, (stateOf (ap {running := true, run := 5, slots := [(0,{phase := .running, prev := 3})]} (m0 (12 + c96) centralDev))), by decide +kernel⟩,
   ⟨3, (stateOf (ap {running := true, run := 16} (m0 (8 + 128 + c96) centralDev))), by decide +kernel⟩,
   ⟨3, (2^24), (stateOf (ap {running := true, run := 16} (m0 (8 + 128 + c96) centralDev))), by decide +kernel⟩,
   ⟨3, (stateOf (ap {running := true, run := 16, locked := true} (m0 (8 + 128 + c96) centralDev))), by decide +kernel⟩⟩

theorem test_hyps_TheListenPortDetectsAndMutes :
    (∃ (s : State),
    (listenOff s.dev = false))
    ∧ (∃ (n : Nat) (s : State),
    (listenOff s.dev = false) ∧ (s.dev.aport.listen.step = n) ∧ (n = 1))
    ∧ (∃ (x n : Nat) (s : State),
    (listenOff s.dev = false) ∧ (s.dev.aport.listen.step = n) ∧ (n = 2) ∧ (x < 50))
    ∧ (∃ (x n : Nat) (s : State),
    (listenOff s.dev = false) ∧ (s.dev.aport.listen.step = n) ∧ (n = 2) ∧ (50 ≤ x))
    ∧ (∃ (x n : Nat) (s : State),
    let window := 300 ≤ x ∧ x ≤ 2400
    (listenOff s.dev = false) ∧ (s.dev.aport.listen.step = n) ∧ (n = 3) ∧ (window))
    ∧ (∃ (x n : Nat) (s : State),
    let window := 300 ≤ x ∧ x ≤ 2400
    (listenOff s.dev = false) ∧ (s.dev.aport.listen.step = n) ∧ (n = 3) ∧ (¬window))
    ∧ (∃ (x n : Nat) (s : State),
    let window := 300 ≤ x ∧ x ≤ 2400
    (listenOff s.dev = false) ∧ (s.dev.aport.listen.step = n) ∧ (n = 4) ∧ (window))
    ∧ (∃ (x n : Nat) (s : State),
    let window := 300 ≤ x ∧ x ≤ 2400
    (listenOff s.dev = false) ∧ (s.dev.aport.listen.step = n) ∧ (n = 4) ∧ (¬window))
    ∧ (∃ (s : State),
    (listenOff s.dev = false))
    ∧ (∃ (mv b : Nat) (s : State),
    let r := lineOhms mv
    (headsetBiased s.dev = true) ∧ (s.dev.aport.listen.button = 0) ∧ (buttonOf (wrN 0x180010 r s.dev) r = some b))
    ∧ (∃ (mv b : Nat) (s : State),
    let r := lineOhms mv
    (headsetBiased s.dev = true) ∧ (s.dev.aport.listen.button = b + 1) ∧ (buttonOf (wrN 0x180010 r s.dev) r = none) ∧ (buttonTop (wrN 0x180010 r s.dev) < r))
    ∧ (∃ (s : State),
    (headsetBiased s.dev = true))
    ∧ (∃ (s : State),
    (listenPlays s.dev = true)) :=
  ⟨⟨(stateOf (ls {accessory := 3, button := 2} centralDev)), by decide +kernel⟩,
   ⟨1, (stateOf (ls {step := 1, button := 2} centralDev)), by decide +kernel⟩,
   ⟨49, 2, (stateOf (ls {step := 2, button := 2} centralDev)), by decide +kernel⟩,
   ⟨50, 2, (stateOf (ls {step := 2, button := 2} centralDev)), by decide +kernel⟩,
   ⟨2400, 3, (stateOf (ls {step := 3, button := 2} centralDev)), by decide +kernel⟩,
   ⟨2401, 3, (stateOf (ls {step := 3, button := 2} centralDev)), by decide +kernel⟩,
   ⟨300, 4, (stateOf (ls {step := 4, button := 2} centralDev)), by decide +kernel⟩,
   ⟨2401, 4, (stateOf (ls {step := 4, button := 2} centralDev)), by decide +kernel⟩,
   ⟨(stateOf (ls {step := 4, button := 2, muted := true} centralDev)), by decide +kernel⟩,
   ⟨150, 1, (stateOf (lb (ls {accessory := 2, gate := true} centralDev))), by decide +kernel⟩,
   ⟨500, 1, (stateOf (lb (ls {accessory := 2, button := 2} centralDev))), by decide +kernel⟩,
   ⟨(stateOf (lb (ls {accessory := 2, gate := true} centralDev))), by decide +kernel⟩,
   ⟨(stateOf (lb (ls {accessory := 2, gate := true, button := 2} centralDev))), by decide +kernel⟩⟩

theorem test_hyps_FramesGoAndComeOnTheLinks :
    (∃ (p : Nat) (s : State),
    (p < 4) ∧ (linkIsUp s.dev p = true))
    ∧ (∃ (p : Nat) (s : State),
    (p < 4) ∧ (bitAt s.dev (netA p) 0 = true) ∧ (bitAt s.dev (netA p + 4) 0 = false) ∧ (nearStop s.dev = false))
    ∧ (∃ (p q : Nat) (f : TxFrame) (pre : Bool) (s : State),
    (p < 4) ∧ (linkIsUp s.dev p = true) ∧ ((netPort s.dev p).paused = false) ∧ (txHead s.dev p = some (q, f)) ∧ (s.dev.sys.mode ≠ .stop) ∧ ((f.proto ≠ 319 ∨ f.ctx.isSome = true)) ∧ ((pre = false ∨ q < 6 ∨ fld s.dev (netA p + 0x38) 1 0 ≠ 2)))
    ∧ (∃ (p q : Nat) (f : TxFrame) (s : State),
    (p < 4) ∧ (linkIsUp s.dev p = true) ∧ ((netPort s.dev p).paused = false) ∧ (txHead s.dev p = some (q, f)) ∧ (s.dev.sys.mode ≠ .stop) ∧ ((f.proto ≠ 319 ∨ f.ctx.isSome = true)) ∧ (6 ≤ q) ∧ (fld s.dev (netA p + 0x38) 1 0 = 2))
    ∧ (∃ (p q : Nat) (f : TxFrame) (s : State),
    (p < 4) ∧ (linkIsUp s.dev p = true) ∧ ((netPort s.dev p).paused = false) ∧ (txHead s.dev p = some (q, f)) ∧ (s.dev.sys.mode ≠ .stop) ∧ (f.proto = 319) ∧ (f.ctx = none))
    ∧ (∃ (p : Nat) (s : State),
    (fld s.dev (netA p + 0x38) 1 0 = 1))
    ∧ (∃ (p : Nat) (s : State),
    (linkIsUp s.dev p = true) ∧ (bitAt s.dev (netA p) 7 = true))
    ∧ (∃ (p : Nat) (s : State),
    ((netPort s.dev p).pausing = true))
    ∧ (∃ (p : Nat) (s : State),
    (linkIsUp s.dev p = true))
    ∧ (∃ (p : Nat) (fcs : Bool) (s : State),
    (p < 4) ∧ (linkIsUp s.dev p = true) ∧ (nearStop s.dev = false) ∧ (fcs = false))
    ∧ (∃ (p : Nat) (f : Bytes) (fcs : Bool) (s : State),
    let h := frameHead f
    let len := f.length + 4
    let wrong := len < 64 ∨ 1522 < len ∨ 2 ≤ h.tags
    (p < 4) ∧ (linkIsUp s.dev p = true) ∧ (nearStop s.dev = false) ∧ (fcs = true) ∧ (wrong))
    ∧ (∃ (p : Nat) (f : Bytes) (fcs : Bool) (s : State),
    let h := frameHead f
    let len := f.length + 4
    let wrong := len < 64 ∨ 1522 < len ∨ 2 ≤ h.tags
    (p < 4) ∧ (linkIsUp s.dev p = true) ∧ (nearStop s.dev = false) ∧ (fcs = true) ∧ (¬wrong) ∧ (isPause f = true))
    ∧ (∃ (p : Nat) (f : Bytes) (fcs : Bool) (s : State),
    let h := frameHead f
    let len := f.length + 4
    let wrong := len < 64 ∨ 1522 < len ∨ 2 ≤ h.tags
    (p < 4) ∧ (linkIsUp s.dev p = true) ∧ (nearStop s.dev = false) ∧ (fcs = true) ∧ (¬wrong) ∧ (isPause f = false) ∧ ((macAccepted s.dev p (beAt f 0 6) = false ∨ isWakeFrame s.dev p f = true)))
    ∧ (∃ (p : Nat) (f : Bytes) (fcs : Bool) (s : State),
    let h := frameHead f
    let len := f.length + 4
    let wrong := len < 64 ∨ 1522 < len ∨ 2 ≤ h.tags
    (p < 4) ∧ (linkIsUp s.dev p = true) ∧ (nearStop s.dev = false) ∧ (fcs = true) ∧ (¬wrong) ∧ (isPause f = false) ∧ (macAccepted s.dev p (beAt f 0 6) = true) ∧ (isWakeFrame s.dev p f = false) ∧ (h.sumsOk = false))
    ∧ (∃ (p : Nat) (f : Bytes) (fcs : Bool) (s : State),
    let h := frameHead f
    let len := f.length + 4
    let n := (netPort s.dev p).ctrlCount
    let wrong := len < 64 ∨ 1522 < len ∨ 2 ≤ h.tags
    (p < 4) ∧ (linkIsUp s.dev p = true) ∧ (nearStop s.dev = false) ∧ (fcs = true) ∧ (¬wrong) ∧ (isPause f = false) ∧ (macAccepted s.dev p (beAt f 0 6) = true) ∧ (isWakeFrame s.dev p f = false) ∧ (h.sumsOk = true) ∧ (controlPort h.udp = true) ∧ (rdN s.dev (netA p + 0x44) / 100 ≤ n))
    ∧ (∃ (p : Nat) (f : Bytes) (fcs : Bool) (s : State),
    let h := frameHead f
    let len := f.length + 4
    let n := (netPort s.dev p).ctrlCount
    let wrong := len < 64 ∨ 1522 < len ∨ 2 ≤ h.tags
    (p < 4) ∧ (linkIsUp s.dev p = true) ∧ (nearStop s.dev = false) ∧ (fcs = true) ∧ (¬wrong) ∧ (isPause f = false) ∧ (macAccepted s.dev p (beAt f 0 6) = true) ∧ (isWakeFrame s.dev p f = false) ∧ (h.sumsOk = true) ∧ (controlPort h.udp = true) ∧ (n < rdN s.dev (netA p + 0x44) / 100))
    ∧ (∃ (p : Nat) (f : Bytes) (fcs : Bool) (s : State),
    let h := frameHead f
    let len := f.length + 4
    let wrong := len < 64 ∨ 1522 < len ∨ 2 ≤ h.tags
    (p < 4) ∧ (linkIsUp s.dev p = true) ∧ (nearStop s.dev = false) ∧ (fcs = true) ∧ (¬wrong) ∧ (isPause f = false) ∧ (macAccepted s.dev p (beAt f 0 6) = true) ∧ (isWakeFrame s.dev p f = false) ∧ (h.sumsOk = true) ∧ (controlPort h.udp = false))
    ∧ (∃ (b : Bytes) (s : State),
    let well := decide (8 ≤ b.length) && decide (beAt b 0 2 = 0x5943) && decide (beAt b 2 1 = 1)
      && decide (beAt b 4 2 = fld s.dev 0x210 31 16) && decide (1 ≤ beAt b 3 1) && decide (beAt b 3 1 ≤ 32)
    let records := if well then controlRecords (beAt b 3 1) (b.drop 8) else none
    (records = none)) :=
  ⟨⟨2, (stateOf (prt 2 {paused := true, verifies := 2} (nq [(17, [fr]), (20, [fr])] (up 2 centralDev)))), by decide +kernel⟩,
   ⟨2, (stateOf (withRegs [(netA 2, 7), (netA 2 + 0x34, 1)] centralDev)), by decide +kernel⟩,
   ⟨2, 6, fr, true, (stateOf (nq [(22, [fr,fr]), (20, [fr])] (up 2 centralDev))), by decide +kernel⟩,
   ⟨2, 7, fr, (stateOf (nq [(20, [fr]), (23, [fr,sfr])] (withRegs [(netA 2 + 0x38, 2)] (up 2 centralDev)))), by decide +kernel⟩,
   ⟨2, 7, {fr with proto := 319, bytes := zeros 60}, (stateOf (nq [(23, [{fr with proto := 319, bytes := zeros 60}])] (withRegs [(0x20000, 0x40)] (up 2 centralDev)))), by decide +kernel⟩,
   ⟨2, (stateOf (prt 2 {verifies := 2} (withRegs [(netA 2 + 0x38, 1)] (up 2 centralDev)))), by decide +kernel⟩,
   ⟨2, (stateOf (withRegs [(netA 2, 0x81), (netA 2 + 0x28, 1000)] (up 2 centralDev))), by decide +kernel⟩,
   ⟨2, (stateOf (prt 2 {pausing := true} (withRegs [(netA 2 + 0x28, 1000), (netA 2, 0x81), (netA 2 + 4,1)] centralDev))), by decide +kernel⟩,
   ⟨2, (stateOf (withRegs [(netA 2, 0x41), (netA 2 + 4,1)] centralDev)), by decide +kernel⟩,
   ⟨2, false, (stateOf (up 2 centralDev)), by decide +kernel⟩,
   ⟨2, [], true, (stateOf (up 2 centralDev)), by decide +kernel⟩,
   ⟨2, f1, true, (stateOf (up 2 centralDev)), by decide +kernel⟩,
   ⟨2, f2, true, (stateOf (up 2 centralDev)), by decide +kernel⟩,
   ⟨2, f3, true, (stateOf (up 2 centralDev)), by decide +kernel⟩,
   ⟨2, (ip 51230 me2), true, (stateOf (prt 2 {ctrlCount := 10} (up 2 centralDev))), by decide +kernel⟩,
   ⟨2, (ip 51230 me2), true, (stateOf (up 2 centralDev)), by decide +kernel⟩,
   ⟨2, f0, true, (stateOf (up 2 centralDev)), by decide +kernel⟩,
   ⟨(dg 1 (av2 ++ av2)), (stateOf (up 2 centralDev)), by decide +kernel⟩⟩

theorem test_hyps_StreamPacketsGoAndComeInTime :
    (∃ (c pk : Nat) (p : Plan) (x : StreamCtx) (s : State),
    let qs := packetQuanta s.dev x.desc pk
    (s.dev.plan.active = some p) ∧ (ctx? s.dev false c = some x) ∧ (streamsRun s.dev = true) ∧ (x.next ≤ pk) ∧ (qs.2 < s.dev.net.departNext) ∧ (s.dev.net.departFirst ≤ qs.1) ∧ ((∀ i, i ≤ qs.2 - qs.1 → fget false s.dev.disp.suppressed (qs.1 + i) = false)) ∧ ((rtpPacket s.dev p x.desc pk).2 = 0))
    ∧ (∃ (p c : Nat) (f : TxFrame) (x : StreamCtx) (s : State),
    let l := fget [] s.dev.net.txq (8 * p + 5)
    (l.find? (fun g => g.ctx.isSome) = some f) ∧ (f.ctx = some c) ∧ (ctx? s.dev false c = some x))
    ∧ (∃ (k : RxPacket) (s : State),
    (packetCtx s.dev k = none))
    ∧ (∃ (k : RxPacket) (c : Nat) (legB : Bool) (x : StreamCtx) (s : State),
    (packetCtx s.dev k = some (c, legB, x)) ∧ (packetOk s.dev x.desc k.rtp = false))
    ∧ (∃ (k : RxPacket) (c : Nat) (legB : Bool) (x : StreamCtx) (s : State),
    let n := packetPos s.dev x.desc k.rtp
    (packetCtx s.dev k = some (c, legB, x)) ∧ (packetOk s.dev x.desc k.rtp = true) ∧ (packetLate s.dev x.desc n = true))
    ∧ (∃ (k : RxPacket) (c : Nat) (legB : Bool) (x : StreamCtx) (s : State),
    let n := packetPos s.dev x.desc k.rtp
    let last := n + (packetSamples s.dev x.desc : Int) - 1
    let early := 32 * qnNow s.dev + 287
    (packetCtx s.dev k = some (c, legB, x)) ∧ (packetOk s.dev x.desc k.rtp = true) ∧ (packetLate s.dev x.desc n = false) ∧ ((early : Int) < last))
    ∧ (∃ (k : RxPacket) (c : Nat) (legB : Bool) (x : StreamCtx) (s : State),
    let n := packetPos s.dev x.desc k.rtp
    let last := n + (packetSamples s.dev x.desc : Int) - 1
    let early := 32 * qnNow s.dev + 287
    (packetCtx s.dev k = some (c, legB, x)) ∧ (packetOk s.dev x.desc k.rtp = true) ∧ (packetLate s.dev x.desc n = false) ∧ (last ≤ (early : Int)) ∧ (dNative x.desc = false) ∧ (packetRepeats s.dev x n.toNat (packetSamples s.dev x.desc) = false))
    ∧ (∃ (v : Nat) (s : State),
    (v < 512) ∧ (ctx? s.dev (decide (256 ≤ v)) (v % 256) = none)) :=
  ⟨⟨4, 1000, {index := 3, objects := [{}]}, {desc := sd 0 0 0 2, next := 999}, (stateOf (tx {desc := sd 0 0 0 2, next := 999} {up2 centralDev with geom := {centralDev.geom with fresh := false}})), by decide +kernel⟩,
   ⟨2, 4, sfr, {desc := sd 0 0 0 2}, (stateOf (nq [(21, [fr, sfr, fr])] (tx {desc := sd 0 0 0 2} (up2 centralDev)))), by decide +kernel⟩,
   ⟨(rk 5 98), (stateOf (up2 centralDev)), by decide +kernel⟩,
   ⟨(rk 32100 97), 4, false, {desc := sd 1 0 0 2}, (stateOf (rx {desc := sd 1 0 0 2} (up2 centralDev))), by decide +kernel⟩,
   ⟨(rk 10000 98), 4, false, {desc := sd 1 0 0 2}, (stateOf (rx {desc := sd 1 0 0 2} (up2 {centralDev with voice := {centralDev.voice with filled := 900}}))), by decide +kernel⟩,
   ⟨(rk 32280 98), 4, false, {desc := sd 1 0 0 2}, (stateOf (rx {desc := sd 1 0 0 2} (up2 centralDev))), by decide +kernel⟩,
   ⟨(rk 32000 98), 4, false, {desc := sd 1 0 0 2}, (stateOf (rx {desc := sd 1 0 0 2} (up2 centralDev))), by decide +kernel⟩,
   ⟨261, (stateOf (rx {desc := sd 1 0 0 2, packets := 4, late := 3, dups := 6} (up2 centralDev))), by decide +kernel⟩⟩

theorem test_hyps_PairsFormBeatAndPart :
    (∃ (s : State),
    (formReady s.dev = true) ∧ (devIndex s.dev = 0) ∧ (s.dev.pair.formQn = none))
    ∧ (∃ (s : State),
    (pairOn s.dev = true) ∧ (s.dev.sys.mode ≠ .boot) ∧ (s.dev.sys.mode ≠ .stop))
    ∧ (∃ (path : Nat) (b : Bytes) (s : State),
    (pairOn s.dev = true) ∧ (path ≤ 1) ∧ (pairFrameOk s.dev path b = false))
    ∧ (∃ (path : Nat) (b : Bytes) (s : State),
    (pairOn s.dev = true) ∧ (path ≤ 1) ∧ (pairFrameOk s.dev path b = true))
    ∧ (∃ (q : Nat) (s : State),
    ((∃ x ∈ s.dev.pair.digests, x.qn = q)) ∧ (fget false s.dev.pair.compared q = false))
    ∧ (∃ (q : Nat) (s : State),
    (s.dev.pair.state = 2) ∧ (fget false s.dev.pair.presWhole q = false) ∧ (s.dev.voice.filled ≤ q))
    ∧ (∃ (s : State),
    ((pathSt s.dev 0).good = true ∨ (pathSt s.dev 0).run ≠ 0))
    ∧ (∃ (s : State),
    ((pathSt s.dev 1).good = true ∨ (pathSt s.dev 1).run ≠ 0))
    ∧ (∃ (p : Nat) (s : State),
    (p ≤ 1) ∧ ((pathSt s.dev p).good = false) ∧ (10 ≤ (pathSt s.dev p).run))
    ∧ (∃ (s : State),
    (pairOn s.dev = true) ∧ ((pathSt s.dev 0).heardAt + 3000000 ≤ nowNs s.dev + 1) ∧ ((pathSt s.dev 1).heardAt + 3000000 ≤ nowNs s.dev + 1) ∧ (((pathSt s.dev 0).heardAt ≠ 0 ∨ (pathSt s.dev 1).heardAt ≠ 0)))
    ∧ (∃ (s : State),
    (bitAt s.dev 0x140000 2 = true) ∧ (devIndex s.dev = 1) ∧ (s.dev.pair.diverged = true) ∧ (s.dev.pair.state = 2) ∧ (fld s.dev 0x140034 4 0 = 0) ∧ (s.dev.pair.partnerFault = false) ∧ (s.dev.pair.divergedAt ≠ 0) ∧ (s.dev.pair.divergedAt + 1000000000 ≤ nowNs s.dev + 1)) :=
  ⟨⟨(stateOf bfk), by decide +kernel⟩,
   ⟨(stateOf (pr2 0 p1 centralDev)), by decide +kernel⟩,
   ⟨0, (bd 0 1 (pairRecord 4 0 3 (beBytes 5 7 ++ zeros 3))), (stateOf (pr2 0 p1 centralDev)), by decide +kernel⟩,
   ⟨1, (bd 0 1 (pairRecord 4 0 3 (beBytes 5 7 ++ zeros 3))), (stateOf (pr2 0 p1 centralDev)), by decide +kernel⟩,
   ⟨77, (stateOf (pr2 0 { p1 with digests := [{qn := 77}] } centralDev)), by decide +kernel⟩,
   ⟨77, (stateOf (pr2 0 p1 centralDev)), by decide +kernel⟩,
   ⟨(stateOf (pr2 0 p1 centralDev)), by decide +kernel⟩,
   ⟨(stateOf (pr2 0 p1 {centralDev with time := {centralDev.time with thetaCnt := 3, thetaPrev := some (3, 2)}})), by decide +kernel⟩,
   ⟨0, (stateOf (pr2 0 {p1 with paths := [(0, {hp with good := false, run := 10})]} centralDev)), by decide +kernel⟩,
   ⟨(stateOf (late (pr2 0 p1 centralDev))), by decide +kernel⟩,
   ⟨(stateOf (late (late (withRegs [(0x140000, 5)] (pr2 1 {p1 with diverged := true, divergedAt := 100} centralDev))))), by decide +kernel⟩⟩

theorem test_hyps_JoinsAdvanceAndLanesSwitch :
    (∃ (x : Join) (s : State),
    let d := if x.phase = 2 then delaySend s.dev else s.dev
    (s.dev.pair.join = some x) ∧ (x.joiner = false) ∧ (2 ≤ x.phase) ∧ (x.phase ≤ 5) ∧ (x.qn ≤ qnNow s.dev) ∧ (s.dev.pair.l4 = true) ∧ (x.step + 1 < joinSteps d x.phase))
    ∧ (∃ (x : Join) (s : State),
    let d := if x.phase = 2 then delaySend s.dev else s.dev
    (s.dev.pair.join = some x) ∧ (x.joiner = false) ∧ (2 ≤ x.phase) ∧ (x.phase ≤ 5) ∧ (x.qn ≤ qnNow s.dev) ∧ (s.dev.pair.l4 = true) ∧ (joinSteps d x.phase ≤ x.step + 1))
    ∧ (∃ (x : Join) (s : State),
    (s.dev.pair.join = some x) ∧ (2 ≤ x.phase) ∧ (x.phase < 6) ∧ (s.dev.pair.l4 = false))
    ∧ (∃ (x : Join) (s : State),
    (s.dev.pair.join = some x) ∧ (x.joiner = true) ∧ (x.phase = 2) ∧ (x.qn ≤ qnNow s.dev) ∧ (s.dev.pair.l4 = true))
    ∧ (∃ (x : Join) (s : State),
    (s.dev.pair.join = some x) ∧ (x.joiner = true) ∧ (x.phase = 3) ∧ (x.qn ≤ qnNow s.dev) ∧ (s.dev.pair.l4 = true))
    ∧ (∃ (x : Join) (s : State),
    (s.dev.pair.join = some x) ∧ (x.joiner = true) ∧ (4 ≤ x.phase) ∧ (x.phase ≤ 5) ∧ (x.qn ≤ qnNow s.dev) ∧ (s.dev.pair.l4 = true))
    ∧ (∃ (x : Join) (s : State),
    (s.dev.pair.join = some x) ∧ (x.joiner = false))
    ∧ (∃ (x : Join) (s : State),
    (s.dev.pair.join = some x) ∧ (x.joiner = true) ∧ (s.dev.sys.running = none) ∧ (s.dev.age.margins = []) ∧ (s.dev.age.nextMhz = none) ∧ (s.dev.sys.pendReq = none))
    ∧ (∃ (s : State),
    (devIndex s.dev = 0) ∧ (pairOn s.dev = true) ∧ (s.dev.pair.lane = none))
    ∧ (∃ (x : LaneSwitch) (s : State),
    (s.dev.pair.lane = some x) ∧ (x.l4 ≠ s.dev.pair.l4) ∧ (s.dev.time.pt = x.pt))
    ∧ (∃ (s : State),
    (s.dev.pair.laneFailAt ≠ 0) ∧ (s.dev.pair.laneFailAt + 1000000000 ≤ nowNs s.dev + 1)) :=
  ⟨⟨⟨false, 4, 1000, none, 0⟩, (stateOf (pr2 0 (jn ⟨false, 4, 1000, none, 0⟩ p1) {centralDev with plan := {centralDev.plan with active := some ptj}})), by decide +kernel⟩,
   ⟨⟨false, 2, 900, none, 0⟩, (stateOf (pr2 0 (jn ⟨false, 2, 900, none, 0⟩ p1) centralDev)), by decide +kernel⟩,
   ⟨⟨false, 5, 1000, none, 40⟩, (stateOf (pr2 0 {jn ⟨false, 5, 1000, none, 40⟩ p1 with l4 := false} centralDev)), by decide +kernel⟩,
   ⟨⟨true, 2, 1000, none, 0⟩, (stateOf (pr2 0 (jn ⟨true, 2, 1000, none, 0⟩ p1) centralDev)), by decide +kernel⟩,
   ⟨⟨true, 3, 1000, none, 0⟩, (stateOf (pr2 0 (jn ⟨true, 3, 1000, none, 0⟩ p1) centralDev)), by decide +kernel⟩,
   ⟨⟨true, 4, 1000, some 1002, 0⟩, (stateOf (pr2 0 (jn ⟨true, 4, 1000, some 1002, 0⟩ p1) centralDev)), by decide +kernel⟩,
   ⟨⟨false, 4, 1000, none, 0⟩, (stateOf (pr2 0 (jn ⟨false, 4, 1000, none, 0⟩ {p1 with resyncCid := some 6}) centralDev)), by decide +kernel⟩,
   ⟨⟨true, 4, 1000, none, 0⟩, (stateOf (pr2 0 (jn ⟨true, 4, 1000, none, 0⟩ {p1 with resyncCid := some 6}) {centralDev with age := {}})), by decide +kernel⟩,
   ⟨(stateOf (pr2 0 p1 centralDev)), by decide +kernel⟩,
   ⟨⟨true, 5000000000⟩, (stateOf (pr2 0 {p1 with lane := some ⟨true, 5000000000⟩} centralDev)), by decide +kernel⟩,
   ⟨(stateOf (late (late (withRegs [(0x140000, 3)] (pr2 0 {p1 with laneFailAt := 5} centralDev))))), by decide +kernel⟩⟩

theorem test_hyps_RingsFollowTheirDoorbells :
    (∃ (r : Nat) (s : State),
    (r < 74) ∧ (ringRunning s.dev r = false))
    ∧ (∃ (r v : Nat) (s : State),
    let w := v % 2 ^ 32
    (r < 74) ∧ (ringRunning s.dev r = true) ∧ (doorbellOk s.dev r w = false))
    ∧ (∃ (r v : Nat) (s : State),
    let w := v % 2 ^ 32
    (r < 74) ∧ (ringRunning s.dev r = true) ∧ (doorbellOk s.dev r w = true) ∧ (bitAt s.dev 0x30000 0 = false) ∧ (w ≠ ringDev s.dev r))
    ∧ (∃ (r v : Nat) (s : State),
    let w := v % 2 ^ 32
    (r < 74) ∧ (ringRunning s.dev r = true) ∧ (doorbellOk s.dev r w = true) ∧ (bitAt s.dev 0x30000 0 = false) ∧ (w = ringDev s.dev r))
    ∧ (∃ (r v : Nat) (s : State),
    let w := v % 2 ^ 32
    (r < 74) ∧ (ringRunning s.dev r = true) ∧ (doorbellOk s.dev r w = true) ∧ (bitAt s.dev 0x30000 0 = true))
    ∧ (∃ (off : Nat) (v : BarWrite),
    (v.bytes ≠ 4 ∨ off % 4 ≠ 0 ∨ 74 ≤ off / 4))
    ∧ (∃ (r v : Nat) (s : State),
    let w := bits v 4 0 + bits v 24 8 * 2 ^ 8
    (r < 74) ∧ (v < 2 ^ 32) ∧ (ringCfgOk r w = false ∨ (ringEnabled s.dev r = true ∧ v.testBit 8 = true)))
    ∧ (∃ (r v : Nat),
    let w := bits v 4 0 + bits v 24 8 * 2 ^ 8
    (r < 74) ∧ (v < 2 ^ 32) ∧ (ringCfgOk r w = true) ∧ (v.testBit 8 = false))
    ∧ (∃ (r v : Nat) (s : State),
    let w := bits v 4 0 + bits v 24 8 * 2 ^ 8
    (r < 74) ∧ (v < 2 ^ 32) ∧ (ringCfgOk r w = true) ∧ (v.testBit 8 = true) ∧ (ringEnabled s.dev r = false))
    ∧ (∃ (r : Nat) (s : State),
    (fld s.dev (ringA r + 4) 31 16 ≠ 0) ∧ ((ringSt s.dev r).count ≠ 0) ∧ ((ringSt s.dev r).since + 1000 * fld s.dev (ringA r + 4) 31 16 ≤ nowNs s.dev))
    ∧ (∃ (r : Nat) (e : Bytes) (s : State),
    let kind := fld s.dev (ringA r) 11 10
    let n := leAt e 14 1
    let need := if kind = 0 then n * 32 * leAt e 12 2 * 4 else n * 4288
    let reserved := entryReserved (decide (kind = 0)) (decide (kind ≠ 1)) e
    (33 ≤ r) ∧ (r ≤ 64) ∧ (ringHeld s.dev r ≠ 0) ∧ (ringRunning s.dev r = true ∨ (kind = 1 ∧ 0 < fget 0 s.dev.aport.placed r ∧ ringHalted s.dev r = false)) ∧ (reserved = false ∨ entryOk (decide (kind = 0)) need e = false))
    ∧ (∃ (r : Nat) (e : Bytes) (s : State),
    let kind := fld s.dev (ringA r) 11 10
    let n := leAt e 14 1
    let need := if kind = 0 then n * 32 * leAt e 12 2 * 4 else n * 4288
    let reserved := entryReserved (decide (kind = 0)) (decide (kind ≠ 1)) e
    (33 ≤ r) ∧ (r ≤ 64) ∧ (ringHeld s.dev r ≠ 0) ∧ (ringRunning s.dev r = true ∨ (kind = 1 ∧ 0 < fget 0 s.dev.aport.placed r ∧ ringHalted s.dev r = false)) ∧ (reserved = true) ∧ (entryOk (decide (kind = 0)) need e = true) ∧ (kind = 0) ∧ (leAt e 16 5 ≤ qnNow s.dev + 2))
    ∧ (∃ (r : Nat) (e : Bytes) (b : Block) (s : State),
    let kind := fld s.dev (ringA r) 11 10
    let n := leAt e 14 1
    let need := if kind = 0 then n * 32 * leAt e 12 2 * 4 else n * 4288
    let reserved := entryReserved (decide (kind = 0)) (decide (kind ≠ 1)) e
    (33 ≤ r) ∧ (r ≤ 64) ∧ (ringHeld s.dev r ≠ 0) ∧ (ringRunning s.dev r = true ∨ (kind = 1 ∧ 0 < fget 0 s.dev.aport.placed r ∧ ringHalted s.dev r = false)) ∧ (reserved = true) ∧ (entryOk (decide (kind = 0)) need e = true) ∧ (kind = 1) ∧ ((aport s.dev (fld s.dev (ringA r) 15 12)).done = some b) ∧ (b.qn < fget 0 s.dev.aport.rxNext r))
    ∧ (∃ (r : Nat) (e : Bytes) (b : Block) (s : State),
    let kind := fld s.dev (ringA r) 11 10
    let n := leAt e 14 1
    let need := if kind = 0 then n * 32 * leAt e 12 2 * 4 else n * 4288
    let reserved := entryReserved (decide (kind = 0)) (decide (kind ≠ 1)) e
    (33 ≤ r) ∧ (r ≤ 64) ∧ (ringHeld s.dev r ≠ 0) ∧ (ringRunning s.dev r = true ∨ (kind = 1 ∧ 0 < fget 0 s.dev.aport.placed r ∧ ringHalted s.dev r = false)) ∧ (reserved = true) ∧ (entryOk (decide (kind = 0)) need e = true) ∧ (kind = 1) ∧ ((aport s.dev (fld s.dev (ringA r) 15 12)).done = some b) ∧ (fget 0 s.dev.aport.rxNext r ≤ b.qn))
    ∧ (∃ (r : Nat) (e : Bytes) (s : State),
    let kind := fld s.dev (ringA r) 11 10
    let n := leAt e 14 1
    let need := if kind = 0 then n * 32 * leAt e 12 2 * 4 else n * 4288
    let reserved := entryReserved (decide (kind = 0)) (decide (kind ≠ 1)) e
    (33 ≤ r) ∧ (r ≤ 64) ∧ (ringHeld s.dev r ≠ 0) ∧ (ringRunning s.dev r = true ∨ (kind = 1 ∧ 0 < fget 0 s.dev.aport.placed r ∧ ringHalted s.dev r = false)) ∧ (reserved = true) ∧ (entryOk (decide (kind = 0)) need e = true) ∧ (kind = 2)) :=
  ⟨⟨3, (stateOf (rn2 3 0 1 9 (iq centralDev))), by decide +kernel⟩,
   ⟨3, 5, (stateOf (rn2 3 0x104 1 3 (iq centralDev))), by decide +kernel⟩,
   ⟨3, 2, (stateOf (rn2 3 0x104 1 3 (iq centralDev))), by decide +kernel⟩,
   ⟨3, 3, (stateOf (rn2 3 0x104 1 3 (iq centralDev))), by decide +kernel⟩,
   ⟨17, 3, (stateOf (withRegs [(0x30000, 1)] (rn2 17 0x104 3 3 (iq centralDev)))), by decide +kernel⟩,
   ⟨2, ⟨3, 4⟩, by decide +kernel⟩,
   ⟨17, 0x104, (stateOf (rn2 17 0x104 3 3 (iq centralDev))), by decide +kernel⟩,
   ⟨17, 0x4, by decide +kernel⟩,
   ⟨3, 0xFF000304, (stateOf (rn2 3 0x4 1 3 (iq centralDev))), by decide +kernel⟩,
   ⟨3, (stateOf (withRegs [(ringA 3 + 4, 0x100010)] (rn2 3 0x104 1 3 (iq centralDev)))), by decide +kernel⟩,
   ⟨34, (en2 0 0 1 500), (stateOf (rn2 34 0x104 4 3 (iq centralDev))), by decide +kernel⟩,
   ⟨34, (en2 0 2 1 500), (stateOf (rn2 34 0x104 4 3 (iq centralDev))), by decide +kernel⟩,
   ⟨34, (en2 1 0 3 0), {qn := 3}, (stateOf (putAport 0 {done := some {qn := 3}} (rn2 34 0x404 4 3 {iq centralDev with aport := {centralDev.aport with placed := [(34, 1)], rxNext := [(34,5)]}}))), by decide +kernel⟩,
   ⟨34, (en2 1 0 1 0), blk1, (stateOf (let d := rn2 34 0x504 4 3 (iq centralDev); {d with aport := {d.aport with ports := [(0, {done := some blk1})]}})), by decide +kernel⟩,
   ⟨34, (en2 2 0 1 1001), (stateOf (rn2 34 0x3904 4 3 (iq centralDev))), by decide +kernel⟩⟩

theorem test_hyps_SessionsOpenActAndClose :
    (∃ (ip : Nat) (m body : Bytes) (k : Nat) (s : State),
    (messageBody 1 m = some body) ∧ (body.length = 114) ∧ (beAt m 4 4 = 0) ∧ (helloBanned s.dev ip = false) ∧ (s.dev.sec.lifeCycle ≠ 2) ∧ (s.dev.sys.mode ≠ .boot) ∧ (s.dev.sys.mode ≠ .stop) ∧ (helloRecord s.dev = some k) ∧ ((keySlot s.dev (beAt body 0 1)).role = 0))
    ∧ (∃ (ip : Nat) (m body : Bytes) (k : Nat) (s : State),
    (messageBody 1 m = some body) ∧ (body.length = 114) ∧ (beAt m 4 4 = 0) ∧ (helloBanned s.dev ip = false) ∧ (s.dev.sec.lifeCycle ≠ 2) ∧ (s.dev.sys.mode ≠ .boot) ∧ (s.dev.sys.mode ≠ .stop) ∧ (helloRecord s.dev = some k) ∧ ((keySlot s.dev (beAt body 0 1)).role ≠ 0))
    ∧ (∃ (m body : Bytes) (k : Nat) (s : State),
    let x := sess s.dev k
    let good := ecdsaVerify (keySlot s.dev x.slot).key (x.helloBody ++ x.challenge) body
      && decide ((keySlot s.dev x.slot).role ≠ 0)
    (messageBody 3 m = some body) ∧ (messageSlot m = some k) ∧ (x.used = true) ∧ (x.isOpen = false) ∧ (x.rxCounter < messageCounter m) ∧ (good = false))
    ∧ (∃ (m body : Bytes) (k : Nat) (s : State),
    let x := sess s.dev k
    let good := ecdsaVerify (keySlot s.dev x.slot).key (x.helloBody ++ x.challenge) body
      && decide ((keySlot s.dev x.slot).role ≠ 0)
    (messageBody 3 m = some body) ∧ (messageSlot m = some k) ∧ (x.used = true) ∧ (x.isOpen = false) ∧ (x.rxCounter < messageCounter m) ∧ (good = true))
    ∧ (∃ (m : Bytes) (s : State),
    (sessionJudge s.dev 4 m = .bad))
    ∧ (∃ (m : Bytes) (s : State),
    (sessionJudge s.dev 7 m = .bad))
    ∧ (∃ (m : Bytes) (s : State),
    (sessionJudge s.dev 8 m = .bad))
    ∧ (∃ (m : Bytes) (s : State),
    (sessionJudge s.dev 9 m = .bad))
    ∧ (∃ (k : Nat) (m body : Bytes) (s : State),
    (sessionJudge s.dev 4 m = .yes k body) ∧ (body.length = 64))
    ∧ (∃ (k : Nat) (m body : Bytes) (s : State),
    (sessionJudge s.dev 7 m = .yes k body) ∧ (4 ≤ body.length))
    ∧ (∃ (k : Nat) (m body : Bytes) (s : State),
    (sessionJudge s.dev 8 m = .yes k body))
    ∧ (∃ (k : Nat) (m body : Bytes) (s : State),
    (sessionJudge s.dev 9 m = .yes k body))
    ∧ (∃ (k : Nat) (s : State),
    (k < 8) ∧ ((sess s.dev k).isOpen = true) ∧ ((sess s.dev k).lastAt + 10 * secNs ≤ nowNs s.dev))
    ∧ (∃ (ip : Nat) (s : State),
    (helloBanned s.dev ip = false)) :=
  ⟨⟨9, (msgZ 1 0 4 (hello 1)), (hello 1), 0, (stateOf (ks centralDev)), by decide +kernel⟩,
   ⟨9, (msgZ 1 0 4 (hello 2)), (hello 2), 0, (stateOf (ks centralDev)), by decide +kernel⟩,
   ⟨(msgZ 3 4 5 (zeros 96)), (zeros 96), 3, (stateOf (se ss centralDev)), by decide +kernel⟩,
   ⟨(msgZ 3 4 5 sig), sig, 3, (stateOf (se {ss with helloBody := bl3 [2], challenge := bl3 [4]} centralDev)), by decide +kernel⟩,
   ⟨(msgZ 4 4 5 (zeros 64)), (stateOf (se so centralDev)), by decide +kernel⟩,
   ⟨(msgZ 7 4 5 (zeros 64)), (stateOf (se so centralDev)), by decide +kernel⟩,
   ⟨(msgZ 8 4 5 (zeros 64)), (stateOf (se so centralDev)), by decide +kernel⟩,
   ⟨(msgZ 9 4 5 (zeros 64)), (stateOf (se so centralDev)), by decide +kernel⟩,
   ⟨3, (msgM 4 4 5 ce2 84848944709999331193587898929907962579), ce2, (stateOf (se so centralDev)), by decide +kernel⟩,
   ⟨3, (msgM 7 4 5 ce2 175923632550276982645208891715251862443), ce2, (stateOf (withRegs [(0x1A0170, 0x4000)] (se so centralDev))), by decide +kernel⟩,
   ⟨3, (msgM 8 4 5 ce2 323237527200607344750030236710689174770), ce2, (stateOf (se so centralDev)), by decide +kernel⟩,
   ⟨3, (msgM 9 4 5 [] 179797427615929601102024048928965346519), [], (stateOf (iq (se so centralDev))), by decide +kernel⟩,
   ⟨3, (stateOf {{se so centralDev with time := {centralDev.time with now := 20000000000}} with host := {(se so centralDev).host with inflight := (iq centralDev).host.inflight, waitQ := (iq centralDev).host.waitQ}}), by decide +kernel⟩,
   ⟨7, (stateOf {{centralDev with time := {centralDev.time with now := 20000000000000}} with host := {centralDev.host with banned := [(7, 1), (9, 1)]}}), by decide +kernel⟩⟩

theorem test_hyps_ScenesCommitAndLoad :
    (∃ (op : SceneOp) (s : State),
    (s.dev.host.sceneOp = some op))
    ∧ (∃ (s : State),
    (s.dev.sys.mode = .config) ∧ (s.dev.host.autoloaded = false))
    ∧ (∃ (s : State),
    (s.dev.host.autoloaded = true))
    ∧ (∃ (m : Mode) (s : State),
    (s.dev.host.startMode = some m) ∧ (startReady s.dev m = true))
    ∧ (∃ (m : Mode) (s : State),
    (s.dev.host.startMode = some m) ∧ (startReady s.dev m = false)) :=
  ⟨⟨scop, (stateOf (sc centralDev)), by decide +kernel⟩,
   ⟨(stateOf (iq configDev)), by decide +kernel⟩,
   ⟨(stateOf {centralDev with host := {centralDev.host with autoloaded := true}}), by decide +kernel⟩,
   ⟨.safe, (stateOf (sm .safe configDev)), by decide +kernel⟩,
   ⟨.central, (stateOf (sm .central (withRegs [(0x210, 0x50240)] { configDev with time := { configDev.time with epochSet := false } }))), by decide +kernel⟩⟩

theorem test_hyps_MemoryErrorsAreRecorded :
    (∃ (m t a : Nat) (late : Bool),
    (m < 32) ∧ (t < 32) ∧ (a < 2 ^ 40) ∧ (late = true))
    ∧ (∃ (m t a : Nat) (late : Bool),
    (m < 32) ∧ (t < 32) ∧ (a < 2 ^ 40) ∧ (late = false))
    ∧ (∃ (ch : Nat) (s : State),
    (ch < 4) ∧ (ch < s.dev.memory.population) ∧ (s.dev.memory.retraining = none))
    ∧ (∃ (ch : Nat) (s : State),
    (s.dev.memory.retraining = some ch))
    ∧ (∃ (r : Nat) (s : State),
    (1 ≤ r) ∧ (r ≤ 4) ∧ (s.dev.memory.corrected = []))
    ∧ (∃ (c : Nat) (s : State),
    (s.dev.memory.wipes = [c])) :=
  ⟨⟨5, 9, 0x123456789, true, by decide +kernel⟩,
   ⟨5, 9, 0x123456789, false, by decide +kernel⟩,
   ⟨1, (stateOf (mm {population := 2} centralDev)), by decide +kernel⟩,
   ⟨1, (stateOf (mm {population := 2, retraining := some 1} centralDev)), by decide +kernel⟩,
   ⟨1, (stateOf (mm {population := 2} centralDev)), by decide +kernel⟩,
   ⟨5, (stateOf (mm {wipes := [5]} centralDev)), by decide +kernel⟩⟩

theorem test_hyps_DmaChannelsObeyAndMove :
    (∃ (m : Master) (c v : Nat),
    (c < 64) ∧ (v < 2 ^ 32) ∧ (dmaGuard m c = true))
    ∧ (∃ (m : Master) (c v : Nat) (s : State),
    let free := (dmaCh s.dev c).state = .disabled ∨ (dmaCh s.dev c).state = .halted
    let fits := dmaHeld s.dev c + subMod 32 v (rdN s.dev (dmaA c + 0x1C)) ≤ 2 ^ fld s.dev (dmaA c) 4 0
    (c < 64) ∧ (v < 2 ^ 32) ∧ (dmaGuard m c = false) ∧ (free ∨ fits))
    ∧ (∃ (m : Master) (c v : Nat) (s : State),
    let free := (dmaCh s.dev c).state = .disabled ∨ (dmaCh s.dev c).state = .halted
    let fits := dmaHeld s.dev c + subMod 32 v (rdN s.dev (dmaA c + 0x1C)) ≤ 2 ^ fld s.dev (dmaA c) 4 0
    (c < 64) ∧ (v < 2 ^ 32) ∧ (dmaGuard m c = false) ∧ (¬free) ∧ (¬fits))
    ∧ (∃ (m : Master) (c : Nat),
    (c < 64) ∧ (dmaGuard m c = true))
    ∧ (∃ (m : Master) (c : Nat) (s : State),
    let x := dmaCh s.dev c
    (c < 64) ∧ (dmaGuard m c = false) ∧ (bitAt s.dev (dmaA c + 4) 0 = true) ∧ (x.state = .running))
    ∧ (∃ (m : Master) (c : Nat) (s : State),
    let x := dmaCh s.dev c
    (c < 64) ∧ (dmaGuard m c = false) ∧ (bitAt s.dev (dmaA c + 4) 0 = true) ∧ (x.state = .idle))
    ∧ (∃ (m : Master) (c : Nat) (s : State),
    let x := dmaCh s.dev c
    (c < 64) ∧ (dmaGuard m c = false) ∧ (bitAt s.dev (dmaA c + 4) 0 = true) ∧ (x.state = .running ∨ x.state = .stopping) ∧ (x.desc = none))
    ∧ (∃ (m : Master) (c : Nat) (s : State),
    let x := dmaCh s.dev c
    (c < 64) ∧ (dmaGuard m c = false) ∧ (bitAt s.dev (dmaA c + 4) 0 = true) ∧ (x.state = .stopped))
    ∧ (∃ (m : Master) (c : Nat) (s : State),
    let x := dmaCh s.dev c
    (c < 64) ∧ (dmaGuard m c = false) ∧ (bitAt s.dev (dmaA c + 4) 0 = true) ∧ (x.state = .halted))
    ∧ (∃ (c : Nat) (host : Bytes) (s : State),
    let b := padTo 32 host
    (c < 64) ∧ (bitAt s.dev 0x190000 0 = true) ∧ ((dmaCh s.dev c).state = .idle) ∧ (dmaHeld s.dev c ≠ 0) ∧ ((dmaCh s.dev c).desc = none) ∧ ((dmaEntryAddr s.dev c).testBit 63 = false) ∧ (dmaDescOk b = true))
    ∧ (∃ (c : Nat) (host : Bytes) (s : State),
    let b := padTo 32 host
    (c < 64) ∧ (bitAt s.dev 0x190000 0 = true) ∧ ((dmaCh s.dev c).state = .idle) ∧ (dmaHeld s.dev c ≠ 0) ∧ ((dmaCh s.dev c).desc = none) ∧ ((dmaEntryAddr s.dev c).testBit 63 = false) ∧ (dmaDescOk b = false))
    ∧ (∃ (c port : Nat) (b : Bytes) (s : State),
    let x := dmaCh s.dev c
    let n := burstSize b x.done
    (c < 64) ∧ ((dmaCh s.dev c).desc = some b) ∧ ((dmaCh s.dev c).ended = false) ∧ ((dmaCh s.dev c).state = .running) ∧ (dmaBound (dmaArbitrate s.dev) c = some port) ∧ (burstDecode s.dev b x.done n = none) ∧ (x.tries < fld s.dev (dmaA c) 15 12) ∧ (x.done + n < leAt b 16 4))
    ∧ (∃ (c port : Nat) (b : Bytes) (s : State),
    let x := dmaCh s.dev c
    let n := burstSize b x.done
    (c < 64) ∧ ((dmaCh s.dev c).desc = some b) ∧ ((dmaCh s.dev c).ended = false) ∧ ((dmaCh s.dev c).state = .running) ∧ (dmaBound (dmaArbitrate s.dev) c = some port) ∧ (burstDecode s.dev b x.done n = none) ∧ (x.tries < fld s.dev (dmaA c) 15 12) ∧ (leAt b 16 4 ≤ x.done + n))
    ∧ (∃ (c port : Nat) (b : Bytes) (s : State),
    let x := dmaCh s.dev c
    let n := burstSize b x.done
    (c < 64) ∧ ((dmaCh s.dev c).desc = some b) ∧ ((dmaCh s.dev c).ended = false) ∧ ((dmaCh s.dev c).state = .running) ∧ (dmaBound (dmaArbitrate s.dev) c = some port) ∧ (burstDecode s.dev b x.done n = none) ∧ (fld s.dev (dmaA c) 15 12 ≤ x.tries) ∧ (x.done + n < leAt b 16 4))
    ∧ (∃ (c : Nat) (s : State),
    (c < 64) ∧ ((dmaCh s.dev c).ended = true) ∧ ((dmaCh s.dev c).state = .running)) :=
  ⟨⟨.host, 5, 7, by decide +kernel⟩,
   ⟨.host, 50, 7, (stateOf (ch 50 {} [] centralDev)), by decide +kernel⟩,
   ⟨.host, 50, 20, (stateOf (ch 50 {state := .running} [] centralDev)), by decide +kernel⟩,
   ⟨.host, 5, by decide +kernel⟩,
   ⟨.host, 50, (stateOf (ch 50 {state := .running} [] centralDev)), by decide +kernel⟩,
   ⟨.host, 50, (stateOf (ch 50 {state := .idle, desc := some dd} [] centralDev)), by decide +kernel⟩,
   ⟨.host, 50, (stateOf (ch 50 {state := .running} [] centralDev)), by decide +kernel⟩,
   ⟨.host, 50, (stateOf (ch 50 {state := .stopped, tries := 3} [] centralDev)), by decide +kernel⟩,
   ⟨.host, 50, (stateOf (ch 50 {state := .halted, tries := 3} [(dmaA 50 + 0x1C, 3)] centralDev)), by decide +kernel⟩,
   ⟨50, dg2, (stateOf (ch 50 {state := .idle, tries := 3} [(dmaA 50 + 0x10, 0)] centralDev)), by decide +kernel⟩,
   ⟨50, dd, (stateOf (ch 50 {state := .idle, tries := 3} [(dmaA 50 + 0x10, 0)] centralDev)), by decide +kernel⟩,
   ⟨50, 0, dg2, (stateOf (ch 50 {state := .running, desc := some dg2} [] centralDev)), by decide +kernel⟩,
   ⟨50, 0, dg2, (stateOf (ch 50 {state := .running, desc := some dg2, done := 512} [] centralDev)), by decide +kernel⟩,
   ⟨50, 0, dg2, (stateOf (ch 50 {state := .running, desc := some dg2, tries := 2, used := 2} [] centralDev)), by decide +kernel⟩,
   ⟨50, (stateOf (ch 50 {state := .running, desc := some dg2, tries := 1, used := 2, ended := true, cur := 0x1000} [] centralDev)), by decide +kernel⟩⟩

theorem test_hyps_WakesFollowTheirStages :
    (∃ (i : Nat) (s : State),
    (i ≤ 3) ∧ (bitAt s.dev 0x10020 i = true) ∧ (s.dev.sys.mode = .stop) ∧ (s.dev.pwr.wake = .none) ∧ (s.dev.pwr.causes.testBit i = false))
    ∧ (∃ (i : Nat) (s : State),
    (bitAt s.dev 0x10020 i = false))
    ∧ (∃ (s : State),
    (s.dev.pwr.wake = .supply) ∧ (s.dev.pwr.attempts < 4))
    ∧ (∃ (s : State),
    (s.dev.pwr.wake = .supply) ∧ (4 ≤ s.dev.pwr.attempts))
    ∧ (∃ (s : State),
    (s.dev.pwr.wake = .supply))
    ∧ (∃ (s : State),
    (s.dev.pwr.wake = .pause))
    ∧ (∃ (s : State),
    (s.dev.pwr.wake = .plls))
    ∧ (∃ (s : State),
    (s.dev.pwr.wake = .sram))
    ∧ (∃ (s : State),
    (s.dev.pwr.wake = .refclk))
    ∧ (∃ (i : Nat) (s : State),
    (i ≤ 3) ∧ (bitAt s.dev 0x10020 i = true) ∧ (s.dev.sys.mode = .stop) ∧ (s.dev.pwr.wake = .supply) ∧ (s.dev.pwr.causes.testBit i = false)) :=
  ⟨⟨2, (stateOf (withRegs [(0x10020, 4), (0x10000, 1)] (st2 (pw (fun p => {p with causes := 3}) centralDev)))), by decide +kernel⟩,
   ⟨7, (stateOf centralDev), by decide +kernel⟩,
   ⟨(stateOf (st2 (pw (fun p => {p with wake := .supply, attempts := 3}) centralDev))), by decide +kernel⟩,
   ⟨(stateOf (st2 (pw (fun p => {p with wake := .supply, attempts := 4}) centralDev))), by decide +kernel⟩,
   ⟨(stateOf (withRegs [(0x10000, 1)] (st2 (pw (fun p => {p with wake := .supply, attempts := 4, pgoodLow := true}) centralDev)))), by decide +kernel⟩,
   ⟨(stateOf (withRegs [(0x10000, 1)] (st2 (pw (fun p => {p with wake := .pause, attempts := 2, pgoodLow := true}) centralDev)))), by decide +kernel⟩,
   ⟨(stateOf (st2 (pw (fun p => {p with wake := .plls, attempts := 2, pgoodLow := true}) centralDev))), by decide +kernel⟩,
   ⟨(stateOf (st2 (pw (fun p => {p with wake := .sram, attempts := 2, pgoodLow := true}) centralDev))), by decide +kernel⟩,
   ⟨(stateOf (st2 (pw (fun p => {p with wake := .refclk, attempts := 2, pgoodLow := true}) centralDev))), by decide +kernel⟩,
   ⟨2, (stateOf (withRegs [(0x10020, 4), (0x10000, 1)] (st2 (pw (fun p => {p with causes := 3, wake := .supply, attempts := 2}) centralDev)))), by decide +kernel⟩⟩

theorem test_hyps_SupplyClocksAndTemperature :
    (∃ (s : State),
    (s.dev.pwr.refLost = false) ∧ (s.dev.sys.mode ≠ .stop))
    ∧ (∃ (s : State),
    (s.dev.pwr.refLost = true) ∧ (s.dev.pwr.wake ≠ .refclk))
    ∧ (∃ (ks : List Nat) (s : State),
    (s.dev.sys.mode ≠ .stop) ∧ (s.dev.pwr.badWindows = []) ∧ (s.dev.pwr.clockFailed = []) ∧ ((∀ i, i < 5 → countOk (clockCount s.dev i) (ks.getD i 0) = true)))
    ∧ (∃ (ks : List Nat) (s : State),
    (s.dev.sys.mode ≠ .stop) ∧ (s.dev.sys.mode ≠ .boot) ∧ (countOk (clockCount s.dev 0) (ks.getD 0 0) = false) ∧ (fget 0 s.dev.pwr.badWindows 0 = 1))
    ∧ (∃ (mv : Nat) (s : State),
    (s.dev.pwr.step = none) ∧ (mv < 2 ^ 32))
    ∧ (∃ (p : OpStep) (mv : Nat) (s : State),
    (s.dev.pwr.step = some p) ∧ (p.raising = true) ∧ (p.applied = true) ∧ (p.stepped = false) ∧ (targetMv s.dev p.target ≤ mv + 5) ∧ (mv < 2 ^ 32) ∧ (s.dev.pwr.pend = none) ∧ (s.dev.pwr.offsetDue = false))
    ∧ (∃ (p : OpStep) (s : State),
    (s.dev.pwr.step = some p) ∧ (p.raising = true) ∧ (p.applied = true) ∧ (p.stepped = false) ∧ (s.dev.plan.active = none) ∧ (s.dev.pwr.pend = none) ∧ (s.dev.pwr.offsetDue = false) ∧ (s.dev.sys.mode ≠ .stop) ∧ (p.applyQn + fadeN s.dev ≤ qnNow s.dev))
    ∧ (∃ (p : OpStep) (s : State),
    (s.dev.pwr.step = some p) ∧ (p.raising = false) ∧ (p.stepped = true))
    ∧ (∃ (s : State),
    (s.dev.sys.mode ≠ .stop))
    ∧ (∃ (t : Int) (s : State),
    (s.dev.pwr.warnArmed = true) ∧ ((rdN s.dev 0x10018 : Int) ≤ t))
    ∧ (∃ (t : Int) (s : State),
    (t + 512 ≤ (rdN s.dev 0x10018 : Int)))
    ∧ (∃ (t : Int) (s : State),
    (118 * 256 < t) ∧ (s.dev.sys.mode ≠ .stop))
    ∧ (∃ (s : State),
    (s.dev.pwr.resetLow = false) ∧ (s.dev.pwr.supplyLost = true) ∧ (s.dev.sys.mode = .boot) ∧ (s.dev.pwr.boot.step = 0))
    ∧ (∃ (s : State),
    (s.dev.sys.mode = .stop))
    ∧ (∃ (s : State),
    (s.dev.pwr.refLost = true))
    ∧ (∃ (s : State),
    (s.dev.pwr.refLost = false) ∧ (s.dev.sys.mode = .stop))
    ∧ (∃ (s : State),
    (s.dev.pwr.refLost = false) ∧ (s.dev.pwr.wake ≠ .refclk))
    ∧ (∃ (s : State),
    (s.dev.pwr.refLost = true) ∧ (s.dev.pwr.wake = .refclk))
    ∧ (∃ (t : Int) (s : State),
    (s.dev.pwr.warnArmed = false ∨ t < (rdN s.dev 0x10018 : Int)))
    ∧ (∃ (t : Int) (s : State),
    ((rdN s.dev 0x10018 : Int) < t + 512))
    ∧ (∃ (t : Int),
    (t ≤ 118 * 256))
    ∧ (∃ (p : OpStep) (mv : Nat) (s : State),
    (s.dev.pwr.step = some p) ∧ (p.raising = false) ∧ (p.stepped = true) ∧ (targetMv s.dev p.target ≤ mv + 5) ∧ (mv ≤ targetMv s.dev p.target + 5) ∧ (mv < 2 ^ 32) ∧ (s.dev.pwr.pend = none) ∧ (s.dev.pwr.offsetDue = false))
    ∧ (∃ (p : OpStep) (mv : Nat) (s : State),
    (s.dev.pwr.step = some p) ∧ (p.raising = true) ∧ (p.stepped = false) ∧ (p.applied = false ∨ mv + 5 < targetMv s.dev p.target) ∧ (mv < 2 ^ 32))
    ∧ (∃ (p : OpStep) (s : State),
    (s.dev.pwr.step = some p) ∧ (p.raising = true ∨ p.stepped = false))
    ∧ (∃ (p : OpStep) (s : State),
    (s.dev.pwr.step = some p) ∧ (p.raising = false ∨ p.applied = false ∨ p.stepped = true ∨ qnNow s.dev < p.applyQn + fadeN s.dev))
    ∧ (∃ (s : State),
    (s.dev.pwr.step = none)) :=
  ⟨⟨(stateOf centralDev), by decide +kernel⟩,
   ⟨(stateOf (pw (fun p => {p with refLost := true}) centralDev)), by decide +kernel⟩,
   ⟨((List.range 5).map (clockCount centralDev)), (stateOf centralDev), by decide +kernel⟩,
   ⟨[0,10000], (stateOf (pw (fun p => {p with badWindows := [(0,1), (3,2)]}) centralDev)), by decide +kernel⟩,
   ⟨650, (stateOf (pw (fun p => {p with pgoodLow := true}) centralDev)), by decide +kernel⟩,
   ⟨os, (targetMv centralDev 2), (stateOf (pw (fun p => {p with pgoodLow := true, step := some os}) centralDev)), by decide +kernel⟩,
   ⟨os, (stateOf (bn (pw (fun p => {p with pgoodLow := true, step := some os}) centralDev))), by decide +kernel⟩,
   ⟨{os with raising := false, stepped := true}, (stateOf (pw (fun p => {p with pgoodLow := true, step := some {os with raising := false, stepped := true}}) centralDev)), by decide +kernel⟩,
   ⟨(stateOf centralDev), by decide +kernel⟩,
   ⟨25600, (stateOf (withRegs [(0x10018, 25600)] centralDev)), by decide +kernel⟩,
   ⟨(-300), (stateOf (pw (fun p => {p with warnArmed := false}) centralDev)), by decide +kernel⟩,
   ⟨40000, (stateOf centralDev), by decide +kernel⟩,
   ⟨(stateOf (pw (fun p => {p with supplyLost := true, boot := {step := 0}}) {centralDev with sys := {}})), by decide +kernel⟩,
   ⟨(stateOf (st2 centralDev)), by decide +kernel⟩,
   ⟨(stateOf (pw (fun p => {p with refLost := true}) centralDev)), by decide +kernel⟩,
   ⟨(stateOf (st2 centralDev)), by decide +kernel⟩,
   ⟨(stateOf centralDev), by decide +kernel⟩,
   ⟨(stateOf (pw (fun p => {p with refLost := true, wake := .refclk}) (st2 centralDev))), by decide +kernel⟩,
   ⟨(400:Int), (stateOf centralDev), by decide +kernel⟩,
   ⟨(40000:Int), (stateOf centralDev), by decide +kernel⟩,
   ⟨30208, by decide +kernel⟩,
   ⟨{os with raising := false, stepped := true}, (targetMv centralDev 2 + 5), (stateOf (pw (fun p => {p with pgoodLow := true, step := some {os with raising := false, stepped := true}}) centralDev)), by decide +kernel⟩,
   ⟨os, (targetMv centralDev 2 - 6), (stateOf (pw (fun p => {p with pgoodLow := true, step := some os}) centralDev)), by decide +kernel⟩,
   ⟨os, (stateOf (pw (fun p => {p with step := some os}) centralDev)), by decide +kernel⟩,
   ⟨{os with raising := false, stepped := true}, (stateOf (pw (fun p => {p with step := some {os with raising := false, stepped := true}}) centralDev)), by decide +kernel⟩,
   ⟨(stateOf centralDev), by decide +kernel⟩⟩

theorem test_hyps_ResetClearsEveryRegisterButTheAlwaysOn :
    (∃ (s : State),
    (bitAt s.dev 0x10000 2 = true) ∧ (s.dev.sys.mode ≠ .boot) ∧ (s.dev.sys.mode ≠ .stop) ∧ (s.dev.pwr.wdtAt + 1000000 * rdN s.dev 0x10030 ≤ nowNs s.dev))
    ∧ (∃ (s : State),
    (s.dev.sec.lifeCycle ≠ 1)) :=
  ⟨⟨(stateOf (withRegs [(0x10000, 4), (0x10030, 5)] (rs centralDev))), by decide +kernel⟩,
   ⟨(stateOf (rs centralDev)), by decide +kernel⟩⟩

theorem test_hyps_ResetsReturnToBoot :
    (∃ (s : State),
    (bitAt s.dev 0x10000 2 = true) ∧ (s.dev.sys.mode ≠ .boot) ∧ (s.dev.sys.mode ≠ .stop) ∧ (s.dev.pwr.wdtAt + 1000000 * rdN s.dev 0x10030 ≤ nowNs s.dev))
    ∧ (∃ (s : State),
    (s.dev.sec.lifeCycle ≠ 1))
    ∧ (∃ (s : State),
    (s.dev.sec.lifeCycle = 1))
    ∧ (∃ (s : State),
    (s.dev.pwr.supplyLost = false) ∧ (s.dev.sys.mode = .boot) ∧ (s.dev.pwr.boot.step = 0))
    ∧ (∃ (s : State),
    (bitAt s.dev 0x10000 2 = false ∨ s.dev.sys.mode = .boot ∨ s.dev.sys.mode = .stop ∨ nowNs s.dev < s.dev.pwr.wdtAt + 1000000 * rdN s.dev 0x10030))
    ∧ (∃ (s : State),
    (s.dev.pwr.supplyLost = true)) :=
  ⟨⟨(stateOf (withRegs [(0x10000, 4), (0x10030, 5)] (rs centralDev))), by decide +kernel⟩,
   ⟨(stateOf (rs centralDev)), by decide +kernel⟩,
   ⟨(stateOf {centralDev with sec := {centralDev.sec with lifeCycle := 1}}), by decide +kernel⟩,
   ⟨(stateOf (pw (fun p => {p with boot := {step := 0}}) {centralDev with sys := {}})), by decide +kernel⟩,
   ⟨(stateOf centralDev), by decide +kernel⟩,
   ⟨(stateOf (pw (fun p => {p with supplyLost := true, resetLow := true}) centralDev)), by decide +kernel⟩⟩

theorem test_hyps_BootStepsFollowEachOther :
    (∃ (s : State),
    (s.dev.sys.mode = .boot) ∧ (s.dev.pwr.boot.stopped = false) ∧ (s.dev.pwr.boot.waiting = false) ∧ (s.dev.pwr.boot.step = 1) ∧ (s.dev.pwr.refLost = true))
    ∧ (∃ (x : BootSeen) (s : State),
    (s.dev.sys.mode = .boot) ∧ (s.dev.pwr.boot.stopped = false) ∧ (s.dev.pwr.boot.waiting = false) ∧ (s.dev.pwr.boot.step = 1) ∧ (s.dev.pwr.refLost = false) ∧ (x.supplyOk = false))
    ∧ (∃ (x : BootSeen) (s : State),
    (s.dev.sys.mode = .boot) ∧ (s.dev.pwr.boot.stopped = false) ∧ (s.dev.pwr.boot.waiting = false) ∧ (s.dev.pwr.boot.step = 1) ∧ (s.dev.pwr.refLost = false) ∧ (x.supplyOk = true) ∧ (x.flashMib < 2 ^ 32))
    ∧ (∃ (s : State),
    (s.dev.sys.mode = .boot) ∧ (s.dev.pwr.boot.stopped = false) ∧ (s.dev.pwr.boot.waiting = false) ∧ (s.dev.pwr.boot.step = 2))
    ∧ (∃ (s : State),
    let b := s.dev.pwr.boot
    (s.dev.sys.mode = .boot) ∧ (s.dev.pwr.boot.stopped = false) ∧ (s.dev.pwr.boot.waiting = false) ∧ (b.step = 3))
    ∧ (∃ (x : BootSeen) (s : State),
    let b := s.dev.pwr.boot
    (s.dev.sys.mode = .boot) ∧ (s.dev.pwr.boot.stopped = false) ∧ (s.dev.pwr.boot.waiting = false) ∧ (b.step = 4) ∧ (x.dramOk = true))
    ∧ (∃ (x : BootSeen) (s : State),
    let b := s.dev.pwr.boot
    (s.dev.sys.mode = .boot) ∧ (s.dev.pwr.boot.stopped = false) ∧ (s.dev.pwr.boot.waiting = false) ∧ (b.step = 4) ∧ (x.dramOk = false))
    ∧ (∃ (s : State),
    let b := s.dev.pwr.boot
    (s.dev.sys.mode = .boot) ∧ (s.dev.pwr.boot.stopped = false) ∧ (s.dev.pwr.boot.waiting = false) ∧ (b.step = 5))
    ∧ (∃ (s : State),
    let b := s.dev.pwr.boot
    (s.dev.sys.mode = .boot) ∧ (s.dev.pwr.boot.stopped = false) ∧ (s.dev.pwr.boot.waiting = false) ∧ (b.step = 6) ∧ (s.dev.age.margins = []) ∧ (s.dev.age.nextMhz = none) ∧ (s.dev.sys.pendReq = none))
    ∧ (∃ (s : State),
    (s.dev.pwr.boot.waiting = true))
    ∧ (∃ (s : State),
    (s.dev.pwr.boot.waiting = false))
    ∧ (∃ (s : State),
    (s.dev.sys.mode ≠ .boot ∨ s.dev.pwr.boot.stopped = true ∨ s.dev.pwr.boot.waiting = true)) :=
  ⟨⟨(stateOf (pw (fun p => {p with refLost := true}) (bo {step := 1} centralDev))), by decide +kernel⟩,
   ⟨{sn with supplyOk := false}, (stateOf (bo {step := 1} centralDev)), by decide +kernel⟩,
   ⟨sn, (stateOf (bo {step := 1} centralDev)), by decide +kernel⟩,
   ⟨(stateOf (bo {step := 2} centralDev)), by decide +kernel⟩,
   ⟨(stateOf (bo {step := 3} (blank centralDev))), by decide +kernel⟩,
   ⟨sn, (stateOf (bo {step := 4} (blank centralDev))), by decide +kernel⟩,
   ⟨{sn with dramOk := false}, (stateOf (bo {step := 4} (blank centralDev))), by decide +kernel⟩,
   ⟨(stateOf (bo {step := 5} { blank centralDev with flash := [(8,0),(9,0),(10,0),(11,0), (12, 0),(13,0),(14,0),(15,0)]})), by decide +kernel⟩,
   ⟨(stateOf (bo {step := 6} { blank centralDev with flash := [(8,0),(9,0),(10,0),(11,0), (12, 0),(13,0),(14,0),(15,0)]})), by decide +kernel⟩,
   ⟨(stateOf (bo {step := 2, waiting := true} centralDev)), by decide +kernel⟩,
   ⟨(stateOf (bo {step := 2} centralDev)), by decide +kernel⟩,
   ⟨(stateOf (bo {step := 2, stopped := true} centralDev)), by decide +kernel⟩⟩

theorem test_hyps_SecurityTamperAndAgeing :
    (∃ (v : Nat) (s : State),
    (v < 64) ∧ (s.dev.sys.mode = .config ∧ v = s.dev.sec.runSvn ∧ s.dev.sec.svn < v))
    ∧ (∃ (v : Nat) (s : State),
    (v < 64) ∧ (¬(s.dev.sys.mode = .config ∧ v = s.dev.sec.runSvn ∧ s.dev.sec.svn < v)))
    ∧ (∃ (s : State),
    (s.dev.sys.mode ≠ .config))
    ∧ (∃ (s : State),
    (s.dev.sys.mode = .config) ∧ (s.dev.sec.fused = 0))
    ∧ (∃ (s : State),
    (s.dev.sys.mode = .config) ∧ (s.dev.sec.fused ≠ 0))
    ∧ (∃ (s : State),
    (s.dev.sys.mode = .config) ∧ (s.dev.sec.fused ≠ 1))
    ∧ (∃ (s : State),
    (s.dev.sys.mode = .config) ∧ (s.dev.sec.fused = 1))
    ∧ (∃ (cause : Nat) (s : State),
    (1 ≤ cause) ∧ (cause ≤ 7) ∧ ((cause ≤ 4 → bitAt s.dev 0x1D0008 (cause - 1) = true)) ∧ (s.dev.sys.mode ≠ .stop))
    ∧ (∃ (cause : Nat) (s : State),
    (1 ≤ cause) ∧ (cause ≤ 4) ∧ (bitAt s.dev 0x1D0008 (cause - 1) = false))
    ∧ (∃ (s : State),
    (bitAt s.dev 0x1E0000 0 = true) ∧ (s.dev.age.measuring = false) ∧ (s.dev.sys.mode ≠ .stop) ∧ (s.dev.sys.mode ≠ .boot))
    ∧ (∃ (s : State),
    (bitAt s.dev 0x1E0000 0 = false ∨ s.dev.age.measuring = true ∨ s.dev.sys.mode = .stop ∨ s.dev.sys.mode = .boot))
    ∧ (∃ (s : State),
    (s.dev.age.measuring = false))
    ∧ (∃ (ps vs : List Nat) (s : State),
    (s.dev.age.measuring = true) ∧ ((∀ x ∈ ps, x < 2 ^ 32)) ∧ ((∀ x ∈ vs, x < 2 ^ 32))) :=
  ⟨⟨4, (stateOf (sec {runSvn := 4, svn := 3} configDev)), by decide +kernel⟩,
   ⟨4, (stateOf (sec {runSvn := 4, svn := 4} configDev)), by decide +kernel⟩,
   ⟨(stateOf (sec {runSvn := 4, svn := 4} centralDev)), by decide +kernel⟩,
   ⟨(stateOf (sec {fused := 0} (vault configDev))), by decide +kernel⟩,
   ⟨(stateOf (sec {fused := 1} (vault configDev))), by decide +kernel⟩,
   ⟨(stateOf (sec {fused := 0} (vault configDev))), by decide +kernel⟩,
   ⟨(stateOf (sec {fused := 1} (vault configDev))), by decide +kernel⟩,
   ⟨2, (stateOf (withRegs [(0x1D0008, 2)] (vault centralDev))), by decide +kernel⟩,
   ⟨2, (stateOf (withRegs [(0x1D0008, 1)] (vault centralDev))), by decide +kernel⟩,
   ⟨(stateOf (withRegs [(0x1E0000, 1)] centralDev)), by decide +kernel⟩,
   ⟨(stateOf (withRegs [(0x1E0000, 1)] {centralDev with age := {measuring := true}})), by decide +kernel⟩,
   ⟨(stateOf centralDev), by decide +kernel⟩,
   ⟨(List.range 64), [9,8,7], (stateOf {centralDev with age := {measuring := true, cid := some 4}}), by decide +kernel⟩⟩

theorem test_hyps_FlashAndPeripherals :
    (∃ (m : Master),
    (isControl m = false))
    ∧ (∃ (m : Master) (s : State),
    let a := flashAddr s.dev
    let n := rdN s.dev 0x1F0030
    (isControl m = true) ∧ (s.dev.periph.flash = none) ∧ (1 ≤ n) ∧ (a % 256 + n ≤ 256))
    ∧ (∃ (m : Master) (s : State),
    let a := flashAddr s.dev
    let n := rdN s.dev 0x1F0030
    (isControl m = true) ∧ (s.dev.periph.flash ≠ none ∨ n = 0 ∨ 256 < a % 256 + n))
    ∧ (∃ (m : Master) (s : State),
    (isControl m = true) ∧ (s.dev.periph.flash ≠ none))
    ∧ (∃ (a n : Nat) (s : State),
    (s.dev.periph.flash = some (.erase a n)))
    ∧ (∃ (a : Nat) (bs : Bytes) (s : State),
    (s.dev.periph.flash = some (.program a bs)))
    ∧ (∃ (m : Master) (n v : Nat) (s : State),
    let len := bits v 15 8
    let ok := isControl m = true ∧ 1 ≤ len ∧ len ≤ 32 ∧ i2cOp s.dev n = none ∧ bitAt s.dev (i2cA n) 8 = true
    (n < 2) ∧ (v < 2 ^ 32) ∧ (¬ok))
    ∧ (∃ (m : Master) (n v : Nat) (s : State),
    let len := bits v 15 8
    let ok := isControl m = true ∧ 1 ≤ len ∧ len ≤ 32 ∧ i2cOp s.dev n = none ∧ bitAt s.dev (i2cA n) 8 = true
    (n < 2) ∧ (v < 2 ^ 32) ∧ (ok))
    ∧ (∃ (n len r : Nat) (rd : Bool) (s : State),
    (n < 2) ∧ (i2cOp s.dev n = some (rd, len)) ∧ (rd = false ∨ r % 3 ≠ 0))
    ∧ (∃ (n len : Nat) (rd : Bool) (data : Bytes) (s : State),
    (n < 2) ∧ (i2cOp s.dev n = some (rd, len)) ∧ (rd = true) ∧ (len = 32) ∧ (data.length = 32))
    ∧ (∃ (m : Master),
    (isControl m = false))
    ∧ (∃ (m : Master) (s : State),
    (isControl m = true) ∧ (64 ≤ (uartPending s.dev).length))
    ∧ (∃ (m : Master) (s : State),
    (isControl m = true) ∧ ((uartPending s.dev).length < 64))
    ∧ (∃ (s : State),
    (64 ≤ s.dev.periph.rxFifo.length))
    ∧ (∃ (s : State),
    (s.dev.periph.rxFifo.length < 64)) :=
  ⟨⟨.host, by decide +kernel⟩,
   ⟨(.control 0), (stateOf (fl2 [] centralDev)), by decide +kernel⟩,
   ⟨(.control 0), (stateOf (fl2 [(0x1F0030, 0xBC)] centralDev)), by decide +kernel⟩,
   ⟨(.control 0), (stateOf (fo (.erase 3 4) (fl2 [] centralDev))), by decide +kernel⟩,
   ⟨0, 4096, (stateOf (fo (.erase 0 4096) (fz centralDev))), by decide +kernel⟩,
   ⟨4095, [3,7,0x55], (stateOf (fo (.program 4095 [3,7,0x55]) (fz centralDev))), by decide +kernel⟩,
   ⟨.host, 1, 0x32A, (stateOf (i2 none centralDev)), by decide +kernel⟩,
   ⟨(.control 0), 1, 0x3AA, (stateOf (i2 none centralDev)), by decide +kernel⟩,
   ⟨1, 4, 2, true, (stateOf (i2 (some (true, 4)) centralDev)), by decide +kernel⟩,
   ⟨1, 32, true, (bl3 (List.range 32)), (stateOf (i2 (some (true, 32)) centralDev)), by decide +kernel⟩,
   ⟨.host, by decide +kernel⟩,
   ⟨(.control 0), (stateOf (ua 65 centralDev)), by decide +kernel⟩,
   ⟨(.control 0), (stateOf (ua 4 centralDev)), by decide +kernel⟩,
   ⟨(stateOf (ua 64 centralDev)), by decide +kernel⟩,
   ⟨(stateOf (ua 63 centralDev)), by decide +kernel⟩⟩

theorem test_hyps_CommandEntriesAreReadAsWritten :
    (∃ (h : CmdHdr) (c : Cmd),
    (hdrEncodes h = true) ∧ (cmdEncodes c = true))
    ∧ (∃ (src : Source) (e host : Bytes) (c : Cmd),
    (e.length = 64) ∧ (entryCmd e host = some c) ∧ ((entryHdr src e).hdrRsvd = false) ∧ ((entryHdr src e).parRsvd = false)) :=
  ⟨⟨hdrAt 3000, .planSwap 4 64, by decide +kernel⟩,
   ⟨.host, cmdBody (hdrAt 3000) (.planSwap 4 64), [], .planSwap 4 64, by decide +kernel⟩⟩

theorem test_hyps_BundlesAreReadAsWritten :
    (∃ (b : Bundle),
    (bundleEncodes b = true))
    ∧ (∃ (a b : Bundle),
    (bundleEncodes a = true) ∧ (bundleEncodes b = true) ∧ (a.core = b.core) ∧ (encodeBundle a = encodeBundle b)) :=
  ⟨⟨eb.withAlu ⟨.sub, 1, 2, 0, 0⟩, by decide +kernel⟩,
   ⟨eb.withAlu ⟨.sub, 1, 2, 0, 0⟩, eb.withAlu ⟨.sub, 1, 2, 0, 0⟩, by decide +kernel⟩⟩

theorem test_hyps_StoresReadBackWhatWasWritten :
    (∃ (bs : Bytes) (d : Dev),
    (bs.length ≤ 2 ^ 40) ∧ (Canonical d = true))
    ∧ (∃ (d : Dev),
    (Canonical d = true)) :=
  ⟨⟨[0,7,0], {centralDev with mem := [(3,4),(5,7),(7,7)]}, by decide +kernel⟩,
   ⟨centralDev, by decide +kernel⟩⟩

theorem test_hyps_StepKeepsTheStoresCanonical :
    ∃ (s t : State),
    (Canonical s.dev = true) ∧ (step s = .next t) :=
  ⟨stateOf {}, _, by decide +kernel, rfl⟩

theorem test_hyps_EventsReachTheRingsThatSelectThem :
    (∃ (code r : Nat) (d : Dev),
    (1 ≤ r) ∧ (r ≤ 16) ∧ (ringRunning d r = true) ∧ (bitAt d (ringA r) 9 = true) ∧ (bitAt d (ringA r + 0x24) (code / 256 - 1) = true) ∧ ((∀ i, 1 ≤ i → i ≤ 16 → i ≠ r → ringRunning d i = false)) ∧ ((∀ k, k < 8 → (sess d k).isOpen = false)) ∧ (ringHeld d r = ringSize d r))
    ∧ (∃ (code r : Nat) (d : Dev),
    (1 ≤ r) ∧ (r ≤ 16) ∧ (ringRunning d r = true) ∧ (bitAt d (ringA r) 9 = true) ∧ (bitAt d (ringA r + 0x24) (code / 256 - 1) = true) ∧ ((∀ i, 1 ≤ i → i ≤ 16 → i ≠ r → ringRunning d i = false)) ∧ ((∀ k, k < 8 → (sess d k).isOpen = false)) ∧ (ringHeld d r ≠ ringSize d r))
    ∧ (∃ (d : Dev),
    ((∀ i, 1 ≤ i → i ≤ 16 → ringRunning d i = false)) ∧ ((∀ k, k < 8 → (sess d k).isOpen = false))) :=
  ⟨⟨0x0305, 3, evFull, by decide +kernel, by decide +kernel, by decide +kernel, by decide +kernel, by decide +kernel, fun i h1 h2 h3 => (by decide +kernel : ∀ i, i < 17 → 1 ≤ i → i ≠ 3 → ringRunning evFull i = false) i (by omega) h1 h3, by decide +kernel, by decide +kernel⟩,
   ⟨0x0305, 3, evRoom, by decide +kernel, by decide +kernel, by decide +kernel, by decide +kernel, by decide +kernel, fun i h1 h2 h3 => (by decide +kernel : ∀ i, i < 17 → 1 ≤ i → i ≠ 3 → ringRunning evRoom i = false) i (by omega) h1 h3, by decide +kernel, by decide +kernel⟩,
   ⟨centralDev, fun i h1 h2 => (by decide +kernel : ∀ i, i < 17 → 1 ≤ i → ringRunning centralDev i = false) i (by omega) h1, by decide +kernel⟩⟩

theorem test_hyps_ResetIsAsTheSpecSays :
    (∃ (p : Nat),
    (p < 4))
    ∧ (∃ (d : Dev),
    (d.pwr.resetLow = true))
    ∧ (∃ (d : Dev),
    (d.pwr.resetLow = false) ∧ (d.pwr.supplyLost = false) ∧ (d.sys.mode = .safe))
    ∧ (∃ (n : Nat) (d : Dev),
    (d.pwr.resetLow = false) ∧ (d.pwr.supplyLost = false) ∧ (d.sys.mode = .safe) ∧ (bitAt d (aportA n + 4) 0 = true) ∧ (rampShows d = false))
    ∧ (∃ (ns : Nat),
    (100 ≤ ns)) :=
  ⟨⟨3, by decide +kernel⟩,
   ⟨{}, by decide +kernel⟩,
   ⟨{ centralDev with sys := {centralDev.sys with mode := .safe} }, by decide +kernel⟩,
   ⟨3, (withRegs [(aportA 3 + 4, 1)] { centralDev with sys := {centralDev.sys with mode := .safe} }), by decide +kernel⟩,
   ⟨100, by decide +kernel⟩⟩

/-! ### Ill-formed terms are refused, one for each check -/

theorem test_wf_widths : (Instr.regWrite hostHdr 0x208 (2 ^ 32)).wf = false := by decide +kernel
theorem test_wf_signed : (Instr.setAir hostHdr 0x8000 50).wf = false := by decide +kernel
theorem test_wf_header : (Instr.nop { hostHdr with applyQn := 2 ^ 40 }).wf = false := by decide +kernel
theorem test_wf_source : (Instr.nop { hostHdr with src := .session 8 }).wf = false := by decide +kernel
theorem test_wf_master : (Instr.registerWrite (.aster 16) 0x208 0).wf = false := by decide +kernel
theorem test_wf_data_reference : (Instr.streamSet hostHdr ⟨0, 2 ^ 32, []⟩).wf = false := by decide +kernel
theorem test_wf_odd_access : (Instr.unalignedRegisterAccess .host true 0x208 4).wf = false := by decide +kernel
theorem test_wf_ptp : (Instr.ptpMessageReceive 0 (.portState 16)).wf = false := by decide +kernel
theorem test_wf_load_store : Sys2Proof.WellFormed.bundleOk { eb with x := ⟨.ldW, 0, 16, 0⟩ } = false := by decide +kernel
theorem test_wf_mac : Sys2Proof.WellFormed.bundleOk { eb with mac := ⟨.vmul, 8, 0, 0⟩ } = false := by decide +kernel
theorem test_wf_alu : (Instr.add 32 0 eb).wf = false := by decide +kernel
theorem test_wf_repeat : (Instr.rep 0 eb).wf = false := by decide +kernel
theorem test_wf_core : (Instr.idle { eb with core := 16 }).wf = false := by decide +kernel
theorem test_wf_code : Sys2Proof.WellFormed.bundleOk { eb with code := .other (some [2 ^ 31]) true } = false := by decide +kernel
theorem test_wf_words_read : Sys2Proof.WellFormed.bundleOk { eb with ce := 6 } = false := by decide +kernel
theorem test_wf_samples : Sys2Proof.WellFormed.samplesOk [2 ^ 31] = false := by decide +kernel
theorem test_wf_accepts : (Instr.setAir (hdrAt 3000) (-0x2800) 100).wf = true := by decide +kernel

/-! ### Words written out from the encodings of the spec -/

/-- Format T: X in [61:48] is LD.V of mode 1, p2, v3; VMAC a 4, v5, v6; SUB g1, g2 (R218 to R221). -/
theorem test_word_t : decodeBundle 2 (0b00 * 2 ^ 62 + (0b001 * 2 ^ 11 + 1 * 2 ^ 9 + 2 * 2 ^ 5 + 3) * 2 ^ 48
    + (0x02 * 2 ^ 11 + 4 * 2 ^ 8 + 5 * 2 ^ 4 + 6) * 2 ^ 18 + (0x03 * 2 ^ 12 + 1 * 2 ^ 7 + 2 * 2 ^ 2))
    = some { core := 2, x := ⟨.ldV, 1, 2, 3⟩, mac := ⟨.vmac, 4, 5, 6⟩, alu := ⟨.sub, 1, 2, 0, 0⟩ } := by decide +kernel

/-- Format L: Y in [47:34] is ST.W of mode 0, p7, g9; ADDI g4, g5, −1 (R218, R219, R222). -/
theorem test_word_l : decodeBundle 3 (0b01 * 2 ^ 62 + (0b100 * 2 ^ 11 + 7 * 2 ^ 5 + 9) * 2 ^ 34
    + 0x01 * 2 ^ 28 + 4 * 2 ^ 23 + 5 * 2 ^ 18 + 0x3FFFF)
    = some { core := 3, y := ⟨.stW, 0, 7, 9⟩, alu := ⟨.addi, 4, 5, 0x3FFFF, 0⟩ } := by decide +kernel

/-- Format K: LI g10, 0x12345678 beside VCLR a 4 (R218, R220). -/
theorem test_word_k : decodeBundle 0 (0b10 * 2 ^ 62 + (0x07 * 2 ^ 11 + 4 * 2 ^ 8) * 2 ^ 46 + 10 * 2 ^ 41 + 0x12345678)
    = some { core := 0, mac := ⟨.vclr, 4, 0, 0⟩, alu := ⟨.li, 10, 0, 0x12345678, 0⟩ } := by decide +kernel

/-- Format 0b11 has no meaning (R218). -/
theorem test_word_format_3 : decodeBundle 0 (0b11 * 2 ^ 62) = none := by decide +kernel

/-- SET_AIR of −2.5 °C and 50 % with apply QN 0x123456789A, ring 3 and tag 0x11223344 (R424, R427). -/
theorem test_entry_set_air :
    let e : Bytes := [0x13, 0x00, 0x00, 0x03, 0x44, 0x33, 0x22, 0x11, 0x9A, 0x78, 0x56, 0x34, 0x12, 0, 0, 0, 0x80, 0xFD, 50]
      ++ zeros 45
    entryCmd e [] = some (.setAir (-640) 50)
      ∧ entryHdr .host e = ⟨.host, 0, 3, 0x11223344, 0x123456789A, false, false⟩ := by decide +kernel

/-- The table spells no row in bits. -/
theorem test_no_row_in_bits : Sys2Proof.decodeTableWord 32 0 = none := by decide

/-! ### The worked examples of the spec -/

def dev96 : Dev := withRegs [(0x80000, 1)] {}
def dev48 : Dev := withRegs [(0x80000, 0)] {}
def show96 : Dev := { dev96 with time := { epoch := 1723456000 * 1000000000, epochSet := true, counting := true } }

/-- The four conversions of the table under R148, with the count of the saturated one. -/
theorem test_store_conversion : accStore 0x800000 = 0 ∧ accStore 0x1800000 = 2 ∧ accStore (-(2 ^ 55)) = -(2 ^ 31)
    ∧ accStore (2 ^ 55) = 2 ^ 31 - 1 := by decide +kernel

/-- The scene change of R85: its quantum at 96 kHz, the instant at which that departs, and its quantum at 48 kHz. -/
theorem test_quantum_of_a_time :
    qnOf show96 (1723459600 * 1000000000 + 500200000) = some 10801500
      ∧ ptOfQn show96 10801500 = 1723459600 * 1000000000 + 500000000
      ∧ ptOfQn show96 10801503 = 1723459600 * 1000000000 + 501000000
      ∧ qnOf { dev48 with time := show96.time } (1723459600 * 1000000000 + 500200000) = some 5400750 := by decide +kernel

/-- T_e of the stream of R365, modulo 2³². -/
theorem test_epoch_in_samples : epochSamples show96 % 2 ^ 32 = 0x3E560000 := by decide +kernel

/-- R103: a step of 33 mm at 96 kHz and 66 mm at 48 kHz; the first step of the object at (0, 0, 0) towards (300, 400, 0). -/
theorem test_object_step : dMax dev96 = 33 ∧ dMax dev48 = 66
    ∧ (let x := obj (moveOrStep 5 7 (putObj 7 { live := true, qx := 300, qy := 400 } dev96)) 7
       (x.px, x.py, x.pz) = (19, 26, 0)) := by decide +kernel

/-- R124 at A, A + 11 and A + 29: the gain into output 201, and each of five shares at A + 11. -/
theorem test_lost_output_fade : fadeGain 30 0x100000 1 = 0xF7777 ∧ fadeGain 30 0x100000 12 = 0x99999
    ∧ fadeGain 30 0x100000 30 = 0 ∧ tdiv (0x100000 * 12) (30 * 5) = 0x147AE := by decide +kernel

/-- The delay line of R230: the last word is read and the pointer wraps to the base. -/
theorem test_modulo_pointer : newPointer { p := [(3, 0xA438C)], m := [(3, 0x640004)] } ⟨.ldW, 2, 3, 1⟩ = some 0xA4200 := by
  decide +kernel

/-- The bit-reversed order of R230: from offset 0 to 32, from 32 to 16 and from 24 to 56. -/
theorem test_bit_reversed_pointer :
    let next (o : Nat) : Option Nat := newPointer { p := [(4, 0xA5000 + o)], m := [(4, 0x100020)] } ⟨.ldV, 3, 4, 1⟩
    next 0 = some 0xA5020 ∧ next 32 = some 0xA5010 ∧ next 24 = some 0xA5038 := by decide +kernel

/-- The blocks of Aster core 5 and Ethernet port 2 (00_scope.md). -/
theorem test_block_addresses : asterA 5 = 0xC5000 ∧ netA 2 = 0x120000 := by decide

/-- SET_MODE CENTRAL with apply QN 0 at QN 27,000,100 chooses QN 27,000,108 (R32). -/
theorem test_set_mode_chooses_its_quantum :
    cmdQn { show96 with sys := { show96.sys with mode := .config }, time := { show96.time with qn := 27000100 } }
      (.setMode 2 0) 0 false = some 27000108 := by decide +kernel

/-! ### Single steps -/

/-- A step takes the front command and leaves the rest (log 2). -/
theorem test_step_takes_the_front : ∃ t, Sys2Proof.Machine.step { dev := centralDev, pending := [.fetchResume, .qnNearEnd] } = .next t
    ∧ t.pending = [.qnNearEnd] := ⟨_, rfl, by decide +kernel⟩

/-- A register reads what was written; SYS_ID reads 0x5120_0100 (01_system_roles.md). -/
theorem test_register_read_back : rdN (wrN 0x208 7 centralDev) 0x208 = 7 ∧ rdN centralDev 0 = 0x51200100 := by decide +kernel

/-- One tick of 2 ns of the reset addend (R61). -/
theorem test_tick_is_two_ns : (timeTick { dev48 with time := { pt := 5 } }).time.pt = 7 := by decide +kernel

end Sys2Proof.Tests
end

section
/-!
The state after reset and the balls (01_system_roles.md, R27, R49; 17_balls_electrical.md).
-/

namespace Sys2Proof.Proofs

open Machine Safety Laws

/-! ### Registers and memory that nothing has written -/

/-- A device that lists no register word reads every register at its reset value (R13). -/
theorem rdN_of_no_words (d : Dev) (h : d.regs = []) (a : Nat) : rdN d a = (regReset a).toNat := by
  rw [rdN, reg, h]
  rfl

theorem rdN_reset (a : Nat) : rdN State.reset.dev a = (regReset a).toNat := rdN_of_no_words _ rfl a

/-- The words at 0x2C and 0x30 of each Ethernet port after reset. -/
theorem netWords_reset : ∀ p, p < 4 → rdN State.reset.dev (netA p + 0x2C) = 192
    ∧ rdN State.reset.dev (netA p + 0x30) = 64 := by decide

/-! ### The columns of R518 -/

theorem column_of_resetLow (d : Dev) (h : d.pwr.resetLow = true) : column d = .reset := by
  simp [column, h]

theorem column_of_safe (d : Dev) (hr : d.pwr.resetLow = false) (hs : d.pwr.supplyLost = false)
    (hm : d.sys.mode = .safe) : column d = .run := by
  simp [column, hr, hs, hm]

/-- In reset every driven ball is at rest (R49). -/
theorem balls_in_reset (d : Dev) (h : d.pwr.resetLow = true) : ballState d .faultN = .low
    ∧ ∀ n, ballState d (.drv n) = .low ∧ ballState d (.tdmSdout n) = .pulledDown ∧ ballState d (.ethTx n) = .electricalIdle
      ∧ ballState d (.pairTx n) = .electricalIdle ∧ ballState d (.lsnOut n) = .grounded := by
  have hc := column_of_resetLow d h
  refine ⟨?_, fun n => ⟨?_, ?_, ?_, ?_, ?_⟩⟩
  · simp [ballState, faultNBall, faultLow, h]
  · simp [ballState, drvBall, hc]
  · simp [ballState, sdoutBall, hc]
  · simp [ballState, ethTxBall, hc]
  · simp [ballState, pairTxBall, hc]
  · simp [ballState, lsnOutBall, hc]

/-- In SAFE FAULT_N is low, gates switch as their channel's state says and the listen outputs are muted (R49). -/
theorem balls_in_safe (d : Dev) (hr : d.pwr.resetLow = false) (hs : d.pwr.supplyLost = false) (hm : d.sys.mode = .safe) :
    ballState d .faultN = .low
    ∧ ∀ n, (ballState d (.drv n) = .switching ↔ drvSwitches d n = true) ∧ ballState d (.lsnOut n) = .muted := by
  have hc := column_of_safe d hr hs hm
  refine ⟨?_, fun n => ⟨?_, ?_⟩⟩
  · simp [ballState, faultNBall, faultLow, hm]
  · cases hd : drvSwitches d n <;> simp [ballState, drvBall, hc, hd]
  · simp [ballState, lsnOutBall, hc, listenPlays, rendering, hm]

/-- An enabled port whose ramp has ended sends zero data in SAFE (R49, R342). -/
theorem sdout_in_safe (n : Nat) (d : Dev) (hr : d.pwr.resetLow = false) (hs : d.pwr.supplyLost = false)
    (hm : d.sys.mode = .safe) (he : bitAt d (aportA n + 4) 0 = true) (hn : rampShows d = false) :
    ballState d (.tdmSdout n) = .zeroData := by
  simp [ballState, sdoutBall, column_of_safe d hr hs hm, portShown, he, txMuted, hm, hn]

/-- JTAG_TRST_N low for 100 ns leaves an idle TAP (R533). -/
theorem tap_after_trst (ns : Nat) (d : Dev) (h : 100 ≤ ns) : (tapTrst ns d).periph.tap = {} := by
  simp [tapTrst, h]

/-- Settles O60: the reset state lists no word, no byte and no command; the balls follow their column. -/
theorem resetIsAsTheSpecSays : Obligations.ResetIsAsTheSpecSays :=
  ⟨rfl, reset_canonical, rfl, rfl, rfl, rfl, rfl, rfl, rfl, fun a => ⟨rdN_reset a, rfl⟩, by decide, by decide, by decide,
    by decide, netWords_reset, balls_in_reset, balls_in_safe, sdout_in_safe, tap_after_trst⟩

end Sys2Proof.Proofs
end

section
/-!
What direct drive can change, and what a report of an output can change (10_direct_drive.md; R125, R385).
-/

namespace Sys2Proof.Proofs

open Machine Safety Laws

/-- A property that holds between a device and itself, composes, and holds of every step of a fold, holds of the fold. -/
theorem forL_induct {α : Type} (R : Dev → Dev → Prop) (refl : ∀ d, R d d) (trans : ∀ {a b c}, R a b → R b c → R a c)
    (f : α → Dev → Dev) (step : ∀ x d, R d (f x d)) (l : List α) (d : Dev) : R d (forL l f d) := by
  induction l generalizing d with
  | nil => exact refl d
  | cons x xs ih => exact trans (step x d) (ih (f x d))

/-! ### Direct drive -/

/-- `e` is `d` but for the channels and rails of direct drive and what the block sends. -/
def Drives (d e : Dev) : Prop := e = { d with drv := e.drv, out := e.out }

theorem Drives.refl (d : Dev) : Drives d d := rfl

theorem Drives.trans {a b c : Dev} (h : Drives a b) (k : Drives b c) : Drives a c := by
  unfold Drives at h k ⊢
  rw [h] at k
  exact k

theorem Drives.sys {d e : Dev} (h : Drives d e) : e.sys = d.sys := by rw [h]
theorem Drives.regs {d e : Dev} (h : Drives d e) : e.regs = d.regs := by rw [h]
theorem Drives.time {d e : Dev} (h : Drives d e) : e.time = d.time := by rw [h]

theorem drives_forL {α : Type} (f : α → Dev → Dev) (step : ∀ x d, Drives d (f x d)) (l : List α) (d : Dev) :
    Drives d (forL l f d) := forL_induct Drives Drives.refl Drives.trans f step l d

theorem drives_putDrv (c : Nat) (x : DrvCh) (d : Dev) : Drives d (putDrv c x d) := rfl

theorem drives_updDrv (c : Nat) (f : DrvCh → DrvCh) (d : Dev) : Drives d (updDrv c f d) :=
  drives_forL _ (fun i d => drives_putDrv i _ d) _ d

theorem drives_drvGo (c : Nat) (f : DrvCh → DrvCh) (d : Dev) : Drives d (drvGo c f d) := by
  refine drives_forL _ (fun i d => ?_) _ d
  dsimp only
  split
  · rfl
  · rfl

theorem drives_cmUp (c : Nat) (d : Dev) : Drives d (cmUp c d) := by
  unfold cmUp
  dsimp only
  split
  · exact drives_drvGo c _ d
  · exact drives_updDrv c _ d

theorem drives_cmDown (c : Nat) (d : Dev) : Drives d (cmDown c d) := by
  unfold cmDown
  dsimp only
  split
  · exact (drives_updDrv c _ d).trans (drives_drvGo c _ _)
  · exact drives_updDrv c _ d

theorem drives_drvAllUp (d : Dev) : Drives d (drvAllUp d) := by
  refine drives_forL _ (fun c d => ?_) _ d
  dsimp only
  split
  · exact drives_cmUp c d
  · exact Drives.refl d

theorem drives_drvAllDown (d : Dev) : Drives d (drvAllDown d) := drives_forL _ drives_cmDown _ d

theorem drives_cmReverse (d : Dev) : Drives d (cmReverse d) := by
  refine drives_forL _ (fun c d => ?_) _ d
  split
  · exact drives_cmDown c d
  · exact Drives.refl d

/-! ### The records of the channels that act together -/

theorem drvCh_putDrv_same (c : Nat) (x : DrvCh) (d : Dev) : drvCh (putDrv c x d) c = x :=
  fget_fput_same _ _ _ _

theorem drvCh_putDrv_other (c i : Nat) (x : DrvCh) (d : Dev) (h : i ≠ c) : drvCh (putDrv c x d) i = drvCh d i :=
  fget_fput_other _ _ _ _ _ h

/-- A record is `f` of another, but for its lock and its report of a lost lock. -/
def Changed (f : DrvCh → DrvCh) (x y : DrvCh) : Prop := ∃ l u, y = { f x with locked := l, unlockRaised := u }

/-- One channel's part of `drvGo`. -/
theorem drvGo_step (f : DrvCh → DrvCh) (i : Nat) (d : Dev) :
    let x := drvCh d i
    let y := f x
    let e := if stateSwitches x = stateSwitches y then putDrv i y d
      else emit (.ball "DRV" i (b2n (stateSwitches y))) (putDrv i { y with locked := false, unlockRaised := false } d)
    Changed f x (drvCh e i) ∧ ∀ j, j ≠ i → drvCh e j = drvCh d j := by
  dsimp only
  split
  · exact ⟨⟨_, _, drvCh_putDrv_same i _ d⟩, fun j hj => drvCh_putDrv_other i j _ d hj⟩
  · exact ⟨⟨_, _, drvCh_putDrv_same i _ d⟩, fun j hj => drvCh_putDrv_other i j _ d hj⟩

/-- A fold that changes one record at each index of a list without repeats changes the record of each once. -/
theorem forL_changes (f : DrvCh → DrvCh) (g : Nat → Dev → Dev)
    (same : ∀ i d, Changed f (drvCh d i) (drvCh (g i d) i)) (other : ∀ i j d, j ≠ i → drvCh (g i d) j = drvCh d j)
    (l : List Nat) (d : Dev) (nodup : l.Nodup) :
    (∀ i ∈ l, Changed f (drvCh d i) (drvCh (forL l g d) i)) ∧ ∀ i, i ∉ l → drvCh (forL l g d) i = drvCh d i := by
  induction l generalizing d with
  | nil => exact ⟨fun i hi => absurd hi List.not_mem_nil, fun _ _ => rfl⟩
  | cons x xs ih =>
    obtain ⟨hx, hxs⟩ := List.nodup_cons.1 nodup
    obtain ⟨hin, hout⟩ := ih (g x d) hxs
    have hcons : forL (x :: xs) g d = forL xs g (g x d) := rfl
    rw [hcons]
    refine ⟨fun i hi => ?_, fun i hi => ?_⟩
    · by_cases hix : i = x
      · subst hix
        rw [hout i hx]
        exact same i d
      · rw [← other x i d hix]
        exact hin i ((List.mem_cons.1 hi).resolve_left hix)
    · rw [List.mem_cons, not_or] at hi
      rw [hout i hi.2, other x i d hi.1]

theorem drvMembers_nodup (d : Dev) (c : Nat) : (drvMembers d c).Nodup := by
  unfold drvMembers
  dsimp only
  split
  · simp
  · simp

/-- `drvGo` applies its change to the record of each channel of the bridge (R305, R322). -/
theorem drvCh_drvGo (c i : Nat) (f : DrvCh → DrvCh) (d : Dev) (h : i ∈ drvMembers d c) :
    Changed f (drvCh d i) (drvCh (drvGo c f d) i) :=
  (forL_changes f _ (fun i d => (drvGo_step f i d).1) (fun i j d => (drvGo_step f i d).2 j) _ d (drvMembers_nodup d c)).1 i h

theorem ramp_drvGo (c i : Nat) (f : DrvCh → DrvCh) (d : Dev) (h : i ∈ drvMembers d c) :
    (drvCh (drvGo c f d) i).ramp = (f (drvCh d i)).ramp := by
  obtain ⟨l, u, hx⟩ := drvCh_drvGo c i f d h
  rw [hx]

theorem state_drvGo (c i : Nat) (f : DrvCh → DrvCh) (d : Dev) (h : i ∈ drvMembers d c) :
    (drvCh (drvGo c f d) i).state = (f (drvCh d i)).state := by
  obtain ⟨l, u, hx⟩ := drvCh_drvGo c i f d h
  rw [hx]

/-! ### Reports of outputs -/

/-- `e` is `d` but for what a report of an output changes: what is sent, host records, the scheduled changes of the geometry
unit, the pair's unacknowledged records, and register flags. -/
def Reports (d e : Dev) : Prop :=
  e = { d with regs := e.regs, host := e.host, net := e.net, out := e.out, geom := e.geom, pair := e.pair }

theorem Reports.refl (d : Dev) : Reports d d := rfl

theorem Reports.trans {a b c : Dev} (h : Reports a b) (k : Reports b c) : Reports a c := by
  unfold Reports at h k ⊢
  rw [h] at k
  exact k

theorem Reports.drv {d e : Dev} (h : Reports d e) : e.drv = d.drv := by rw [h]
theorem Reports.sys {d e : Dev} (h : Reports d e) : e.sys = d.sys := by rw [h]

theorem reports_of_sends {d e : Dev} (h : Sends d e) : Reports d e := by
  unfold Reports
  rw [h.frame]

theorem reports_setReg (a : Nat) (w : Word) (d : Dev) : Reports d (setReg a w d) := by
  obtain ⟨m, hm⟩ := setReg_frame a w d
  unfold Reports
  rw [hm]

theorem reports_setFlag (a i : Nat) (d : Dev) : Reports d (setFlag a i d) := reports_setReg a _ d

theorem reports_geom (g : GeomSt) (d : Dev) : Reports d { d with geom := g } := rfl

theorem reports_pair (p : PairSt) (d : Dev) : Reports d { d with pair := p } := rfl

/-- A payload for every port with a link changes only what is sent (R40, R125). -/
theorem sends_multicast (queue udp : Nat) (bs : Bytes) (d : Dev) : Sends d (multicast queue udp bs d) := by
  refine sends_forN 4 _ d (fun p e _ => ?_)
  split
  · exact sends_txFramePush _ _ _ _
  · exact Sends.refl e

theorem reports_multicast (queue udp : Nat) (bs : Bytes) (d : Dev) : Reports d (multicast queue udp bs d) :=
  reports_of_sends (sends_multicast queue udp bs d)

theorem reports_availSchedule (r : AvailReq) (d : Dev) : Reports d (availSchedule r d) := by
  unfold availSchedule
  dsimp only
  split
  · exact ((reports_setFlag 0x50004 9 d).trans (reports_of_sends (sends_raiseEvent _ _ _))).trans (reports_geom _ _)
  · exact reports_geom _ d

theorem reports_availCid (a b : Option Nat) (q : Nat) (d : Dev) : Reports d (availCid a b q d).2 := by
  cases a with
  | none => rfl
  | some c =>
    cases b with
    | none => rfl
    | some e => exact reports_of_sends (sends_complete e cDone 0 q d)

theorem reports_availMerge (r : AvailReq) (d : Dev) : Reports d (availMerge r d) := by
  unfold availMerge
  split
  · exact reports_availSchedule r d
  · dsimp only
    split
    · exact (reports_availCid _ _ _ d).trans (reports_geom _ _)
    · exact ((reports_availCid _ _ _ d).trans (reports_geom _ _)).trans (reports_availSchedule _ _)

theorem sends_pairSendOn (path : Nat) (records : Bytes) (d : Dev) : Sends d (pairSendOn path records d) := by
  unfold pairSendOn
  dsimp only
  split
  · exact sends_txFramePush _ _ _ _
  · exact sends_emit _ d

theorem sends_pairSend (kind flags mseq : Nat) (body : Bytes) (d : Dev) : Sends d (pairSend kind flags mseq body d) := by
  unfold pairSend
  dsimp only
  split
  · split
    · exact sends_pairSendOn 1 _ d
    · exact Sends.refl d
  · exact (sends_pairSendOn 0 _ d).trans (sends_pairSendOn 1 _ _)

theorem reports_availSend (output cause : Nat) (available : Bool) (q : Nat) (d : Dev) :
    Reports d (availSend output cause available q d) := by
  unfold availSend
  split
  · exact (reports_of_sends (sends_pairSend 3 0 d.pair.txSeq _ d)).trans (reports_pair _ _)
  · exact Reports.refl d

theorem reports_availMulticast (output cause q : Nat) (d : Dev) : Reports d (availMulticast output cause q d) :=
  (reports_geom _ d).trans (reports_multicast _ _ _ _)

theorem reports_availDecide (output cause : Nat) (available : Bool) (q : Nat) (cid : Option Nat) (d : Dev) :
    Reports d (availDecide output cause available q cid d) := by
  have hm := reports_availMerge ⟨q, output, available, cause, cid, none⟩ d
  unfold availDecide
  dsimp only
  split
  · exact hm
  · split
    · exact (hm.trans (reports_availSend _ _ _ _ _)).trans (reports_availMulticast _ _ _ _)
    · split
      · exact (hm.trans (reports_availSend _ _ _ _ _)).trans (reports_multicast _ _ _ _)
      · exact hm.trans (reports_availSend _ _ _ _ _)

theorem reports_availReport (output cause : Nat) (available : Bool) (d : Dev) :
    Reports d (availReport output cause available d) := by
  unfold availReport
  split
  · rfl
  · exact reports_availDecide _ _ _ _ _ d

theorem reports_drvReport (c cause : Nat) (available : Bool) (d : Dev) : Reports d (drvReport c cause available d) :=
  forL_induct Reports Reports.refl Reports.trans _ (fun j d => reports_availReport j cause available d) _ d

theorem drvCh_of_reports {d e : Dev} (h : Reports d e) (c : Nat) : drvCh e c = drvCh d c := by
  rw [drvCh, drvCh, h.drv]

end Sys2Proof.Proofs
end

section
/-!
The phases of a mode transition: what follows when a ramp or the pre-roll ends (R36, R37, R309, R310).
-/

namespace Sys2Proof.Proofs

open Machine Safety Laws

/-! ### The phase of the running transition -/

theorem transPhase_running (ph : Phase) (t : Trans) (d : Dev) (h : d.sys.running = some t) :
    transPhase ph d = { d with sys := { d.sys with running := some { t with phase := ph } } } := by
  rw [transPhase, h]

theorem running_transPhase (ph : Phase) (t : Trans) (d : Dev) (h : d.sys.running = some t) :
    (transPhase ph d).sys.running = some { t with phase := ph } := by
  rw [transPhase_running ph t d h]

theorem transAdvance_idle (d : Dev) (h : d.sys.running = none) : transAdvance d = d := by
  rw [transAdvance, h]

/-- In the phase of the up-ramps of a mode other than SURVEY, the unmute follows as soon as no channel ramps (R37). -/
theorem transAdvance_rampUp (t : Trans) (d : Dev) (h : d.sys.running = some { t with phase := .cmRampUp })
    (ht : t.target ≠ .survey) : transAdvance d = if cmBusy d then d else unmute t.target d := by
  rw [transAdvance, h]
  simp [ht]

/-- In the phase of the down-ramps, the transition is ready, or enters STOP, as soon as no channel ramps (R36, R483). -/
theorem transAdvance_rampDown (t : Trans) (d : Dev) (h : d.sys.running = some { t with phase := .cmRampDown }) :
    transAdvance d = if cmBusy d then d else transPhase (if t.target = .stop then .stopping else .ready) d := by
  rw [transAdvance, h]
  simp

/-! ### The ends of the phases -/

/-- The pre-roll ends: the common-mode ramps up, and the unmute follows as soon as none runs (R37, R310). -/
theorem prerollEnd_preroll (t : Trans) (d : Dev) (h : d.sys.running = some t) (hp : t.phase = .preroll)
    (ht : t.target ≠ .survey) :
    let e := transPhase .cmRampUp (drvAllUp d)
    prerollEnd d = if cmBusy e then e else unmute t.target e := by
  have hr : (drvAllUp d).sys.running = some t := by rw [(drives_drvAllUp d).sys, h]
  rw [prerollEnd, h]
  simp only [hp, ht, ne_eq, not_false_eq_true, and_self, if_true]
  exact transAdvance_rampUp t _ (running_transPhase _ t _ hr) ht

/-- An entry into SURVEY has no pre-roll of its own to end (R315). -/
theorem prerollEnd_survey (t : Trans) (d : Dev) (h : d.sys.running = some t) (ht : t.target = .survey) :
    prerollEnd d = d := by
  rw [prerollEnd, h]
  simp [ht]

theorem outputRampEnd_up (t : Trans) (d : Dev) (h : d.sys.running = some t) (hp : t.phase = .outputRampUp) :
    outputRampEnd d = transPhase .ready d := by
  rw [outputRampEnd, h]
  simp [hp]

theorem outputRampEnd_down_safe (t : Trans) (d : Dev) (h : d.sys.running = some t) (hp : t.phase = .outputRampDown)
    (ht : t.target = .safe) : outputRampEnd d = transPhase .ready (drvIdle d) := by
  rw [outputRampEnd, h]
  simp [hp, ht]

/-- The output ramp down ends on the way to a mode other than SAFE: every channel runs down, and the transition goes on as
soon as none ramps (R36, R310). -/
theorem outputRampEnd_down (t : Trans) (d : Dev) (h : d.sys.running = some t) (hp : t.phase = .outputRampDown)
    (ht : t.target ≠ .safe) :
    let e := transPhase .cmRampDown (drvAllDown d)
    outputRampEnd d = if cmBusy e then e else transPhase (if t.target = .stop then .stopping else .ready) e := by
  have hr : (drvAllDown d).sys.running = some t := by rw [(drives_drvAllDown d).sys, h]
  rw [outputRampEnd, h]
  simp only [hp, ht, if_false]
  exact transAdvance_rampDown t _ (running_transPhase _ t _ hr)

/-! ### The end of a channel's common-mode ramp -/

/-- The end of a ramp leaves the transitions alone. -/
theorem cmEnd_sys (muted : Bool) (c : Nat) (d : Dev) : (cmEnd muted c d).sys = d.sys := by
  unfold cmEnd
  split
  · rfl
  · dsimp only
    split
    · split
      · rw [(reports_drvReport _ 6 true _).sys, (drives_drvGo c _ d).sys]
      · rw [(drives_drvGo c _ d).sys]
    · rw [(drives_drvGo c _ d).sys]

/-- A ramp that ends is gone; an up-ramp leaves its channel idle, or playing when it was a retry in play, and a down-ramp
leaves it off (R309, R310, R321). -/
theorem drvCh_cmEnd (muted : Bool) (c : Nat) (m : CmRamp) (d : Dev) (h : (drvCh d c).ramp = some m)
    (hc : c ∈ drvMembers d c) :
    (drvCh (cmEnd muted c d) c).ramp = none ∧ (drvCh (cmEnd muted c d) c).state =
      (if m.up then (if (drvCh d c).retrying && !muted then 4 else 3) else 0) := by
  rw [cmEnd, h]
  dsimp only
  cases hu : m.up with
  | false => simp [ramp_drvGo c c _ d hc, state_drvGo c c _ d hc]
  | true =>
    cases hb : (drvCh d c).retrying with
    | false => simp [ramp_drvGo c c _ d hc, state_drvGo c c _ d hc]
    | true =>
      simp [drvCh_of_reports (reports_drvReport _ 6 true _) c, ramp_drvGo c c _ d hc, state_drvGo c c _ d hc]

/-- With no transition running, the end of a channel's ramp is all that CM_RAMP_END makes. -/
theorem cmRampEnd_idle (c : Nat) (d : Dev) (h : d.sys.running = none) : cmRampEnd c d = cmEnd (!rendering d) c d := by
  rw [cmRampEnd]
  simp only [h, Option.isNone_none, Bool.and_true]
  exact transAdvance_idle _ (by rw [cmEnd_sys, h])

/-- Settles O16: each command is the end of its phase, and the next phase is what `transAdvance` makes of it. -/
theorem rampsLeadToTheNextPhase : Obligations.RampsLeadToTheNextPhase := by
  unfold Obligations.RampsLeadToTheNextPhase
  refine ⟨fun t s h hp => ⟨fun ht hb => ?_, fun ht hb => ?_, fun ht => ?_⟩, fun t s h hp => ?_, fun t s h hp ht => ?_,
    fun t s h hp ht => ⟨fun hb => ?_, fun hb => ?_⟩, fun c m s hm hc h => ?_⟩
  · show becomes s (prerollEnd s.dev) = _
    rw [prerollEnd_preroll t s.dev h hp ht, if_pos hb]
  · show becomes s (prerollEnd s.dev) = _
    rw [prerollEnd_preroll t s.dev h hp ht, hb]
    rfl
  · show becomes s (prerollEnd s.dev) = _
    rw [prerollEnd_survey t s.dev h ht]
  · show becomes s (outputRampEnd s.dev) = _
    rw [outputRampEnd_up t s.dev h hp, transPhase_running .ready t s.dev h]
  · show becomes s (outputRampEnd s.dev) = _
    rw [outputRampEnd_down_safe t s.dev h hp ht]
  · show becomes s (outputRampEnd s.dev) = _
    rw [outputRampEnd_down t s.dev h hp ht, if_pos hb]
  · show becomes s (outputRampEnd s.dev) = _
    rw [outputRampEnd_down t s.dev h hp ht, hb]
    rfl
  · refine ⟨_, rfl, ?_⟩
    show (drvCh (cmRampEnd c s.dev) c).ramp = none ∧ (drvCh (cmRampEnd c s.dev) c).state = _
    rw [cmRampEnd_idle c s.dev h]
    simpa using drvCh_cmEnd (!rendering s.dev) c m s.dev hm hc

end Sys2Proof.Proofs
end

section
/-!
Domain frames: sending, receiving, absence (R40 to R44).
-/

namespace Sys2Proof.Proofs

open Machine Safety Laws

/-! ### Sending (R40, R125, R178) -/

/-- No availability record goes with a domain frame before the first change (R125). -/
theorem availResend_unsent (d : Dev) (h : d.geom.availSent = false) : availResend d = d := by
  simp [availResend, h]

/-- No swap record goes with a domain frame while no swap runs, is pending or is held (R178). -/
theorem swapResend_idle (d : Dev) (hr : d.plan.running = none) (hp : d.plan.pending = none) (hh : d.plan.heldSwap = none) :
    swapResend d = d := by
  simp [swapResend, hr, hp, hh]

/-- With nothing to repeat, a domain frame goes to every port with a link and its number rises (R40). -/
theorem domainSend_alone (d : Dev) (hm : d.sys.mode = .config ∨ rendering d = true) (ha : d.geom.availSent = false)
    (hr : d.plan.running = none) (hp : d.plan.pending = none) (hh : d.plan.heldSwap = none) :
    let e := multicast 6 51230 (domainFrame d) d
    domainSend d = { e with sys := { e.sys with domainSeq := (d.sys.domainSeq + 1) % 2 ^ 32 } } := by
  have hs := sends_multicast 6 51230 (domainFrame d) d
  have hmode : (decide (d.sys.mode = .config) || rendering d) = true := by simpa using hm
  intro e
  rw [domainSend, if_pos hmode]
  show swapResend (availResend { e with sys := { e.sys with domainSeq := (e.sys.domainSeq + 1) % 2 ^ 32 } }) = _
  rw [hs.sys, availResend_unsent _ (by rw [← ha, ← hs.geom])]
  exact swapResend_idle _ (by rw [← hr, ← hs.plan]) (by rw [← hp, ← hs.plan]) (by rw [← hh, ← hs.plan])

/-! ### Receiving (R41, R42) -/

theorem domainReceive_bad (ip : Nat) (b : Bytes) (d : Dev) (h : domainOk d b = false) :
    domainReceive ip b d = incCnt 0x220 d := by
  rw [domainReceive, if_pos h]

theorem presentAgain_present (i : Nat) (d : Dev) (h : fget false d.sys.absent i = false) : presentAgain i d = d := by
  rw [presentAgain, if_pos h]

/-- A good frame of another device that was not missing and claims no authority marks its sender as heard (R41, R42). -/
theorem domainReceive_other (ip : Nat) (b : Bytes) (d : Dev) (hok : domainOk d b = true)
    (hi : beAt b 3 1 % 64 ≠ devIndex d) (ha : fget false d.sys.absent (beAt b 3 1 % 64) = false)
    (hf : (beAt b 7 1).testBit 1 = false) :
    domainReceive ip b d = { d with sys := { d.sys with
      heard := fput 0 d.sys.heard (beAt b 3 1 % 64) (d.time.now + 1)
      centralAt := if beAt b 3 1 % 64 < 2 then d.time.now + 1 else d.sys.centralAt } } := by
  rw [domainReceive, hok, hf]
  simp only [Bool.true_eq_false, if_false, hi, Bool.false_and, Bool.false_eq_true, presentAgain_present _ d ha]
  split
  · rfl
  · rfl

/-! ### Absence (R42, R44) -/

/-- Another device that is missing is marked absent; a device that is not central reports nothing (R42). -/
theorem deviceAbsent_other (i : Nat) (d : Dev) (hi : i < 64) (hh : fget 0 d.sys.heard i ≠ 0) (ho : i ≠ devIndex d)
    (hr : role d ≠ 1) :
    deviceAbsent i d = { d with sys := { d.sys with
      heard := fput 0 d.sys.heard i 0, absent := fput false d.sys.absent i true } } := by
  rw [deviceAbsent, if_neg (by omega)]
  exact (if_neg ho).trans (if_neg (fun h => hr h.1))

/-- The index of the device itself is heard no more: the conflict of R44 is over. -/
theorem deviceAbsent_own (d : Dev) (hi : devIndex d < 64) (hh : fget 0 d.sys.heard (devIndex d) ≠ 0) :
    deviceAbsent (devIndex d) d = { d with sys := { d.sys with
      heard := fput 0 d.sys.heard (devIndex d) 0, indexConflict := false, clashNoted := false } } := by
  rw [deviceAbsent, if_neg (by omega)]
  exact if_pos rfl

/-- Settles O17: each command is its act on the device, said once above for each branch. -/
theorem domainFramesTellWhoIsPresent : Obligations.DomainFramesTellWhoIsPresent := by
  unfold Obligations.DomainFramesTellWhoIsPresent
  refine ⟨fun s hm ha hr hp hh => ?_, fun ip b s h => ?_, fun ip b s hok hi ha hf => ?_, fun i s hi hh ho hr => ?_,
    fun s hh hi => ?_⟩
  · show becomes s (domainSend s.dev) = _
    rw [domainSend_alone s.dev hm ha hr hp hh]
  · show becomes s (domainReceive ip b s.dev) = _
    rw [domainReceive_bad ip b s.dev h]
  · show becomes s (domainReceive ip b s.dev) = _
    rw [domainReceive_other ip b s.dev hok hi ha hf]
  · show becomes s (deviceAbsent i s.dev) = _
    rw [deviceAbsent_other i s.dev hi hh ho hr]
  · show becomes s (deviceAbsent (devIndex s.dev) s.dev) = _
    rw [deviceAbsent_own s.dev hi hh]

end Sys2Proof.Proofs
end

section
/-!
Commands that wait for their apply QN (R26, R80, R112, R125, R184, R185).
-/

namespace Sys2Proof.Proofs

open Machine Safety Laws

/-! ### What acceptance leaves as it was -/

/-- The apply QN of a command does not depend on the commands in flight (R426). -/
theorem cmdQn_accepted (h : CmdHdr) (c e : Cmd) (d : Dev) (n : Nat) (p : Bool) :
    cmdQn (accepted h c d) e n p = cmdQn d e n p := rfl

/-- A command just accepted is in flight. -/
theorem accepted_in_flight (h : CmdHdr) (c : Cmd) (d : Dev) :
    (accepted h c d).host.inflight.any (fun f => decide (f.cid = d.host.nextCid)) = true := by
  simp [accepted, flight]

/-- A command that comes to the checks of its own rule with an apply QN runs with that QN. -/
theorem submit_ready_at (h : CmdHdr) (c : Cmd) (q : Nat) (d : Dev) (hr : Ready h c d)
    (hq : cmdQn d c h.applyQn false = some q) :
    submit h c d = perform d.host.nextCid h.src h.applyQn (some q) false c (accepted h c d) := by
  rw [submit_ready h c d hr, cmdQn_accepted, hq]

/-! ### What each command does once it is accepted -/

/-- SET_MODE to another mode that R26 and R29 allow schedules its transition (R26, R32). -/
theorem setMode_schedules (cid m scope q : Nat) (t : Mode) (zero : Bool) (d : Dev) (hm : Mode.ofCode m = some t)
    (hs : scope ≤ 1) (hb : t ≠ .boot) (hn : transNow d = none) (ht : t ≠ d.sys.mode)
    (hrow : modeRow d.sys.mode t = true) (hpre : modePre d t = true) :
    setMode cid m scope (some q) zero d = transPlan t q 2 (some cid) d := by
  have hs' : ¬ 1 < scope := by omega
  rw [setMode, hm]
  simp [hs', hb, hn, ht, hrow, hpre]

/-- An accepted SET_MODE of a source other than the firmware ends the start-up attempts (R444). -/
theorem perform_setMode (src : Source) (cid raw m scope q : Nat) (t : Mode) (d : Dev)
    (hf : d.host.inflight.any (fun f => decide (f.cid = cid)) = true)
    (hset : setMode cid m scope (some q) (decide (raw = 0)) d = transPlan t q 2 (some cid) d) :
    perform cid src raw (some q) false (.setMode m scope) d = { d with
      sys := { d.sys with sched := some ⟨t, q, 2, some cid, .waiting⟩ }
      host := { d.host with startMode := if src = .firmware then d.host.startMode else none } } := by
  have hf' : (transPlan t q 2 (some cid) d).host.inflight.any (fun f => decide (f.cid = cid)) = true := hf
  simp only [perform, hset, hf', and_true]
  by_cases hsrc : src = .firmware
  · subst hsrc
    rfl
  · simp only [hsrc, ne_eq, not_false_eq_true, if_true, if_false]
    rfl

theorem reanchorTime_waits (cid q : Nat) (step : Int) (d : Dev) (h : reanchorFits (ptOfQn d q) d step = true) :
    reanchorTime cid step (some q) d
      = { d with time := { d.time with reanchors := d.time.reanchors ++ [⟨q, step, cid⟩] } } := by
  simp [reanchorTime, h]

theorem setAir_waits (cid r q : Nat) (t : Int) (d : Dev) (hl : -10240 ≤ t) (hu : t ≤ 15360) (hr : r ≤ 100) :
    setAir cid t r (some q) d
      = { d with geom := { d.geom with airReqs := d.geom.airReqs ++ [⟨q, t, r, some cid⟩] } } := by
  rw [setAir, if_neg (by omega)]

/-- A change whose apply QN has not started is scheduled and nothing else (R125). -/
theorem availSchedule_in_time (r : AvailReq) (d : Dev) (h : d.geom.nextAct ≤ r.applyQn) :
    availSchedule r d = { d with geom := { d.geom with availReqs := d.geom.availReqs ++ [r] } } := by
  have hn : ¬ r.applyQn < d.geom.nextAct := by omega
  simp [availSchedule, hn]

/-- On a device that is not central SET_OUTPUT_AVAIL schedules its change and tells nobody (R125). -/
theorem setOutputAvail_waits (cid o a q : Nat) (d : Dev) (ho : o ≤ 511) (ha : a ≤ 1) (hr : role d ≠ 1)
    (hq : d.geom.nextAct ≤ q) :
    setOutputAvail cid o a (some q) false d = { d with geom := { d.geom with
      availReqs := d.geom.availReqs ++ [⟨q, o, decide (a = 1), if a = 1 then 6 else 5, some cid, none⟩] } } := by
  rw [setOutputAvail, if_neg (by omega)]
  simp only [decide_eq_true_eq]
  rw [availSchedule_in_time _ d hq]
  exact if_pos hr

theorem setRouteGain_waits (cid e g q : Nat) (d : Dev) (hg : gainOk g = true) :
    setRouteGain cid e g (some q) d
      = { d with route := { d.route with gainWaits := d.route.gainWaits ++ [⟨e, sext 24 g, q, cid, none⟩] } } := by
  simp [setRouteGain, hg, gainRequest]

theorem setRouteSource_waits (cid sl c q : Nat) (d : Dev) (hs : sl ≤ 7) (hc : routeSourceOk c = true) :
    setRouteSource cid sl c (some q) d
      = { d with route := { d.route with sourceWaits := d.route.sourceWaits ++ [⟨sl, c, q, cid⟩] } } := by
  have hs' : ¬ 7 < sl := by omega
  simp [setRouteSource, hs', hc]

/-- Settles O11: a command that is ready runs with its apply QN (`submit_ready_at`), and what it asks for is queued. -/
theorem commandsThatWaitForTheirApplyQn : Obligations.CommandsThatWaitForTheirApplyQn := by
  unfold Obligations.CommandsThatWaitForTheirApplyQn
  refine ⟨fun h m scope q t s hr hm hs hb hn ht hrow hpre hq => ?_, fun h st q s hr hq hfit => ?_,
    fun h t r q s hr hl hu hh hq => ?_, fun h o a q s hr ho ha hrole hq hact => ?_, fun h e g q s hr hg hq => ?_,
    fun h sl c q s hr hs hc hq => ?_⟩
  · show becomes s (submit h (.setMode m scope) s.dev) = _
    rw [submit_ready_at h _ q s.dev hr hq, perform_setMode _ _ _ _ _ _ t _ (accepted_in_flight h _ s.dev)
      (setMode_schedules _ _ _ _ t _ _ hm hs hb hn ht hrow hpre)]
  · show becomes s (submit h (.reanchorTime st) s.dev) = _
    rw [submit_ready_at h _ q s.dev hr hq, perform, reanchorTime_waits _ _ _ (accepted h _ s.dev) hfit]
  · show becomes s (submit h (.setAir t r) s.dev) = _
    rw [submit_ready_at h _ q s.dev hr hq, perform, setAir_waits _ _ _ _ _ hl hu hh]
  · show becomes s (submit h (.setOutputAvail o a) s.dev) = _
    rw [submit_ready_at h _ q s.dev hr hq, perform, setOutputAvail_waits _ _ _ _
      (accepted h _ s.dev) ho ha hrole hact]
  · show becomes s (submit h (.setRouteGain e g) s.dev) = _
    rw [submit_ready_at h _ q s.dev hr hq, perform, setRouteGain_waits _ _ _ _ _ hg]
  · show becomes s (submit h (.setRouteSource sl c) s.dev) = _
    rw [submit_ready_at h _ q s.dev hr hq, perform, setRouteSource_waits _ _ _ _ _ hs hc]

end Sys2Proof.Proofs
end

section
/-!
Modes: the end of a transition, the entry into SAFE, the end of the quantum numbers, slow start-up (R23 to R35, R47, R55,
R56).
-/

namespace Sys2Proof.Proofs

open Machine Safety Laws

/-! ### The entry into a mode -/

theorem history_of_sends {d e : Dev} (h : Sends d e) : e.host.history = d.host.history := by
  obtain ⟨_, _, _, _, _, _, hh⟩ := h.host
  rw [hh]

/-- The state of a device that enters a mode, before the event and what CONFIG adds (R23, R24). -/
def modeNoted (m : Mode) (cause qn : Nat) (d : Dev) : Dev :=
  { d with
    sys := { d.sys with mode := m, cause := cause, modeQn := qn }
    host := { d.host with history := d.host.history ++ [(m.code, cause, qn)] }
    survey := { d.survey with running := false, step := 0, stepQn := 0, tailQn := 0, heard := [] } }

/-- The event of that entry raised. -/
def modeRaised (m : Mode) (cause qn : Nat) (d : Dev) : Dev :=
  raiseEvent evModeChanged (leBytes 1 m.code ++ leBytes 1 cause ++ leBytes 5 qn) (modeNoted m cause qn d)

/-- The geometry unit starts anew at its next activation. -/
def geomAnew (d : Dev) : Dev := { d with geom := { d.geom with fresh := true } }

theorem geomAnew_age (d : Dev) : (geomAnew d).age = d.age := rfl
theorem geomAnew_sys (d : Dev) : (geomAnew d).sys = d.sys := rfl
theorem geomAnew_pair (d : Dev) : (geomAnew d).pair = d.pair := rfl
theorem geomAnew_host (d : Dev) : (geomAnew d).host = d.host := rfl
theorem geomAnew_geom (d : Dev) : (geomAnew d).geom = { d.geom with fresh := true } := rfl

theorem sends_modeRaised (m : Mode) (cause qn : Nat) (d : Dev) : Sends (modeNoted m cause qn d) (modeRaised m cause qn d) :=
  sends_raiseEvent _ _ _

/-- An entry into a mode is noted and raised; CONFIG also makes the geometry unit start anew and applies what ageing has held
(R23, R24, R506, R507). -/
theorem enterMode_eq (m : Mode) (cause qn : Nat) (d : Dev) : enterMode m cause qn d =
    if m = .config then ageConfigEntry (geomAnew (modeRaised m cause qn d)) else modeRaised m cause qn d := by
  simp only [enterMode, geomAnew, modeRaised, modeNoted]

/-- With no lane below its margin and no frequency held, an entry into CONFIG does nothing for ageing (R506, R507). -/
theorem ageConfigEntry_nothing (d : Dev) (hm : d.age.margins = []) (hf : d.age.nextMhz = none) : ageConfigEntry d = d := by
  have hnone : (List.range 4).filter (fun ch => fget false d.age.margins (8 + ch)) = [] := by
    rw [hm]
    rfl
  simp only [ageConfigEntry, hnone, forL, List.foldl_nil, hf]
  rw [← hm, ← hf]

/-! ### The end of a transition (R31, R32) -/

theorem pendTake_none (d : Dev) (h : d.sys.pendReq = none) : pendTake d = d := by
  rw [pendTake, h]

theorem resyncJoin_none (d : Dev) (h : d.pair.resyncSelf = false) : resyncJoin d = d := by
  simp [resyncJoin, h]

theorem stopThenWake_awake (d : Dev) (h : d.sys.mode ≠ .stop) : stopThenWake d = d := by
  simp [stopThenWake, h]

/-- What an entry into a mode leaves of modes, pair, geometry unit and history, with nothing held by ageing for CONFIG. -/
theorem enterMode_fields (m : Mode) (cause qn : Nat) (d : Dev) (h : m = .config → d.age.margins = [] ∧ d.age.nextMhz = none) :
    (enterMode m cause qn d).sys = { d.sys with mode := m, cause := cause, modeQn := qn }
    ∧ (enterMode m cause qn d).pair = d.pair
    ∧ (enterMode m cause qn d).geom = (if m = .config then { d.geom with fresh := true } else d.geom)
    ∧ (enterMode m cause qn d).host.history = d.host.history ++ [(m.code, cause, qn)] := by
  have hs := sends_modeRaised m cause qn d
  rw [enterMode_eq]
  by_cases hm : m = .config
  · obtain ⟨hmargins, hmhz⟩ := h hm
    have hage : (geomAnew (modeRaised m cause qn d)).age = d.age := by rw [geomAnew_age, hs.age]; rfl
    rw [if_pos hm, if_pos hm, ageConfigEntry_nothing _ (by rw [hage, hmargins]) (by rw [hage, hmhz]), geomAnew_sys,
      geomAnew_pair, geomAnew_host, geomAnew_geom, hs.sys, hs.pair, hs.geom, history_of_sends hs]
    exact ⟨rfl, rfl, rfl, rfl⟩
  · rw [if_neg hm, if_neg hm, hs.sys, hs.pair, hs.geom, history_of_sends hs]
    exact ⟨rfl, rfl, rfl, rfl⟩

/-- A transition that is ready, with nothing pending behind it, ends in its mode and completes (R31). -/
theorem transitionEnd_ready (t : Trans) (d : Dev) (h : d.sys.running = some t) (hp : t.phase = .ready)
    (hs : t.target ≠ .stop) (hr : d.sys.pendReq = none) (hj : d.pair.resyncSelf = false)
    (hc : t.target = .config → d.age.margins = [] ∧ d.age.nextMhz = none) :
    transitionEnd d = completeOpt t.cid cDone t.applyQn
      (enterMode t.target t.cause t.applyQn { d with sys := { d.sys with running := none } }) := by
  obtain ⟨hsys, hpair, -, -⟩ := enterMode_fields t.target t.cause t.applyQn { d with sys := { d.sys with running := none } } hc
  have ht : transComplete d = completeOpt t.cid cDone t.applyQn
      (enterMode t.target t.cause t.applyQn { d with sys := { d.sys with running := none } }) := by
    rw [transComplete, h]
    simp only [hp]
    exact pendTake_none _ (by rw [completeOpt_sys, hsys]; exact hr)
  rw [transitionEnd, transCompletePair, ht, resyncJoin_none _ (by rw [completeOpt_pair, hpair]; exact hj)]
  exact stopThenWake_awake _ (by rw [completeOpt_sys, hsys]; exact hs)

/-! ### The entry into SAFE (R33, R34) -/

theorem pendModeDrop_none (d : Dev) (h : d.sys.pendReq = none) : pendModeDrop d = d := by
  rw [pendModeDrop, h]

theorem transFail_none (d : Dev) (hr : d.sys.running = none) (hs : d.sys.sched = none) : transFail d = d := by
  rw [transFail, transNow, hr, hs]

/-- No transition, no request for one and no join is under way. -/
structure Settled (d : Dev) : Prop where
  running : d.sys.running = none
  sched : d.sys.sched = none
  pendReq : d.sys.pendReq = none
  join : d.pair.join = none

/-- The fault causes noted for the boundary are taken off (R33). -/
def causesTaken (d : Dev) : Dev := { d with sys := { d.sys with newCauses := [] } }

theorem bitAt_causesTaken (d : Dev) (a i : Nat) : bitAt (causesTaken d) a i = bitAt d a i := rfl
theorem causesTaken_sys (d : Dev) : (causesTaken d).sys = { d.sys with newCauses := [] } := rfl

/-- What the entry into SAFE makes of a device: its outputs ramp down, and its mode changes with the lowest cause. -/
def safeEntered (causes : List Nat) (d : Dev) : Dev :=
  enterMode .safe (entryCause causes) (qnNow d) (rampTo false (cmReverse (causesTaken d)))

theorem sys_safeEntered (causes : List Nat) (d : Dev) :
    let e := safeEntered causes d
    e.sys.mode = .safe ∧ e.sys.cause = entryCause causes ∧ e.sys.modeQn = qnNow d ∧ e.sys.newCauses = []
      ∧ e.sys.rampUp = false ∧ e.sys.rampQn = qnNow d := by
  have hd := drives_cmReverse (causesTaken d)
  have hq : qnNow (cmReverse (causesTaken d)) = qnNow d := by
    rw [qnNow, hd.time]
    rfl
  obtain ⟨hsys, -, -, -⟩ := enterMode_fields .safe (entryCause causes) (qnNow d)
    (rampTo false (cmReverse (causesTaken d))) (fun h => by cases h)
  dsimp only
  rw [safeEntered, hsys]
  refine ⟨rfl, rfl, rfl, ?_, rfl, hq⟩
  show (cmReverse (causesTaken d)).sys.newCauses = []
  rw [hd.sys]
  rfl

theorem rdN_safeEntered (causes : List Nat) (d : Dev) (a : Nat) (h : a < 0x30000 ∨ 0x40000 ≤ a) :
    rdN (safeEntered causes d) a = rdN d a := by
  rw [safeEntered, enterMode_eq, if_neg (by decide), modeRaised, rdN_raiseEvent _ _ _ _ h]
  show rdN (cmReverse (causesTaken d)) a = rdN d a
  rw [rdN, reg, (drives_cmReverse _).regs]
  rfl

/-- At the boundary after fault causes a device with no transition enters SAFE when it renders, and otherwise only takes
the causes off (R33, R34). -/
theorem faultEntry_settled (d : Dev) (hc : ∃ c ∈ d.sys.newCauses, c ≠ 3) (hd : Settled d) :
    faultEntry d = if rendering d then safeEntered d.sys.newCauses d else causesTaken d := by
  obtain ⟨c, hmem, h3⟩ := hc
  have hall : d.sys.newCauses.all (fun c => decide (c = 3)) = false := by
    rw [List.all_eq_false]
    exact ⟨c, hmem, by simpa using h3⟩
  have hkeep : pendModeDrop (transFail (causesTaken d)) = causesTaken d := by
    rw [transFail_none (causesTaken d) hd.running hd.sched, pendModeDrop_none (causesTaken d) hd.pendReq]
  have henter : enteringRender (causesTaken d) = false := by
    simp [enteringRender, causesTaken_sys, hd.running]
  have hsched : (causesTaken d).sys.sched = none := hd.sched
  have hrender : rendering (causesTaken d) = rendering d := rfl
  have hqn : qnNow (causesTaken d) = qnNow d := rfl
  unfold faultEntry
  split
  · rename_i hnil
    rw [hnil] at hmem
    exact absurd hmem List.not_mem_nil
  · rw [← causesTaken]
    simp only [hall, hkeep, henter, hrender, Bool.false_and, Bool.or_false, Bool.not_false, Bool.and_true,
      Bool.false_eq_true, if_false]
    cases hrd : rendering d with
    | false => simp [hsched]
    | true =>
      have hsafe : (causesTaken d).sys.mode ≠ .safe := fun h => by
        have h' : d.sys.mode = .safe := h
        simp [rendering, h'] at hrd
      simp only [if_true, hsafe, if_false, hqn, safeEntered]

/-- A device that leaves its pair keeps its mode and its registers (R380). -/
theorem leavePair_sys (d : Dev) : (leavePair d).sys = d.sys := by
  unfold leavePair
  split <;> rfl

theorem leavePair_regs (d : Dev) : (leavePair d).regs = d.regs := by
  unfold leavePair
  split <;> rfl

/-- Outside a join the boundary after fault causes is the entry into SAFE; a central device leaves its pair with it (R33,
R380). -/
theorem faultBoundary_of_entry (d : Dev) (hn : d.sys.newCauses ≠ []) (hj : d.pair.join = none) : faultBoundary d
    = onlyIf (decide (d.sys.mode = .central) && decide ((faultEntry d).sys.mode ≠ .central)) leavePair (faultEntry d) := by
  simp [faultBoundary, hn, hj]

theorem onlyIf_leavePair (b : Bool) (d : Dev) : (onlyIf b leavePair d).sys = d.sys ∧ (onlyIf b leavePair d).regs = d.regs := by
  rw [onlyIf]
  split
  · exact ⟨leavePair_sys d, leavePair_regs d⟩
  · exact ⟨rfl, rfl⟩

/-- What the boundary after fault causes leaves of modes, transitions and causes (R33). -/
theorem faultBoundary_sys (d : Dev) (hc : ∃ c ∈ d.sys.newCauses, c ≠ 3) (hd : Settled d) :
    (faultBoundary d).sys
      = if rendering d then (safeEntered d.sys.newCauses d).sys else { d.sys with newCauses := [] } := by
  obtain ⟨c, hmem, h3⟩ := hc
  rw [faultBoundary_of_entry d (List.ne_nil_of_mem hmem) hd.join, (onlyIf_leavePair _ _).1,
    faultEntry_settled d ⟨c, hmem, h3⟩ hd, apply_ite Dev.sys, causesTaken_sys]

/-- That boundary keeps every register but those of the host interface. -/
theorem bitAt_faultBoundary (d : Dev) (hc : ∃ c ∈ d.sys.newCauses, c ≠ 3) (hd : Settled d) (a i : Nat)
    (ha : a < 0x30000 ∨ 0x40000 ≤ a) : bitAt (faultBoundary d) a i = bitAt d a i := by
  have hentry : bitAt (faultEntry d) a i = bitAt d a i := by
    rw [faultEntry_settled d hc hd]
    split
    · rw [bitAt, rdN_safeEntered _ _ _ ha, bitAt]
    · exact bitAt_causesTaken d a i
  obtain ⟨c, hmem, -⟩ := hc
  rw [faultBoundary_of_entry d (List.ne_nil_of_mem hmem) hd.join, ← hentry, bitAt, bitAt, rdN, rdN, reg, reg,
    (onlyIf_leavePair _ _).2]

theorem faultBoundary_no_cause (d : Dev) (h : d.sys.newCauses = []) : faultBoundary d = d := by
  simp [faultBoundary, h]

/-! ### The ends of the quantum numbers, slow start-up (R47, R55, R56) -/

theorem qnNearEnd_reached (d : Dev) (hc : d.time.counting = true) (hq : d.sys.nearEndNext ≤ d.time.qn) :
    qnNearEnd d = raiseEvent evQnNearEnd [] { d with sys := { d.sys with
      nearEndNext := d.sys.nearEndNext + ((d.time.qn - d.sys.nearEndNext) / 2 ^ 24 + 1) * 2 ^ 24 } } := by
  rw [qnNearEnd, if_neg (by rw [hc]; simpa using hq)]

theorem startupSlow_step (n : Nat) (d : Dev) (hl : 1 ≤ n) (hu : n ≤ 10) :
    startupSlow n d = raiseEvent evStartupSlow (leBytes 1 n) d := by
  rw [startupSlow, if_neg (by omega)]

/-- At the last departure boundary, not met before, QN_EXHAUSTED arises and is taken at that boundary itself (R56). -/
theorem qnExhausted_last (d : Dev) (hc : d.time.counting = true) (hq : 2 ^ 40 - 1 ≤ d.time.qn)
    (hb : bitAt d 0x230 8 = false) : qnExhausted d = faultBoundary (faultCause 0x10 d) := by
  have hq' : decide (2 ^ 40 - 1 ≤ d.time.qn) = true := decide_eq_true hq
  rw [qnExhausted, hc, hq', hb]
  simp only [Bool.true_and, Bool.not_false, if_true]

theorem bitAt_with_sys (x : SysSt) (d : Dev) (a i : Nat) : bitAt { d with sys := x } a i = bitAt d a i := rfl

/-- QN_EXHAUSTED that arises sets its bit (R35, R56). -/
theorem bitAt_faultCause_exhausted (d : Dev) : bitAt (faultCause 0x10 d) 0x230 8 = true := by
  have hbit : causeBit 0x10 = 8 := rfl
  rw [faultCause, bitAt_with_sys, bitAt_raiseEvent _ _ _ _ _ (by decide), hbit, bitAt_setFlag _ _ _ _ _ (by decide)]
  simp

theorem faultCause_time (c : Nat) (d : Dev) : (faultCause c d).time = d.time := by
  simp [faultCause]

theorem faultCause_pair (c : Nat) (d : Dev) : (faultCause c d).pair = d.pair := by
  simp [faultCause]

theorem settled_faultCause (c : Nat) (d : Dev) (hd : Settled d) : Settled (faultCause c d) := by
  refine ⟨?_, ?_, ?_, ?_⟩
  · rw [faultCause_sys]; exact hd.running
  · rw [faultCause_sys]; exact hd.sched
  · rw [faultCause_sys]; exact hd.pendReq
  · rw [faultCause_pair]; exact hd.join

/-- What the entry into SAFE at the end of the quantum numbers leaves of modes and causes (R56). -/
theorem qnExhausted_sys (d : Dev) (hc : d.time.counting = true) (hq : 2 ^ 40 - 1 ≤ d.time.qn)
    (hb : bitAt d 0x230 8 = false) (hd : Settled d) :
    let e := qnExhausted d
    bitAt e 0x230 8 = true ∧ e.sys.newCauses = []
      ∧ e.sys.mode = (if rendering d then .safe else d.sys.mode)
      ∧ e.sys.cause = (if rendering d then entryCause (d.sys.newCauses ++ [0x10]) else d.sys.cause)
      ∧ e.sys.modeQn = (if rendering d then qnNow d else d.sys.modeQn) := by
  have hsys := faultCause_sys 0x10 d
  have hnew : (faultCause 0x10 d).sys.newCauses = d.sys.newCauses ++ [0x10] := by rw [hsys]
  have hrender : rendering (faultCause 0x10 d) = rendering d := by rw [rendering, hsys]; rfl
  have hqn : qnNow (faultCause 0x10 d) = qnNow d := by rw [qnNow, faultCause_time]; rfl
  have hc' : ∃ c ∈ (faultCause 0x10 d).sys.newCauses, c ≠ 3 := ⟨0x10, by rw [hnew]; simp, by decide⟩
  have hd' := settled_faultCause 0x10 d hd
  rw [qnExhausted_last d hc hq hb]
  dsimp only
  rw [bitAt_faultBoundary _ hc' hd' _ _ (by decide), faultBoundary_sys _ hc' hd', hrender, hnew]
  refine ⟨bitAt_faultCause_exhausted d, ?_⟩
  cases rendering d with
  | true =>
    obtain ⟨hmode, hcause, hmodeQn, htaken, -, -⟩ := sys_safeEntered (d.sys.newCauses ++ [0x10]) (faultCause 0x10 d)
    simp only [if_true]
    exact ⟨htaken, hmode, hcause, hmodeQn.trans hqn⟩
  | false => simp [hsys]

/-- Settles O15: a transition's end is the entry into its mode; the boundary after fault causes is the entry into SAFE, also at
the end of the quantum numbers. -/
theorem modesChangeAsTransitionsAndFaultsSay : Obligations.ModesChangeAsTransitionsAndFaultsSay := by
  unfold Obligations.ModesChangeAsTransitionsAndFaultsSay
  refine ⟨fun t s h hp hs hconf hr hj => ?_, fun t s h hp hconf hr hj hm hf => ?_, fun s hc hrd hj hr hs hp => ?_,
    fun s h => ?_, fun s hc hq => ?_, fun s hc hq hb hj hr hs hp => ?_, fun n s hl hu => ?_⟩
  · show becomes s (transitionEnd s.dev) = _
    rw [transitionEnd_ready t s.dev h hp hs hr hj (fun hc => absurd hc hconf), enterMode_eq, if_neg hconf]
    rfl
  · refine ⟨_, rfl, ?_⟩
    show (transitionEnd s.dev).sys.mode = _ ∧ (transitionEnd s.dev).sys.cause = _ ∧ (transitionEnd s.dev).sys.modeQn = _
      ∧ (transitionEnd s.dev).sys.running = _ ∧ (transitionEnd s.dev).geom = _ ∧ (transitionEnd s.dev).host.history = _
    obtain ⟨hsys, -, hgeom, hhist⟩ := enterMode_fields t.target t.cause t.applyQn
      { s.dev with sys := { s.dev.sys with running := none } } (fun _ => ⟨hm, hf⟩)
    rw [transitionEnd_ready t s.dev h hp (by rw [hconf]; decide) hr hj (fun _ => ⟨hm, hf⟩), completeOpt_sys, completeOpt_geom,
      history_of_sends (sends_completeOpt _ _ _ _), hsys, hgeom, hhist, hconf]
    exact ⟨rfl, rfl, rfl, rfl, if_pos rfl, rfl⟩
  · refine ⟨_, rfl, ?_⟩
    show (faultBoundary s.dev).sys.mode = _ ∧ (faultBoundary s.dev).sys.cause = _ ∧ (faultBoundary s.dev).sys.modeQn = _
      ∧ (faultBoundary s.dev).sys.newCauses = _ ∧ (faultBoundary s.dev).sys.rampUp = _ ∧ (faultBoundary s.dev).sys.rampQn = _
    rw [faultBoundary_sys s.dev hc ⟨hr, hs, hp, hj⟩, if_pos hrd]
    exact sys_safeEntered s.dev.sys.newCauses s.dev
  · show becomes s (faultBoundary s.dev) = _
    rw [faultBoundary_no_cause s.dev h]
  · show becomes s (qnNearEnd s.dev) = _
    rw [qnNearEnd_reached s.dev hc hq]
  · exact ⟨_, rfl, qnExhausted_sys s.dev hc hq hb ⟨hr, hs, hp, hj⟩⟩
  · show becomes s (startupSlow n s.dev) = _
    rw [startupSlow_step n s.dev hl hu]

end Sys2Proof.Proofs
end

section
/-!
Objects and their metadata records, records of outputs, records of swaps (R96 to R106, R125, R126, R178).
-/

namespace Sys2Proof.Proofs

open Machine Safety Laws

/-! ### The check and the holding of a metadata record (R97, R99) -/

/-- A record that the checks drop is counted and nothing else (R97). -/
theorem metaReceive_dropped (qn : Option Nat) (b : Bytes) (d : Dev) (h : metaAccept d b = none) :
    metaReceive qn b d = incCnt 0x50070 d := by
  rw [metaReceive, h]

/-- A record whose quantum is still to be activated is held without being counted as late (R97, R98). -/
theorem metaReceive_in_time (b : Bytes) (q : Nat) (d : Dev) (h : metaAccept d b = some q) (hq : d.geom.nextAct ≤ q) :
    metaReceive none b d = metaHold (metaObj b) (metaRec q b) d := by
  have hlate : decide (q < d.geom.nextAct) = false := decide_eq_false (by omega)
  rw [metaReceive, h]
  simp only [Option.getD_none, hlate, Bool.false_and, Bool.false_eq_true, if_false]

/-- Outside a pair no copy of a record is looked for (R386). -/
theorem metaHold_alone (o : Nat) (r : MetaRec) (d : Dev) (hm : mirrorsInputs d = false) :
    metaHold o r d = metaKeep o r d := by
  simp [metaHold, hm]

theorem metaKeep_first (o : Nat) (r : MetaRec) (d : Dev) (h : (obj d o).recs = []) :
    metaKeep o r d = putObj o { obj d o with recs := [r] } d := by
  simp [metaKeep, h]

theorem obj_putObj_same (o : Nat) (x : Obj) (d : Dev) : obj (putObj o x d) o = x := fget_fput_same _ _ _ _

theorem putObj_regs (o : Nat) (x : Obj) (d : Dev) : (putObj o x d).regs = d.regs := rfl

/-! ### The carriers of metadata records (R97, R128, R413, R417) -/

/-- Outside a pair a record is received as it arrives, with the QN of its own PT (R385). -/
theorem metaInput_alone (b : Bytes) (d : Dev) (hm : mirrorsInputs d = false) : metaInput b d = metaReceive none b d := by
  rw [metaInput, if_pos hm]

theorem metaArrive_stream_disabled (e : Bool) (b : Bytes) (d : Dev) (h : bitAt d 0x50000 1 = false) :
    metaArrive none e b d = d := by
  simp [metaArrive, h]

theorem metaArrive_stream (e : Bool) (b : Bytes) (d : Dev) (h : bitAt d 0x50000 1 = true) (hm : mirrorsInputs d = false) :
    metaArrive none e b d = metaReceive none (padTo 32 b) d := by
  rw [← metaInput_alone _ d hm]
  simp [metaArrive, h]

/-- The entry of a running metadata ring that holds one: its fetch fails, or it is taken, marked when a reserved bit is set,
and goes to the geometry unit while rings are enabled (R128, R416, R417). -/
theorem metaArrive_ring (k : Nat) (e : Bool) (b : Bytes) (d : Dev) (hk : k < 16) (hr : ringRunning d (17 + k) = true)
    (hh : ringHeld d (17 + k) ≠ 0) :
    let c := padTo 32 b
    let bad := (leAt c 21 1).testBit 7 || decide (bits (leAt c 10 2) 15 10 ≠ 0) || decide (bits (leAt c 22 1) 7 3 ≠ 0)
    let t := ringAdvance (17 + k) (if bad then setFlag (ringA (17 + k) + 0x20) 10 d else d)
    metaArrive (some k) e b d
      = if e then ringPcieErr (17 + k) d else if bitAt t 0x50000 0 then metaInput c t else t := by
  have hgo : ¬ (16 ≤ k ∨ ringRunning d (17 + k) = false ∨ ringHeld d (17 + k) = 0) := by
    rw [hr]
    simp only [Bool.true_eq_false, false_or]
    omega
  exact if_neg hgo

/-- A record that passes R97 has no reserved bit set. -/
theorem metaFormatOk_reserved (b : Bytes) (h : metaFormatOk b = true) :
    ((leAt b 21 1).testBit 7 || decide (bits (leAt b 10 2) 15 10 ≠ 0) || decide (bits (leAt b 22 1) 7 3 ≠ 0)) = false := by
  simp only [metaFormatOk, Bool.and_eq_true, decide_eq_true_eq, Bool.not_eq_true'] at h
  obtain ⟨⟨⟨⟨⟨⟨-, hobj⟩, hvalid⟩, hlaw⟩, -⟩, -⟩, -⟩ := h
  simp [hobj, hvalid, hlaw]

theorem mirrorsInputs_of_sends {d e : Dev} (h : Sends d e) : mirrorsInputs e = mirrorsInputs d := by
  rw [mirrorsInputs, h.pair, mirrorsInputs]

theorem bitAt_of_sends {d e : Dev} (h : Sends d e) (a i : Nat) (ha : a < 0x30000 ∨ 0x40000 ≤ a) :
    bitAt e a i = bitAt d a i := by
  rw [bitAt, rdN, h.regs a ha, bitAt, rdN]

/-- An entry without a reserved bit, on a device outside a pair with metadata rings enabled, is taken from its ring and
received (R97, R416). -/
theorem metaArrive_ring_wellFormed (k : Nat) (b : Bytes) (d : Dev) (hk : k < 16) (hr : ringRunning d (17 + k) = true)
    (hh : ringHeld d (17 + k) ≠ 0) (hf : metaFormatOk (padTo 32 b) = true) (he : bitAt d 0x50000 0 = true)
    (hm : mirrorsInputs d = false) :
    metaArrive (some k) false b d = metaReceive none (padTo 32 b) (ringAdvance (17 + k) d) := by
  have hs := sends_ringAdvance (17 + k) d (by omega)
  have hbit : bitAt (ringAdvance (17 + k) d) 0x50000 0 = true := by rw [bitAt_of_sends hs _ _ (by decide), he]
  have hpair : mirrorsInputs (ringAdvance (17 + k) d) = false := by rw [mirrorsInputs_of_sends hs, hm]
  rw [metaArrive_ring k false b d hk hr hh, metaFormatOk_reserved _ hf]
  simp only [Bool.false_eq_true, if_false, hbit, if_true]
  exact metaInput_alone _ _ hpair

/-! ### Objects (R104, R106) -/

/-- A live object freezes when the quanta without a record have come to T (R106). -/
theorem freezeCheck_due (q o : Nat) (d : Dev) (hp : (obj d o).inPlan = true) (hl : (obj d o).live = true)
    (hf : (obj d o).frozen = false) (hq : (obj d o).lastRecQn + metaTimeout d ≤ q) :
    freezeCheck q o d = raiseEvent evObjFrozen (leBytes 2 o) (putObj o { obj d o with frozen := true } d) :=
  if_pos ⟨hp, hl, hf, by omega⟩

/-- A move in a slot that has had its quanta ends at its target and frees the slot (R104). -/
theorem moveCheck_slot_ended (q o k st : Nat) (x y z : Int) (d : Dev) (h : (obj d o).move = .slot k st x y z)
    (hq : st + fadeN d ≤ q) :
    moveCheck q o d = putObj o { obj d o with px := x, py := y, pz := z, move := .none } d := by
  rw [moveCheck, h]
  exact if_pos hq

/-- A dip that stands at zero moves its object to the target and goes on (R104). -/
theorem moveCheck_dip_zero (q o st : Nat) (x y z : Int) (d : Dev) (h : (obj d o).move = .dip st x y z)
    (hq : st + fadeN d = q) (hn : 0 < fadeN d) :
    moveCheck q o d = putObj o { obj d o with px := x, py := y, pz := z } d := by
  have hgoes : ¬ st + 2 * fadeN d ≤ q := by omega
  rw [moveCheck, h]
  simp only [hq, hgoes, if_true, if_false]
  rw [← h]

/-! ### Reports and records of outputs (R125, R126) -/

theorem availMerge_first (r : AvailReq) (d : Dev)
    (ht : mirrorsInputs d = true → availTwin d r.output r.available r.applyQn = none) :
    availMerge r d = availSchedule r d := by
  have hnone : (if mirrorsInputs d then availTwin d r.output r.available r.applyQn else none) = none := by
    split
    · exact ht ‹_›
    · rfl
  rw [availMerge, hnone]

theorem availReportReceive_not_central (o cause : Nat) (up : Bool) (d : Dev) (h : role d ≠ 1) :
    availReportReceive o cause up d = d := if_pos (.inl h)

theorem availReportReceive_central (o cause : Nat) (up : Bool) (d : Dev) (hr : role d = 1) (ho : o < 512) :
    availReportReceive o cause up d = availDecide o cause up (availLeadQn d) none d := by
  rw [availReportReceive, if_neg (by omega)]

/-- A central device schedules a change that repeats none, then tells of a new state of the output, and otherwise sends the
last record again (R125). -/
theorem availDecide_central (o cause q : Nat) (up : Bool) (d : Dev) (hr : role d = 1)
    (ht : mirrorsInputs d = true → availTwin d o up q = none) (hq : d.geom.nextAct ≤ q) :
    let e := { d with geom := { d.geom with availReqs := d.geom.availReqs ++ [⟨q, o, up, cause, none, none⟩] } }
    let t := availSend o cause up q e
    availDecide o cause up q none d = if availNew d o up then availTell o cause up q e
      else if t.geom.availSent then multicast 6 51231 (controlHead t ++ t.geom.availLast) t else t := by
  intro e
  have hmerge : availMerge ⟨q, o, up, cause, none, none⟩ d = e := by
    rw [availMerge_first _ d ht, availSchedule_in_time _ d hq]
  have hrole : ¬ role e ≠ 1 := fun h => h hr
  rw [availDecide, hmerge]
  exact if_neg hrole

theorem availNewer_of_last (d : Dev) (n r : Nat) (h : d.geom.lastAvailSeq = some r) : availNewer d n = seqNewer 16 n r := by
  rw [availNewer, h]

theorem availNewer_of_forall (d : Dev) (n : Nat) (h : ∀ r, d.geom.lastAvailSeq = some r → seqNewer 16 n r = true) :
    availNewer d n = true := by
  unfold availNewer
  split
  · exact h _ ‹_›
  · rfl

/-- A device that is not central schedules the change of a newer record that it does not hold yet (R126). -/
theorem availRecordReceive_newer (b : Bytes) (d : Dev) (hl : b.length = 80) (ht : beAt b 0 2 = 0x41) (hr : role d ≠ 1)
    (hn : availNewer d (beAt b 2 2) = true)
    (hh : ∀ r ∈ d.geom.availReqs, ∀ m, r.mask = some m → m.1 ≠ beAt b 2 2) :
    availRecordReceive b d = availSchedule ⟨beAt b 4 5, beAt b 10 2 % 512, (leAt b 16 64).testBit (beAt b 10 2 % 512),
      beAt b 9 1, none, some (beAt b 2 2, leAt b 16 64)⟩ d := by
  have hheld : d.geom.availReqs.any (fun r => r.mask.any (fun m => decide (m.1 = beAt b 2 2))) = false := by
    simp only [List.any_eq_false, Bool.not_eq_true, Option.any_eq_false, decide_eq_false_iff_not]
    exact hh
  simp [availRecordReceive, hl, ht, hr, hn, hheld]

theorem availRecordReceive_stale (b : Bytes) (d : Dev) (h : availNewer d (beAt b 2 2) = false) :
    availRecordReceive b d = d := if_pos (.inr (.inr (.inr (.inl h))))

/-! ### Records of swaps (R177, R178) -/

/-- With no swap in progress and none waiting, a scheduled swap waits and its lead begins (R177). -/
theorem swapSchedule_idle (r : SwapReq) (d : Dev) (hr : d.plan.running = none) (hp : d.plan.pending = none) :
    swapSchedule r d = leadStart r.plan { d with plan := { d.plan with pending := some r } } := by
  simp [swapSchedule, hr, hp]

/-- An edge device schedules the swap of a newer record that names a plan it holds and comes in time (R178). -/
theorem swapRecordReceive_newer (b : Bytes) (d : Dev) (hr : role d = 2) (ht : beAt b 0 2 = 0x0050)
    (hn : ∀ r, d.plan.lastSwapSeq = some r → seqNewer 16 (beAt b 2 2) r = true)
    (hh : (fget? d.plan.held (beAt b 9 1)).isSome = true) (hq : d.geom.nextAct ≤ beAt b 4 5) :
    swapRecordReceive b d = swapSchedule ⟨beAt b 9 1, beAt b 4 5, beAt b 10 2, none, beAt b 2 2, false⟩
      { d with plan := { d.plan with lastSwapSeq := some (beAt b 2 2) } } := by
  have hheld : (fget? d.plan.held (beAt b 9 1)).isNone = false := by
    rw [← Option.not_isSome, hh]
    rfl
  have hlate : ¬ beAt b 4 5 < d.geom.nextAct := by omega
  cases hlast : d.plan.lastSwapSeq with
  | none => simp [swapRecordReceive, hlast, hr, ht, hheld, hlate]
  | some r => simp [swapRecordReceive, hlast, hn r hlast, hr, ht, hheld, hlate]

/-- Settles O22: each command is its act on the device, said once above for each case of a record, an object and a report. -/
theorem objectsFollowTheirRecords : Obligations.ObjectsFollowTheirRecords := by
  unfold Obligations.ObjectsFollowTheirRecords
  refine ⟨fun b q s hc hm ha hq => ?_, fun b s hc => ?_, fun b s hc hm ha => ?_,
    fun k b s hk hr hh => ⟨?_, fun hf he hm => ?_⟩, fun o s hp hl hf hq => ?_, fun o k q x y z s h hq => ?_,
    fun o q x y z s h hq hn => ?_, fun o cause up s hr ho => ?_, fun o cause up s hr => ?_,
    fun b s hl ht hr hn hh hq => ?_, fun b r s hlast hn => ?_, fun b s hr ht hn hh hq hrun hpend => ?_⟩
  · have hrec : exec (.metadataRecordReceive none false b) s
        = becomes s (metaHold (metaObj (padTo 32 b)) (metaRec q (padTo 32 b)) s.dev) := by
      show becomes s (metaArrive none false b s.dev) = _
      rw [metaArrive_stream false b s.dev hc hm, metaReceive_in_time _ q s.dev ha hq]
    refine ⟨hrec, fun hnone => ⟨_, hrec, ?_⟩⟩
    dsimp only
    rw [metaHold_alone _ _ s.dev hm, metaKeep_first _ _ s.dev hnone, obj_putObj_same]
    exact ⟨rfl, putObj_regs _ _ s.dev⟩
  · show becomes s (metaArrive none false b s.dev) = _
    rw [metaArrive_stream_disabled false b s.dev hc]
  · show becomes s (metaArrive none false b s.dev) = _
    rw [metaArrive_stream false b s.dev hc hm, metaReceive_dropped _ _ s.dev ha]
  · show becomes s (metaArrive (some k) true b s.dev) = _
    rw [metaArrive_ring k true b s.dev hk hr hh]
    rfl
  · show becomes s (metaArrive (some k) false b s.dev) = _
    rw [metaArrive_ring_wellFormed k b s.dev hk hr hh hf he hm]
  · show becomes s (freezeCheck s.dev.geom.nextAct o s.dev) = _
    rw [freezeCheck_due _ o s.dev hp hl hf hq]
  · show becomes s (moveCheck s.dev.geom.nextAct o s.dev) = _
    rw [moveCheck_slot_ended _ o k q x y z s.dev h hq]
  · show becomes s (moveCheck s.dev.geom.nextAct o s.dev) = _
    rw [moveCheck_dip_zero _ o q x y z s.dev h hq hn]
  · intro q ht hq d
    have hrec : exec (.availReportReceive o cause up) s = becomes s (availDecide o cause up q none s.dev) := by
      show becomes s (availReportReceive o cause up s.dev) = _
      rw [availReportReceive_central o cause up s.dev hr ho]
    rw [hrec, availDecide_central o cause q up s.dev hr ht hq]
    exact ⟨fun hnew => by rw [hnew]; rfl, fun hnew => by rw [hnew]; rfl⟩
  · show becomes s (availReportReceive o cause up s.dev) = _
    rw [availReportReceive_not_central o cause up s.dev hr]
  · show becomes s (availRecordReceive b s.dev) = _
    rw [availRecordReceive_newer b s.dev hl ht hr (availNewer_of_forall s.dev _ hn) hh, availSchedule_in_time _ s.dev hq]
  · show becomes s (availRecordReceive b s.dev) = _
    rw [availRecordReceive_stale b s.dev (by rw [availNewer_of_last s.dev _ r hlast, hn])]
  · show becomes s (swapRecordReceive b s.dev) = _
    rw [swapRecordReceive_newer b s.dev hr ht hn hh hq, swapSchedule_idle]
    · exact hrun
    · exact hpend

end Sys2Proof.Proofs
end

section
/-!
Operands at the matching store: the geometry unit's blocks, posts, window fills and voice groups (R135, R146, R151, R152, R190,
R206).
-/

namespace Sys2Proof.Proofs

open Machine Safety Laws

/-! ### Blocks of the operand buffer (R151, R152) -/

/-- The next block goes to its place in the buffer and posts its operand (R151). -/
theorem operandPost_placed (q side g a : Nat) (ops : List VOp) (rest : List (Nat × Nat × Nat × List VOp)) (d : Dev)
    (h : d.geom.toPost = (q, side, g, ops) :: rest) (ha : blockPlace d ops.length = some a) :
    operandPost d
      = postTo (fun e => decide (e.kind = 1) && decide (e.side = side) && decide (e.qn = q) && decide (e.ref = g))
        (memWrite (opAddr a) (ops.flatMap opBytes) { d with
          geom := { d.geom with toPost := rest }
          voice := { d.voice with
            blocks := fins d.voice.blocks ((q * 2 + side) * 4096 + g) ⟨a, ops.map (fun x => x.tag)⟩ } }) := by
  simp only [operandPost, h, ha]

/-- A block that finds no room waits (R152). -/
theorem operandPost_full (q side g : Nat) (ops : List VOp) (rest : List (Nat × Nat × Nat × List VOp)) (d : Dev)
    (h : d.geom.toPost = (q, side, g, ops) :: rest) (ha : blockPlace d ops.length = none) : operandPost d = d := by
  simp only [operandPost, h, ha]

/-! ### An operand at its entry (R190) -/

theorem postOperand_found (side task q : Nat) (p : Nat × MatchEnt) (d : Dev) (h : findEntry d side task q = some p) :
    postOperand side task q d = operandAt p.1 p.2 d := by
  rw [postOperand, h]

theorem postOperand_orphan (side task q : Nat) (d : Dev) (h : findEntry d side task q = none) :
    postOperand side task q d = orphanPost d := by
  rw [postOperand, h]

/-- An operand before the last counts and leaves its task waiting. -/
theorem operandAt_before_last (place : Nat) (e : MatchEnt) (d : Dev) (h : e.arrived + 1 < e.declared) :
    operandAt place e d = putMatch place (some { e with arrived := e.arrived + 1 }) d := by
  have hroom : ¬ e.arrived ≥ e.declared := by omega
  have hlast : ¬ e.arrived + 1 = e.declared := by omega
  simp [operandAt, hroom, hlast]

/-- The last operand makes its task ready, which is traced. -/
theorem operandAt_last (place : Nat) (e : MatchEnt) (d : Dev) (h : e.arrived + 1 = e.declared) :
    operandAt place e d = trace 1 unitNone (task16 e) e.cls e.qn e.late false
      (putMatch place (some { e with arrived := e.arrived + 1, state := 2, readyAt := d.time.now }) d) := by
  have hroom : ¬ e.arrived ≥ e.declared := by omega
  simp [operandAt, hroom, h, nowNs]

/-- An operand beyond the declared ones is dropped with its flag and its count. -/
theorem operandAt_extra (place : Nat) (e : MatchEnt) (d : Dev) (h : e.declared ≤ e.arrived) :
    operandAt place e d = pairFault 3 (setFlag 0x40004 11 (incCnt 0x40024 d)) := if_pos h

/-! ### What a change of an entry leaves as it was -/

theorem putMatch_disp (place : Nat) (x : Option MatchEnt) (d : Dev) :
    (putMatch place x d).disp = { d.disp with store := fput none d.disp.store place x } := by
  unfold putMatch
  dsimp only
  split
  · exact wrN_disp _ _ _
  · rfl

theorem putMatch_voice (place : Nat) (x : Option MatchEnt) (d : Dev) : (putMatch place x d).voice = d.voice := by
  unfold putMatch
  dsimp only
  split
  · exact wrN_voice _ _ _
  · rfl

theorem matchAt_putMatch_same (place : Nat) (x : Option MatchEnt) (d : Dev) : matchAt (putMatch place x d) place = x := by
  rw [matchAt, putMatch_disp]
  exact fget_fput_same _ _ _ _

theorem matchAt_putMatch_other (place i : Nat) (x : Option MatchEnt) (d : Dev) (h : i ≠ place) :
    matchAt (putMatch place x d) i = matchAt d i := by
  rw [matchAt, putMatch_disp]
  exact fget_fput_other _ _ _ _ _ h

theorem memWrite_voice_disp (bs : Bytes) (a : Nat) (d : Dev) :
    (memWrite a bs d).voice = d.voice ∧ (memWrite a bs d).disp = d.disp := by
  induction bs generalizing a d with
  | nil => exact ⟨rfl, rfl⟩
  | cons b rest ih => exact ih (a + 1) (memPut a b d)

/-! ### What posts and completions can change -/

/-- `e` is `d` after posts and completions at the matching store: voices, staging and the engines of Peony stand as they did, and
no free place is taken. -/
structure Posts (d e : Dev) : Prop where
  voice : e.voice = d.voice
  staging : e.disp.stagingBusy = d.disp.stagingBusy
  peony : e.disp.peony = d.disp.peony
  free : ∀ place, matchAt d place = none → matchAt e place = none

theorem Posts.refl (d : Dev) : Posts d d := ⟨rfl, rfl, rfl, fun _ h => h⟩

theorem Posts.trans {a b c : Dev} (h : Posts a b) (k : Posts b c) : Posts a c :=
  ⟨k.voice.trans h.voice, k.staging.trans h.staging, k.peony.trans h.peony, fun i hi => k.free i (h.free i hi)⟩

theorem posts_of_same {d e : Dev} (hv : e.voice = d.voice) (hd : e.disp = d.disp) : Posts d e := by
  refine ⟨hv, by rw [hd], by rw [hd], fun i hi => ?_⟩
  rw [matchAt, hd]
  exact hi

theorem posts_of_sends {d e : Dev} (h : Sends d e) : Posts d e := posts_of_same h.voice h.disp

theorem posts_wrN (a v : Nat) (d : Dev) : Posts d (wrN a v d) := posts_of_same (wrN_voice _ _ _) (wrN_disp _ _ _)

theorem posts_setFlag (a i : Nat) (d : Dev) : Posts d (setFlag a i d) :=
  posts_of_same (setFlag_voice _ _ _) (setFlag_disp _ _ _)

theorem posts_incCnt (a : Nat) (d : Dev) : Posts d (incCnt a d) := posts_of_same (incCnt_voice _ _) (incCnt_disp _ _)

theorem posts_memWrite (a : Nat) (bs : Bytes) (d : Dev) : Posts d (memWrite a bs d) :=
  posts_of_same (memWrite_voice_disp bs a d).1 (memWrite_voice_disp bs a d).2

theorem posts_forL {α : Type} (f : α → Dev → Dev) (step : ∀ x d, Posts d (f x d)) (l : List α) (d : Dev) :
    Posts d (forL l f d) := forL_induct Posts Posts.refl Posts.trans f step l d

theorem posts_traceGap (b : Bool) (d : Dev) : Posts d { d with disp := { d.disp with traceGap := b } } :=
  ⟨rfl, rfl, rfl, fun _ h => h⟩

/-- A trace record goes to a ring of the host or to memory (R213). -/
theorem posts_tracePut (bs : Bytes) (d : Dev) : Posts d (tracePut bs d) := by
  refine (posts_of_sends (sends_emit (.trace bs) d)).trans ?_
  unfold tracePut
  dsimp only
  split
  · exact posts_of_sends (sends_ringProduce 73 bs _ (by omega))
  · exact (posts_memWrite _ _ _).trans (posts_wrN _ _ _)

theorem posts_trace (type unit task cls qn : Nat) (late item : Bool) (d : Dev) :
    Posts d (trace type unit task cls qn late item d) := by
  unfold trace
  dsimp only
  split
  · refine (posts_wrN 0x4005C ((rdN d 0x4005C + 1) % 65536) d).trans ?_
    split
    · exact (posts_traceGap _ _).trans (posts_tracePut _ _)
    · split
      · exact ((posts_setFlag _ _ _).trans (posts_traceGap _ _)).trans (posts_incCnt _ _)
      · exact (posts_traceGap _ _).trans (posts_incCnt _ _)
  · exact Posts.refl d

/-- A held place is written, or a place is freed. -/
theorem posts_putMatch (place : Nat) (x : Option MatchEnt) (d : Dev) (h : matchAt d place = none → x = none) :
    Posts d (putMatch place x d) := by
  refine ⟨putMatch_voice place x d, by rw [putMatch_disp], by rw [putMatch_disp], fun i hi => ?_⟩
  by_cases hip : i = place
  · subst hip
    rw [matchAt_putMatch_same, h hi]
  · rw [matchAt_putMatch_other place i x d hip, hi]

theorem posts_pairFault (i : Nat) (d : Dev) : Posts d (pairFault i d) := posts_setFlag _ _ d

/-- The three answers to an operand at a held place: extra, last, or before the last (R190). -/
theorem posts_operandAt (place : Nat) (x e : MatchEnt) (d : Dev) (h : matchAt d place = some x) :
    Posts d (operandAt place e d) := by
  have held (y : MatchEnt) : Posts d (putMatch place (some y) d) :=
    posts_putMatch place _ d (fun hn => by simp [h] at hn)
  rcases Nat.lt_trichotomy (e.arrived + 1) e.declared with hlt | heq | hgt
  · rw [operandAt_before_last place e d hlt]
    exact held _
  · rw [operandAt_last place e d heq]
    exact (held _).trans (posts_trace _ _ _ _ _ _ _ _)
  · rw [operandAt_extra place e d (by omega)]
    exact ((posts_incCnt _ d).trans (posts_setFlag _ _ _)).trans (posts_pairFault _ _)

theorem posts_orphanPost (d : Dev) : Posts d (orphanPost d) :=
  (((posts_incCnt _ d).trans (posts_setFlag _ _ _)).trans (posts_pairFault _ _)).trans
    (posts_of_sends (sends_raiseEvent _ _ _))

/-- Posts count only at places that hold an entry. -/
theorem posts_postWhere (sel : MatchEnt → Bool) (d : Dev) : Posts d (postWhere sel d) := by
  refine posts_forL _ (fun p d => ?_) _ d
  split
  · exact posts_operandAt _ _ _ d ‹_›
  · exact Posts.refl d

theorem posts_postTo (sel : MatchEnt → Bool) (d : Dev) : Posts d (postTo sel d) := by
  unfold postTo
  split
  · exact posts_postWhere sel d
  · split
    · exact Posts.refl d
    · exact posts_orphanPost d

/-! ### Completions (R146, R152, R159, R198) -/

theorem posts_freeEntry (place : Nat) (e : MatchEnt) (unit : Nat) (d : Dev) : Posts d (freeEntry place e unit d) :=
  (posts_trace _ _ _ _ _ _ _ d).trans (posts_putMatch place none _ (fun _ => rfl))

theorem matchAt_freeEntry (place : Nat) (e : MatchEnt) (unit : Nat) (d : Dev) :
    matchAt (freeEntry place e unit d) place = none := matchAt_putMatch_same place none _

theorem posts_fillPosts (side q : Nat) (d : Dev) : Posts d (fillPosts side q d) := posts_postWhere _ d

theorem posts_groupPosts (side q : Nat) (outs : List Nat) (d : Dev) : Posts d (groupPosts side q outs d) :=
  posts_forL _ (fun _ d => posts_postTo _ d) _ d

theorem posts_lastVoiceGroup (q : Nat) (d : Dev) : Posts d (lastVoiceGroup q d) := by
  unfold lastVoiceGroup
  split
  · exact Posts.refl d
  · exact posts_postWhere _ d

theorem posts_spanEnd (q : Nat) (d : Dev) : Posts d (spanEnd q d) := by
  unfold spanEnd
  split
  · exact Posts.refl d
  · exact posts_wrN _ _ d

/-- The lines that a fill has written go to a joiner in pair frames (R405). -/
theorem posts_delayForward (q : Nat) (d : Dev) : Posts d (delayForward q d) := by
  unfold delayForward
  split
  · exact posts_forL _ (fun o d => posts_of_sends (sends_forN 2 _ d (fun i d _ => sends_pairSend _ _ _ _ d))) _ d
  · exact Posts.refl d

/-! ### Window fills (R135, R152) -/

/-- A running fill leaves its quantum filled and staging idle, whatever it writes, then frees its entry and posts. -/
theorem windowFill_running (p : Nat × MatchEnt) (d : Dev)
    (h : (entries d).find? (fun x => decide (x.2.kind = 0) && decide (x.2.state = 3)) = some p) :
    ∃ e : Dev, p.2.qn < e.voice.filled ∧ e.disp.stagingBusy = false
      ∧ windowFill d = fillPosts p.2.side p.2.qn (freeEntry p.1 p.2 (unitByte 0 0) e) := by
  rw [windowFill, h]
  dsimp only
  split
  next => exact ⟨_, Nat.lt_succ_self _, rfl, rfl⟩
  next hbefore => exact ⟨{ d with disp := { d.disp with stagingBusy := false } }, Nat.not_le.1 hbefore, rfl, rfl⟩

theorem posts_windowFillPair (d : Dev) : Posts (windowFill d) (windowFillPair d) := by
  unfold windowFillPair
  dsimp only
  split
  · exact posts_delayForward _ _
  · exact Posts.refl _

theorem windowFillPair_ends (p : Nat × MatchEnt) (d : Dev)
    (h : (entries d).find? (fun x => decide (x.2.kind = 0) && decide (x.2.state = 3)) = some p) :
    matchAt (windowFillPair d) p.1 = none ∧ (windowFillPair d).disp.stagingBusy = false
      ∧ p.2.qn < (windowFillPair d).voice.filled := by
  obtain ⟨e, hfilled, hidle, hfill⟩ := windowFill_running p d h
  have hfree := posts_freeEntry p.1 p.2 (unitByte 0 0) e
  have hposts : Posts (freeEntry p.1 p.2 (unitByte 0 0) e) (windowFillPair d) :=
    (posts_fillPosts p.2.side p.2.qn _).trans (hfill ▸ posts_windowFillPair d)
  refine ⟨hposts.free _ (matchAt_freeEntry _ _ _ _), (hfree.trans hposts).staging.trans hidle, ?_⟩
  rw [(hfree.trans hposts).voice]
  exact hfilled

/-! ### Voice groups (R146, R152) -/

/-- The task of an engine leaves the engine free, whatever its voices write, then frees its entry and posts. -/
theorem voiceGroupDone_running (i place ce : Nat) (bad : List (Nat × Nat)) (x : MatchEnt) (d : Dev)
    (hi : fget 0 d.disp.peony i = place + 1) (hx : matchAt d place = some x) :
    ∃ (e : Dev) (outs : List Nat), fget 0 e.disp.peony i = 0 ∧ voiceGroupDone i bad ce d
      = spanEnd x.qn (lastVoiceGroup x.qn (groupPosts x.side x.qn outs (freeEntry place x (unitByte 1 i) e))) := by
  have hbusy : ¬ place + 1 = 0 := by omega
  rw [voiceGroupDone, hi]
  simp only [hbusy, if_false, Nat.add_sub_cancel, hx]
  refine ⟨_, _, ?_, rfl⟩
  exact fget_fput_same (0 : Nat) _ i 0

theorem voiceGroupDone_ends (i place ce : Nat) (bad : List (Nat × Nat)) (x : MatchEnt) (d : Dev)
    (hi : fget 0 d.disp.peony i = place + 1) (hx : matchAt d place = some x) :
    matchAt (voiceGroupDone i bad ce d) place = none ∧ fget 0 (voiceGroupDone i bad ce d).disp.peony i = 0 := by
  obtain ⟨e, outs, hidle, hdone⟩ := voiceGroupDone_running i place ce bad x d hi hx
  have hfree := posts_freeEntry place x (unitByte 1 i) e
  have hposts : Posts (freeEntry place x (unitByte 1 i) e) (voiceGroupDone i bad ce d) := by
    rw [hdone]
    exact ((posts_groupPosts x.side x.qn outs _).trans (posts_lastVoiceGroup x.qn _)).trans (posts_spanEnd x.qn _)
  exact ⟨hposts.free _ (matchAt_freeEntry _ _ _ _), by rw [(hfree.trans hposts).peony, hidle]⟩

/-- Settles O23: each command is its act on the device; a finished unit frees its place, and the posts that follow take none. -/
theorem operandsReachTheirEntries : Obligations.OperandsReachTheirEntries := by
  unfold Obligations.OperandsReachTheirEntries
  refine ⟨fun q side g ops rest s h => ⟨fun a ha => ?_, fun ha => ?_⟩,
    fun side task q p s h => ⟨fun hw => ?_, fun hl => ?_, fun hx => ?_⟩, fun side task q s h => ?_, fun m v s => rfl,
    fun p s h => ⟨_, rfl, windowFillPair_ends p s.dev h⟩,
    fun i place ce bad e s hi he => ⟨_, rfl, voiceGroupDone_ends i place ce bad e s.dev hi he⟩⟩
  · have hpost := operandPost_placed q side g a ops rest s.dev h ha
    exact ⟨congrArg (becomes s) hpost, congrArg (becomes s) hpost⟩
  · have hpost := operandPost_full q side g ops rest s.dev h ha
    exact ⟨congrArg (becomes s) hpost, congrArg (becomes s) hpost⟩
  · show becomes s (postOperand side task q s.dev) = _
    rw [postOperand_found side task q p s.dev h, operandAt_before_last p.1 p.2 s.dev hw]
  · show becomes s (postOperand side task q s.dev) = _
    rw [postOperand_found side task q p s.dev h, operandAt_last p.1 p.2 s.dev hl]
  · show becomes s (postOperand side task q s.dev) = _
    rw [postOperand_found side task q p s.dev h, operandAt_extra p.1 p.2 s.dev hx]
  · show becomes s (postOperand side task q s.dev) = _
    rw [postOperand_orphan side task q s.dev h]
    rfl

end Sys2Proof.Proofs
end

section
/-!
Commands that complete at once (R169, R275, R427, R431, R438).
-/

namespace Sys2Proof.Proofs

open Machine Safety Laws

/-! ### What each command does when its checks pass -/

theorem regReadCmd_aligned (cid : Nat) (src : Source) (a : Nat) (d : Dev) (ha : a % 8 = 0) (hl : a < 2 ^ 24) :
    regReadCmd cid src a d = complete cid cDone 0
      ((busRead (cmdMaster src) a d).1
        + (busRead (cmdMaster src) (a + 4) (busRead (cmdMaster src) a d).2).1 * 2 ^ 32)
      (busRead (cmdMaster src) (a + 4) (busRead (cmdMaster src) a d).2).2 := if_neg (by omega)

theorem regWriteCmd_aligned (cid : Nat) (src : Source) (a v : Nat) (d : Dev) (ha : a % 4 = 0) (hl : a < 2 ^ 24) :
    regWriteCmd cid src a v d = complete cid cDone 0 0 (busWrite (cmdMaster src) a v d) := if_neg (by omega)

/-- PLAN_DROP of an index that holds a plan not in use frees it and returns the new PLAN_SET_ID (R169). -/
theorem planDrop_free (cid p : Nat) (d : Dev) (hu : planInUse d p = false) (hh : (fget? d.plan.held p).isSome = true) :
    let e := refreshPlanSet { d with plan := { d.plan with held := ferase d.plan.held p } }
    planDrop cid p d = complete cid cDone 0 (planSetId e) e := by
  have hheld : (fget? d.plan.held p).isNone = false := by rw [← Option.not_isSome, hh]; rfl
  simp [planDrop, hu, hheld]

/-- A programme whose steps are in range and group no sweep is taken whole (R275). -/
theorem surveyProgram_taken (cid : Nat) (src : Source) (n : Nat) (x : DRef) (bs : Bytes) (d : Dev) (hn : n ≤ 4096)
    (hx : x.len = 32 * n) (hb : refBytes d src x = some bs)
    (hg : groupedSweep false (((List.range n).map (fun i => slice bs (32 * i) 32)).map parseStep) = false)
    (hs : ((List.range n).map (fun i => slice bs (32 * i) 32)).all (stepOk d) = true) :
    surveyProgram cid src n x d = complete cid cDone 0 0 { d with survey := { d.survey with
      program := ((List.range n).map (fun i => slice bs (32 * i) 32)).map parseStep, step := 0 } } := by
  have hsize : ¬ (4096 < n ∨ x.len ≠ 32 * n) := by omega
  simp only [surveyProgram, hsize, if_false, hb, hg, hs, Bool.true_eq_false, Bool.false_eq_true]

theorem sessionKeySet_written (cid : Nat) (src : Source) (k r : Nat) (x : DRef) (key : Bytes) (d : Dev) (hk : k ≤ 15)
    (hr : r ≤ 3) (hx : x.len = (if r = 0 then 0 else 97)) (hb : refBytes d src x = some key) :
    sessionKeySet cid src k r x d = complete cid cDone 0 0 (keySet k r key d) := by
  have hbad : ¬ (15 < k ∨ 3 < r ∨ x.len ≠ (if r = 0 then 0 else 97)) := by omega
  simp only [sessionKeySet, hbad, if_false, hb]

/-- SCENE_READ returns what the record holds from the offset on, at most as many bytes as the reference names (R427). -/
theorem sceneRead_within (cid : Nat) (src : Source) (id off : Nat) (x : DRef) (rec : SceneRec) (d : Dev)
    (hrec : sceneRec d id = some rec) (ho : off ≤ rec.length)
    (hf : refFits d src x.addr (min x.len (rec.length - off)) = true) :
    sceneRead cid src id off x d = complete cid cDone 0 (min x.len (rec.length - off))
      (refPut src x.addr (storeRead d (rec.offset + 64 + off) (min x.len (rec.length - off))) d) := by
  have hbad : ¬ rec.length < off := by omega
  simp [sceneRead, hrec, hf, hbad]

/-- Settles O10: a command that is ready runs (`submit_ready`); with its checks passed it completes with its effect. -/
theorem commandsThatCompleteAtOnce : Obligations.CommandsThatCompleteAtOnce := by
  unfold Obligations.CommandsThatCompleteAtOnce
  refine ⟨fun h s hr => ?_, fun h a s hr ha hl => ?_, fun h a v s hr ha hl => ?_, fun h k mask s hsrc hr => ?_,
    fun h mask s hsrc hr => ?_, fun h p s hr hu hh => ?_, fun h n x bs s hr hn hx hb hg hs => ?_,
    fun h k r x key s hr hk hrole hx hb => ?_, fun h id off x rec s hr hrec ho hf => ?_⟩
  · show becomes s (submit h .nop s.dev) = _
    rw [submit_ready h _ s.dev hr, perform]
    exact congrArg (becomes s) (complete_accepted h .nop s.dev s.dev cDone 0 hr.1 rfl)
  · show becomes s (submit h (.regRead a) s.dev) = _
    rw [submit_ready h _ s.dev hr, perform, regReadCmd_aligned _ _ _ _ ha hl]
  · show becomes s (submit h (.regWrite a v) s.dev) = _
    rw [submit_ready h _ s.dev hr, perform, regWriteCmd_aligned _ _ _ _ _ ha hl]
  · show becomes s (submit h (.eventMask mask) s.dev) = _
    rw [submit_ready h _ s.dev hr, perform, hsrc]
    exact congrArg (becomes s) (complete_accepted h (.eventMask mask) s.dev
      (putSess k { sess s.dev k with evMask := mask } s.dev) cDone 0 hr.1 rfl)
  · show becomes s (submit h (.eventMask mask) s.dev) = _
    rw [submit_ready h _ s.dev hr, perform, hsrc]
    exact congrArg (becomes s) (complete_accepted h (.eventMask mask) s.dev s.dev cState 0 hr.1 rfl)
  · show becomes s (submit h (.planDrop p) s.dev) = _
    rw [submit_ready h _ s.dev hr, perform, planDrop_free _ p (accepted h (.planDrop p) s.dev) hu hh]
  · show becomes s (submit h (.surveyProgram n x) s.dev) = _
    rw [submit_ready h _ s.dev hr, perform, surveyProgram_taken _ _ n x bs (accepted h _ s.dev) hn hx hb hg hs]
    exact congrArg (becomes s) (complete_accepted h (.surveyProgram n x) s.dev
      { s.dev with survey := { s.dev.survey with program := _, step := 0 } } cDone 0 hr.1 rfl)
  · show becomes s (submit h (.sessionKeySet k r x) s.dev) = _
    rw [submit_ready h _ s.dev hr, perform, sessionKeySet_written _ _ k r x key (accepted h _ s.dev) hk hrole hx hb]
  · show becomes s (submit h (.sceneRead id off x) s.dev) = _
    rw [submit_ready h _ s.dev hr, perform, sceneRead_within _ _ id off x rec (accepted h _ s.dev) hrec ho hf]
    rfl

end Sys2Proof.Proofs
end

section
/-!
Commands that schedule a change (R172, R178, R243, R271, R298, R299, R488 to R490).
-/

namespace Sys2Proof.Proofs

open Machine Safety Laws

/-- A command that comes to the checks of its own rule is legal in the present mode (R428). -/
theorem cmdLegal_of_ready {h : CmdHdr} {c : Cmd} {d : Dev} (hr : Ready h c d) : cmdLegal d c = true := by
  obtain ⟨-, -, -, -, -, hlegal, -, -⟩ := hr
  exact hlegal

/-! ### Operating points (R488 to R490) -/

/-- SET_OPPOINT outside CONFIG that passes its checks, with no change of the point under way, starts its change. -/
theorem setOppointCmd_starts (cid p q : Nat) (d : Dev) (hm : d.sys.mode ≠ .config)
    (hc : oppointCheck d p (some q) = (cDone, false)) (hs : d.pwr.step = none) :
    setOppointCmd cid p (some q) d = stepStart p q cid false d := by
  have hdone : cDone ≠ cNoResource := by decide
  simp [setOppointCmd, setOppoint, hm, hc, hs, hdone]

/-- A change of the point that takes effect at its apply QN: a raise is stepped to at that QN and writes its voltage at once
when its write is due, a lowering is stepped to after the fade (R489, R490). -/
theorem stepStart_later (p q cid : Nat) (d : Dev) :
    let up := decide (p < d.pwr.point)
    let write := up && decide (q ≤ qnNow d + 3)
    stepStart p q cid false d = { d with
      pwr := { d.pwr with step := some ⟨p, q, if up then q else q + fadeN d, up, cid, write, false, false⟩ }
      out := if write then d.out ++ [.avs (targetMv d p)] else d.out } := by
  simp only [stepStart, Bool.or_false, Bool.false_or, Bool.false_and, Bool.false_eq_true, if_false]
  cases decide (p < d.pwr.point) && decide (q ≤ qnNow d + 3) with
  | false => rfl
  | true => rfl

/-! ### Plan swaps (R172, R178) -/

/-- A swap to another held plan outside CONFIG, with no swap running or waiting, waits, its lead begins and it is told of. -/
theorem planSwap_waits (cid p x q : Nat) (d : Dev) (hl : swapRefused d = false)
    (hh : (fget? d.plan.held p).isSome = true) (hx : x % 32 = 0) (hlo : 32 ≤ x) (hhi : x ≤ 1024)
    (ha : ∀ y, d.plan.active = some y → y.index ≠ p) (hr : d.plan.running = none) (hp : d.plan.pending = none) :
    let r : SwapReq := ⟨p, q, x, some cid, d.plan.swapSeq, false⟩
    planSwap cid p x (some q) false d = swapTell r (leadStart p { d with
      plan := { d.plan with pending := some r, swapSeq := (d.plan.swapSeq + 1) % 65536 } }) := by
  have hheld : (fget? d.plan.held p).isNone = false := by rw [← Option.not_isSome, hh]; rfl
  have hrange : ¬ ((fget? d.plan.held p).isNone = true ∨ x % 32 ≠ 0 ∨ x < 32 ∨ 1024 < x) := by
    rw [hheld]
    simp only [Bool.false_eq_true, false_or]
    omega
  have hother : d.plan.active.any (fun y => decide (y.index = p)) = false := by
    rw [Option.any_eq_false]
    exact fun y hy => by simpa using ha y hy
  simp only [planSwap, hl, hrange, hother, Bool.false_eq_true, false_and, if_false]
  rw [swapSchedule_idle]
  · exact hr
  · exact hp

/-! ### Swaps of filter banks (R271, R273) -/

/-- CORR_SWAP of one output outside CONFIG is scheduled on that output. -/
theorem corrSwap_scheduled (cid j k x q : Nat) (d : Dev) (hl : corrModes d = true) (hm : d.sys.mode ≠ .config)
    (ho : swapOutputs d j = [j]) (hk : k ≤ 31) (hlo : 32 ≤ x) (hhi : x ≤ 1024) :
    corrSwap cid j k x (some q) false d = corrSchedule ⟨q, k, x, some cid⟩ j d := by
  have hrange : ¬ (31 < k ∨ x < 32 ∨ 1024 < x) := by omega
  simp [corrSwap, hl, ho, hrange, hm, forL]

/-- A swap scheduled on an output without another one waits there; its bank is pending. -/
theorem corrSchedule_first (r : BankSwap) (j : Nat) (d : Dev) (hf : (corr d j).fade = none)
    (hp : (corr d j).pending = none) :
    corrSchedule r j d = putCorr j { corr d j with pending := some r, inactive := 3 } d := by
  simp [corrSchedule, hf, hp]

/-- In a mode of the second row of R428 the commands of corrections and decimators are legal by their own rules too (R270,
R298). -/
theorem ownModes_of_cmdModes (d : Dev) (h : cmdModes d = true) : corrModes d = true ∧ decModes d = true := by
  rw [cmdModes] at h
  rw [corrModes, decModes]
  cases hm : d.sys.mode <;> simp [hm] at h ⊢

/-! ### Decimators (R298, R299) -/

/-- DEC_CONFIG with good words, on a channel without a change that waits, waits for its apply QN. -/
theorem decConfig_waits (cid c w r f aqn q : Nat) (d : Dev) (hl : decModes d = true) (hq : applyQn d aqn = some q)
    (hc : c < 128) (hw : decWordsOk d c w r f = true) (hs : streamSplit d c r = false) (hp : (decCh d c).pending = none) :
    decConfig cid c w r f aqn d = putDec c { decCh d c with pending := some ⟨q, w, r, f, cid⟩ } d := by
  have hrange : ¬ (c ≥ 128 ∨ decWordsOk d c w r f = false) := by
    rw [hw]
    simp only [Bool.true_eq_false, or_false]
    omega
  simp only [decConfig, hl, hq, hrange, hs, hp, Bool.true_eq_false, Bool.false_eq_true, if_false]

/-- DEC_COMP_SWAP of a channel whose other bank was written waits for its apply QN. -/
theorem decCompSwap_waits (cid c aqn q : Nat) (d : Dev) (hl : decModes d = true) (hq : applyQn d aqn = some q)
    (hc : c < 128) (hw : (decCh d c).written = true) (hs : (decCh d c).swap = none) :
    decCompSwap cid c aqn d = putDec c { decCh d c with swap := some ⟨q, cid⟩ } d := by
  have hrange : ¬ c ≥ 128 := by omega
  simp only [decCompSwap, hl, hq, hrange, hw, hs, Bool.true_eq_false, if_false]

/-- Outside CONFIG a swap waits for its apply QN (R172, R271). -/
theorem atOnceCmd_outside_config (c : Cmd) (d : Dev) (h : d.sys.mode ≠ .config) : atOnceCmd d c = false := by
  unfold atOnceCmd
  split
  · simp [h]
  · simp [h]
  · rfl

/-- Settles O12: a command that is ready runs with its apply QN (`submit_ready_at`), and its change is scheduled. -/
theorem commandsThatScheduleAChange : Obligations.CommandsThatScheduleAChange := by
  unfold Obligations.CommandsThatScheduleAChange
  refine ⟨fun h p q s hr hm hq hc hs => ?_, fun h p x q s hr hm hh hx hlo hhi ha hq hrun hp => ?_,
    fun h j k x q s hr hm ho hk hlo hhi hq hf hp => ?_, fun h c w r f q s hr hc hq hw hs hp => ?_,
    fun h c q s hr hc hq hw hs => ?_⟩
  · show becomes s (submit h (.setOppoint p) s.dev) = _
    rw [submit_ready_at h _ q s.dev hr hq, perform, setOppointCmd_starts _ p q (accepted h _ s.dev) hm hc hs,
      stepStart_later]
    rfl
  · have hnot : swapRefused s.dev = false := by simpa [cmdLegal] using cmdLegal_of_ready hr
    show becomes s (submit h (.planSwap p x) s.dev) = _
    rw [submit_ready_at h _ q s.dev hr hq, perform, atOnceCmd_outside_config _ (accepted h _ s.dev) hm,
      planSwap_waits _ p x q (accepted h _ s.dev) hnot hh hx hlo hhi ha hrun hp]
    rfl
  · obtain ⟨hcorr, -⟩ := ownModes_of_cmdModes s.dev (cmdLegal_of_ready hr)
    show becomes s (submit h (.corrSwap j k x) s.dev) = _
    rw [submit_ready_at h _ q s.dev hr hq, perform, atOnceCmd_outside_config _ (accepted h _ s.dev) hm,
      corrSwap_scheduled _ j k x q (accepted h _ s.dev) hcorr hm ho hk hlo hhi,
      corrSchedule_first _ j (accepted h _ s.dev) hf hp]
    rfl
  · obtain ⟨-, hdec⟩ := ownModes_of_cmdModes s.dev (cmdLegal_of_ready hr)
    show becomes s (submit h (.decConfig c w r f) s.dev) = _
    rw [submit_ready h _ s.dev hr, perform, decConfig_waits _ c w r f _ q (accepted h _ s.dev) hdec hq hc hw hs hp]
    rfl
  · obtain ⟨-, hdec⟩ := ownModes_of_cmdModes s.dev (cmdLegal_of_ready hr)
    show becomes s (submit h (.decCompSwap c) s.dev) = _
    rw [submit_ready h _ s.dev hr, perform, decCompSwap_waits _ c _ q (accepted h _ s.dev) hdec hq hc hw hs]
    rfl

end Sys2Proof.Proofs
end

section
/-!
Commands that start work (R168, R270, R315, R321, R361, R440, R508).
-/

namespace Sys2Proof.Proofs

open Machine Safety Laws

/-! ### Loads of plans and filter banks (R168, R270) -/

/-- PLAN_LOAD from a data reference puts the image into the free load buffer (R168). -/
theorem planLoad_buffers (cid : Nat) (src : Source) (p r : Nat) (x : DRef) (img : Bytes) (d : Dev)
    (hl : d.plan.load = none) (hu : planInUse d p = false) (hb : refBytes d src x = some img) :
    planLoad cid src p 0 r x d = { d with plan := { d.plan with load := some ⟨cid, p, img, img.length⟩ } } := by
  simp [planLoad, hl, hu, hb]

/-- CORR_LOAD of a good image of its output, with the taps that the plan gives it and no swap there, is loaded; a load that was
under way is superseded (R270). -/
theorem corrLoad_loads (cid j : Nat) (img : Bytes) (p : Plan) (d : Dev) (hm : corrModes d = true) (hj : j < 512)
    (hi : imageOk img = true) (ha : d.plan.active = some p) (ho : leAt img 4 2 = j)
    (ht : leAt img 6 1 = paramTaps (planParam p j)) (hb : corrBusy (corr d j) = false) :
    corrLoad cid j img d
      = putCorr j { corr d j with inactive := 1, loadCid := some cid, loading := bankOf img, autoSwap := false }
        (completeOpt (corr d j).loadCid cSuperseded 0 (setFlag 0xA0004 0 d)) := by
  have hmod : j % 512 = j := Nat.mod_eq_of_lt hj
  simp [corrLoad, hm, hi, ha, hmod, ho, ht, hb]

theorem corrLoadRef_of_bytes (cid : Nat) (src : Source) (j : Nat) (x : DRef) (img : Bytes) (d : Dev)
    (hb : refBytes d src x = some img) : corrLoadRef cid src j x d = corrLoad cid j img d := by
  rw [corrLoadRef, hb]

/-! ### Streams (R361) -/

/-- STREAM_SET of a good descriptor to a context that may change makes it the context. -/
theorem streamSetRef_sets (cid : Nat) (src : Source) (x : DRef) (b : Bytes) (d : Dev) (hx : x.len = 128)
    (hb : refBytes d src x = some b) (hl : ctxLocked d (decide (dDir b = 1)) (leAt b 20 4) = false)
    (hf : descFormatOk b = true) (hr : descRangeOk d b = true) :
    streamSetRef cid src x d
      = complete cid cDone 0 0 (putCtx (decide (dDir b = 1)) (leAt b 20 4) { desc := b } d) := by
  simp [streamSetRef, streamSet, hx, hb, hl, hf, hr]

theorem streamClear_clears (cid c v : Nat) (d : Dev) (hl : ctxLocked d (decide (v = 1)) c = false) :
    streamClear cid c v d = complete cid cDone 0 0
      { d with net := { d.net with ctxs := ferase d.net.ctxs (c + 256 * b2n (decide (v = 1))) } } := by
  simp [streamClear, hl]

/-! ### Direct drive (R315, R321) -/

/-- DRV_DIAG of channels that are off or latched starts a diagnostics run on the lead of each. -/
theorem drvDiag_starts (cid m : Nat) (d : Dev) (hn : ((setIdx 16 m).map (drvLead d)).eraseDups ≠ [])
    (hs : ∀ c ∈ ((setIdx 16 m).map (drvLead d)).eraseDups, (drvCh d c).state = 0 ∨ drvLatched d c = true) :
    drvDiag cid m d = forL ((setIdx 16 m).map (drvLead d)).eraseDups (diagStart .command)
      { d with drv := { d.drv with cmds := d.drv.cmds ++ [⟨cid, setIdx 16 m, 0⟩] } } := by
  have hgood : ((setIdx 16 m).map (drvLead d)).eraseDups.any
      (fun c => decide ((drvCh d c).state ≠ 0) && !drvLatched d c) = false := by
    rw [List.any_eq_false]
    intro c hc
    rcases hs c hc with h | h
    · simp [h]
    · simp [h]
  have hsome : ((setIdx 16 m).map (drvLead d)).eraseDups.isEmpty = false := by rwa [List.isEmpty_eq_false_iff]
  simp only [drvDiag, hgood, hsome, Bool.false_eq_true, if_false]

/-- DRV_CLEAR retries the named channels that are latched and returns the others (R321). -/
theorem drvClear_eq (cid m : Nat) (d : Dev) :
    let left := (setIdx 16 m).filter (fun c => !drvLatched d c)
    drvClear cid m d = complete cid (if left = [] then cDone else cPartial) 0 (left.foldl (fun n c => n + 2 ^ c) 0)
      (forL (((setIdx 16 m).filter (drvLatched d)).map (drvLead d)).eraseDups
        (fun c d => diagStart .retry c (updDrv c (fun x => { x with retries := 0 }) d)) d) := by
  simp only [drvClear, List.isEmpty_iff]

/-! ### Scenes (R439, R440) -/

/-- Programming changes the flash and nothing else. -/
theorem flashProgram_frame (bs : Bytes) (a : Nat) (d : Dev) :
    flashProgram a bs d = { d with flash := (flashProgram a bs d).flash } := by
  induction bs generalizing a d with
  | nil => rfl
  | cons b rest ih =>
    rw [flashProgram, ih]

/-- Programming and noting the operation, as one update. -/
theorem flashProgram_sceneOp (bs : Bytes) (a : Nat) (o : Option SceneOp) (d : Dev) :
    { flashProgram a bs d with host := { (flashProgram a bs d).host with sceneOp := o } }
      = { d with flash := (flashProgram a bs d).flash, host := { d.host with sceneOp := o } } := by
  rw [flashProgram_frame]

/-- The steps that program a record, from the head of the log on, change the flash and note the operation (R440). -/
theorem sceneProgram_eq (op : SceneOp) (d : Dev) :
    let e := sceneRoom op.payload.length d
    let body := sceneHeader op.record op.kind op.flags op.payload.length op.generation e.host.sceneWseq (e.time.pt / secNs)
      ++ op.payload
    sceneProgram op d = { e with
      flash := (flashProgram (sceneBase + e.host.sceneHead) (body ++ leBytes 4 (crc32c body)) e).flash
      host := { e.host with sceneOp := some op } } := flashProgram_sceneOp _ _ _ _

/-- SCENE_WRITE of a good record that fits starts to program it. -/
theorem sceneWrite_programs (cid : Nat) (src : Source) (id k f : Nat) (x : DRef) (bs : Bytes) (d : Dev)
    (ho : d.host.sceneOp = none) (hf : f ≤ 1) (hlo : 1 ≤ id) (hhi : id ≤ 0xFFFFFFFE) (hx : x.len ≤ 2 ^ 26)
    (hb : refBytes d src x = some bs)
    (hc : sceneCheck d (sceneHeader id k f bs.length (sceneNextGen d id) d.host.sceneWseq (d.time.pt / secNs)) k bs = cDone)
    (hfit : sceneFits d id bs.length = true) :
    sceneWrite cid src id k f x d = sceneProgram ⟨some cid, id, k, f, bs, sceneNextGen d id⟩ d := by
  have hflags : ¬ 1 < f := by omega
  have hrange : ¬ (id = 0 ∨ 0xFFFFFFFE < id ∨ 2 ^ 26 < x.len) := by omega
  simp only [sceneWrite, ho, Option.isSome_none, Bool.false_eq_true, hflags, hrange, hb, hc, hfit, ne_eq, not_true,
    Bool.not_true, if_false]

/-- SCENE_ERASE of a live record programs its tombstone. -/
theorem sceneErase_programs (cid id : Nat) (d : Dev) (ho : d.host.sceneOp = none) (hl : (sceneRec d id).isSome = true)
    (hfit : sceneFits d id 0 = true) :
    sceneErase cid id d = sceneProgram ⟨some cid, id, 0, 0, [], sceneNextGen d id⟩ d := by
  have hlive : (sceneRec d id).isNone = false := by rw [← Option.not_isSome, hl]; rfl
  simp [sceneErase, ho, hlive, hfit]

/-- Settles O13: a command that is ready runs (`submit_ready`); with its checks passed it starts its work. -/
theorem commandsThatStartWork : Obligations.CommandsThatStartWork := by
  unfold Obligations.CommandsThatStartWork
  refine ⟨fun h p r x img s hr hl hu hb => ?_, fun h j x img p s hr hj hb hi ha ho ht hbusy => ?_,
    fun h x b s hr hx hb hl hf hrange => ?_, fun h c v s hr hl => ?_, fun h m s hr hn hs => ?_, fun h m s hr => ?_,
    fun h s hr hm => ?_, fun h id k f x bs s hr ho hf hlo hhi hx hb hc hfit => ?_, fun h id s hr ho hl hfit => ?_⟩
  · show becomes s (submit h (.planLoad p 0 r x) s.dev) = _
    rw [submit_ready h _ s.dev hr, perform, planLoad_buffers _ _ p r x img (accepted h _ s.dev) hl hu hb]
  · obtain ⟨hmode, -⟩ := ownModes_of_cmdModes s.dev (cmdLegal_of_ready hr)
    show becomes s (submit h (.corrLoad j x) s.dev) = _
    rw [submit_ready h _ s.dev hr, perform, corrLoadRef_of_bytes _ _ j x img (accepted h _ s.dev) hb,
      corrLoad_loads _ j img p (accepted h _ s.dev) hmode hj hi ha ho ht hbusy]
    rfl
  · show becomes s (submit h (.streamSet x) s.dev) = _
    rw [submit_ready h _ s.dev hr, perform, streamSetRef_sets _ _ x b (accepted h _ s.dev) hx hb hl hf hrange]
    exact congrArg (becomes s) (complete_accepted h (.streamSet x) s.dev
      (putCtx (decide (dDir b = 1)) (leAt b 20 4) { desc := b } s.dev) cDone 0 hr.1 rfl)
  · show becomes s (submit h (.streamClear c v) s.dev) = _
    rw [submit_ready h _ s.dev hr, perform, streamClear_clears _ c v (accepted h _ s.dev) hl]
    exact congrArg (becomes s) (complete_accepted h (.streamClear c v) s.dev
      { s.dev with net := { s.dev.net with
        ctxs := ferase s.dev.net.ctxs (c + 256 * b2n (decide (v = 1))) } } cDone 0 hr.1 rfl)
  · show becomes s (submit h (.drvDiag m) s.dev) = _
    rw [submit_ready h _ s.dev hr, perform, drvDiag_starts _ m (accepted h _ s.dev) hn hs]
    rfl
  · show becomes s (submit h (.drvClear m) s.dev) = _
    rw [submit_ready h _ s.dev hr, perform, drvClear_eq _ m (accepted h _ s.dev)]
    rfl
  · show becomes s (submit h .ageMeasure s.dev) = _
    rw [submit_ready h _ s.dev hr, perform]
    exact congrArg (becomes s) (if_neg (by simp [accepted, hm]))
  · show becomes s (submit h (.sceneWrite id k f x) s.dev) = _
    rw [submit_ready h _ s.dev hr, perform, sceneWrite_programs _ _ id k f x bs (accepted h _ s.dev) ho hf hlo hhi hx hb hc
      hfit, sceneProgram_eq]
    rfl
  · show becomes s (submit h (.sceneErase id) s.dev) = _
    rw [submit_ready h _ s.dev hr, perform, sceneErase_programs _ id (accepted h _ s.dev) ho hl hfit, sceneProgram_eq]
    rfl

end Sys2Proof.Proofs
end

section
/-!
Sample periods of the routing engine; late tasks and late quanta (R180, R185, R209 to R211).
-/

namespace Sys2Proof.Proofs

open Machine Safety Laws

/-! ### A sample period (R180) -/

/-- Where media run, a sample period takes the microphone's sample, runs the routing program and hands its results to talkback,
the serial ports, the listen port and direct drive; then the next sample of the quantum is up. -/
theorem mediaSample_runs (d : Dev) (hb : d.sys.mode ≠ .boot) (hs : d.sys.mode ≠ .stop) :
    let k := d.route.sample
    let e := driveSample (listenSample (aportSample (lowKeep k (talkbackSample k (routePeriod (micStep d))))))
    mediaSample d = { e with route := { e.route with sample := (k + 1) % 32 } } := by
  unfold mediaSample
  split
  · exact absurd ‹_› hb
  · exact absurd ‹_› hs
  · rfl

/-- With no gain change that waits, no crossfade of programs and no store that saturates, the outputs of a period are those of
the active program, and no register changes. -/
theorem routePeriod_plain (d : Dev) (hw : d.route.gainWaits = []) (hx : d.route.xfadeN = 0)
    (hs : (routeProgram d (routeGain d) (activeRouting d).program).2 = 0) :
    (routePeriod d).route.outputs = (routeProgram d (routeGain d) (activeRouting d).program).1
    ∧ (routePeriod d).route.sample = d.route.sample ∧ (routePeriod d).regs = d.regs := by
  simp only [routePeriod, slotsStep, hw, forL, List.foldl_nil, hx, hs, if_true, and_self]

/-! ### A gain that has met no crossing (R185) -/

/-- The one gain change that waits steps when its T samples have passed. -/
theorem gainTimeout_due (w : GainWait) (n : Nat) (d : Dev) (hw : d.route.gainWaits = [w]) (hn : w.waited = some n)
    (ht : routeT d ≤ n) : gainTimeout w.entry d
      = gainStep w (raiseEvent evGainZcTimeout (leBytes 1 w.entry) (setFlag 0x80004 25 (incCnt 0x8002C d))) := by
  have hfind : d.route.gainWaits.find? (fun x => decide (x.entry = w.entry) && x.waited.isSome) = some w := by
    simp [hw, hn]
  have hpast : ¬ w.waited.getD 0 < routeT d := by simpa [hn] using ht
  simp only [gainTimeout, hfind, hpast, if_false]

/-! ### Deadlines of tasks (R209) -/

/-- A task that has not completed at its deadline is marked late, counted and traced. -/
theorem taskDeadline_late (side task q : Nat) (p : Nat × MatchEnt) (d : Dev) (h : findEntry d side task q = some p)
    (hl : p.2.late = false) : taskDeadline side task q d
      = trace 5 unitNone (task16 p.2) p.2.cls p.2.qn true false
        (putMatch p.1 (some { p.2 with late := true }) (incCnt 0x40018 d)) := by
  simp only [taskDeadline, h, hl, Bool.false_eq_true, if_false]

/-! ### What a trace record leaves as it was (R213) -/

/-- Storing bytes changes device memory and nothing else. -/
theorem memWrite_frame (bs : Bytes) (a : Nat) (d : Dev) : memWrite a bs d = { d with mem := (memWrite a bs d).mem } := by
  induction bs generalizing a d with
  | nil => rfl
  | cons b rest ih =>
    rw [memWrite, ih]
    rfl

theorem rdN_memWrite (a : Nat) (bs : Bytes) (d : Dev) (b : Nat) : rdN (memWrite a bs d) b = rdN d b := by
  rw [memWrite_frame]
  rfl

/-- `e` is the dispatcher of `d`, its flags included, but for the gap that the next trace record carries. -/
structure Traces (d e : Dev) : Prop where
  disp : e.disp = { d.disp with traceGap := e.disp.traceGap }
  flags : rdN e 0x40004 = rdN d 0x40004

theorem Traces.refl (d : Dev) : Traces d d := ⟨rfl, rfl⟩

theorem Traces.trans {a b c : Dev} (h : Traces a b) (k : Traces b c) : Traces a c := by
  refine ⟨?_, k.flags.trans h.flags⟩
  rw [k.disp, h.disp]

theorem traces_of_sends {d e : Dev} (h : Sends d e) : Traces d e :=
  ⟨by rw [h.disp], by rw [rdN, rdN, h.regs _ (by decide)]⟩

theorem traces_wrN (a v : Nat) (d : Dev) (h : 0x40004 ≠ a) : Traces d (wrN a v d) :=
  ⟨by rw [wrN_disp], rdN_wrN_other a _ v d h⟩

theorem traces_memWrite (a : Nat) (bs : Bytes) (d : Dev) : Traces d (memWrite a bs d) :=
  ⟨by rw [(memWrite_voice_disp bs a d).2], rdN_memWrite a bs d _⟩

theorem traces_traceGap (b : Bool) (d : Dev) : Traces d { d with disp := { d.disp with traceGap := b } } := ⟨rfl, rfl⟩

theorem traces_tracePut (bs : Bytes) (d : Dev) : Traces d (tracePut bs d) := by
  refine (traces_of_sends (sends_emit (.trace bs) d)).trans ?_
  unfold tracePut
  dsimp only
  split
  · exact traces_of_sends (sends_ringProduce 73 bs _ (by omega))
  · exact (traces_memWrite _ _ _).trans (traces_wrN _ _ _ (by decide))

/-- A trace record is written where there is room, and is counted as dropped where there is none. -/
theorem traces_trace (type unit task cls qn : Nat) (late item : Bool) (d : Dev) :
    Traces d (trace type unit task cls qn late item d) := by
  unfold trace
  dsimp only
  split
  · refine (traces_wrN 0x4005C ((rdN d 0x4005C + 1) % 65536) d (by decide)).trans ?_
    split
    · exact (traces_traceGap _ _).trans (traces_tracePut _ _)
    · refine Traces.trans ?_ ((traces_traceGap true _).trans (traces_wrN 0x40058 _ _ (by decide)))
      split
      · exact traces_of_sends (sends_setFlag _ _ _ (by decide))
      · exact Traces.refl _
  · exact Traces.refl d

/-! ### Cutoffs of departures (R210, R211) -/

/-- A quantum whose cutoff has not been judged is judged by whether it is late. -/
theorem departureCutoff_unjudged (q : Nat) (d : Dev) (h : d.disp.cutoffQn ≤ q) :
    departureCutoff q d = if quantumLate d q then
      trace 7 unitNone 0 0 q false true (raiseEvent evDepartLate (leBytes 5 q)
        (wrN 0x40030 (q % 2 ^ 32) (wrN 0x40034 (q / 2 ^ 32) (incCnt 0x4001C (setFlag 0x40004 9 { d with
          disp := { d.disp with
            cutoffQn := q + 1, suppressed := fput false d.disp.suppressed q true, lateRun := d.disp.lateRun + 1 } })))))
      else { d with disp := { d.disp with cutoffQn := q + 1, lateRun := 0 } } := if_neg (by omega)

/-- A late quantum is suppressed, and the run of late quanta goes on (R210, R211). -/
theorem departureCutoff_late (q : Nat) (d : Dev) (h : d.disp.cutoffQn ≤ q) (hl : quantumLate d q = true) :
    let e := departureCutoff q d
    fget false e.disp.suppressed q = true ∧ e.disp.lateRun = d.disp.lateRun + 1 ∧ e.disp.cutoffQn = q + 1
      ∧ bitAt e 0x40004 9 = true := by
  intro e
  have he : e = _ := (departureCutoff_unjudged q d h).trans (if_pos hl)
  have htrace := he ▸ traces_trace 7 unitNone 0 0 q false true _
  have hdisp := htrace.disp
  simp only [raiseEvent_disp, wrN_disp, incCnt_disp, setFlag_disp] at hdisp
  have hflag : bitAt e 0x40004 9 = true := by
    rw [bitAt, htrace.flags, rdN_raiseEvent _ _ _ _ (by decide), rdN_wrN_other _ _ _ _ (by decide),
      rdN_wrN_other _ _ _ _ (by decide), incCnt, addCnt, rdN_wrN_other _ _ _ _ (by decide), ← bitAt,
      bitAt_setFlag _ _ _ _ _ (by decide)]
    rfl
  rw [hdisp]
  exact ⟨fget_fput_same false d.disp.suppressed q true, rfl, rfl, hflag⟩

/-- Settles O25: each command is its act on the device; a late quantum's trace record leaves the dispatcher's flags alone. -/
theorem samplesAndDeadlines : Obligations.SamplesAndDeadlines := by
  unfold Obligations.SamplesAndDeadlines
  refine ⟨fun s hb hs => ⟨?_, routePeriod_plain s.dev⟩, fun w n s hw hn ht => ?_, fun side task q p s h hl => ?_,
    fun q s h hl => ?_, fun q s h hl => ⟨_, rfl, departureCutoff_late q s.dev h hl⟩, fun s h => ?_, fun s h => ?_⟩
  · exact congrArg (becomes s) (mediaSample_runs s.dev hb hs)
  · exact congrArg (becomes s) (gainTimeout_due w n s.dev hw hn ht)
  · exact congrArg (becomes s) (taskDeadline_late side task q p s.dev h hl)
  · show becomes s (departureCutoff q s.dev) = _
    rw [departureCutoff_unjudged q s.dev h, hl]
    rfl
  · exact congrArg (becomes s) (if_pos h)
  · exact congrArg (becomes s) (if_neg (Nat.not_le.2 h))

end Sys2Proof.Proofs
end

section
/-!
Filter banks, loads of plans and images (R168, R270 to R273, R286); surveys, live periods and designs (R276 to R285).
-/

namespace Sys2Proof.Proofs

open Machine Safety Laws

/-! ### Filter banks -/

theorem corr_putCorr_same (j : Nat) (c : OutCorr) (d : Dev) : corr (putCorr j c d) j = c := fget_fput_same _ _ _ _

/-- A bank that has been transformed is loaded and its command completes; one that the plan swap waits for is named in that
swap (R270, R273). -/
theorem corrLoaded_loading (j : Nat) (d : Dev) (h : (corr d j).inactive = 1) :
    let c := corr d j
    let e := putCorr j { setOther c.loading c with
      inactive := if c.planUnits.isSome then 3 else 2, loadCid := none, loading := {} } (incCnt 0xA001C d)
    corrLoaded j d = completeOpt c.loadCid cDone 0
      (if (List.range 512).any (fun i => decide ((corr e i).inactive = 1)) then e else clrFlag 0xA0004 0 e) :=
  if_neg (fun hn => hn h)

/-- After a load ends, the swaps that waited for an image are judged, and one that a design made is swapped by the firmware
(R286). -/
theorem corrLoadEnd_loading (j : Nat) (d : Dev) (h : (corr d j).inactive = 1) :
    let e := heldProposals (corrLoaded j d)
    corrLoadEnd j d = if (corr d j).autoSwap then
      firmwareCmd 0 (.corrSwap j 0 1024) (putCorr j { corr e j with autoSwap := false } e) else e := by
  simp only [corrLoadEnd, h, decide_true, Bool.and_true]

/-- The record of an output after its crossfade has ended (R272, R273). -/
def fadeRecord (f : BankFade) (c : OutCorr) : OutCorr :=
  let turned := { c with activeB := !c.activeB, fade := none, tapUnits := (otherBank c).units, planBank := false }
  match c.held with
  | some h => { turned with held := none, pending := some (heldMoved f h), inactive := 3 }
  | none => { setOther {} turned with inactive := 0 }

/-- The end of a crossfade noted, counted and raised. -/
def fadeRaised (j : Nat) (f : BankFade) (d : Dev) : Dev :=
  let e := putCorr j (fadeRecord f (corr d j)) (incCnt 0xA0020 d)
  if (corr d j).planBank then e else raiseEvent evCorrSwapped (leBytes 2 j ++ leBytes 8 f.n0) e

/-- A command that named the crossfade completes when its last sample departs (R272). -/
theorem fadeEnd_eq (j : Nat) (f : BankFade) (d : Dev) :
    let e := fadeRaised j f d
    fadeEnd j f d = { e with lupin := { e.lupin with
      finish := e.lupin.finish ++ (f.cid.toList.map (fun cid => ((f.n0 + f.xfade - 1) / 32 + 3, cid))) } } := by
  have hnone (e : Dev) : e = { e with lupin := { e.lupin with finish := e.lupin.finish ++ [] } } := by
    rw [List.append_nil]
  obtain ⟨n0, x, cid⟩ := f
  cases cid with
  | none => exact hnone (fadeRaised j ⟨n0, x, none⟩ d)
  | some cid => rfl

/-- With no swap held behind it, the crossfade leaves the new bank active and the old one empty. -/
theorem fadeRecord_alone (f : BankFade) (c : OutCorr) (h : c.held = none) :
    fadeRecord f c = { setOther {} { c with activeB := !c.activeB } with
      fade := none, inactive := 0, tapUnits := (otherBank c).units, planBank := false } := by
  simp only [fadeRecord, h, setOther]
  cases c.activeB with
  | false => rfl
  | true => rfl

/-- A swap held behind the crossfade leads back to the bank that has become inactive (R273). -/
theorem fadeRecord_held (f : BankFade) (c : OutCorr) (r : BankSwap) (h : c.held = some r) :
    fadeRecord f c = { c with
      activeB := !c.activeB, fade := none, tapUnits := (otherBank c).units, planBank := false, held := none
      pending := some (heldMoved f r), inactive := 3 } := by
  simp only [fadeRecord, h]

theorem corr_fadeEnd (j : Nat) (f : BankFade) (d : Dev) : corr (fadeEnd j f d) j = fadeRecord f (corr d j) := by
  rw [fadeEnd_eq]
  show corr (fadeRaised j f d) j = _
  unfold fadeRaised
  dsimp only
  split
  · exact corr_putCorr_same _ _ _
  · rw [corr, raiseEvent_lupin]
    exact corr_putCorr_same _ _ _

theorem corrSwapped_ended (j : Nat) (f : BankFade) (d : Dev) (h : (corr d j).fade = some f)
    (hq : (f.n0 + f.xfade - 1) / 32 < (corr d j).doneQn) :
    let e := fadeEnd j f d
    corrSwapped j d = if (corr d j).planUnits.isSome then planBankLoad ((corr d j).planUnits.getD 0) j e else e := by
  have hdone : ¬ (corr d j).doneQn ≤ (f.n0 + f.xfade - 1) / 32 := by omega
  simp only [corrSwapped, h, hdone, if_false]
  cases (corr d j).planUnits with
  | none => rfl
  | some u => rfl

/-- After a crossfade behind which a swap is held, the banks have changed places and that swap waits for its start (R273). -/
theorem corrSwapped_held (j : Nat) (f : BankFade) (r : BankSwap) (d : Dev) (hf : (corr d j).fade = some f)
    (hh : (corr d j).held = some r) (hp : (corr d j).planUnits = none)
    (hq : (f.n0 + f.xfade - 1) / 32 < (corr d j).doneQn) :
    let c := corr (corrSwapped j d) j
    c.fade = none ∧ c.held = none ∧ c.activeB = !(corr d j).activeB ∧ activeBank c = otherBank (corr d j)
      ∧ otherBank c = activeBank (corr d j) ∧ c.inactive = 3 ∧ c.pending = some (heldMoved f r) := by
  have hend : corrSwapped j d = fadeEnd j f d := by rw [corrSwapped_ended j f d hf hq, hp]; rfl
  rw [hend, corr_fadeEnd, fadeRecord_held f _ r hh]
  unfold activeBank otherBank
  cases (corr d j).activeB with
  | false => exact ⟨rfl, rfl, rfl, rfl, rfl, rfl, rfl⟩
  | true => exact ⟨rfl, rfl, rfl, rfl, rfl, rfl, rfl⟩

/-! ### Images that the partner does not load (R286) -/

theorem cancelScheduled_heldProps (cid : Nat) (d : Dev) : (cancelScheduled cid d).pair.heldProps = d.pair.heldProps := by
  unfold cancelScheduled onlyIf
  dsimp only
  split
  · rfl
  · rfl

theorem disagree_heldProps (p : Proposal) (n : Nat) (d : Dev) : (disagree p n d).pair.heldProps = d.pair.heldProps := by
  rw [disagree, complete_pair, incCnt_pair, cancelScheduled_heldProps]

theorem pairSendSeq_heldProps (kind : Nat) (body : Bytes) (q : Option Nat) (d : Dev) :
    (pairSendSeq kind body q d).pair.heldProps = d.pair.heldProps := by
  show (pairSend kind 0 d.pair.txSeq body d).pair.heldProps = _
  rw [(sends_pairSend kind 0 d.pair.txSeq body d).pair]

theorem with_own_heldProps (d : Dev) (l : List Bytes) (h : d.pair.heldProps = l) :
    { d with pair := { d.pair with heldProps := l } } = d := by
  rw [← h]

/-- The one proposal of a swap of the output, not yet confirmed, is aborted and its command completes PAIR_DISAGREE. -/
theorem imageTimeout_proposed (j n x : Nat) (p : Proposal) (d : Dev) (hp : d.pair.proposals = [p])
    (hh : d.pair.heldProps = []) (hc : p.cmd = .corrSwap j n x) (hr : p.reply ≠ some cDone) :
    imageTimeout j d = disagree p 0xFF (pairSendSeq 7 (beBytes 4 p.pid) (some p.applyQn)
      { d with pair := { d.pair with proposals := [] } }) := by
  have hkept : (disagree p 0xFF (pairSendSeq 7 (beBytes 4 p.pid) (some p.applyQn)
      { d with pair := { d.pair with proposals := [] } })).pair.heldProps = [] := by
    rw [disagree_heldProps, pairSendSeq_heldProps, ← hh]
  simpa [imageTimeout, hp, hc, hr, forL, hkept] using with_own_heldProps _ [] hkept

/-- A swap of the output held for its image is answered TIMEOUT. -/
theorem imageTimeout_held (j n x : Nat) (pb : Bytes) (d : Dev) (hp : d.pair.proposals = [])
    (hh : d.pair.heldProps = [pb]) (hc : entryCmd (slice pb 12 64) [] = some (.corrSwap j n x)) :
    imageTimeout j d = replySend (beAt pb 0 4) cTimeout { d with pair := { d.pair with heldProps := [] } } := by
  simp [imageTimeout, hp, hh, hc, forL]

/-! ### Loads of plans (R168) -/

/-- A plan that passes its checks is held. -/
theorem planLoadEnd_passes (l : PlanLoad) (d : Dev) (h : d.plan.load = some l)
    (hc : checkPlan d l.image l.plan l.supplied = none) :
    let held := refreshPlanSet { d with
      plan := { d.plan with load := none, held := fins d.plan.held l.plan l.image } }
    planLoadEnd d = complete l.cid cDone 0 (planSetId held) held := by
  simp only [planLoadEnd, h, hc]

/-- A plan that does not pass fails with the reason, section, record and code of its first failure. -/
theorem planLoadEnd_fails (l : PlanLoad) (reason sect record code : Nat) (d : Dev) (h : d.plan.load = some l)
    (hc : checkPlan d l.image l.plan l.supplied = some (reason, sect, record, code)) :
    planLoadEnd d = planLoadFail l.cid reason sect record code d := by
  simp only [planLoadEnd, h, hc]

/-! ### Programmes of a survey (R276) -/

/-- A group that has run its length ends and its responses are written; after the last group the tail runs. -/
theorem surveyStepEnd_due (rs : List IrResult) (p : Plan) (d : Dev) (hs : d.survey.stepQn ≠ 0)
    (ha : d.plan.active = some p) (hq : d.survey.stepQn - 1 + groupQuanta (presentGroup d) ≤ qnNow d) :
    let g := presentGroup d
    let last := d.survey.stepQn - 1 + groupQuanta g
    let found := irAll rs (groupPairs d p g) d
    let e := forL found.1 (irWrite p 1 last) found.2
    surveyStepEnd rs d = { e with survey := { e.survey with
      step := e.survey.step + g.length
      stepQn := 0
      tailQn := if e.survey.step + g.length < e.survey.program.length then 0 else last + 513 } } := by
  have hdue : ¬ qnNow d < d.survey.stepQn - 1 + groupQuanta (presentGroup d) := by omega
  simp only [surveyStepEnd, hs, hdue, ha, if_false]

/-- After the tail of its programme the device goes to CONFIG with cause SURVEY_DONE. -/
theorem surveyDone_tail (d : Dev) (hm : d.sys.mode = .survey) (ht : transNow d = none) (hp : d.survey.program ≠ [])
    (hn : d.survey.tailQn ≠ 0) (hq : d.survey.tailQn ≤ qnNow d + 1) :
    surveyDone d = transStart (transPlan .config (qnNow d) 6 none { d with
      survey := { d.survey with running := false, step := 0, stepQn := 0, tailQn := 0 } }) := by
  have hend : d.survey.tailQn - 1 ≤ qnNow d := by omega
  have hdue : (if d.survey.program.isEmpty then true
      else decide (d.survey.tailQn ≠ 0) && decide (d.survey.tailQn - 1 ≤ qnNow d)) = true := by simp [hp, hn, hend]
  exact if_pos ⟨hm, by rw [ht]; rfl, hdue⟩

/-! ### What writing responses and submitting designs leaves as it was -/

/-- `e` has the pair and the survey control register of `d`. -/
structure SurveyKeeps (d e : Dev) : Prop where
  pair : e.pair = d.pair
  control : rdN e 0xB0000 = rdN d 0xB0000

theorem SurveyKeeps.refl (d : Dev) : SurveyKeeps d d := ⟨rfl, rfl⟩

theorem SurveyKeeps.trans {a b c : Dev} (h : SurveyKeeps a b) (k : SurveyKeeps b c) : SurveyKeeps a c :=
  ⟨k.pair.trans h.pair, k.control.trans h.control⟩

theorem SurveyKeeps.bit {d e : Dev} (h : SurveyKeeps d e) (i : Nat) : bitAt e 0xB0000 i = bitAt d 0xB0000 i := by
  rw [bitAt, bitAt, h.control]

theorem SurveyKeeps.formed {d e : Dev} (h : SurveyKeeps d e) : pairFormed e = pairFormed d := by
  rw [pairFormed, pairFormed, h.pair]

theorem surveyKeeps_memWrite (a : Nat) (bs : Bytes) (d : Dev) : SurveyKeeps d (memWrite a bs d) :=
  ⟨by rw [memWrite_frame], rdN_memWrite a bs d _⟩

theorem surveyKeeps_incCnt (a : Nat) (d : Dev) (h : 0xB0000 ≠ a) : SurveyKeeps d (incCnt a d) :=
  ⟨incCnt_pair a d, rdN_wrN_other a _ _ d h⟩

theorem surveyKeeps_takeFree (m : Nat) (d : Dev) : SurveyKeeps d (takeFree m d).2 := ⟨rfl, rfl⟩

theorem surveyKeeps_irFor (rs : List IrResult) (m j : Nat) (d : Dev) : SurveyKeeps d (irFor rs m j d).2 := by
  unfold irFor
  split
  · exact SurveyKeeps.refl d
  · exact surveyKeeps_takeFree 16 d

theorem surveyKeeps_irAll (rs : List IrResult) (pairs : List (Nat × Nat)) (d : Dev) : SurveyKeeps d (irAll rs pairs d).2 :=
  List.foldlRecOn (motive := fun (acc : List IrResult × Dev) => SurveyKeeps d acc.2) pairs _ (SurveyKeeps.refl d)
    (fun (acc : List IrResult × Dev) h x _ => h.trans (surveyKeeps_irFor rs x.1 x.2 acc.2))

theorem surveyKeeps_survey (x : SurveySt) (d : Dev) : SurveyKeeps d { d with survey := x } := ⟨rfl, rfl⟩

theorem surveyKeeps_irWrite (p : Plan) (source q : Nat) (r : IrResult) (d : Dev) : SurveyKeeps d (irWrite p source q r d) := by
  unfold irWrite
  exact ((surveyKeeps_incCnt 0xB0024 d (by decide)).trans (surveyKeeps_memWrite _ _ _)).trans (surveyKeeps_survey _ _)

theorem surveyKeeps_forL {α : Type} (f : α → Dev → Dev) (step : ∀ x d, SurveyKeeps d (f x d)) (l : List α) (d : Dev) :
    SurveyKeeps d (forL l f d) := forL_induct SurveyKeeps SurveyKeeps.refl SurveyKeeps.trans f step l d

theorem surveyKeeps_designFree (d : Dev) : SurveyKeeps d (designFree d).2 := by
  unfold designFree
  exact List.foldlRecOn (motive := fun (acc : List Nat × Dev) => SurveyKeeps d acc.2) _ _ (SurveyKeeps.refl d)
    (fun (acc : List Nat × Dev) h w _ => h.trans (surveyKeeps_takeFree (2 ^ w) acc.2))

theorem surveyKeeps_survey_disp (x : SurveySt) (y : DispSt) (d : Dev) :
    SurveyKeeps d { d with survey := x, disp := y } := ⟨rfl, rfl⟩

theorem surveyKeeps_raiseEvent (c : Nat) (args : Bytes) (d : Dev) : SurveyKeeps d (raiseEvent c args d) :=
  ⟨raiseEvent_pair c args d, rdN_raiseEvent c args d _ (by decide)⟩

/-- The fields of a design job that the command does not give are open values; the descriptor is written and the job queued. -/
theorem surveyKeeps_designSubmit (j : Nat) (desc : Option Nat) (form : Option DesignForm) (d : Dev) :
    SurveyKeeps d (designSubmit j desc form d) := by
  have haddr : SurveyKeeps d (match desc with | some x => (x, d) | none => takeFree (2 ^ 32) d).2 := by
    cases desc with
    | none => exact surveyKeeps_takeFree _ d
    | some x => exact SurveyKeeps.refl d
  have hform (e : Dev) : SurveyKeeps e (match form with | some x => (x, e) | none => designFree e).2 := by
    cases form with
    | none => exact surveyKeeps_designFree e
    | some x => exact SurveyKeeps.refl e
  unfold designSubmit
  exact (((haddr.trans (hform _)).trans (surveyKeeps_takeFree _ _)).trans (surveyKeeps_memWrite _ _ _)).trans
    (surveyKeeps_survey_disp _ _ _)

/-! ### Live periods (R279, R282, R284) -/

/-- The device after a live period has written the responses of its pairs, with the next group of pairs up. -/
def periodWritten (rs : List IrResult) (p : Plan) (d : Dev) : Dev :=
  let ok := (List.range 72).filter (fun m => micOn d m && !(fget {} d.survey.heard m).out)
  let found := irAll rs (periodPairs d p)
    { d with survey := { d.survey with micOk := ok.map (fun m => (m, true)), heard := [] } }
  let e := forL found.1 (irWrite p 2 (qnNow d)) found.2
  { e with survey := { e.survey with
    pairGroup := if e.survey.pairGroup + 1 < pairGroups e p then e.survey.pairGroup + 1 else 0 } }

theorem surveyKeeps_periodWritten (rs : List IrResult) (p : Plan) (d : Dev) : SurveyKeeps d (periodWritten rs p d) := by
  unfold periodWritten
  exact (((surveyKeeps_survey _ d).trans (surveyKeeps_irAll rs _ _)).trans
    (surveyKeeps_forL _ (fun r e => surveyKeeps_irWrite p 2 (qnNow d) r e) _ _)).trans (surveyKeeps_survey _ _)

/-- Outside a formed pair a device estimates and designs itself (R384). -/
theorem designsHere_alone (d : Dev) (h : pairFormed d = false) : designsHere d = true := by
  rw [pairFormed, decide_eq_false_iff_not] at h
  simp [designsHere, h]

theorem tempEstimate_off (ts : List Int) (d : Dev) (h : bitAt d 0xB0000 1 = false) : tempEstimate ts d = d := if_pos h

/-- What a live period does once its responses are written: estimate the temperature, hand outputs over for design (R283,
R286). -/
def periodJudged (descs : List Nat) (designs : List DesignForm) (p : Plan) (ts : List Int) (d : Dev) : Dev :=
  let e := onlyIf (designsHere d) (tempEstimate ts) d
  if bitAt e 0xB0000 2 && designsHere d then
    forL (allFresh e p).zipIdx (fun x => designSubmit x.1 descs[x.2]? designs[x.2]?) e
  else e

theorem periodEnd_identifies (p : Plan) (rs : List IrResult) (descs : List Nat) (designs : List DesignForm) (d : Dev)
    (ha : d.plan.active = some p) (hi : identifies d = true) :
    ∃ ts, periodEnd rs descs designs d = periodJudged descs designs p ts (periodWritten rs p d) := by
  rw [periodEnd, ha]
  exact ⟨_, if_neg (by simp [hi])⟩

/-- Outside a pair and without temperature estimates, a live period writes its responses and hands outputs over for design. -/
theorem periodEnd_alone (p : Plan) (rs : List IrResult) (descs : List Nat) (designs : List DesignForm) (d : Dev)
    (ha : d.plan.active = some p) (hi : identifies d = true) (ht : bitAt d 0xB0000 1 = false)
    (hf : pairFormed d = false) :
    let e := periodWritten rs p d
    periodEnd rs descs designs d = if bitAt e 0xB0000 2 then
      forL (allFresh e p).zipIdx (fun x => designSubmit x.1 descs[x.2]? designs[x.2]?) e else e := by
  have hkeep := surveyKeeps_periodWritten rs p d
  have hown : designsHere (periodWritten rs p d) = true := designsHere_alone _ (hkeep.formed.trans hf)
  have htemp (ts : List Int) : tempEstimate ts (periodWritten rs p d) = periodWritten rs p d :=
    tempEstimate_off ts _ ((hkeep.bit 1).trans ht)
  obtain ⟨ts, hend⟩ := periodEnd_identifies p rs descs designs d ha hi
  simp only [hend, periodJudged, onlyIf, hown, htemp, if_true, Bool.and_true]

theorem surveyKeeps_periodEnd_alone (p : Plan) (rs : List IrResult) (descs : List Nat) (designs : List DesignForm) (d : Dev)
    (ha : d.plan.active = some p) (hi : identifies d = true) (ht : bitAt d 0xB0000 1 = false)
    (hf : pairFormed d = false) : SurveyKeeps d (periodEnd rs descs designs d) := by
  have hkeep := surveyKeeps_periodWritten rs p d
  rw [periodEnd_alone p rs descs designs d ha hi ht hf]
  split
  · exact hkeep.trans (surveyKeeps_forL _ (fun x e => surveyKeeps_designSubmit _ _ _ e) _ _)
  · exact hkeep

theorem periodEndPair_alone (rs : List IrResult) (descs : List Nat) (designs : List DesignForm) (d : Dev)
    (h : pairFormed (periodEnd rs descs designs d) = false) :
    periodEndPair rs descs designs d = periodEnd rs descs designs d := if_pos h

/-! ### Design jobs (R284, R285) -/

theorem ct32_memWrite (a : Nat) (bs : Bytes) (d : Dev) : ct32 (memWrite a bs d) = ct32 d := by
  rw [memWrite_frame]
  rfl

/-- A design job fails with a status: no image, counted, raised. -/
theorem designFail_eq (desc status : Nat) (d : Dev) :
    let e := setFlag 0xB0004 10 (incCnt 0xB0028
      (memWrite (desc + 52) (leBytes 4 (ct32 d)) (memWrite (desc + 48) (leBytes 1 status) d)))
    designFail desc status d = raiseEvent evCorrDesignFail (leBytes 1 status) { e with
      survey := { e.survey with jobs := e.survey.jobs.filter (fun x => x.desc ≠ desc) } } := by
  rw [designFail, ct32_memWrite]

theorem designTimeout_submitted (desc : Nat) (d : Dev) (h : ∃ x ∈ d.survey.jobs, x.desc = desc) :
    designTimeout desc d = designFail desc 4 d := if_pos (by simpa using h)

/-- The device after a job has written its image, and its status and time into its descriptor. -/
def designWritten (desc mics : Nat) (taps : List Int) (d : Dev) : Dev :=
  let id := takeFree (2 ^ 64) d
  let e := memWrite (leVal (memRead id.2 (desc + 40) 8) % 2 ^ 40) (designImage id.2 desc taps id.1) id.2
  let e := memWrite (desc + 48) (leBytes 1 1 ++ leBytes 1 mics) e
  memWrite (desc + 52) (leBytes 4 (ct32 e)) e

/-- The time in the descriptor is that of the job's end. -/
theorem designWritten_eq (desc mics : Nat) (taps : List Int) (d : Dev) :
    let id := takeFree (2 ^ 64) d
    let e := memWrite (leVal (memRead d (desc + 40) 8) % 2 ^ 40) (designImage id.2 desc taps id.1) id.2
    designWritten desc mics taps d
      = memWrite (desc + 52) (leBytes 4 (ct32 d)) (memWrite (desc + 48) (leBytes 1 1 ++ leBytes 1 mics) e) := by
  rw [designWritten]
  dsimp only
  rw [ct32_memWrite, ct32_memWrite]
  rfl

theorem surveyKeeps_designWritten (desc mics : Nat) (taps : List Int) (d : Dev) :
    SurveyKeeps d (designWritten desc mics taps d) := by
  unfold designWritten
  exact (((surveyKeeps_takeFree _ d).trans (surveyKeeps_memWrite _ _ _)).trans (surveyKeeps_memWrite _ _ _)).trans
    (surveyKeeps_memWrite _ _ _)

/-- A job that has ended is taken off, and with auto_apply at 0 it is reported. -/
theorem designDone_eq (desc mics : Nat) (taps : List Int) (d : Dev) :
    let e := designWritten desc mics taps d
    let e := { e with survey := { e.survey with jobs := e.survey.jobs.filter (fun x => x.desc ≠ desc) } }
    designDone desc mics taps d = if bitAt e 0xB0000 2 then e else raiseEvent evCorrImageReady [] e := rfl

theorem designDone_reported (desc mics : Nat) (taps : List Int) (d : Dev) (hb : bitAt d 0xB0000 2 = false) :
    let e := designWritten desc mics taps d
    designDone desc mics taps d = raiseEvent evCorrImageReady [] { e with
      survey := { e.survey with jobs := e.survey.jobs.filter (fun x => x.desc ≠ desc) } } := by
  have hkeep (x : SurveySt) := (surveyKeeps_designWritten desc mics taps d).trans (surveyKeeps_survey x _)
  have hoff : ¬ bitAt d 0xB0000 2 = true := by simp [hb]
  rw [designDone_eq]
  exact if_neg (by rwa [(hkeep _).bit])

/-- With auto_apply at 0 the end of a job that is not refused is its image and nothing else. -/
theorem designDonePair_alone (desc mics : Nat) (taps : List Int) (d : Dev) (hb : bitAt d 0xB0000 2 = false)
    (hr : designRefused d desc = none) : designDonePair desc mics taps d = designDone desc mics taps d := by
  have hkeep : SurveyKeeps d (designDone desc mics taps d) := by
    rw [designDone_reported desc mics taps d hb]
    exact ((surveyKeeps_designWritten desc mics taps d).trans (surveyKeeps_survey _ _)).trans (surveyKeeps_raiseEvent _ _ _)
  have hoff := (hkeep.bit 2).trans hb
  unfold designDonePair
  simp only [hr, hoff, if_true]

/-- Settles O33: each command is its act on the device, said once above for each case of a bank, a plan, a survey and a design. -/
theorem banksPlansAndSurveys : Obligations.BanksPlansAndSurveys := by
  unfold Obligations.BanksPlansAndSurveys
  refine ⟨fun j s h => ?_, fun j f s hf hh hq => ?_, fun j f r s hf hh hp hq => ?_, fun j n x p s hp hh hc hr => ?_,
    fun j n x pb s hp hh hc => ?_, fun l s h => ?_, fun rs p s hs ha hq => ?_, fun s hm ht hp hn hq => ?_,
    fun p rs descs designs s ha hi ht hf => ?_, fun desc mics taps s hf hb hr => ?_, fun desc s h => ?_⟩
  · show becomes s (corrLoadEnd j s.dev) = _
    rw [corrLoadEnd_loading j s.dev h, corrLoaded_loading j s.dev h]
  · show becomes s (corrSwapped j s.dev) = _
    rw [corrSwapped_ended j f s.dev hf hq, fadeEnd_eq, fadeRaised, fadeRecord_alone f _ hh]
  · exact ⟨_, rfl, corrSwapped_held j f r s.dev hf hh hp hq⟩
  · exact congrArg (becomes s) (imageTimeout_proposed j n x p s.dev hp hh hc hr)
  · exact congrArg (becomes s) (imageTimeout_held j n x pb s.dev hp hh hc)
  · show becomes s (planLoadEnd s.dev) = _
    cases hc : checkPlan s.dev l.image l.plan l.supplied with
    | none => rw [planLoadEnd_passes l s.dev h hc]
    | some failure =>
      obtain ⟨reason, sect, record, code⟩ := failure
      rw [planLoadEnd_fails l reason sect record code s.dev h hc]
      rfl
  · exact congrArg (becomes s) (surveyStepEnd_due rs p s.dev hs ha hq)
  · exact congrArg (becomes s) (surveyDone_tail s.dev hm ht hp hn hq)
  · show becomes s (periodEndPair rs descs designs s.dev) = _
    rw [periodEndPair_alone rs descs designs s.dev
      ((surveyKeeps_periodEnd_alone p rs descs designs s.dev ha hi ht hf).formed.trans hf),
      periodEnd_alone p rs descs designs s.dev ha hi ht hf]
    rfl
  · show becomes s (designDonePair desc mics taps s.dev) = _
    rw [designDonePair_alone desc mics taps s.dev hb hr, designDone_reported desc mics taps s.dev hb, designWritten_eq]
  · show becomes s (designTimeout desc s.dev) = _
    rw [designTimeout_submitted desc s.dev h, designFail_eq]

end Sys2Proof.Proofs
end

section
/-!
The dispatcher: placement, completion, TAKE, queues of items, and the view of the matching store (R193 to R208, R214, R247).
-/

namespace Sys2Proof.Proofs

open Machine Safety Laws

/-! ### The order of an issue (R194 to R196, R201, R207) -/

theorem dispatchOne_ready (place : Nat) (e : MatchEnt) (w : Placing) (d : Dev)
    (h : firstPlacing d (readyTasks d) = some (place, e, w)) : dispatchOne d = placeTask place e w d := by
  rw [dispatchOne, h]

/-- Where no task is ready, a preempted item goes on before any other starts (R201). -/
theorem dispatchOne_resumes (c : Nat) (d : Dev) (ht : readyTasks d = []) (hr : resumable d = some c) :
    dispatchOne d = resumeItem c d := by
  rw [dispatchOne, ht, hr]
  rfl

/-- A background item starts where nothing that ranks above it can (R195). -/
theorem dispatchOne_background (c : Nat) (it : Item) (d : Dev) (ht : readyTasks d = []) (hr : resumable d = none)
    (hc : nextCompat d = none) (hb : nextBackground d = some (it, c)) :
    dispatchOne d = startItem c it true { d with disp := { d.disp with bgQ := d.disp.bgQ.erase it } } := by
  rw [dispatchOne, ht, hr, hc, hb]
  rfl

/-! ### Completion words (R198) -/

/-- With trace_en at 0 no decision is traced (R212). -/
theorem trace_disabled (type unit task cls qn : Nat) (late item : Bool) (d : Dev) (h : bitAt d 0x40000 1 = false) :
    trace type unit task cls qn late item d = d := by
  simp [trace, h]

/-- A word that differs from the one that the core holds is discarded. -/
theorem coreDone_mismatch (c w : Nat) (code : OutCode) (d : Dev) (h : (box d c).state = 0 ∨ w ≠ (box d c).word) :
    coreDone c w code d = doneMismatch (unitByte 2 c) d := if_pos h

/-- The word of an item frees its core, and no entry. -/
theorem coreDone_item (c w : Nat) (code : OutCode) (d : Dev) (hs : (box d c).state ≠ 0) (hw : w = (box d c).word)
    (hi : w.testBit 14 = true ∨ w.testBit 15 = true) :
    coreDone c w code d = coreFreed c (trace 4 (unitByte 2 c) (w % 65536) 0 0 false true d) := by
  have hfits : ¬ ((box d c).state = 0 ∨ w ≠ (box d c).word) := not_or.2 ⟨hs, fun hne => hne hw⟩
  rw [coreDone]
  simp only [hfits, hi, if_true, if_false]

/-- The word of the service task that a control core runs frees its entry, and the core holds no task. -/
theorem controlDone_running (k w place : Nat) (e : MatchEnt) (d : Dev) (hw : w = (fget {} d.disp.ctl k).word)
    (he : runningEntry d 4 k w = some (place, e)) :
    controlDone k w d = freeEntry place e (unitByte 4 k) { d with
      disp := { d.disp with ctl := fput {} d.disp.ctl k { fget {} d.disp.ctl k with word := 0xFFFFFFFF } } } := by
  rw [controlDone]
  simp only [← hw, if_true, he]

theorem freeEntry_untraced (place : Nat) (e : MatchEnt) (unit : Nat) (d : Dev) (h : bitAt d 0x40000 1 = false) :
    freeEntry place e unit d = putMatch place none d := by
  rw [freeEntry, trace_disabled _ _ _ _ _ _ _ d h]

/-! ### TAKE (R203 to R205) -/

/-- The oldest task of the service queue is given at once. -/
theorem take_gives (k place : Nat) (rest : List Nat) (e : MatchEnt) (d : Dev) (hq : d.disp.serviceQ = place :: rest)
    (he : matchAt d place = some e) : Machine.take k d = giveService k place e d := by
  simp only [Machine.take, hq, he]

/-- With the service queue empty the read waits behind those before it. -/
theorem take_waits (k : Nat) (d : Dev) (hq : d.disp.serviceQ = []) (hk : k ∉ d.disp.takers) :
    Machine.take k d = { d with disp := { d.disp with
      takers := d.disp.takers ++ [k]
      ctl := fupd {} d.disp.ctl k (fun x => { x with waiting := true }) } } := by
  have hnew : d.disp.takers.contains k = false := by simpa using hk
  simp only [Machine.take, hq, hnew, Bool.false_eq_true, if_false]

theorem takeTimeout_waiting (k : Nat) (d : Dev) (h : k ∈ d.disp.takers) :
    Machine.takeTimeout k d = incCnt 0x4003C (emit (.control k 0xFFFFFFFF) { d with disp := { d.disp with
      takers := d.disp.takers.filter (· ≠ k)
      ctl := fupd {} d.disp.ctl k (fun x => { x with waiting := false }) } }) :=
  if_pos (List.contains_iff_mem.2 h)

/-! ### The switch (R199, R247) -/

/-- A core that runs an item enters the switch handler when a task was written with a preempt request and neither a repetition
nor a delay slot is open. -/
theorem switchEntry_eligible (c w : Nat) (d : Dev) (hw : (box d c).nextWord = some w) (hrun : (acore d c).status = 1)
    (hrep : (acore d c).rep = 0) (hdelay : (acore d c).delay = 0) (hitem : (box d c).state = 2 ∨ (box d c).state = 3) :
    let a := drain (acore d c)
    Machine.switchEntry c d = preemptTaken c (putCore c { a with
      epc := a.pc, esr := a.sr ||| 4, sr := setBits (setBits a.sr 1 0 0) 2 2 0, pc := 0x100, idle := false, sig := false } d) := by
  have hbound : ¬ ((box d c).nextWord.isNone = true ∨ (acore d c).status ≠ 1 ∨ (acore d c).rep > 0 ∨ (acore d c).delay > 0
      ∨ ((box d c).state ≠ 2 ∧ (box d c).state ≠ 3)) := by
    simp only [hw, hrun, hrep, hdelay, Option.isNone_some, Bool.false_eq_true, false_or, ne_eq, not_true_eq_false, gt_iff_lt,
      Nat.lt_irrefl, not_and, Decidable.not_not]
    exact fun hnot => hitem.resolve_left hnot
  exact if_neg hbound

/-! ### Writes of the registers that act (R214) -/

/-- A write of a DISP register that no mode locks and that has an act is that act. -/
theorem busWrite_actDisp (m : Master) (a v : Nat) (d e : Dev) (hblock : a / 65536 = 4)
    (hrow : (regRow a).map (fun r => r.lock) = some .any) (hact : actDisp m a v d = some e) : busWrite m a v d = e := by
  obtain ⟨r, hr, hlock⟩ := Option.map_eq_some_iff.1 hrow
  have haligned : ¬ a % 4 ≠ 0 := fun hodd => by simp [regRow, hodd] at hr
  have hopen : (!lockOpen d m r.lock) = false := by rw [hlock]; rfl
  have hregAct : regAct m r a v d = some e := by
    simp only [regAct, hblock]
    exact hact
  simp [busWrite, haligned, hr, hopen, hregAct]

theorem busWrite_bgSubmit (m : Master) (v : Nat) (d : Dev) : busWrite m 0x40228 v d = bgSubmit v d :=
  busWrite_actDisp m _ v d _ rfl rfl rfl

theorem busWrite_matchSelect (m : Master) (v : Nat) (d : Dev) : busWrite m 0x40400 v d = matchSelect (v % 16384) d :=
  busWrite_actDisp m _ v d _ rfl rfl rfl

theorem busWrite_matchPeak (m : Master) (v : Nat) (d : Dev) : busWrite m 0x4000C v d = matchPeak v d :=
  busWrite_actDisp m _ v d _ rfl rfl rfl

/-- The rows of the eight push registers are open in every mode. -/
theorem cqPush_lock : ∀ q, q < 8 → (regRow (0x40300 + 4 * q)).map (fun r => r.lock) = some .any := by decide

theorem busWrite_cqPush (m : Master) (q v : Nat) (d : Dev) (hq : q < 8) :
    busWrite m (0x40300 + 4 * q) v d = cqPush q v d := by
  refine busWrite_actDisp m _ v d _ (by omega) (cqPush_lock q hq) ?_
  have hplace : (0x40300 + 4 * q - 0x40300) / 4 = q := by omega
  have hpush : 0x40300 ≤ 0x40300 + 4 * q ∧ 0x40300 + 4 * q < 0x40320 := by omega
  have hothers : 0x40300 + 4 * q ≠ 0x4000C ∧ 0x40300 + 4 * q ≠ 0x40210 ∧ 0x40300 + 4 * q ≠ 0x40214
      ∧ 0x40300 + 4 * q ≠ 0x40228 := by omega
  obtain ⟨hpeak, hdone, hpost, hsubmit⟩ := hothers
  unfold actDisp
  rw [if_neg hpeak, if_neg hdone, if_neg hpost, if_neg hsubmit, if_pos hpush, hplace]

/-! ### Background items (R207) -/

theorem bgSubmit_no_core (v : Nat) (d : Dev) (h : rdN d 0x40224 % 65536 = 0) : bgSubmit v d = setFlag 0x40004 14 d :=
  if_pos h

theorem bgSubmit_full (v : Nat) (d : Dev) (ha : rdN d 0x40224 % 65536 ≠ 0) (hl : 256 ≤ d.disp.bgQ.length) :
    bgSubmit v d = setFlag 0x40004 13 d := (if_neg ha).trans (if_pos hl)

theorem bgSubmit_enters (v : Nat) (d : Dev) (ha : rdN d 0x40224 % 65536 ≠ 0) (hl : d.disp.bgQ.length < 256) :
    bgSubmit v d = { d with disp := { d.disp with
      bgQ := d.disp.bgQ ++ [⟨v, rdN d 0x40220, rdN d 0x40224 % 65536, d.disp.bgSeq⟩]
      bgSeq := d.disp.bgSeq + 1 } } := (if_neg ha).trans (if_neg (Nat.not_le.2 hl))

/-! ### Compatibility items (R208) -/

theorem cqPush_refused (q v : Nat) (d : Dev) (h : bitAt d 0x40000 0 = false ∨ rdN d 0x40324 % 65536 = 0) :
    cqPush q v d = setFlag 0x40004 14 d := if_pos h

/-- A push with the queues running and a core allowed is judged by the room of its queue alone. -/
theorem cqPush_judged (q v : Nat) (d : Dev) (hen : bitAt d 0x40000 0 = true) (ha : rdN d 0x40324 % 65536 ≠ 0) :
    cqPush q v d = if 1024 ≤ (fget [] d.disp.cq q).length then
        raiseEvent evCqOverflow [] (setFlag (0x40340 + 4 * q) 16 d)
      else { d with disp := { d.disp with
        cq := fupd [] d.disp.cq q (fun l => l ++ [⟨v, rdN d 0x40320, rdN d 0x40324 % 65536, d.disp.cqSeq⟩])
        cqSeq := d.disp.cqSeq + 1 } } := if_neg (by simp [hen, ha])

/-! ### The view of the matching store (R193) -/

theorem leVal_lt (bs : Bytes) : leVal bs < 256 ^ bs.length := by
  induction bs with
  | nil => exact Nat.one_pos
  | cons b rest ih =>
    have hb : b.toNat < 256 := b.isLt
    rw [leVal, List.length_cons, Nat.pow_succ]
    omega

/-- A field of four bytes fits a register word. -/
theorem leAt_word_lt (bs : Bytes) (off : Nat) : leAt bs off 4 < 2 ^ 32 :=
  Nat.lt_of_lt_of_le (leVal_lt _) (Nat.pow_le_pow_right (by decide : 0 < 256) (List.length_take_le 4 _))

/-- `e` is `d` but for its register words. -/
def RegsOnly (d e : Dev) : Prop := e = { d with regs := e.regs }

theorem RegsOnly.refl (d : Dev) : RegsOnly d d := rfl

theorem RegsOnly.trans {a b c : Dev} (h : RegsOnly a b) (k : RegsOnly b c) : RegsOnly a c := by
  unfold RegsOnly at h k ⊢
  rw [h] at k
  exact k

theorem regsOnly_wrN (a v : Nat) (d : Dev) : RegsOnly d (wrN a v d) := by
  obtain ⟨words, h⟩ := setReg_frame a (BitVec.ofNat 32 v) d
  rw [RegsOnly, wrN, h]

/-- Writes `n` words in a row from the register at `base`. -/
def wrWords (base n : Nat) (f : Nat → Nat) (d : Dev) : Dev := forN n (fun i d => wrN (base + 4 * i) (f i) d) d

theorem wrWords_succ (base n : Nat) (f : Nat → Nat) (d : Dev) :
    wrWords base (n + 1) f d = wrN (base + 4 * n) (f n) (wrWords base n f d) := rfl

theorem regsOnly_wrWords (base n : Nat) (f : Nat → Nat) (d : Dev) : RegsOnly d (wrWords base n f d) := by
  induction n with
  | zero => exact RegsOnly.refl d
  | succ k ih => exact ih.trans (regsOnly_wrN _ _ _)

theorem rdN_wrWords_below (base n b : Nat) (f : Nat → Nat) (d : Dev) (h : b < base) :
    rdN (wrWords base n f d) b = rdN d b := by
  induction n with
  | zero => rfl
  | succ k ih => rw [wrWords_succ, rdN_wrN_other _ _ _ _ (by omega), ih]

theorem rdN_wrWords (base n i : Nat) (f : Nat → Nat) (d : Dev) (hi : i < n) :
    rdN (wrWords base n f d) (base + 4 * i) = f i % 2 ^ 32 := by
  induction n with
  | zero => omega
  | succ k ih =>
    rw [wrWords_succ]
    by_cases hk : i = k
    · rw [hk, rdN_wrN_same]
    · rw [rdN_wrN_other _ _ _ _ (by omega), ih (by omega)]

/-- A place in range is shown word by word. -/
theorem matchSelect_in_range (v : Nat) (d : Dev) (h : v < 16384) : matchSelect v d
    = wrWords 0x40404 4 (fun i => leAt (matchBytes (matchAt d v)) (4 * i) 4) (wrN 0x40400 v d) := by
  unfold matchSelect
  rw [if_neg (Nat.not_le.2 h), wrWords]

/-- A selected place is shown in the four data words, and nothing but register words changes. -/
theorem matchSelect_shows (v : Nat) (d : Dev) (h : v < 16384) :
    let e := matchSelect v d
    rdN e 0x40400 = v ∧ (∀ i, i < 4 → rdN e (0x40404 + 4 * i) = leAt (matchBytes (matchAt d v)) (4 * i) 4)
      ∧ RegsOnly d e := by
  intro e
  have he : e = _ := matchSelect_in_range v d h
  rw [he]
  refine ⟨?_, fun i hi => ?_, (regsOnly_wrN _ _ _).trans (regsOnly_wrWords _ _ _ _)⟩
  · rw [rdN_wrWords_below _ _ _ _ _ (by decide), rdN_wrN_same, Nat.mod_eq_of_lt (Nat.lt_trans h (by decide))]
  · rw [rdN_wrWords _ _ _ _ _ hi, Nat.mod_eq_of_lt (leAt_word_lt _ _)]

/-- The peak takes the value written where that is above the present use, and the present use otherwise (R214). -/
theorem matchPeak_sets (v : Nat) (d : Dev) (hv : v < 2 ^ 32) (hd : d.disp.store.length < 2 ^ 32) :
    let e := matchPeak v d
    rdN e 0x4000C = Nat.max v d.disp.store.length ∧ (∀ a, a ≠ 0x4000C → rdN e a = rdN d a)
      ∧ RegsOnly d e :=
  ⟨(rdN_wrN_same _ _ _).trans (Nat.mod_eq_of_lt (Nat.max_lt.2 ⟨hv, hd⟩)), fun _ ha => rdN_wrN_other _ _ _ _ ha,
    regsOnly_wrN _ _ _⟩

/-- Settles O24: each command is its act on the device, said once above for each case. -/
theorem theDispatcherPlacesQueuesAndCompletes : Obligations.TheDispatcherPlacesQueuesAndCompletes := by
  unfold Obligations.TheDispatcherPlacesQueuesAndCompletes
  refine ⟨fun place e w s h => ?_, fun c s ht hr => ?_, fun c it s ht hr hc hb => ?_, fun m c w bl s h => ?_,
    fun m c w bl s hs hw hi hoff => ?_, fun k w place e bl s hw he hoff => ?_, fun k place rest e s hq he => ?_,
    fun k s hq hk => ?_, fun k s h => ?_, fun c w s hw hrun hrep hdelay hitem => ?_,
    fun m v s => ⟨fun ha => ?_, fun ha hl => ?_, fun ha hl => ?_⟩,
    fun m q v s hq => ⟨fun h => ?_, fun hen ha hl => ?_, fun hen ha hl => ?_⟩,
    fun m v s hv => ⟨_, rfl, ?_⟩, fun m v s hv hd => ⟨_, rfl, ?_⟩⟩
  · exact congrArg (becomes s) (dispatchOne_ready place e w s.dev h)
  · exact congrArg (becomes s) (dispatchOne_resumes c s.dev ht hr)
  · exact congrArg (becomes s) (dispatchOne_background c it s.dev ht hr hc hb)
  · exact congrArg (becomes s) (coreDone_mismatch c w bl s.dev h)
  · show becomes s (coreDone c w bl s.dev) = _
    rw [coreDone_item c w bl s.dev hs hw hi, trace_disabled _ _ _ _ _ _ _ _ hoff]
  · show becomes s (controlDone k w s.dev) = _
    rw [controlDone_running k w place e s.dev hw he]
    exact congrArg (becomes s) (freeEntry_untraced place e _ _ hoff)
  · exact congrArg (becomes s) (take_gives k place rest e s.dev hq he)
  · exact congrArg (becomes s) (take_waits k s.dev hq hk)
  · exact congrArg (becomes s) (takeTimeout_waiting k s.dev h)
  · exact congrArg (becomes s) (switchEntry_eligible c w s.dev hw hrun hrep hdelay hitem)
  · exact congrArg (becomes s) ((busWrite_bgSubmit m v s.dev).trans (bgSubmit_no_core v s.dev ha))
  · exact congrArg (becomes s) ((busWrite_bgSubmit m v s.dev).trans (bgSubmit_full v s.dev ha hl))
  · exact congrArg (becomes s) ((busWrite_bgSubmit m v s.dev).trans (bgSubmit_enters v s.dev ha hl))
  · exact congrArg (becomes s) ((busWrite_cqPush m q v s.dev hq).trans (cqPush_refused q v s.dev h))
  · show becomes s (busWrite m (0x40300 + 4 * q) v s.dev) = _
    rw [busWrite_cqPush m q v s.dev hq, cqPush_judged q v s.dev hen ha, if_neg (Nat.not_le.2 hl)]
  · show becomes s (busWrite m (0x40300 + 4 * q) v s.dev) = _
    rw [busWrite_cqPush m q v s.dev hq, cqPush_judged q v s.dev hen ha, if_pos hl]
  · rw [busWrite_matchSelect, Nat.mod_eq_of_lt hv]
    exact matchSelect_shows v s.dev hv
  · rw [busWrite_matchPeak]
    exact matchPeak_sets v s.dev hv hd

end Sys2Proof.Proofs
end

section
/-!
The end of a correction task, level block jobs and the departure of a quantum (R261, R262, R265, R267).
-/

namespace Sys2Proof.Proofs

open Machine Safety Laws

/-! ### Correction tasks -/

/-- The running correction task of a side, an output and a quantum, with its place (R189, R261). -/
def correctionTask (d : Dev) (side j q : Nat) : Option (Nat × MatchEnt) :=
  (entries d).find? (fun e => decide (e.2.side = side) && decide (e.2.kind = 3) && decide (e.2.ref = j)
    && decide (e.2.qn = q) && decide (e.2.state = 3))

/-- Is a correction task of an output and a quantum still held, on either side? -/
def correctionLeft (d : Dev) (j q : Nat) : Bool :=
  (entries d).any (fun x => decide (x.2.kind = 3) && decide (x.2.qn = q) && decide (x.2.ref = j))

/-- A correction task ends: its mark of lateness, its place in Lupin's queue and its entry are freed (R198, R265). -/
def correctionFreed (j q : Nat) (p : Nat × MatchEnt) (d : Dev) : Dev :=
  freeEntry p.1 p.2 (unitByte 3 0) { d with
    lupin := { d.lupin with lateSeen := fput false d.lupin.lateSeen (512 * q + j) false }
    disp := { d.disp with lupinQ := d.disp.lupinQ.filter (· ≠ p.1) } }

/-- A wait for a level result is counted and flagged, and marked for the output and quantum (R265). -/
def levelLateNoted (j q : Nat) (d : Dev) : Dev :=
  let d := setFlag 0xA0004 9 (incCnt 0xA0018 d)
  { d with lupin := { d.lupin with lateSeen := fput false d.lupin.lateSeen (512 * q + j) true } }

theorem lupinEcc_disp (d : Dev) : (lupinEcc d).disp = d.disp := by
  simp [lupinEcc, faultCause, sramUe, pairFault, takeFree]

/-- An error of the convolution store leaves the matching store alone, so the tasks left are the same before and after it. -/
theorem correctionLeft_lupinEcc (d : Dev) (j q : Nat) : correctionLeft (lupinEcc d) j q = correctionLeft d j q := by
  simp only [correctionLeft, entries, lupinEcc_disp]

theorem correctionLeft_ecc (ecc : Bool) (d : Dev) (j q : Nat) :
    correctionLeft (if ecc then lupinEcc d else d) j q = correctionLeft d j q := by
  cases ecc with
  | false => rfl
  | true => exact correctionLeft_lupinEcc d j q

/-- A task that waits for nothing frees its entry, and the block is corrected when no other task of it is left (R261). -/
theorem correctionDone_frees (side j q : Nat) (p : Nat × MatchEnt) (ecc : Bool) (d : Dev)
    (hp : correctionTask d side j q = some p) (hw : levelWait d j q = false) :
    let f := correctionFreed j q p d
    let e := if ecc then lupinEcc f else f
    correctionDone side j q ecc d = if correctionLeft f j q then e else correctOutput j q ecc e := by
  intro f e
  have hleft : correctionLeft e j q = correctionLeft f j q := correctionLeft_ecc ecc f j q
  rw [← hleft, correctionDone, show (entries d).find? _ = some p from hp]
  simp only [hw]
  rfl

/-- A task that waits for a level result keeps its entry, and only its first wait is noted (R265). -/
theorem correctionDone_waits (side j q : Nat) (p : Nat × MatchEnt) (ecc : Bool) (d : Dev)
    (hp : correctionTask d side j q = some p) (hw : levelWait d j q = true) :
    correctionDone side j q ecc d = if fget false d.lupin.lateSeen (512 * q + j) then d else levelLateNoted j q d := by
  rw [correctionDone, show (entries d).find? _ = some p from hp]
  simp only [hw]
  rfl

/-- Without a mirroring partner no digest is made (R398). -/
theorem digestStep_alone (q : Nat) (d : Dev) (h : mirrorsInputs d = false) : digestStep q d = d := if_pos (Or.inl h)

theorem levelLateNoted_pair (j q : Nat) (d : Dev) : (levelLateNoted j q d).pair = d.pair := by
  simp [levelLateNoted]

theorem levelLateNoted_disp (j q : Nat) (d : Dev) : (levelLateNoted j q d).disp = d.disp := by
  simp [levelLateNoted]

theorem levelLateNoted_marks (j q : Nat) (d : Dev) :
    fget false (levelLateNoted j q d).lupin.lateSeen (512 * q + j) = true := by
  simp only [levelLateNoted, fget_fput_same]

theorem satInc_lt (v n : Nat) : satInc v n < 2 ^ 32 := Nat.lt_of_le_of_lt (Nat.min_le_right _ _) (by decide)

theorem rdN_with_lupin (x : LupinSt) (d : Dev) (a : Nat) : rdN { d with lupin := x } a = rdN d a := rfl

/-- The counter of waits counts one more, saturating (R17, R265). -/
theorem levelLateNoted_counts (j q : Nat) (d : Dev) :
    rdN (levelLateNoted j q d) 0xA0018 = satInc (rdN d 0xA0018) 1 := by
  rw [levelLateNoted, rdN_with_lupin, setFlag, rdN_setFld_other _ _ _ _ _ _ (by decide), incCnt, addCnt, rdN_wrN_same, Nat.mod_eq_of_lt (satInc_lt _ _)]

/-- A task that waits is counted late once, and the matching store is kept (R265). -/
theorem correctionEnd_waits_alone (side j q : Nat) (p : Nat × MatchEnt) (ecc : Bool) (d : Dev)
    (hm : mirrorsInputs d = false) (hp : correctionTask d side j q = some p) (hw : levelWait d j q = true) :
    let e := correctionEnd side j q ecc d
    fget false e.lupin.lateSeen (512 * q + j) = true ∧ e.disp = d.disp
      ∧ rdN e 0xA0018 = if fget false d.lupin.lateSeen (512 * q + j) then rdN d 0xA0018 else satInc (rdN d 0xA0018) 1 := by
  intro e
  have he : e = digestStep q (if fget false d.lupin.lateSeen (512 * q + j) then d else levelLateNoted j q d) :=
    congrArg (digestStep q) (correctionDone_waits side j q p ecc d hp hw)
  rw [he]
  by_cases hl : fget false d.lupin.lateSeen (512 * q + j) = true
  · rw [if_pos hl, if_pos hl, digestStep_alone q d hm]
    exact ⟨hl, rfl, rfl⟩
  · have hn : mirrorsInputs (levelLateNoted j q d) = false := by rw [mirrorsInputs, levelLateNoted_pair]; exact hm
    rw [if_neg hl, if_neg hl, digestStep_alone q _ hn]
    exact ⟨levelLateNoted_marks j q d, levelLateNoted_disp j q d, levelLateNoted_counts j q d⟩

/-! ### Level block jobs and departure -/

/-- A job of a level that the output's bank uses joins the end of the queue of its output and level (R265). -/
theorem levelJob_queues (j k b : Nat) (d : Dev) (h1 : 1 ≤ k) (h3 : k ≤ 3)
    (hu : usedParts (corr d j).tapUnits k ≠ 0) :
    levelJob j k b d = { d with lupin := { d.lupin with
      jobs := fput [] d.lupin.jobs (4 * j + k) (fget [] d.lupin.jobs (4 * j + k) ++ [b]) } } := by
  have hruns : ¬ (k = 0 ∨ k > 3 ∨ usedParts (corr d j).tapUnits k = 0) := by omega
  exact if_neg hruns

/-- The oldest job of a queue finishes and the rest stay, with an error of the convolution store recorded after it (R265,
R267; the order is the model's reading, log 110). -/
theorem levelJobDone_oldest (j k b : Nat) (rest : List Nat) (ecc : Bool) (d : Dev)
    (h : fget [] d.lupin.jobs (4 * j + k) = b :: rest) :
    let e := { d with lupin := { d.lupin with jobs := fput [] d.lupin.jobs (4 * j + k) rest } }
    levelJobDone j k ecc d = if ecc then lupinEcc e else e := by
  rw [levelJobDone, h]
  rfl

/-- At a departure boundary not met before, the quantum three back departs for every output (R210, R262). -/
theorem departure_departs (d : Dev) (hr : renderRuns d = true) (hf : d.geom.fresh = false) (ht : d.time.counting = true)
    (hn : d.net.departFirst + 3 ≤ d.time.qn) (hd : d.route.departQn ≠ d.time.qn + 1) :
    let n := d.time.qn
    departure d = forN 512 (departOutput (n - 3)) { d with
      net := { d.net with departNext := n - 2 }
      route := { d.route with departQn := n + 1, departing := [], departUnset := [] }
      disp := { d.disp with suppressed := d.disp.suppressed.filter (fun e => n ≤ e.1 + 64) } } := by
  have hdue : ¬ (renderRuns d = false ∨ d.geom.fresh = true ∨ d.time.counting = false
      ∨ d.time.qn < d.net.departFirst + 3 ∨ d.route.departQn = d.time.qn + 1) := by
    simp [hr, hf, ht, hn, hd]
  exact if_neg hdue

/-- Settles O32: each command is its act on the device, said once above for each case. -/
theorem correctionsFinishAndDepart : Obligations.CorrectionsFinishAndDepart := by
  unfold Obligations.CorrectionsFinishAndDepart
  refine ⟨fun side j q p ecc s hp hw => ?_, fun side j q p ecc s hm hp hw => ?_, fun j k b s h1 h3 hu => ?_,
    fun j k b rest s h => ⟨?_, ?_⟩, fun s hr hf ht hn hd => ?_⟩
  · exact congrArg (fun e => becomes s (digestStep q e)) (correctionDone_frees side j q p ecc s.dev hp hw)
  · exact ⟨_, rfl, correctionEnd_waits_alone side j q p ecc s.dev hm hp hw⟩
  · exact congrArg (becomes s) (levelJob_queues j k b s.dev h1 h3 hu)
  · exact congrArg (becomes s) (levelJobDone_oldest j k b rest false s.dev h)
  · show becomes s (levelJobDone j k true s.dev) = _
    rw [levelJobDone_oldest j k b rest true s.dev h, if_pos rfl, lupinEcc]
  · exact congrArg (becomes s) (departure_departs s.dev hr hf ht hn hd)

end Sys2Proof.Proofs
end

section
/-!
Decimators and capture streams: stuck sources, configuration, coefficient banks, samples and blocks (R291 to R303).
-/

namespace Sys2Proof.Proofs

open Machine Safety Laws

/-! ### The records of channels and streams -/

theorem decCh_putDec_same (c : Nat) (x : DecCh) (d : Dev) : decCh (putDec c x d) c = x := fget_fput_same _ _ _ _

theorem capSt_putCap_same (n : Nat) (x : Capture) (d : Dev) : capSt (putCap n x d) n = x := fget_fput_same _ _ _ _

theorem capSt_of_dec {d e : Dev} (h : e.dec = d.dec) (n : Nat) : capSt e n = capSt d n := by
  rw [capSt, capSt, h]

/-! ### Stuck sources (R291) -/

/-- The device after a source is marked stuck from its present clock on, shown and reported. -/
def sourceReported (src : Nat) (d : Dev) : Dev :=
  raiseEvent evDecSrcStuck (leBytes 1 src) (setFlag 0x160004 10 { d with
    dec := { d.dec with stuck := fput 0 d.dec.stuck src (modClock d (fMod d src) + 1) } })

theorem srcHeld_eq_false (d : Dev) (src : Nat) (h : fget 0 d.dec.stuck src = 0) : srcHeld d src = false := by
  simp [srcHeld, h]

theorem srcHeld_sourceReported (src : Nat) (d : Dev) : srcHeld (sourceReported src d) src = true := by
  simp [srcHeld, sourceReported, fget_fput_same]

/-- A source of the device that is in use and not yet stuck is marked. -/
theorem srcStuck_reports (driveRuns : Nat → Bool) (src : Nat) (d : Dev) (hs : src < 0x70) (hn : srcHeld d src = false)
    (hi : sourceIdle driveRuns src = false) : srcStuck driveRuns src d = sourceReported src d :=
  if_neg (by simp [hs, hn, hi])

/-- A sense source latches its channel where the channel switches or has latched at this instant (R318, R320). -/
theorem senseFault_eq (src : Nat) (d : Dev) :
    senseFault src d = if 0x48 ≤ src ∧ src < 0x68 ∧
        (drvSwitches d ((src - 0x48) % 16) = true ∨ latchedNow d ((src - 0x48) % 16) = true) then
      drvLatch ((src - 0x48) % 16) 8 d else d := by
  by_cases hsense : 0x48 ≤ src ∧ src < 0x68
  · simp [senseFault, hsense]
  · have hnone : ¬ (0x48 ≤ src ∧ src < 0x68 ∧
        (drvSwitches d ((src - 0x48) % 16) = true ∨ latchedNow d ((src - 0x48) % 16) = true)) :=
      fun h => hsense ⟨h.1, h.2.1⟩
    rw [senseFault, if_neg hsense, if_neg hnone]

theorem sourceStuck_reports (src : Nat) (d : Dev) (hs : src < 0x70) (hn : fget 0 d.dec.stuck src = 0)
    (hi : sourceIdle (drvChRuns d) src = false) :
    sourceStuck src d = transAdvance (senseFault src (sourceReported src d)) := by
  have hheld := srcHeld_eq_false d src hn
  rw [sourceStuck, srcStuck_reports _ src d hs hheld hi]
  exact if_pos ⟨hheld, srcHeld_sourceReported src d⟩

/-- The channels of a source that moves again restart. -/
theorem srcOk_restarts (src : Nat) (d : Dev) (h : fget 0 d.dec.stuck src ≠ 0) :
    srcOk src d = forN 128 (fun c d => if chOn d c && decide (cfgSource (chCfg d c) = src) then chStartNow c d else d)
      (raiseEvent evDecSrcOk [] { d with dec := { d.dec with stuck := fput 0 d.dec.stuck src 0 } }) :=
  if_neg (by simp [srcHeld, h])

/-! ### Configuration and exchange of banks (R298, R299) -/

theorem decConfigComplete_delivered (c cid q : Nat) (d : Dev) (ha : (decCh d c).applied = some (cid, q))
    (hd : (decCh d c).delivered = true) :
    decConfigComplete c d = complete cid cDone 0 q (putDec c { decCh d c with applied := none } d) := by
  simp only [decConfigComplete, ha, hd, if_true]

theorem decSwapped_due (c : Nat) (r : DecSwap) (d : Dev) (hr : (decCh d c).swap = some r) (hq : r.applyQn ≤ qnNow d)
    (ht : d.time.counting = true) (hon : chOn d c = true) (hruns : decRuns d = true) :
    decSwapped c d = complete r.cid cDone 0 r.applyQn (raiseEvent evDecSwapped [] (incCnt 0x16000C
      (putDec c { decCh d c with
        activeB := !(decCh d c).activeB
        swapAt := clockOfQn d (fMod d (cfgSource (chCfg d c))) r.applyQn, written := false, swap := none } d))) := by
  have hdue : r.applyQn ≤ qnNow d ∧ d.time.counting = true ∧ chOn d c = true ∧ decRuns d = true := ⟨hq, ht, hon, hruns⟩
  simp only [decSwapped, hr, if_pos hdue]

/-! ### Writes of the decimators' registers -/

/-- A write of a register whose lock is open and that has an act is that act. -/
theorem busWrite_act (m : Master) (a v : Nat) (l : RegLock) (d e : Dev)
    (hrow : (regRow a).map (fun r => r.lock) = some l) (hopen : lockOpen d m l = true)
    (hact : ∀ r, regAct m r a v d = some e) : busWrite m a v d = e := by
  obtain ⟨r, hr, hlock⟩ := Option.map_eq_some_iff.1 hrow
  have haligned : ¬ a % 4 ≠ 0 := fun hodd => by simp [regRow, hodd] at hr
  simp [busWrite, haligned, hr, hlock, hopen, hact]

/-- A write of a register that only CONFIG opens is refused in any other mode (R38). -/
theorem busWrite_config_locked (m : Master) (a v : Nat) (d : Dev)
    (hrow : (regRow a).map (fun r => r.lock) = some .config) (hmode : d.sys.mode ≠ .config) :
    busWrite m a v d = lockedWrite a d := by
  obtain ⟨r, hr, hlock⟩ := Option.map_eq_some_iff.1 hrow
  have haligned : ¬ a % 4 ≠ 0 := fun hodd => by simp [regRow, hodd] at hr
  simp [busWrite, haligned, hr, hlock, lockOpen, hmode, lockRefused]

theorem busWrite_coefData (m : Master) (v : Nat) (d : Dev) : busWrite m 0x160044 v d = coefWrite v d :=
  busWrite_act m _ v .any d _ rfl rfl (fun _ => rfl)

/-- The rows of DEC_CH_CFG are open in CONFIG alone. -/
theorem decA_lock : ∀ c, c < 128 → (regRow (decA c)).map (fun r => r.lock) = some .config := by decide

theorem busWrite_decChCfg (m : Master) (c v : Nat) (d : Dev) (hc : c < 128) (hmode : d.sys.mode = .config) :
    busWrite m (decA c) v d = decChWrite c 0 v d := by
  refine busWrite_act m _ v .config d _ (decA_lock c hc) (by simp [lockOpen, hmode]) (fun r => ?_)
  have hblock : decA c / 65536 = 0x16 := by rw [decA]; omega
  obtain ⟨hchannel, hwhich⟩ : (decA c - 0x161000) / 32 = c ∧ decA c % 32 / 4 = 0 := by rw [decA]; omega
  obtain ⟨hctrl, hdata⟩ : decA c ≠ 0x160000 ∧ decA c ≠ 0x160044 := by rw [decA]; omega
  have hword : 0x161000 ≤ decA c ∧ decA c < 0x162000 ∧ decA c % 32 < 12 := by rw [decA]; omega
  simp only [regAct, hblock]
  rw [actDec, if_neg hctrl, if_neg hdata, if_pos hword, hchannel, hwhich]

/-- A configuration word within the ranges and the load takes effect where it changes anything (R292, R297). -/
theorem decChWrite_cfg (c v : Nat) (d : Dev) (hmode : d.sys.mode = .config) :
    let rate := rdN d (decA c + 4)
    let phase := rdN d (decA c + 8)
    decChWrite c 0 v d = if decWordsOk d c (v % 2 ^ 30) rate phase then
        (if v % 2 ^ 30 = chCfg d c then d else chApply c (v % 2 ^ 30) rate phase none d)
      else setFlag 0x160004 8 d := by
  have hcfg : bits v 29 0 = v % 2 ^ 30 := rfl
  have hconfig : ¬ d.sys.mode ≠ .config := not_not_intro hmode
  simp [decChWrite, hconfig, hcfg, decRefused]

/-! ### Coefficient banks (R294) -/

/-- A bank of a channel: A, or with `b` B. -/
def coefBank (x : DecCh) (b : Bool) : FMap Int := if b then x.bankB else x.bankA

/-- The record of a channel with a coefficient stored in a bank. -/
def coefStored (b : Bool) (i : Nat) (k : Int) (x : DecCh) : DecCh :=
  if b then { x with bankB := fput 0 x.bankB i k, written := true } else { x with bankA := fput 0 x.bankA i k, written := true }

theorem coefStored_written (b : Bool) (i : Nat) (k : Int) (x : DecCh) : (coefStored b i k x).written = true := by
  cases b with
  | false => rfl
  | true => rfl

theorem coefBank_coefStored_same (b : Bool) (i : Nat) (k : Int) (x : DecCh) :
    coefBank (coefStored b i k x) b = fput 0 (coefBank x b) i k := by
  cases b with
  | false => rfl
  | true => rfl

theorem coefBank_coefStored_other (b : Bool) (i : Nat) (k : Int) (x : DecCh) :
    coefBank (coefStored b i k x) (!b) = coefBank x (!b) := by
  cases b with
  | false => rfl
  | true => rfl

theorem coefWrite_refused (v : Nat) (d : Dev)
    (h : (rdN d 0x160040).testBit 8 = (decCh d (bits (rdN d 0x160040) 22 16)).activeB) :
    coefWrite v d = setFlag 0x160004 8 d := if_pos (beq_iff_eq.2 h)

/-- A coefficient goes into the selected bank while that is not the active one, and the selected tap advances. -/
theorem coefWrite_stores (v : Nat) (d : Dev) :
    let sel := rdN d 0x160040
    let c := bits sel 22 16
    sel.testBit 8 = (!(decCh d c).activeB) →
    coefWrite v d = putDec c (coefStored (sel.testBit 8) (bits sel 5 0) (sext 32 v) (decCh d c))
      (setFld 0x160040 5 0 (bits sel 5 0 + 1) d) := by
  intro sel c h
  have hfree : ¬ (sel.testBit 8 == (decCh d c).activeB) = true := by simp [h]
  exact if_neg hfree

/-- The low field of a word reads as the low bits of the value written to it. -/
theorem fld_setFld_low (a hi x : Nat) (d : Dev) (h : hi < 32) : fld (setFld a hi 0 x d) a hi 0 = x % 2 ^ (hi + 1) := by
  refine Nat.eq_of_testBit_eq (fun j => ?_)
  rw [fld, rdN_setFld _ _ _ _ _ (Nat.zero_le hi) h, bits, Nat.shiftRight_zero, Nat.testBit_mod_two_pow,
    testBit_setBits _ _ _ _ _ (Nat.zero_le hi), Nat.testBit_mod_two_pow]
  by_cases hj : j ≤ hi
  · simp [hj, Nat.lt_succ_of_le hj]
  · simp [show ¬ j < hi + 1 by omega]

/-- What a stored coefficient leaves: it is read back, every other coefficient and the active bank are kept. -/
theorem coefWrite_reads (v : Nat) (d : Dev) :
    let sel := rdN d 0x160040
    let c := bits sel 22 16
    let e := coefWrite v d
    sel.testBit 8 = (!(decCh d c).activeB) →
    (decCh e c).written = true
      ∧ fget 0 (coefBank (decCh e c) (sel.testBit 8)) (bits sel 5 0) = sext 32 v
      ∧ (∀ k, k ≠ bits sel 5 0 → fget 0 (coefBank (decCh e c) (sel.testBit 8)) k
          = fget 0 (coefBank (decCh d c) (sel.testBit 8)) k)
      ∧ coefBank (decCh e c) (decCh d c).activeB = coefBank (decCh d c) (decCh d c).activeB
      ∧ fld e 0x160040 5 0 = (bits sel 5 0 + 1) % 64 := by
  intro sel c e h
  have hactive : (decCh d c).activeB = !sel.testBit 8 := by rw [h, Bool.not_not]
  have he : e = _ := coefWrite_stores v d h
  rw [he, decCh_putDec_same, coefBank_coefStored_same, hactive, coefBank_coefStored_other]
  exact ⟨coefStored_written _ _ _ _, fget_fput_same _ _ _ _, fun k hk => fget_fput_other _ _ _ _ _ hk, rfl,
    fld_setFld_low 0x160040 5 _ d (by decide)⟩

/-! ### Samples (R293 to R297) -/

/-- Saturations counted in one of the two counters of the chain, and shown. -/
def satsCounted (a n : Nat) (d : Dev) : Dev := if n = 0 then d else setFlag 0x160004 9 (addCnt a n d)

/-- A running channel delivers the next sample of its chain: the register, the routing input, and its record. -/
theorem sampleDelivered_runs (driveRuns : Nat → Bool) (c : Nat) (given : List Bool) (d : Dev) (hon : chOn d c = true)
    (hruns : decRuns d = true) (hstarted : (decCh d c).started = true) :
    let x := decCh d c
    let src := cfgSource (chCfg d c)
    let idle := sourceIdle driveRuns src
    let n := clockOf d c x.m + 1 - x.clk
    let r := chClocks (chCfg d c) (chBits idle (chHeld d c) (fget 0 d.dec.stuck src) x.clk n given) x
    let y := resampleOut d c x.m r.1.u
    let e := wrN (decA c + 0x14) (wrapN 32 y.1) (satsCounted 0x160024 (r.2.2 + y.2) (satsCounted 0x160020 r.2.1 d))
    let f := { e with route := { e.route with inputs := fput 0 e.route.inputs (0x200 + c) y.1 } }
    sampleDelivered driveRuns c given d = putDec c { r.1 with
      m := x.m + 1, settle := x.settle - 1, flagged := idle || decide (0 < x.settle), delivered := true
      last := if pdmHalted f src then x.last else given.getLastD x.last
      recent := fput (0, 0, false) x.recent (x.m % 64) (x.m + 1, y.1, idle || decide (0 < x.settle)) } f :=
  if_neg (by simp [hon, hruns, hstarted])

theorem wrapN_lt (w : Nat) (i : Int) : wrapN w i < 2 ^ w := by
  have hpos : (0 : Int) < ((2 ^ w : Nat) : Int) := Int.natCast_pos.2 (Nat.two_pow_pos w)
  have hlow := Int.emod_nonneg i (Int.ne_of_gt hpos)
  have hhigh := Int.emod_lt_of_pos i hpos
  rw [wrapN]
  omega

/-- What `e` shows of the sample that a channel computes in `d`: the register, the routing input, and the channel's record. -/
def SampleShown (driveRuns : Nat → Bool) (c : Nat) (given : List Bool) (d e : Dev) : Prop :=
  let x := decCh d c
  let src := cfgSource (chCfg d c)
  let idle := sourceIdle driveRuns src
  let n := clockOf d c x.m + 1 - x.clk
  let r := chClocks (chCfg d c) (chBits idle (chHeld d c) (fget 0 d.dec.stuck src) x.clk n given) x
  let y := resampleOut d c x.m r.1.u
  rdN e (decA c + 0x14) = wrapN 32 y.1 ∧ fget 0 e.route.inputs (0x200 + c) = y.1
    ∧ (decCh e c).m = x.m + 1 ∧ (decCh e c).clk = r.1.clk ∧ (decCh e c).settle = x.settle - 1
    ∧ (decCh e c).flagged = (idle || decide (0 < x.settle)) ∧ (decCh e c).delivered = true

theorem sampleDelivered_shows (driveRuns : Nat → Bool) (c : Nat) (given : List Bool) (d : Dev) (hon : chOn d c = true)
    (hruns : decRuns d = true) (hstarted : (decCh d c).started = true) :
    SampleShown driveRuns c given d (sampleDelivered driveRuns c given d) := by
  rw [sampleDelivered_runs driveRuns c given d hon hruns hstarted, SampleShown, decCh_putDec_same]
  refine ⟨?_, fget_fput_same _ _ _ _, rfl, rfl, rfl, rfl, rfl⟩
  exact (rdN_wrN_same _ _ _).trans (Nat.mod_eq_of_lt (wrapN_lt 32 _))

/-! ### Microphones that hear a sample (R282) -/

/-- `e` has the channels, the routing inputs and the block's registers of `d`. -/
structure Hears (d e : Dev) : Prop where
  dec : e.dec = d.dec
  route : e.route = d.route
  regs : ∀ a, 0x160000 ≤ a → rdN e a = rdN d a

theorem Hears.refl (d : Dev) : Hears d d := ⟨rfl, rfl, fun _ _ => rfl⟩

theorem Hears.trans {a b c : Dev} (h : Hears a b) (k : Hears b c) : Hears a c :=
  ⟨k.dec.trans h.dec, k.route.trans h.route, fun x hx => (k.regs x hx).trans (h.regs x hx)⟩

theorem hears_survey (x : SurveySt) (d : Dev) : Hears d { d with survey := x } := ⟨rfl, rfl, fun _ _ => rfl⟩

theorem hears_setFlag (a i : Nat) (d : Dev) (h : a < 0x160000) : Hears d (setFlag a i d) :=
  ⟨setFlag_dec a i d, setFlag_route a i d, fun x hx => rdN_setFld_other _ _ _ _ _ _ (by omega)⟩

theorem hears_raiseEvent (code : Nat) (args : Bytes) (d : Dev) : Hears d (raiseEvent code args d) :=
  ⟨raiseEvent_dec code args d, raiseEvent_route code args d, fun x hx => rdN_raiseEvent code args d x (by omega)⟩

theorem hears_micOut (m : Nat) (x : MicPeriod) (unsettled : Bool) (d : Dev) : Hears d (micOut m x unsettled d) := by
  unfold micOut
  exact ((hears_survey _ d).trans (hears_setFlag _ _ _ (by decide))).trans (hears_raiseEvent _ _ _)

theorem Hears.ite {d a b : Dev} (p : Prop) [Decidable p] (ha : Hears d a) (hb : Hears d b) :
    Hears d (if p then a else b) := by
  split
  · exact ha
  · exact hb

theorem hears_micHear (m rate : Nat) (x : Int) (flag : Bool) (d : Dev) : Hears d (micHear m rate x flag d) := by
  unfold micHear
  dsimp only
  exact .ite _ (Hears.refl d) (.ite _ (hears_micOut _ _ _ d) (.ite _ (hears_micOut _ _ _ d) (hears_survey _ d)))

/-- The microphones that a channel serves change none of what its sample is read from. -/
theorem hears_channelDelivered (driveRuns : Nat → Bool) (c : Nat) (given : List Bool) (d : Dev) :
    Hears (sampleDelivered driveRuns c given d) (channelDelivered driveRuns c given d) := by
  unfold channelDelivered
  generalize sampleDelivered driveRuns c given d = e
  dsimp only
  split
  · exact Hears.refl e
  · refine forL_induct Hears Hears.refl Hears.trans _ (fun m f => ?_) _ e
    exact hears_micHear m _ _ _ f

theorem Hears.decCh {d e : Dev} (h : Hears d e) (c : Nat) : decCh e c = decCh d c := by
  rw [Machine.decCh, Machine.decCh, h.dec]

theorem Hears.latest {d e : Dev} (h : Hears d e) (c : Nat) : rdN e (decA c + 0x14) = rdN d (decA c + 0x14) :=
  h.regs _ (by rw [decA]; omega)

theorem channelDelivered_shows (driveRuns : Nat → Bool) (c : Nat) (given : List Bool) (d : Dev) (hon : chOn d c = true)
    (hruns : decRuns d = true) (hstarted : (decCh d c).started = true) :
    SampleShown driveRuns c given d (channelDelivered driveRuns c given d) := by
  have hears := hears_channelDelivered driveRuns c given d
  rw [SampleShown, hears.latest, hears.route, hears.decCh]
  exact sampleDelivered_shows driveRuns c given d hon hruns hstarted

/-! ### The block that is due (R301) -/

/-- The samples that every running member of a stream has delivered. -/
def capDone (d : Dev) (n : Nat) : Nat :=
  (capLive d n).foldl (fun k c => min k (decCh d c).m) ((decCh d ((capLive d n).headD 0)).m)

/-- Every running member holds the last sample of the block at `m`. -/
def CapWhole (d : Dev) (n m : Nat) : Prop :=
  ∀ c ∈ capLive d n, (fget (0, 0, false) (decCh d c).recent ((m + 31) % 64)).1 = m + 32

theorem capFresh_iff (d : Dev) (n m : Nat) : capFresh d n m = true ↔ CapWhole d n m := by
  simp [capFresh, CapWhole]

theorem capDue_eq (d : Dev) (n : Nat) :
    let k := capDone d n / 32
    capDue d n = if (capSt d n).next ≠ 0 then
        (if (capSt d n).next + 32 ≤ 32 * k then some (capSt d n).next else none)
      else if 2 ≤ k ∧ capFresh d n (32 * (k - 2)) = true then some (32 * (k - 2))
      else if 1 ≤ k ∧ capFresh d n (32 * (k - 1)) = true then some (32 * (k - 1))
      else none := rfl

/-- After a block or a drop, the block that follows is due once every member has passed it. -/
theorem capDue_next (d : Dev) (n m : Nat) (hm : m % 32 = 0) (hd : m + 32 ≤ capDone d n) (hnext : (capSt d n).next = m)
    (h0 : m ≠ 0) : capDue d n = some m := by
  have hpassed : m + 32 ≤ 32 * (capDone d n / 32) := by omega
  rw [capDue_eq, hnext]
  simp only [ne_eq, h0, not_false_eq_true, if_true, hpassed]

/-- After a restart, the older of the last two blocks that every member still holds is due. -/
theorem capDue_restart (d : Dev) (n m : Nat) (hm : m % 32 = 0) (hd : m + 32 ≤ capDone d n) (hnext : (capSt d n).next = 0)
    (hwhole : CapWhole d n m) (hlast : capDone d n < m + 96)
    (hfirst : m + 64 ≤ capDone d n ∨ m = 0 ∨ ¬ CapWhole d n (m - 32)) : capDue d n = some m := by
  have hfresh := (capFresh_iff d n m).2 hwhole
  rw [capDue_eq, hnext]
  simp only [ne_eq, not_true_eq_false, if_false]
  by_cases htwo : m + 64 ≤ capDone d n
  · have hplace : 32 * (capDone d n / 32 - 2) = m := by omega
    rw [hplace, if_pos ⟨by omega, hfresh⟩]
  · have hplace : 32 * (capDone d n / 32 - 1) = m := by omega
    have hstale : ¬ (2 ≤ capDone d n / 32 ∧ capFresh d n (32 * (capDone d n / 32 - 2)) = true) := by
      rintro ⟨htwoBlocks, hold⟩
      have hearlier : 32 * (capDone d n / 32 - 2) = m - 32 := by omega
      rw [hearlier, capFresh_iff] at hold
      exact (hfirst.resolve_left htwo).elim (fun h => by omega) (fun h => h hold)
    rw [if_neg hstale, hplace, if_pos ⟨by omega, hfresh⟩]

/-! ### Blocks (R301, R302, R421) -/

/-- The device that goes on to the sample after the block at `m`. -/
def capPassed (n m : Nat) (d : Dev) : Dev := putCap n { capSt d n with next := m + 32 } d

/-- The block at `m` of a stream is due, every running member still holds its samples, and no sample saturates in it. -/
structure BlockDue (n m : Nat) (d : Dev) : Prop where
  on : capOn d n = true
  live : capLive d n ≠ []
  due : capDue d n = some m
  held : ∀ c ∈ capLive d n, (decCh d c).m ≤ m + 64
  unsaturated : (capBlock d n m).2 = 0

theorem capSt_capPassed (n m : Nat) (d : Dev) : capSt (capPassed n m d) n = { capSt d n with next := m + 32 } :=
  capSt_putCap_same _ _ _

/-- A stream writes the block that is due: to the host, or into its buffer, which drops it when it is full. -/
theorem captureWrite_due (n m : Nat) (es : List Bytes) (err : Bool) (d : Dev) (h : BlockDue n m d) :
    let a := 0x160100 + 0x40 * n
    let b := (capBlock d n m).1
    let wr := rdN d (a + 0x20)
    let e := memWrite (addr64 d (a + 0x14) + wr % rdN d (a + 0x1C) * b.length) b (capPassed n m d)
    captureWrite n es err d = if bitAt d a 1 then capToHost n b err es (capPassed n m d)
      else if rdN d (a + 0x1C) ≤ subMod 32 wr (rdN d (a + 0x24)) then capDrop n (capPassed n m d)
      else wrN (a + 0x20) (wr + 1) (putCap n { capSt e n with
        seq := ((capSt e n).seq + 1) % 65536, gap := false } e) := by
  have hidle : ¬ (capOn d n = false ∨ capLive d n = []) := by simp [h.on, h.live]
  have hlost : ¬ (capLive d n).any (fun c => decide (m + 64 < (decCh d c).m)) = true := by simpa using h.held
  rw [captureWrite, if_neg hidle, h.due]
  dsimp only
  rw [if_neg hlost, if_pos h.unsaturated]
  rfl

theorem captureWrite_full (n m : Nat) (es : List Bytes) (err : Bool) (d : Dev) (h : BlockDue n m d) :
    let a := 0x160100 + 0x40 * n
    bitAt d a 1 = false → rdN d (a + 0x1C) ≤ subMod 32 (rdN d (a + 0x20)) (rdN d (a + 0x24)) →
    captureWrite n es err d = capDrop n (capPassed n m d) := by
  intro a hown hfull
  rw [captureWrite_due n m es err d h, hown]
  exact if_pos hfull

theorem memWrite_dec (a : Nat) (bs : Bytes) (d : Dev) : (memWrite a bs d).dec = d.dec := by
  rw [memWrite_frame]

theorem captureWrite_stores (n m : Nat) (es : List Bytes) (err : Bool) (d : Dev) (h : BlockDue n m d) :
    let a := 0x160100 + 0x40 * n
    let b := (capBlock d n m).1
    let wr := rdN d (a + 0x20)
    bitAt d a 1 = false → subMod 32 wr (rdN d (a + 0x24)) < rdN d (a + 0x1C) →
    captureWrite n es err d = wrN (a + 0x20) (wr + 1) (putCap n { capSt d n with
      next := m + 32, seq := ((capSt d n).seq + 1) % 65536, gap := false }
        (memWrite (addr64 d (a + 0x14) + wr % rdN d (a + 0x1C) * b.length) b (capPassed n m d))) := by
  intro a b wr hown hroom
  rw [captureWrite_due n m es err d h, hown]
  refine (if_neg (Nat.not_le.2 hroom)).trans ?_
  rw [capSt_of_dec (memWrite_dec _ _ _) n, capSt_capPassed]

/-- A block goes into the oldest entry that the host posted, where that can take it; the entry ends with its last block
(R421; the status is the model's reading, log 64). -/
theorem capToHost_posted (n : Nat) (b e : Bytes) (rest : List Bytes) (d : Dev)
    (hring : ringRunning d (65 + n) = true ∨ (0 < (capSt d n).placed ∧ ringHalted d (65 + n) = false))
    (hposted : ringHeld d (65 + n) ≠ 0) (hreserved : entryReserved false false e = true)
    (hok : entryOk false (leAt e 14 1 * b.length) e = true) :
    let x := capSt d n
    let full := decide (x.placed + 1 ≥ leAt e 14 1)
    let f := putCap n { x with
      seq := (x.seq + 1) % 65536, gap := false, placed := if full then 0 else x.placed + 1
      partly := x.partly && !full } (emit (.hostWrite (leAt e 0 8 + x.placed * b.length) b) d)
    capToHost n b false (e :: rest) d = if full then entryFinish (65 + n) (if x.partly then 2 else 1) f else f := by
  have hopen : ¬ ((ringRunning d (65 + n) = false ∧
      (decide (0 < (capSt d n).placed) && !ringHalted d (65 + n)) = false) ∨ ringHeld d (65 + n) = 0) := by
    rintro (⟨hstopped, hbegun⟩ | hnone)
    · rcases hring with hrun | ⟨hplaced, hgoes⟩
      · simp [hrun] at hstopped
      · simp [hplaced, hgoes] at hbegun
    · exact hposted hnone
  have hgood : ¬ ((capSt d n).placed = 0 ∧
      (entryReserved false false e = false ∨ entryOk false (leAt e 14 1 * b.length) e = false)) := by
    simp [hreserved, hok]
  rw [capToHost]
  dsimp only
  rw [if_neg hopen, if_neg Bool.false_ne_true, if_neg hgood]

theorem captureWrite_posted (n m : Nat) (e : Bytes) (rest : List Bytes) (d : Dev) (h : BlockDue n m d)
    (hhost : bitAt d (0x160100 + 0x40 * n) 1 = true)
    (hring : ringRunning d (65 + n) = true ∨ (0 < (capSt d n).placed ∧ ringHalted d (65 + n) = false))
    (hposted : ringHeld d (65 + n) ≠ 0) (hreserved : entryReserved false false e = true)
    (hok : entryOk false (leAt e 14 1 * (capBlock d n m).1.length) e = true) :
    let b := (capBlock d n m).1
    let x := capSt d n
    let full := decide (x.placed + 1 ≥ leAt e 14 1)
    let f := putCap n { x with
      next := m + 32, seq := (x.seq + 1) % 65536, gap := false, placed := if full then 0 else x.placed + 1
      partly := x.partly && !full } (emit (.hostWrite (leAt e 0 8 + x.placed * b.length) b) (capPassed n m d))
    captureWrite n (e :: rest) false d = if full then entryFinish (65 + n) (if x.partly then 2 else 1) f else f := by
  have hring' : ringRunning (capPassed n m d) (65 + n) = true
      ∨ (0 < (capSt (capPassed n m d) n).placed ∧ ringHalted (capPassed n m d) (65 + n) = false) := by
    rw [capSt_capPassed]
    exact hring
  have hpost := capToHost_posted n (capBlock d n m).1 e rest (capPassed n m d) hring' hposted hreserved hok
  rw [capSt_capPassed] at hpost
  rw [captureWrite_due n m _ _ d h]
  exact (if_pos hhost).trans hpost

/-- Settles O34: each command is its act on the device, said once above for each case of a source, a bank, a sample and a
block. -/
theorem decimatorChannelsAreConfiguredAndDeliver : Obligations.DecimatorChannelsAreConfiguredAndDeliver := by
  unfold Obligations.DecimatorChannelsAreConfiguredAndDeliver
  refine ⟨fun src s hs hn hi => ?_, fun src s h => ?_, fun c cid q s ha hd => ?_, fun c r s hr hq ht hon hruns => ?_,
    fun m v s => ⟨fun h => ?_, fun h => ⟨_, rfl, ?_⟩⟩,
    fun m c v s hc _ => ⟨fun hmode => ?_, fun hmode hbad => ?_, fun hmode hok => ?_⟩,
    fun c given s _ hon hruns hstarted => ⟨_, rfl, ?_⟩,
    fun n m es rest e err s _ hon hlive hm hd hnext hheld => ?_⟩
  · show becomes s (sourceStuck src s.dev) = _
    rw [sourceStuck_reports src s.dev hs hn hi, senseFault_eq]
    rfl
  · exact congrArg (becomes s) (srcOk_restarts src s.dev h)
  · exact congrArg (becomes s) (decConfigComplete_delivered c cid q s.dev ha hd)
  · exact congrArg (becomes s) (decSwapped_due c r s.dev hr hq ht hon hruns)
  · exact congrArg (becomes s) ((busWrite_coefData m v s.dev).trans (coefWrite_refused v s.dev h))
  · rw [busWrite_coefData]
    exact coefWrite_reads v s.dev h
  · exact congrArg (becomes s) (busWrite_config_locked m (decA c) v s.dev (decA_lock c hc) hmode)
  · show becomes s (busWrite m (decA c) v s.dev) = _
    rw [busWrite_decChCfg m c v s.dev hc hmode, decChWrite_cfg c v s.dev hmode, if_neg (Bool.eq_false_iff.1 hbad)]
  · show becomes s (busWrite m (decA c) v s.dev) = _
    rw [busWrite_decChCfg m c v s.dev hc hmode, decChWrite_cfg c v s.dev hmode, if_pos hok]
  · exact channelDelivered_shows (drvChRuns s.dev) c given s.dev hon hruns hstarted
  · have hdue : capDue s.dev n = some m := by
      rcases hnext with ⟨hafter, hpos⟩ | ⟨hrestart, hwhole, hlast, hfirst⟩
      · exact capDue_next s.dev n m hm hd hafter hpos
      · exact capDue_restart s.dev n m hm hd hrestart hwhole hlast hfirst
    intro a b wr hsat d
    have hblock : BlockDue n m s.dev := ⟨hon, hlive, hdue, hheld, hsat⟩
    refine ⟨fun hown hfull => ?_, fun hown hroom => ?_, fun hhost hes herr hring hposted hreserved hok => ?_⟩
    · exact congrArg (becomes s) (captureWrite_full n m es err s.dev hblock hown hfull)
    · exact congrArg (becomes s) (captureWrite_stores n m es err s.dev hblock hown hroom)
    · subst hes herr
      exact congrArg (becomes s) (captureWrite_posted n m e rest s.dev hblock hhost hring hposted
        hreserved hok)

end Sys2Proof.Proofs
end

section
/-!
Latches and retries of direct drive (10_direct_drive.md, R313, R317 to R321).
-/

namespace Sys2Proof.Proofs

open Machine Safety Laws

/-! ### Bridges and records -/

theorem rdN_of_regs {d e : Dev} (h : e.regs = d.regs) (a : Nat) : rdN e a = rdN d a := by
  rw [rdN, rdN, reg, reg, h]

theorem drvTopo_of_regs {d e : Dev} (h : e.regs = d.regs) (c : Nat) : drvTopo e c = drvTopo d c := by
  rw [drvTopo, drvTopo, fld, fld, rdN_of_regs h]

theorem drvLead_of_regs {d e : Dev} (h : e.regs = d.regs) (c : Nat) : drvLead e c = drvLead d c := by
  rw [drvLead, drvLead, drvTopo_of_regs h]

theorem drvMembers_of_regs {d e : Dev} (h : e.regs = d.regs) (c : Nat) : drvMembers e c = drvMembers d c := by
  rw [drvMembers, drvMembers, drvLead_of_regs h, drvTopo_of_regs h]

theorem drvCh_updDrv_other (c i : Nat) (f : DrvCh → DrvCh) (d : Dev) (h : i ∉ drvMembers d c) :
    drvCh (updDrv c f d) i = drvCh d i :=
  (forL_changes f _ (fun i d => ⟨_, _, drvCh_putDrv_same i _ d⟩) (fun i j d => drvCh_putDrv_other i j _ d) _ d
    (drvMembers_nodup d c)).2 i h

theorem drvCh_drvGo_other (c i : Nat) (f : DrvCh → DrvCh) (d : Dev) (h : i ∉ drvMembers d c) :
    drvCh (drvGo c f d) i = drvCh d i :=
  (forL_changes f _ (fun i d => (drvGo_step f i d).1) (fun i j d => (drvGo_step f i d).2 j) _ d (drvMembers_nodup d c)).2 i h

theorem forL_cons {α : Type} (f : α → Dev → Dev) (x : α) (xs : List α) (d : Dev) :
    forL (x :: xs) f d = forL xs f (f x d) := rfl

/-- Two folds agree when their steps agree on every device that still holds the record of the step's channel. -/
theorem forL_eq_of_records (f g : Nat → Dev → Dev) (l : List Nat) (d : Dev) (nodup : l.Nodup)
    (agree : ∀ i ∈ l, ∀ e, drvCh e i = drvCh d i → f i e = g i e)
    (other : ∀ i j e, j ≠ i → drvCh (g i e) j = drvCh e j) : forL l f d = forL l g d := by
  induction l generalizing d with
  | nil => rfl
  | cons x xs ih =>
    obtain ⟨hx, hxs⟩ := List.nodup_cons.1 nodup
    have hrest : forL xs f (g x d) = forL xs g (g x d) := by
      refine ih (g x d) hxs (fun i hi e he => agree i (List.mem_cons_of_mem x hi) e (he.trans ?_))
      exact other x i d (fun hix => hx (hix ▸ hi))
    calc forL (x :: xs) f d = forL xs f (f x d) := forL_cons f x xs d
      _ = forL xs f (g x d) := by rw [agree x List.mem_cons_self d rfl]
      _ = forL (x :: xs) g d := hrest

/-- A change that neither starts nor stops the switching of a channel drives no ball (R322). -/
theorem drvGo_eq_updDrv (c : Nat) (f g : DrvCh → DrvCh) (d : Dev) (hfg : ∀ i ∈ drvMembers d c, f (drvCh d i) = g (drvCh d i))
    (hsw : ∀ i ∈ drvMembers d c, stateSwitches (drvCh d i) = stateSwitches (f (drvCh d i))) :
    drvGo c f d = updDrv c g d := by
  refine forL_eq_of_records _ _ _ d (drvMembers_nodup d c) (fun i hi e he => ?_)
    (fun i j e => drvCh_putDrv_other i j _ e)
  dsimp only
  rw [he, if_pos (hsw i hi), hfg i hi]

/-! ### What a latch does (R318, R319) -/

/-- What a latch makes of a channel's record at a time. -/
def latchedAs (code now : Nat) (x : DrvCh) : DrvCh :=
  { x with state := 6, fault := code, latchedAt := now + 1, step := 0, ramp := none, wantUp := false, retrying := false }

/-- The fault_seen flag of each channel of a list. -/
def faultsSeen (l : List Nat) (d : Dev) : Dev := forL l (fun i d => setFlag (drvA i + 0x10) 16 d) d

theorem latchMark_eq (c code : Nat) (d : Dev) : latchMark c code d
    = setFlag 0x170004 9 (faultsSeen (drvMembers d c) (drvGo c (latchedAs code (nowNs d)) d)) := by
  rw [← drvMembers_of_regs (drives_drvGo c (latchedAs code (nowNs d)) d).regs c]
  rfl

theorem faultsSeen_cons (x : Nat) (xs : List Nat) (d : Dev) :
    faultsSeen (x :: xs) d = faultsSeen xs (setFlag (drvA x + 0x10) 16 d) := forL_cons _ x xs d

theorem reports_faultsSeen (l : List Nat) (d : Dev) : Reports d (faultsSeen l d) :=
  forL_induct Reports Reports.refl Reports.trans _ (fun i d => reports_setFlag (drvA i + 0x10) 16 d) l d

theorem bitAt_setFlag_of_set (a i b j : Nat) (d : Dev) (hi : i < 32) (h : bitAt d b j = true) :
    bitAt (setFlag a i d) b j = true := by
  rw [bitAt_setFlag a i b j d hi, h, Bool.or_true]

theorem bitAt_setFlag_same (a i : Nat) (d : Dev) (hi : i < 32) : bitAt (setFlag a i d) a i = true := by
  simp [bitAt_setFlag a i a i d hi]

theorem bitAt_faultsSeen_of_set (l : List Nat) (b j : Nat) (d : Dev) (h : bitAt d b j = true) :
    bitAt (faultsSeen l d) b j = true :=
  forL_induct (fun d e => bitAt d b j = true → bitAt e b j = true) (fun _ h => h) (fun h k x => k (h x)) _
    (fun i d => bitAt_setFlag_of_set (drvA i + 0x10) 16 b j d (by decide)) l d h

theorem bitAt_faultsSeen (l : List Nat) (i : Nat) (d : Dev) (hi : i ∈ l) :
    bitAt (faultsSeen l d) (drvA i + 0x10) 16 = true := by
  induction l generalizing d with
  | nil => exact absurd hi List.not_mem_nil
  | cons x xs ih =>
    rw [faultsSeen_cons]
    rcases List.mem_cons.1 hi with rfl | hxs
    · exact bitAt_faultsSeen_of_set xs _ _ _ (bitAt_setFlag_same _ 16 d (by decide))
    · exact ih _ hxs

/-- The flags of channels are above the registers of the block. -/
theorem rdN_faultsSeen (l : List Nat) (a : Nat) (d : Dev) (ha : a < 0x171000) : rdN (faultsSeen l d) a = rdN d a :=
  forL_induct (fun d e => rdN e a = rdN d a) (fun _ => rfl) (fun h k => k.trans h) _
    (fun i d => rdN_setFld_other _ a 16 16 1 d (by rw [drvA]; omega)) l d

theorem Reports.plan {d e : Dev} (h : Reports d e) : e.plan = d.plan := by rw [h]
theorem Drives.plan {d e : Dev} (h : Drives d e) : e.plan = d.plan := by rw [h]

/-- A channel and its bridge partner show a latch with a cause in record and status. -/
def ShowsLatch (ms : List Nat) (code : Nat) (e : Dev) : Prop :=
  ∀ i ∈ ms, (drvCh e i).state = 6 ∧ (drvCh e i).fault = code ∧ (drvCh e i).ramp = none ∧ bitAt e (drvA i + 0x10) 16 = true

theorem latchMark_drives_reports (c code : Nat) (d : Dev) :
    ∃ g, Drives d g ∧ Reports g (latchMark c code d) := by
  rw [latchMark_eq]
  exact ⟨_, drives_drvGo c _ d, (reports_faultsSeen _ _).trans (reports_setFlag _ _ _)⟩

theorem latchMark_plan (c code : Nat) (d : Dev) : (latchMark c code d).plan = d.plan := by
  obtain ⟨g, hg, hr⟩ := latchMark_drives_reports c code d
  rw [hr.plan, hg.plan]

theorem latchMark_sys (c code : Nat) (d : Dev) : (latchMark c code d).sys = d.sys := by
  obtain ⟨g, hg, hr⟩ := latchMark_drives_reports c code d
  rw [hr.sys, hg.sys]

theorem drvCh_latchMark (c code i : Nat) (d : Dev) :
    drvCh (latchMark c code d) i = drvCh (drvGo c (latchedAs code (nowNs d)) d) i := by
  rw [latchMark_eq]
  exact drvCh_of_reports ((reports_faultsSeen _ _).trans (reports_setFlag _ _ _)) i

theorem latchMark_shows (c code : Nat) (d : Dev) : ShowsLatch (drvMembers d c) code (latchMark c code d) := by
  intro i hi
  obtain ⟨l, u, hx⟩ := drvCh_drvGo c i (latchedAs code (nowNs d)) d hi
  rw [drvCh_latchMark, hx]
  refine ⟨rfl, rfl, rfl, ?_⟩
  rw [latchMark_eq]
  exact bitAt_setFlag_of_set _ 9 _ _ _ (by decide) (bitAt_faultsSeen _ i _ hi)

theorem drvCh_latchMark_other (c code i : Nat) (d : Dev) (h : i ∉ drvMembers d c) :
    drvCh (latchMark c code d) i = drvCh d i :=
  (drvCh_latchMark c code i d).trans (drvCh_drvGo_other c i _ d h)

theorem bitAt_latchMark_latched (c code : Nat) (d : Dev) : bitAt (latchMark c code d) 0x170004 9 = true := by
  rw [latchMark_eq]
  exact bitAt_setFlag_same _ 9 _ (by decide)

theorem rdN_latchMark (c code a : Nat) (d : Dev) (ha : a < 0x171000) (hs : a ≠ 0x170004) :
    rdN (latchMark c code d) a = rdN d a := by
  rw [latchMark_eq, setFlag, rdN_setFld_other _ a 9 9 1 _ hs, rdN_faultsSeen _ a _ ha]
  exact rdN_of_regs (drives_drvGo c _ d).regs a

/-! ### A cause in play (R318 to R320) -/

theorem drvReport_no_plan (c cause : Nat) (available : Bool) (d : Dev) (h : d.plan.active = none) :
    drvReport c cause available d = d := by
  rw [drvReport, drvOutputs, h]
  rfl

theorem drvLead_drvLead (d : Dev) (c : Nat) : drvLead d (drvLead d c) = drvLead d c := by
  by_cases h : drvTopo d c = 2 ∧ c % 2 = 1
  · have hl : drvLead d c = c - 1 := if_pos h
    rw [hl]
    exact if_neg (fun hodd => by omega)
  · have hl : drvLead d c = c := if_neg h
    rw [hl, hl]

theorem rdN_incCnt_same (a : Nat) (d : Dev) : rdN (incCnt a d) a = satInc (rdN d a) 1 := by
  rw [incCnt, addCnt, rdN_wrN_same, Nat.mod_eq_of_lt (satInc_lt _ _)]

theorem bitAt_incCnt_other (a b i : Nat) (d : Dev) (h : b ≠ a) : bitAt (incCnt a d) b i = bitAt d b i := by
  rw [bitAt, bitAt, incCnt, addCnt, rdN_wrN_other a b _ d h]

/-- The count and the event of a latch (R319). -/
def latchTold (l code : Nat) (d : Dev) : Dev :=
  raiseEvent evDrvFault (leBytes 1 l ++ leBytes 1 code) (incCnt 0x170014 d)

theorem reports_latchTold (l code : Nat) (d : Dev) : Reports d (latchTold l code d) :=
  (reports_setReg _ _ d).trans (reports_of_sends (sends_raiseEvent _ _ _))

theorem rdN_latchTold (l code : Nat) (d : Dev) : rdN (latchTold l code d) 0x170014 = satInc (rdN d 0x170014) 1 := by
  rw [latchTold, rdN_raiseEvent _ _ _ _ (by omega), rdN_incCnt_same]

theorem bitAt_latchTold (l code b i : Nat) (d : Dev) (hb : 0x40000 ≤ b) (h : b ≠ 0x170014) :
    bitAt (latchTold l code d) b i = bitAt d b i := by
  rw [latchTold, bitAt_raiseEvent _ _ _ _ _ (Or.inr hb), bitAt_incCnt_other _ _ _ _ h]

/-- The feed of a channel that latches fades over n samples (R319). -/
def feedFades (c n : Nat) (d : Dev) : Dev := updDrv c (fun y => { y with feedLeft := n }) d

/-- A cause on a channel that ramps, idles or plays latches it, and the latch is told (R319). -/
theorem drvLatch_in_play (c code : Nat) (d : Dev) (hlo : 2 ≤ (drvCh d (drvLead d c)).state)
    (hhi : (drvCh d (drvLead d c)).state ≤ 5) : drvLatch c code d = drvReport (drvLead d c) 1 false
      (latchTold (drvLead d c) code (latchMark (drvLead d c) code
        (feedFades (drvLead d c) (if (drvCh d (drvLead d c)).state = 4 then rampLen d else 0) d))) := by
  have hfree : ¬ ((drvCh d (drvLead d c)).state = 6 ∨ (drvCh d (drvLead d c)).state = 7) := by omega
  have hrun : decide ((drvCh d (drvLead d c)).state = 1) = false := decide_eq_false (by omega)
  simp only [drvLatch, if_neg hfree, hrun, Bool.false_eq_true, if_false]
  rfl

/-- With no plan, a cause in play shows on the channel and its bridge partner, is counted, and leaves the other channels and
the transitions alone. -/
theorem drvLatch_shows (c code : Nat) (d : Dev) (hplan : d.plan.active = none) (hlo : 2 ≤ (drvCh d (drvLead d c)).state)
    (hhi : (drvCh d (drvLead d c)).state ≤ 5) :
    let ms := drvMembers d (drvLead d c)
    let e := drvLatch c code d
    ShowsLatch ms code e ∧ bitAt e 0x170004 9 = true ∧ rdN e 0x170014 = satInc (rdN d 0x170014) 1
      ∧ (∀ i, i ∉ ms → drvCh e i = drvCh d i) ∧ e.sys = d.sys := by
  intro ms e
  generalize hf : feedFades (drvLead d c) (if (drvCh d (drvLead d c)).state = 4 then rampLen d else 0) d = f
  have hdrives : Drives d f := hf ▸ drives_updDrv _ _ d
  have hms : drvMembers f (drvLead d c) = ms := drvMembers_of_regs hdrives.regs _
  generalize hm : latchMark (drvLead d c) code f = m
  have htold := reports_latchTold (drvLead d c) code m
  have he : e = latchTold (drvLead d c) code m := by
    refine (drvLatch_in_play c code d hlo hhi).trans ?_
    rw [hf, hm]
    refine drvReport_no_plan _ _ _ _ ?_
    rw [htold.plan, ← hm, latchMark_plan, hdrives.plan, hplan]
  rw [he]
  subst hm
  refine ⟨fun i hi => ?_, ?_, ?_, fun i hi => ?_, ?_⟩
  · rw [drvCh_of_reports htold i, bitAt_latchTold _ _ _ _ _ (by rw [drvA]; omega) (by rw [drvA]; omega)]
    exact latchMark_shows _ code f i (hms ▸ hi)
  · rw [bitAt_latchTold _ _ _ _ _ (by decide) (by decide), bitAt_latchMark_latched]
  · rw [rdN_latchTold, rdN_latchMark _ _ _ _ (by decide) (by decide), rdN_of_regs hdrives.regs]
  · rw [drvCh_of_reports htold i, drvCh_latchMark_other _ _ i f (hms ▸ hi), ← hf]
    exact drvCh_updDrv_other _ i _ d hi
  · rw [htold.sys, latchMark_sys, hdrives.sys]

/-- The limit's 64 cycles in steps 2 and 3 of a run end it with the step's code (R314). -/
theorem overcurrent_in_test (c : Nat) (d : Dev) (h : (drvCh d c).state = 1 ∧ ((drvCh d c).step = 2 ∨ (drvCh d c).step = 3)) :
    overcurrent c d = diagEnd (drvLead d c) (if (drvCh d c).step = 2 then 1 else 4) (diagZ (drvLead d c) none d) :=
  if_pos h

/-- Elsewhere they latch a channel that switches, or one that latched at the same instant (R318, R320). -/
theorem overcurrent_latches (c : Nat) (d : Dev)
    (h : ¬ ((drvCh d c).state = 1 ∧ ((drvCh d c).step = 2 ∨ (drvCh d c).step = 3)))
    (hon : drvSwitches d c = true ∨ latchedNow d c = true) : overcurrent c d = drvLatch c 5 d :=
  (if_neg h).trans (if_pos (Bool.or_eq_true_iff.2 hon))

/-! ### Rails and the limit (R313, R317) -/

theorem railUv_low (r : Nat) (d : Dev) (hthr : fld d (railA r + 4) 15 0 ≠ 0) (hon : bitAt d (railA r) 7 = true)
    (hlow : (drvRail d r).volts < fld d (railA r + 4) 15 0) :
    railUv r d = forL ((railChans d r).filter (fun c => decide ((drvCh d c).state = 4) || latchedNow d c))
      (fun c d => drvLatch c 6 d) (putRail r { drvRail d r with blocked := true } d) := by
  refine if_neg ?_
  rintro (h | h | h)
  · exact hthr h
  · rw [hon] at h
    exact Bool.noConfusion h
  · omega

theorem limitCrossing_acts (c mv : Nat) (d : Dev) (hsw : drvSwitches d c = true)
    (hover : fld d (drvA c + 8) 11 0 ≤ (if (drvCh d c).state = 1 then 4 * mv else mv)) :
    limitCrossing c mv d = incCnt (drvA c + 0x1C) (emit (.turn c (deadNs d c)) d) :=
  if_pos (Bool.and_eq_true_iff.2 ⟨hsw, decide_eq_true hover⟩)

/-! ### Retries (R321) -/

theorem retryExpiry_due (c : Nat) (d : Dev) (hs : (drvCh d (drvLead d c)).state = 6) (hauto : bitAt d 0x170000 2 = true)
    (hleft : (drvCh d (drvLead d c)).retries < fld d 0x17000C 11 8) (hb : d.sys.mode ≠ .boot) (ht : d.sys.mode ≠ .stop) :
    retryExpiry c d = if railHolds d (drvLead d c) then drvGo (drvLead d c) (fun y => { y with state := 7 }) d
      else diagStart .retry (drvLead d c) d :=
  if_neg (by simp [hs, hauto, hleft, hb, ht])

/-- What the start of a diagnostics run makes of a channel's record. -/
def testedAs (why : DiagFor) (x : DrvCh) : DrvCh :=
  { x with was := x.state, state := 1, step := 1, why := why, ran := false, ramp := none }

/-- What a retry that is due makes of a latched channel's record: it waits for its rail, or starts its diagnostics. -/
def retriedAs (holds : Bool) (x : DrvCh) : DrvCh :=
  if holds then { x with state := 7 }
  else { x with state := 1, step := 1, why := .retry, was := 6, ran := false, ramp := none }

theorem retriedAs_gates (holds : Bool) (x : DrvCh) : stateSwitches (retriedAs holds x) = false := by
  cases holds with
  | true => rfl
  | false => rfl

/-- A latched channel that waits or starts its diagnostics still keeps its gates low (R314, R322). -/
theorem retry_updates (c : Nat) (d : Dev) (hms : ∀ i ∈ drvMembers d c, (drvCh d i).state = 6) :
    (if railHolds d c then drvGo c (fun y => { y with state := 7 }) d else diagStart .retry c d)
      = updDrv c (retriedAs (railHolds d c)) d := by
  have hlow : ∀ i ∈ drvMembers d c, stateSwitches (drvCh d i) = false := fun i hi => by simp [stateSwitches, hms i hi]
  cases railHolds d c with
  | true =>
    exact drvGo_eq_updDrv c (retriedAs true) _ d (fun _ _ => rfl) (fun i hi => (hlow i hi).trans (retriedAs_gates _ _).symm)
  | false =>
    have hstart : ∀ i ∈ drvMembers d c, testedAs .retry (drvCh d i) = retriedAs false (drvCh d i) :=
      fun i hi => by simp [testedAs, retriedAs, hms i hi]
    refine drvGo_eq_updDrv c (testedAs .retry) _ d hstart (fun i hi => ?_)
    rw [hlow i hi, hstart i hi, retriedAs_gates]

theorem forL_eq_self {α : Type} (f : α → Dev → Dev) (l : List α) (d : Dev) (h : ∀ x, f x d = d) : forL l f d = d := by
  induction l with
  | nil => rfl
  | cons x xs ih => exact (congrArg (forL xs f) (h x)).trans ih

/-- A rail that recovers while no channel waits for it is blocked no more. -/
theorem railRecovered_unawaited (r : Nat) (d : Dev) (hb : (drvRail d r).blocked = true)
    (hv : fld d (railA r + 4) 15 0 = 0 ∨ fld d (railA r + 4) 15 0 < (drvRail d r).volts)
    (hnone : ∀ c, (drvCh d c).state ≠ 7) :
    railRecovered r d = putRail r { drvRail d r with blocked := false } d := by
  refine (if_neg ?_).trans (forL_eq_self _ _ _ (fun c => if_neg (hnone c)))
  rintro (h | ⟨h0, hle⟩)
  · rw [hb] at h
    exact Bool.noConfusion h
  · omega

/-- Settles O35: a cause in play is a latch that shows and is counted, and a retry that is due waits or starts. -/
theorem causesLatchAndRetriesFollow : Obligations.CausesLatchAndRetriesFollow := by
  unfold Obligations.CausesLatchAndRetriesFollow
  refine ⟨fun c s _ hsw hnot hplan hrun hlo hhi => ⟨_, rfl, ?_⟩, fun c s => ⟨fun h => ?_, fun h hon => ?_⟩,
    fun r s hthr hon hlow => ?_, fun r s => rfl, fun c mv s hsw hover => ?_,
    fun c s hs hms hauto hleft hb ht => ?_, fun r s hb hv hnone => ?_⟩
  · have hlatch := overcurrent_latches c s.dev (fun h => hnot h.1) (Or.inl hsw)
    obtain ⟨hshow, hseen, hcount, hother, hsys⟩ := drvLatch_shows c 5 s.dev hplan hlo hhi
    have hdev : transAdvance (overcurrent c s.dev) = drvLatch c 5 s.dev := by
      rw [hlatch]
      exact transAdvance_idle _ (by rw [hsys, hrun])
    simp only [hdev]
    exact ⟨hshow, hseen, hcount, hother⟩
  · exact congrArg (fun d => becomes s (transAdvance d)) (overcurrent_in_test c s.dev h)
  · exact congrArg (fun d => becomes s (transAdvance d)) (overcurrent_latches c s.dev h hon)
  · exact congrArg (fun d => becomes s (transAdvance d)) (railUv_low r s.dev hthr hon hlow)
  · exact congrArg (becomes s) (limitCrossing_acts c mv s.dev hsw hover)
  · exact congrArg (becomes s) ((retryExpiry_due c s.dev hs hauto hleft hb ht).trans (retry_updates _ s.dev hms))
  · exact congrArg (becomes s) (railRecovered_unawaited r s.dev hb hv hnone)

end Sys2Proof.Proofs
end

section
/-!
A step of the load diagnostics that passes while an entry into SURVEY waits (10_direct_drive.md, R314, R315; log 66).
-/

namespace Sys2Proof.Proofs

open Machine Safety Laws

/-- An entry into SURVEY in its pre-roll: channel 0 is in step 2 of a run that DRV_DIAG started, and channel 1, enabled on a
settled rail, is off and has passed its own run, so that no run of the pre-roll is left. -/
def surveyEntry : Dev := { State.reset.dev with
  regs := [(0x170000, 1), (drvA 1, 1)]
  sys := { State.reset.dev.sys with mode := .config, running := some ⟨.survey, 0, 2, none, .preroll⟩ }
  drv := { chans := [(0, { state := 1, step := 2 }), (1, { ran := true })], rails := [(0, { settled := true })] } }

/-- The step that ends on channel 0 lets the transition go on, and channel 1 starts to switch. -/
theorem out_stepEnd_surveyEntry :
    (transAdvance (diagStepEnd 0 200 false none surveyEntry)).out = [.ball "DRV" 1 1] := by decide +kernel

/-- Refutes O36: its first clause says that the end of step 2 sends nothing, and does not leave out an entry into SURVEY, as
its second and third do. In `surveyEntry` the end of step 2 on channel 0 also starts the up-ramp of channel 1, whose gates are
driven. -/
theorem not_diagnosticsStaggerAndSetup : ¬ Obligations.DiagnosticsStaggerAndSetup := by
  unfold Obligations.DiagnosticsStaggerAndSetup
  rintro ⟨hpass, -⟩
  have hphase : ∀ t, surveyEntry.sys.running = some t → t.phase ≠ .cmRampUp := by decide +kernel
  have hlead : (drvCh surveyEntry (drvLead surveyEntry 0)).state = 1 ∧ (drvCh surveyEntry (drvLead surveyEntry 0)).step = 2 := by
    decide +kernel
  have hmembers : ∀ i ∈ drvMembers surveyEntry (drvLead surveyEntry 0),
      (drvCh surveyEntry i).state = 1 ∧ (drvCh surveyEntry i).step = 2 := by decide +kernel
  obtain ⟨u, hu, -, hout⟩ := hpass 0 200 2 ⟨surveyEntry, []⟩ hphase hlead.1 hlead.2 hmembers (Or.inr ⟨rfl, Nat.le_refl 200⟩)
  have hdev : u.dev = transAdvance (diagStepEnd 0 200 false none surveyEntry) := by
    rw [← Host.Outcome.next.inj hu]
  rw [hdev, out_stepEnd_surveyEntry] at hout
  exact absurd hout (by decide)

end Sys2Proof.Proofs
end
